-- ==== Sys2Proof/Word.lean ====
section
/-! DEFINITION. The byte, the unit of every frame and stored record (11_frame_and_record_formats.md). -/

namespace Sys2Proof

/-- One byte of a frame or of a stored record. -/
abbrev Byte := BitVec 8

end Sys2Proof
end

