-- ==== Sys2Proof/Syntax.lean ====
section
/-! DEFINITION. The commands of the CT-740: one constructor of `Instr` per row of
spec/opcode_table.json. -/

namespace Sys2Proof

/-- The two receiving coils (01 section 1.1). -/
inductive Coil | left | right
  deriving DecidableEq, Repr

/-- The level of a sense pin (03 Table 3-1). -/
inductive Level | high | low
  deriving DecidableEq, Repr

/-- The N-link rates the two rate straps select, in Mbit/s (00 Table 0-4). -/
inductive NRate | mbit1 | mbit2 | mbit4 | mbit8
  deriving DecidableEq, Repr

/-- The D-link rates the rate strap selects, in Mbit/s (00 Table 0-4). -/
inductive DRate | mbit1 | mbit2
  deriving DecidableEq, Repr

/-- A sense pin, SP0 to SP7. -/
abbrev Pin := Fin 8
/-- A D-link address 1..6, held as the address minus one. -/
abbrev Node := Fin 6
/-- A zone slot, 0..3. -/
abbrev Slot := Fin 4

/-- The commands: the operations and events of spec/opcode_table.json.
Every command carries `dt`, the microseconds that have passed since the command before it (log entry
1). A management or pass-through request has no further operand: it is the request at the head of
the management queue (R159; log entry 5). -/
inductive Instr
  | burstArrival (dt : Nat) (coil seq : Byte) (samples : List (BitVec 16))
  | correlationEnd (dt : Nat)
  | silenceExpiry (dt : Nat) (coil : Coil)
  | outsideTimerExpiry (dt : Nat)
  | pinEdge (dt : Nat) (pin : Pin) (level : Level)
  | debounceExpiry (dt : Nat) (pin : Pin)
  | edgeWindowExpiry (dt : Nat) (pin : Pin)
  | dutyTimeoutExpiry (dt : Nat) (pin : Pin)
  | tiltTimerExpiry (dt : Nat)
  | settleEnd (dt : Nat)
  | nLinkFrame (dt : Nat) (bytes : List Byte)
  | frameTruncation (dt : Nat) (bytes : List Byte)
  | ageTimerExpiry (dt : Nat)
  | pollDue (dt : Nat) (node : Node)
  | dLinkFrame (dt : Nat) (bytes : List Byte)
  | responseTimeout (dt : Nat)
  | slipTimerExpiry (dt : Nat) (node : Node)
  | stallTimerExpiry (dt : Nat) (node : Node)
  | jamTimerExpiry (dt : Nat) (node : Node)
  | stepTimerExpiry (dt : Nat)
  | batteryTimerExpiry (dt : Nat)
  | rainTimerExpiry (dt : Nat)
  | approachTimerExpiry (dt : Nat)
  | relayTimerExpiry (dt : Nat)
  | motionTimerExpiry (dt : Nat)
  | swapTake (dt : Nat)
  | swapTimerExpiry (dt : Nat)
  | readStatus (dt : Nat)
  | readVerdict (dt : Nat)
  | readCounters (dt : Nat)
  | ackEvents (dt : Nat)
  | setReportMask (dt : Nat)
  | writeTable (dt : Nat)
  | readTable (dt : Nat)
  | swapTables (dt : Nat)
  | returnHome (dt : Nat)
  | cancelReturn (dt : Nat)
  | undock (dt : Nat)
  | cancelResponse (dt : Nat)
  | clearHazard (dt : Nat)
  | senseRead (dt : Nat)
  | startTest (dt : Nat)
  | testResult (dt : Nat)
  | channelReset (dt : Nat)
  | fullReset (dt : Nat)
  | unknownRequest (dt : Nat)
  | passWrite (dt : Nat)
  | passRead (dt : Nat)
  | fullResetEffect (dt : Nat) (nRate : NRate) (dRate : DRate)
  | upstreamFrameSent (dt : Nat)
  | telemetryTimerExpiry (dt : Nat)
  | nLinkEchoBegin (dt : Nat)
  | nLinkEchoEnd (dt : Nat)
  | dLinkEchoTakeLink (dt : Nat)
  | patternBurstPlace (dt : Nat)
  | resetNAssert (dt : Nat)
  | resetNDeassert (dt : Nat) (nRate : NRate) (dRate : DRate)
  | lengthOverrun (dt : Nat) (bytes : List Byte)
  deriving DecidableEq, Repr

end Sys2Proof
end

