-- ==== Sys2Proof/Decode.lean ====
section
/-! DEFINITION. The command a word of the table's bits spells. No row of spec/opcode_table.json
gives bits (its `fields` are empty and it has no `fixed`), so no word spells a command. -/

namespace Sys2Proof

/-- The command that `nbits` bits `w` spell by the table: none, for no row gives bits. -/
def decodeTableWord (_nbits _w : Nat) : Option Instr := none

end Sys2Proof
end

