-- ==== Sys2Proof/Config.lean ====
section
/-! DEFINITION. The free values: what the spec leaves open and the machine still produces.
Each is a constant with no body, so no proof can rest on what it is. -/

namespace Sys2Proof.Config

/-- The outcome of the n-th free choice between two orders of hand-offs that the spec leaves open
inside one step (05 section 5.6.1, 06 R114; log entry 8). -/
opaque interleave : Nat → Bool

/-- The remaining-repeats value of the built-in hazard context, which has no repeat block (06 R108,
R113; log entry 20). -/
opaque hazardRepeats : BitVec 8

/-- The duty in permille of a period that lasts no measurable time, given the high time in it (03
R50; log entry 21). -/
opaque zeroPeriodDuty : Nat → Nat

end Sys2Proof.Config
end

