-- ==== Sys2Proof/Machine/Cells.lean ====
section
/-! DEFINITION. The fixed collections of the part (two coils, four slots, six node addresses, eight
pins, six tables) as structures with one field per member, and reading and writing one member. -/

namespace Sys2Proof.Machine

/-- One value for each coil. -/
structure PerCoil (α : Type) where
  left : α
  right : α
  deriving DecidableEq, Repr

/-- One value for each zone slot. -/
structure PerSlot (α : Type) where
  s0 : α
  s1 : α
  s2 : α
  s3 : α
  deriving DecidableEq, Repr

/-- One value for each D-link address 1..6, and for each of the six tables. -/
structure PerSix (α : Type) where
  a1 : α
  a2 : α
  a3 : α
  a4 : α
  a5 : α
  a6 : α
  deriving DecidableEq, Repr

/-- One value for each sense pin. -/
structure PerPin (α : Type) where
  p0 : α
  p1 : α
  p2 : α
  p3 : α
  p4 : α
  p5 : α
  p6 : α
  p7 : α
  deriving DecidableEq, Repr

def PerCoil.get {α : Type} (p : PerCoil α) : Coil → α
  | .left => p.left
  | .right => p.right

def PerCoil.set {α : Type} (p : PerCoil α) (c : Coil) (v : α) : PerCoil α :=
  match c with
  | .left => { p with left := v }
  | .right => { p with right := v }

def PerCoil.all {α : Type} (v : α) : PerCoil α := ⟨v, v⟩

def PerCoil.map {α β : Type} (f : α → β) (p : PerCoil α) : PerCoil β := ⟨f p.left, f p.right⟩

def PerCoil.toList {α : Type} (p : PerCoil α) : List α := [p.left, p.right]

def PerSlot.get {α : Type} (p : PerSlot α) : Slot → α
  | 0 => p.s0
  | 1 => p.s1
  | 2 => p.s2
  | 3 => p.s3

def PerSlot.set {α : Type} (p : PerSlot α) (i : Slot) (v : α) : PerSlot α :=
  match i with
  | 0 => { p with s0 := v }
  | 1 => { p with s1 := v }
  | 2 => { p with s2 := v }
  | 3 => { p with s3 := v }

def PerSlot.all {α : Type} (v : α) : PerSlot α := ⟨v, v, v, v⟩

def PerSlot.map {α β : Type} (f : α → β) (p : PerSlot α) : PerSlot β :=
  ⟨f p.s0, f p.s1, f p.s2, f p.s3⟩

/-- The collection whose member i is `f i`. -/
def PerSlot.of {α : Type} (f : Slot → α) : PerSlot α := ⟨f 0, f 1, f 2, f 3⟩

def PerSlot.toList {α : Type} (p : PerSlot α) : List α := [p.s0, p.s1, p.s2, p.s3]

def PerSix.get {α : Type} (p : PerSix α) : Fin 6 → α
  | 0 => p.a1
  | 1 => p.a2
  | 2 => p.a3
  | 3 => p.a4
  | 4 => p.a5
  | 5 => p.a6

def PerSix.set {α : Type} (p : PerSix α) (i : Fin 6) (v : α) : PerSix α :=
  match i with
  | 0 => { p with a1 := v }
  | 1 => { p with a2 := v }
  | 2 => { p with a3 := v }
  | 3 => { p with a4 := v }
  | 4 => { p with a5 := v }
  | 5 => { p with a6 := v }

def PerSix.all {α : Type} (v : α) : PerSix α := ⟨v, v, v, v, v, v⟩

def PerSix.map {α β : Type} (f : α → β) (p : PerSix α) : PerSix β :=
  ⟨f p.a1, f p.a2, f p.a3, f p.a4, f p.a5, f p.a6⟩

/-- The collection whose member i is `f i`. -/
def PerSix.of {α : Type} (f : Fin 6 → α) : PerSix α := ⟨f 0, f 1, f 2, f 3, f 4, f 5⟩

def PerSix.toList {α : Type} (p : PerSix α) : List α := [p.a1, p.a2, p.a3, p.a4, p.a5, p.a6]

def PerPin.get {α : Type} (p : PerPin α) : Pin → α
  | 0 => p.p0
  | 1 => p.p1
  | 2 => p.p2
  | 3 => p.p3
  | 4 => p.p4
  | 5 => p.p5
  | 6 => p.p6
  | 7 => p.p7

def PerPin.set {α : Type} (p : PerPin α) (i : Pin) (v : α) : PerPin α :=
  match i with
  | 0 => { p with p0 := v }
  | 1 => { p with p1 := v }
  | 2 => { p with p2 := v }
  | 3 => { p with p3 := v }
  | 4 => { p with p4 := v }
  | 5 => { p with p5 := v }
  | 6 => { p with p6 := v }
  | 7 => { p with p7 := v }

def PerPin.all {α : Type} (v : α) : PerPin α := ⟨v, v, v, v, v, v, v, v⟩

def PerPin.map {α β : Type} (f : α → β) (p : PerPin α) : PerPin β :=
  ⟨f p.p0, f p.p1, f p.p2, f p.p3, f p.p4, f p.p5, f p.p6, f p.p7⟩

/-- The collection whose member i is `f i`. -/
def PerPin.of {α : Type} (f : Pin → α) : PerPin α := ⟨f 0, f 1, f 2, f 3, f 4, f 5, f 6, f 7⟩

def PerPin.toList {α : Type} (p : PerPin α) : List α :=
  [p.p0, p.p1, p.p2, p.p3, p.p4, p.p5, p.p6, p.p7]

/-- The four slots in ascending order. -/
def slots : List Slot := [0, 1, 2, 3]
/-- The six addresses in ascending order. -/
def nodes : List Node := [0, 1, 2, 3, 4, 5]
/-- The eight pins in ascending order. -/
def pins : List Pin := [0, 1, 2, 3, 4, 5, 6, 7]
/-- The two coils, LEFT first. -/
def coils : List Coil := [.left, .right]

end Sys2Proof.Machine
end

