-- ==== Sys2Proof/Machine/Bits.lean ====
section
/-! DEFINITION. Bit fields, byte order, sign, clamping, saturation and the CRC of the links. -/

namespace Sys2Proof.Machine

/-! ### Counts and ranges -/

/-- A counter one step on: sixteen bits, saturating at 65535 (00 section 0.6). -/
def bump (n : Nat) : Nat := min (n + 1) 65535

/-- A counter `k` steps on, saturating. -/
def bumpBy (k n : Nat) : Nat := min (n + k) 65535

/-- A value brought to the nearest bound of its range (00 section 0.6). -/
def clampN (lo hi n : Nat) : Nat := max lo (min n hi)

/-- A signed value brought to the nearest bound of its range. -/
def clampI (lo hi z : Int) : Int := max lo (min z hi)

/-- Milliseconds in microseconds. -/
def ms (n : Nat) : Nat := n * 1000

/-- Microseconds in whole milliseconds (log entry 1). -/
def toMs (us : Nat) : Nat := us / 1000

/-- The elapsed time of a timer after `dt`: it stands at its limit once it has reached it (log entry
3), and a time already past the limit is kept. -/
def elapse (limit dt e : Nat) : Nat := max e (min (e + dt) limit)

/-! ### Bytes and fields -/

/-- The low byte of a number. -/
def u8 (n : Nat) : Byte := BitVec.ofNat 8 n

/-- A two-state field of an answer: 1 for yes (11 section 11.1). -/
def flagByte (b : Bool) : Byte := if b then 1#8 else 0#8

/-- Two bytes, most significant first (11, conventions). -/
def be16 (n : Nat) : List Byte := [u8 (n / 256), u8 n]

/-- Four bytes, most significant first. -/
def be32 (n : Nat) : List Byte := [u8 (n / 16777216), u8 (n / 65536), u8 (n / 256), u8 n]

/-- Two bytes of a signed number, two's complement. -/
def be16i (z : Int) : List Byte := be16 (z % 65536).toNat

/-- A two-byte field read, most significant byte first. -/
def rd16 (hi lo : Byte) : Nat := hi.toNat * 256 + lo.toNat

/-- A sixteen-bit field read as two's complement. -/
def sgn16 (n : Nat) : Int := if n < 32768 then (n : Int) else (n : Int) - 65536

/-- The sample a two-byte field holds: its lower twelve bits, signed (11 section 11.2). -/
def sample12 (w : BitVec 16) : Int :=
  let n := w.toNat % 4096
  if n < 2048 then (n : Int) else (n : Int) - 4096

/-- `width` bits of `n` from bit `lo`. -/
def bitsAt (lo width n : Nat) : Nat := n / 2 ^ lo % 2 ^ width

/-- `n` with its `width` bits from bit `lo` replaced by `v`. -/
def putBits (lo width v n : Nat) : Nat :=
  n - bitsAt lo width n * 2 ^ lo + v % 2 ^ width * 2 ^ lo

/-- A set as a one-byte mask, its members numbered in order (11, conventions). -/
def maskByte (members : List Bool) : Byte :=
  u8 (members.foldr (fun b n => 2 * n + if b then 1 else 0) 0)

/-! ### The CRC of the N-link and the D-link (R156) -/

/-- One bit of the CRC with polynomial x^16 + x^12 + x^5 + 1. -/
def crcBit (c : BitVec 16) : BitVec 16 :=
  if c.msb then (c <<< 1) ^^^ 0x1021#16 else c <<< 1

/-- One byte of the CRC, most significant bit first. -/
def crcByte (c : BitVec 16) (b : Byte) : BitVec 16 :=
  crcBit (crcBit (crcBit (crcBit (crcBit (crcBit (crcBit (crcBit
    (c ^^^ (b.setWidth 16 <<< 8)))))))))

/-- The CRC-16 of R156: it starts from all ones and has no final inversion. -/
def crc16 (bytes : List Byte) : BitVec 16 := bytes.foldl crcByte 0xFFFF#16

/-- The CRC as the two bytes sent, most significant first. -/
def crcBytes (bytes : List Byte) : List Byte := be16 (crc16 bytes).toNat

end Sys2Proof.Machine
end

