-- ==== Sys2Proof/Machine/State.lean ====
section
/-! DEFINITION. The state of the CT-740 as plain data, block by block (00 Table 0-1), the reasons a
step can stop, and the state right after reset. Times are kept in microseconds (log entry 1). -/

namespace Sys2Proof.Machine

/-! ### Timers -/

/-- The states of the part's timers; each timer takes those its own rule names. -/
inductive TimerState | stopped | running | paused | held | spent | expired
  deriving DecidableEq, Repr

/-- A timer with its elapsed time. -/
structure Timer where
  st : TimerState
  elapsed : Nat
  deriving DecidableEq, Repr

/-- A timer that keeps the limit it was last judged against (R96, R129, R143, R152, R163). -/
structure LimitTimer where
  st : TimerState
  elapsed : Nat
  limit : Nat
  deriving DecidableEq, Repr

/-- A stopped timer with no elapsed time. -/
def Timer.zero : Timer := ⟨.stopped, 0⟩
/-- A stopped timer with no elapsed time. -/
def LimitTimer.zero : LimitTimer := ⟨.stopped, 0, 0⟩

/-! ### Wire Decoder (01) -/

/-- The class of a lane, in the order of Table 2-2: PENDING, IN, OUT, NONE (R17). -/
inductive LaneClass | pending | inside | outside | noClass
  deriving DecidableEq, Repr

/-- The state of a loop, numbered as the TELEMETRY layout numbers it: DISABLED, PENDING, IN, OUT,
STRADDLE, LOST (R18). -/
inductive LoopState | disabled | pending | inside | outside | straddle | lost
  deriving DecidableEq, Repr

/-- Verdict kinds in the order of R14. -/
inductive VerdictKind | lockedIn | lockedOut | weakIn | weakOut | absent
  deriving DecidableEq, Repr

/-- A verdict record (R14); its age is the lane's bursts-since count (R16). -/
structure Verdict where
  kind : VerdictKind
  strength : Nat
  periods : Nat
  consecutive : Nat
  mismatches : Nat
  endSeq : Nat
  deriving DecidableEq, Repr

/-- An open decoding window (01 section 1.5). -/
structure Window where
  k : Nat
  acc : Int
  wsum : Nat
  passes : Nat
  mismatches : Nat
  deriving DecidableEq, Repr

/-- A decoding lane (01 section 1.5). -/
structure Lane where
  window : Option Window
  verdict : Option Verdict
  burstsSince : Nat
  verdictSince : Bool
  silentSince : Bool
  deriving DecidableEq, Repr

/-- A restarted lane (R23). -/
def Lane.fresh : Lane := ⟨none, none, 0, false, false⟩

/-- A burst in the sample ring or in correlation (R6). -/
structure RingEntry where
  coil : Coil
  seq : Nat
  samples : List Int
  gap : Option Nat
  deriving DecidableEq, Repr

/-- What the WDC keeps per coil: expectation, silence, silence timer and counters (R5, R8, R22). -/
structure CoilUnit where
  expect : Option Nat
  silent : Bool
  timer : Timer
  accepted : Nat
  duplicate : Nat
  missing : Nat
  overrun : Nat
  aborted : Nat
  silences : Nat
  testDropped : Nat
  deriving DecidableEq, Repr

/-- A coil after RESET_N: no expectation, not SILENT, its silence timer started (R23, R24). -/
def CoilUnit.fresh : CoilUnit := ⟨none, false, ⟨.running, 0⟩, 0, 0, 0, 0, 0, 0, 0⟩

structure Wdc where
  lanes : PerSlot (PerCoil Lane)
  coils : PerCoil CoilUnit
  malformed : Nat
  ring : List RingEntry
  inCorr : Option RingEntry
  deriving DecidableEq, Repr

/-! ### Zone Context Unit (02) -/

/-- Slot kinds in the order of Table 2-1. -/
inductive SlotKind | disabled | perimeter | keepout | guide | station
  deriving DecidableEq, Repr

/-- The ZCU's mirror of one lane (Table 2-2). -/
structure MirrorLane where
  cls : LaneClass
  strength : Nat
  deriving DecidableEq, Repr

structure ZcuCounters where
  zoneChanges : Nat
  passages : Nat
  exits : Nat
  exitsWithheld : Nat
  exitsByStation : Nat
  keepouts : Nat
  wireLost : Nat
  outside : Nat
  deriving DecidableEq, Repr

structure Zcu where
  mirror : PerSlot (PerCoil MirrorLane)
  loops : PerSlot LoopState
  active : Option Slot
  exitArm : Bool
  entryArm : PerSlot Bool
  wireLostArm : Bool
  outTimer : Timer
  prox : Nat
  station : Nat
  frozen : Bool
  cnt : ZcuCounters
  deriving DecidableEq, Repr

/-! ### Sense Pin Unit (03) -/

/-- Pin modes in the order of Table 3-1. -/
inductive PinMode | off | level | edgeCount | pulseWidth | duty
  deriving DecidableEq, Repr

/-- Pin roles in the order of Table 3-1. -/
inductive PinRole | general | bumpFront | bumpRear | lift | rain | tiltPitch | tiltRoll
  deriving DecidableEq, Repr

/-- A pin configuration; the parameter is 0 for a mode that has none (R45, R46). -/
structure PinCfg where
  mode : PinMode
  role : PinRole
  active : Level
  param : Nat
  deriving DecidableEq, Repr

/-- A published result: a debounced level, or a number of edges, microseconds or permille. -/
inductive PinResult
  | lvl (l : Level)
  | num (n : Nat)
  deriving DecidableEq, Repr

/-- A pin unit (03 section 3.2). `debTimer`, `pulse`, `period` and `high` are `none` while their
timer is stopped, or no start or time is noted. -/
structure PinUnit where
  cfg : PinCfg
  measuring : Bool
  deb : Option Level
  cand : Level
  debTimer : Option Nat
  count : Nat
  window : Nat
  pulse : Option Nat
  period : Option Nat
  high : Option Nat
  dutyTimer : Nat
  result : Option PinResult
  ready : Bool
  overrun : Bool
  fault : Bool
  sinceRestart : Bool
  results : Nat
  overruns : Nat
  faults : Nat
  deriving DecidableEq, Repr

/-- A pin configuration of the built-in defaults (R153). -/
def PinCfg.default : PinCfg := ⟨.off, .general, .high, 0⟩

/-- A unit with a configuration that has not begun to measure: no result, all flags clear, counters
kept as given (R46, R59). -/
def PinUnit.idle (c : PinCfg) (results overruns faults : Nat) : PinUnit :=
  ⟨c, false, none, .high, none, 0, 0, none, none, none, 0, none, false, false, false, false,
    results, overruns, faults⟩

/-- Axis states in the order of Table 3-3. -/
inductive AxisState | absent | pending | valid | fault
  deriving DecidableEq, Repr

/-- A tilt axis: its state and the angle used in tenths of a degree (Table 3-3). -/
structure Axis where
  st : AxisState
  angle : Int
  deriving DecidableEq, Repr

structure Spu where
  settle : Option Nat
  levels : PerPin Level
  units : PerPin PinUnit
  pitch : Axis
  roll : Axis
  tilt : Timer
  bumpsSuppressed : Nat
  deriving DecidableEq, Repr

/-! ### Motion Gate (04) -/

/-- Motion sources in the order of R61. -/
inductive Source | nav | dock | resp1 | resp2 | resp3
  deriving DecidableEq, Repr

/-- Motion modes, numbered as the MOTION layout numbers them: STOP 0, DRIVE 1. -/
inductive MotionMode | stop | drive
  deriving DecidableEq, Repr

/-- The latest NAV command (Table 4-1). -/
structure NavCmd where
  seq : Nat
  mode : MotionMode
  left : Int
  right : Int
  blade : Nat
  deriving DecidableEq, Repr

structure MgtCounters where
  accepted : Nat
  duplicate : Nat
  skipped : Nat
  clamped : Nat
  malformed : Nat
  stale : Nat
  sourceChanges : Nat
  posts : Nat
  deriving DecidableEq, Repr

/-- A side of the wheel pair. -/
inductive Side | left | right
  deriving DecidableEq, Repr

/-- The Motion Gate. `zone` and `prox` are the active zone and the proximity strength as the Zone Context
Unit handed them on (Table 4-1); band, percents, limits, the side that the scaling chose and the output
are those of the last evaluation (R70, R71). -/
structure Mgt where
  cmd : Option NavCmd
  age : Timer
  zone : Option Slot
  prox : Nat
  source : Source
  band : Nat
  ps : Nat
  pn : Nat
  fb : Nat
  rb : Nat
  feff : Nat
  reff : Nat
  chosen : Option Side
  outL : Int
  outR : Int
  outBlade : Int
  posted : PerSix Int
  cnt : MgtCounters
  deriving DecidableEq, Repr

/-! ### Drive Link Controller (05) -/

/-- Node kinds in the order of section 5.1. -/
inductive NodeKind | noNode | wheelLeft | wheelRight | blade | power
  deriving DecidableEq, Repr

/-- Node states in the order of R84. -/
inductive NodeState | unknown | responsive | unresponsive
  deriving DecidableEq, Repr

/-- What a queue entry posts: a wheel speed, a blade speed, a relay command (closed or open), or a
parameter write (parameter number and data). -/
inductive PostValue
  | wheel (v : Int)
  | blade (v : Int)
  | relay (close : Bool)
  | param (bytes : List Byte)
  deriving DecidableEq, Repr

/-- The origin of a queue entry. -/
inductive Origin | nav | dock | resp1 | resp2 | resp3 | pass
  deriving DecidableEq, Repr

/-- An entry of the drive post queue (05 section 5.3). -/
structure QEntry where
  node : Node
  val : PostValue
  origin : Origin
  inFlight : Bool
  resend : Bool
  deriving DecidableEq, Repr

/-- Node telemetry by kind (R84, R95). -/
inductive Telem
  | wheel (speed : Int) (current : Nat)
  | blade (speed current : Nat)
  | power (battery : Nat) (contact relayClosed : Bool) (charge button : Nat)
  deriving DecidableEq, Repr

/-- A node status record (R84). -/
structure NodeRec where
  st : NodeState
  lastAck : Option PostValue
  age : Nat
  telem : Option Telem
  slip : LimitTimer
  stall : LimitTimer
  jam : LimitTimer
  deriving DecidableEq, Repr

/-- What a transaction carries and serves: a queue entry, a poll, the pass-through read, or a test
frame (R85). -/
inductive Carried
  | post (v : PostValue)
  | poll
  | read (param : List Byte)
  | echo (bytes : List Byte)
  deriving DecidableEq, Repr

/-- The transaction in flight (R85): `frame` is the request frame as it was sent, and `renewed` says
that a swap changed the node's kind meanwhile (R103). -/
structure Transaction where
  node : Node
  nodeKind : NodeKind
  carried : Carried
  frame : List Byte
  second : Bool
  elapsed : Nat
  timeout : Nat
  renewed : Bool
  deriving DecidableEq, Repr

/-- The pass-through read the DLC holds (R101); `gone` says that a swap made its address NONE while it
was in flight (R103). -/
structure PassReadReq where
  node : Node
  param : List Byte
  inFlight : Bool
  gone : Bool
  deriving DecidableEq, Repr

structure DlcCounters where
  framesSent : Nat
  answers : Nat
  timeouts : Nat
  retries : Nat
  badAnswers : Nat
  nodesLost : Nat
  nodesRecovered : Nat
  removedOnLoss : Nat
  coalesce : Nat
  relaySuperseded : Nat
  discards : Nat
  polls : Nat
  slips : Nat
  stalls : Nat
  jams : Nat
  passWrites : Nat
  passReads : Nat
  passRefused : Nat
  deriving DecidableEq, Repr

/-- The Drive Link Controller (05). `behind` holds the set-points that the evaluation of a DRIVE channel
reset posted behind the reset's zeros: each joins the tail once its node's zero has left the queue (R77,
R91; log entry 45). -/
structure Dlc where
  recs : PerSix (Option NodeRec)
  queue : List QEntry
  behind : List QEntry
  relayHeld : Option (Node × Bool)
  flush : Nat
  tx : Option Transaction
  read : Option PassReadReq
  cnt : DlcCounters
  deriving DecidableEq, Repr

/-! ### Response Engine (06) -/

/-- Trigger kinds in the order of Table 6-1. -/
inductive Trig
  | perimeterExit | keepoutEntry | bumpFront | bumpRear | stall | slip | bladeJam
  | lift | tiltOver | wireLost | nodeLost | outsideLimit
  deriving DecidableEq, Repr

/-- The set of fixed trigger kinds that have arrived during a level-3 context (Table 6-4). -/
structure HazardSet where
  lift : Bool
  tiltOver : Bool
  wireLost : Bool
  nodeLost : Bool
  outsideLimit : Bool
  deriving DecidableEq, Repr

/-- The empty set, which a context of level 1 or 2 carries: the field is absent there. -/
def HazardSet.none : HazardSet := ⟨false, false, false, false, false⟩

/-- A response context (Table 6-4). `seq` is `none` for BUILT_IN, `remaining` is `none` on HOLD, and
`entered` is clear for a context created SUSPENDED that has not entered its step 0 (R113). -/
structure Ctx where
  trigger : Trig
  detail : Option Nat
  hazards : HazardSet
  seq : Option Nat
  step : Nat
  remaining : Option Nat
  repeats : Nat
  bladeStop : Bool
  left : Int
  right : Int
  entered : Bool
  deriving DecidableEq, Repr

structure RseCounters where
  received : List Nat
  unmapped : Nat
  underHazard : Nat
  docked : Nat
  created1 : Nat
  created2 : Nat
  created3 : Nat
  replaced : Nat
  suspended : Nat
  resumed : Nat
  discarded : Nat
  joined : Nat
  cancels : Nat
  clearsAccepted : Nat
  clearsRefused : Nat
  deriving DecidableEq, Repr

/-- The Response Engine: the context of each level and the three stop reasons (R112, R122). -/
structure Rse where
  ctx1 : Option Ctx
  ctx2 : Option Ctx
  ctx3 : Option Ctx
  stopHazard : Bool
  stopSettle : Bool
  stopTest : Bool
  cnt : RseCounters
  deriving DecidableEq, Repr

/-! ### Dock Controller (07) -/

/-- Dock states in the order of Table 7-1. -/
inductive DockState
  | undocked | returnSeek | follow | approach | contact | docked | departing | backoff | dockFault
  deriving DecidableEq, Repr

/-- How CONTACT was entered (Table 7-2). -/
inductive ContactOrigin | approach | start
  deriving DecidableEq, Repr

inductive DepartPhase | waitOpen | reversing
  deriving DecidableEq, Repr

inductive ReturnReason | noReason | nav | battery | rain
  deriving DecidableEq, Repr

/-- The guide loop as handed to the DKC (R41). -/
structure GuideSeen where
  loop : LoopState
  left : LaneClass
  right : LaneClass
  deriving DecidableEq, Repr

/-- The station loop as handed to the DKC (R41). -/
structure StationSeen where
  loop : LoopState
  strength : Nat
  deriving DecidableEq, Repr

structure DkcCounters where
  returnsNav : Nat
  returnsBattery : Nat
  returnsRain : Nat
  unavailable : Nat
  guideLost : Nat
  approaches : Nat
  approachTimeouts : Nat
  contacts : Nat
  relayTimeouts : Nat
  docks : Nat
  backoffs : Nat
  retries : Nat
  dockFaults : Nat
  dockLost : Nat
  stationRequests : Nat
  departures : Nat
  cancels : Nat
  relayReposts : Nat
  deriving DecidableEq, Repr

structure Dkc where
  dock : DockState
  origin : ContactOrigin
  phase : DepartPhase
  backoffRelay : Bool
  retry : Nat
  reason : ReturnReason
  approachT : Timer
  relayT : Timer
  motionT : Timer
  batteryT : LimitTimer
  rainT : LimitTimer
  present : Nat
  absent : Nat
  established : Bool
  button : Option Nat
  guide : GuideSeen
  station : StationSeen
  rain : Bool
  cmdL : Int
  cmdR : Int
  cnt : DkcCounters
  deriving DecidableEq, Repr

/-! ### Table Store (08) -/

/-- The six tables in the order of Table 8-1. -/
inductive Table | general | codes | profiles | zones | derate | responses
  deriving DecidableEq, Repr

/-- What the store keeps for a STAGED table (R144); `load` is `none` for IDLE. -/
structure StagedTable where
  mark : Bool
  load : Option Nat
  clamps : Nat
  deriving DecidableEq, Repr

structure TbsCounters where
  segmentsRefused : Nat
  loadsCompleted : Nat
  loadsIncomplete : Nat
  swapsRefused : Nat
  swapsTaken : Nat
  swapsTimedOut : Nat
  deriving DecidableEq, Repr

/-- The Table Store: `activeHigh` says which half of the memory is the ACTIVE bank, and `slotCopy`
holds the kind and passage mask bytes of the four slots (R144, R151; log entry 6). -/
structure Tbs where
  activeHigh : Bool
  staged : PerSix StagedTable
  slotCopy : PerSlot (Byte × Byte)
  swapPending : Bool
  swapT : LimitTimer
  cnt : TbsCounters
  deriving DecidableEq, Repr

/-! ### Navigation Link Interface and Management Request Handler (09) -/

/-- The states of the receive framer (R156). -/
inductive FramerState | hunt | header | payload | check
  deriving DecidableEq, Repr

/-- The receive framer: its state and the bytes taken after the start delimiter. -/
structure Framer where
  st : FramerState
  bytes : List Byte
  deriving DecidableEq, Repr

/-- The event flags in the order of Table 9-4. -/
inductive EventFlag
  | boundaryResponse | obstacleResponse | hazard | cmdStale | slipSeen | senseFault | sampleOverrun
  | postDiscard | nodeLostEvent | returnStarted | guideLost | dockedEvent | dockFaultEvent
  | dockLost | stationRequest | swapDone | swapTimeout | testDone | linkError
  deriving DecidableEq, Repr

/-- What the sending of an answer leads to (R159, R166, R169). -/
inductive AfterSent | nothing | fullReset | echoBegin
  deriving DecidableEq, Repr

/-- Which list an upstream frame came from, and what its end brings. -/
inductive OutClass
  | headAnswer (after : AfterSent)
  | readAnswer
  | echoed
  | event
  | telemetry
  deriving DecidableEq, Repr

/-- The header fields and payload of an N-link frame (11 section 11.1). -/
structure NFrame where
  dst : Nat
  src : Nat
  kind : Byte
  tag : Byte
  payload : List Byte
  deriving DecidableEq, Repr

/-- A frame on a list of the transmitter. -/
structure OutFrame where
  cls : OutClass
  frame : NFrame
  deriving DecidableEq, Repr

structure NliCounters where
  received : Nat
  lengthOverrun : Nat
  badCrc : Nat
  truncated : Nat
  notClaimed : Nat
  kindRefused : Nat
  queueFull : Nat
  unknownRequest : Nat
  framesSent : Nat
  eventsSent : Nat
  eventReplaced : Nat
  telemetrySent : Nat
  telemetrySkipped : Nat
  deriving DecidableEq, Repr

/-- The Navigation Link Interface. `flags` holds, for each event flag in the order of Table 9-4, none
while it is clear or the detail it was set with; the report mask has bit n for flag n. -/
structure Nli where
  framer : Framer
  flags : List (Option (List Byte))
  mask : BitVec 19
  answers : List OutFrame
  events : List (EventFlag × List Byte)
  telemetry : Option (List Byte)
  sending : Option OutFrame
  eventTag : Nat
  telemTag : Nat
  telemT : LimitTimer
  cnt : NliCounters
  deriving DecidableEq, Repr

/-- An entry of the management queue (R158); `pass` says that the frame was a PASS. -/
structure Req where
  pass : Bool
  tag : Byte
  src : Nat
  payload : List Byte
  deriving DecidableEq, Repr

/-- The Management Request Handler. `headDone` says that the head has been carried out and its answer
waits for the transmitter; `fullResetDue` that the answer to a FULL_RESET has been sent. -/
structure Mrh where
  queue : List Req
  headDone : Bool
  outstanding : Option (Byte × Nat)
  fullResetDue : Bool
  deriving DecidableEq, Repr

/-! ### Loopback Unit (10) -/

inductive TestKind | noTest | nLinkEcho | dLinkEcho | wirePattern
  deriving DecidableEq, Repr

inductive TestStatus | noStatus | running | completed | aborted
  deriving DecidableEq, Repr

/-- The parameters of a test as accepted (R168): the duration in seconds; the node and frame count;
the slot, coil, whether the polarity is -1, the amplitude, noise and burst count. -/
inductive TestParams
  | absent
  | nLinkEcho (seconds : Nat)
  | dLinkEcho (node : Node) (frames : Nat)
  | wirePattern (slot : Slot) (coil : Coil) (negative : Bool) (amplitude noise bursts : Nat)
  deriving DecidableEq, Repr

/-- The counts of the result record (Table 10-2); each test kind uses its own. -/
structure TestRecord where
  echoed : Nat
  echoDropped : Nat
  sent : Nat
  matched : Nat
  mismatched : Nat
  timeouts : Nat
  placed : Nat
  lockedIn : Nat
  lockedOut : Nat
  weakIn : Nat
  weakOut : Nat
  absent : Nat
  last : Option Verdict
  deriving DecidableEq, Repr

/-- The Loopback Unit. `begun` says that an N-link echo has begun, or that a D-link echo has taken
the link; `beginDue` that the answer to an N-link echo's START_TEST has been sent; `left` counts the
ECHO frames still to send or the bursts still to place; `echoTime` is the time since the echo began. -/
structure Lbu where
  kind : TestKind
  status : TestStatus
  params : TestParams
  begun : Bool
  beginDue : Bool
  left : Nat
  echoTime : Nat
  record : TestRecord
  gen : BitVec 15
  deriving DecidableEq, Repr

/-! ### The part -/

/-- The state of the part. `pending` is the queue of commands, `freeCount` the model's own count of
free choices drawn (log entry 8), `resetHeld` says that RESET_N is asserted, and `mem` holds both
banks of the table store as a canonical list (log entry 6). -/
structure State where
  pending : List Instr
  freeCount : Nat
  resetHeld : Bool
  nRate : NRate
  dRate : DRate
  mem : List Host.Cell
  wdc : Wdc
  zcu : Zcu
  spu : Spu
  mgt : Mgt
  dlc : Dlc
  rse : Rse
  dkc : Dkc
  tbs : Tbs
  nli : Nli
  mrh : Mrh
  lbu : Lbu
  deriving DecidableEq, Repr

/-- The spec stops the part nowhere: every command has an effect, is dropped and counted, or is
answered. So there is no fault, and no command raises one (safe: nothing is cut short). -/
inductive Fault
  deriving DecidableEq, Repr

/-- The one refusal: the command has no meaning in the model yet. Only an arm of `exec` would raise
it; it is safe, since the machine then claims nothing. -/
inductive Refusal
  | notModelled (mnemonic : String)
  deriving DecidableEq, Repr

/-! ### The state after reset, block by block -/

/-- R24. -/
def Wdc.reset : Wdc :=
  ⟨PerSlot.all (PerCoil.all Lane.fresh), PerCoil.all CoilUnit.fresh, 0, [], none⟩

/-- R43 under the built-in defaults, in which every slot is DISABLED. -/
def Zcu.reset : Zcu :=
  ⟨PerSlot.all (PerCoil.all ⟨.pending, 0⟩), PerSlot.all .disabled, none, false, PerSlot.all false,
    true, Timer.zero, 0, 0, false, ⟨0, 0, 0, 0, 0, 0, 0, 0⟩⟩

/-- R46, R60 under the built-in defaults: the settle runs, every pin is OFF. The raw levels are
inputs. -/
def Spu.reset (levels : PerPin Level) : Spu :=
  ⟨some 0, levels, PerPin.all (PinUnit.idle PinCfg.default 0 0 0), ⟨.absent, 0⟩, ⟨.absent, 0⟩,
    Timer.zero, 0⟩

/-- R81, Table 4-1. -/
def Mgt.reset : Mgt :=
  ⟨none, Timer.zero, none, 0, .nav, 0, 100, 100, 0, 0, 0, 0, none, 0, 0, 0, PerSix.all 0,
    ⟨0, 0, 0, 0, 0, 0, 0, 0⟩⟩

def DlcCounters.zero : DlcCounters := ⟨0, 0, 0, 0, 0, 0, 0, 0, 0, 0, 0, 0, 0, 0, 0, 0, 0, 0⟩

/-- R104: under the built-in defaults no address is fitted. -/
def Dlc.reset : Dlc := ⟨PerSix.all none, [], [], none, 0, none, none, DlcCounters.zero⟩

/-- R125: no context, the settle reason set. -/
def Rse.reset : Rse :=
  ⟨none, none, none, false, true, false,
    ⟨List.replicate 12 0, 0, 0, 0, 0, 0, 0, 0, 0, 0, 0, 0, 0, 0, 0⟩⟩

/-- R143, Table 7-2. -/
def Dkc.reset : Dkc :=
  ⟨.undocked, .approach, .waitOpen, false, 0, .noReason, Timer.zero, Timer.zero, Timer.zero,
    LimitTimer.zero, LimitTimer.zero, 0, 0, false, none, ⟨.disabled, .pending, .pending⟩,
    ⟨.disabled, 0⟩, false, 0, 0, ⟨0, 0, 0, 0, 0, 0, 0, 0, 0, 0, 0, 0, 0, 0, 0, 0, 0, 0⟩⟩

/-- R144, R154. -/
def Tbs.reset : Tbs :=
  ⟨false, PerSix.all ⟨false, none, 0⟩, PerSlot.all (0#8, 0#8), false, LimitTimer.zero,
    ⟨0, 0, 0, 0, 0, 0⟩⟩

/-- R167 and R163: the telemetry timer starts from 0 at the built-in interval of 100 ms. -/
def Nli.reset : Nli :=
  ⟨⟨.hunt, []⟩, List.replicate 19 none, BitVec.allOnes 19, [], [], none, none, 0, 0,
    ⟨.running, 0, 100000⟩, ⟨0, 0, 0, 0, 0, 0, 0, 0, 0, 0, 0, 0, 0⟩⟩

/-- R167. -/
def Mrh.reset : Mrh := ⟨[], false, none, false⟩

def TestRecord.zero : TestRecord := ⟨0, 0, 0, 0, 0, 0, 0, 0, 0, 0, 0, 0, none⟩

/-- Table 10-1, R173: the generator holds all ones. -/
def Lbu.reset : Lbu :=
  ⟨.noTest, .noStatus, .absent, false, false, 0, 0, TestRecord.zero, BitVec.allOnes 15⟩

/-- The part as it stands when RESET_N deasserts or a FULL_RESET takes effect (R166, R167): every
block in its reset state, with the pin levels and the commands still to come as they are, and the
straps as sampled. -/
def State.afterReset (pending : List Instr) (freeCount : Nat) (levels : PerPin Level) (n : NRate)
    (d : DRate) : State :=
  { pending := pending, freeCount := freeCount, resetHeld := false, nRate := n, dRate := d,
    mem := [], wdc := Wdc.reset, zcu := Zcu.reset, spu := Spu.reset levels, mgt := Mgt.reset,
    dlc := Dlc.reset, rse := Rse.reset, dkc := Dkc.reset, tbs := Tbs.reset, nli := Nli.reset,
    mrh := Mrh.reset, lbu := Lbu.reset }

/-- The machine right after reset. The spec gives no pin level, no strap level and, of course, no
count of free choices: LOW, 1 Mbit/s and 0 are the model's (log entries 8, 10, 11). -/
def State.reset : State := State.afterReset [] 0 (PerPin.all .low) .mbit1 .mbit1

end Sys2Proof.Machine
end

