-- ==== Sys2Proof/Machine/Memory.lean ====
section
/-! DEFINITION. The memory of the table store: both banks in one space of 3168 byte addresses, kept
as a canonical list of the addresses that differ from their reset contents (08; log entry 6). -/

namespace Sys2Proof.Machine

/-- The size of a table in bytes (Table 8-1). -/
def Table.size : Table → Nat
  | .general => 128
  | .codes => 128
  | .profiles => 64
  | .zones => 128
  | .derate => 16
  | .responses => 1120

/-- Where a table starts within its bank. -/
def Table.base : Table → Nat
  | .general => 0
  | .codes => 128
  | .profiles => 256
  | .zones => 320
  | .derate => 448
  | .responses => 464

/-- The size of a bank (08 section 8.1). -/
def bankSize : Nat := 1584

/-- The first 64 bytes of the built-in GENERAL table: Table 8-2 in the layout of 11 section 11.3. -/
def defaultGeneral : List Nat :=
  [32, 4, 0, 100, 0, 200, 20, 5, 0, 0, 0, 200, 1, 244, 0, 0, 0, 0, 1, 244, 1, 244, 0, 0, 0, 0, 0,
    200, 1, 244, 0, 0] ++
  [0, 0, 19, 136, 0, 3, 39, 16, 3, 232, 0, 200, 5, 220, 0, 0, 0, 100, 0, 0, 0, 0, 0, 0, 0, 0, 0, 0,
    0, 0, 0, 0]

/-- A code record of the built-in defaults: disabled, pattern 0, K_min 3, K_max 8, T_pass 100,
P_need 3, T_strong 0, profile 0, floor 50 (R153). -/
def defaultCode : List Nat := [0, 0, 0, 0, 0, 0, 0, 0, 8, 3, 48, 100, 0, 0, 0, 50]

/-- A byte of a table of the built-in defaults (R153). Reserved and absent bytes are 0. -/
def defaultByte (t : Table) (off : Nat) : Nat :=
  match t with
  | .general => defaultGeneral.getD off 0
  | .codes => defaultCode.getD (off % 16) 0
  | .profiles => 32
  | .zones => [0, 0, 1, 16].getD (off % 32) 0
  | .derate => [100, 1].getD (off % 2) 0
  | .responses => if off < 32 then 0 else [1, 0, 0, 1].getD ((off - 32) % 68) 0

/-- The default byte at an address of a bank. -/
def defaultAt (a : Nat) : Nat :=
  if a < 128 then defaultByte .general a
  else if a < 256 then defaultByte .codes (a - 128)
  else if a < 320 then defaultByte .profiles (a - 256)
  else if a < 448 then defaultByte .zones (a - 320)
  else if a < 464 then defaultByte .derate (a - 448)
  else defaultByte .responses (a - 464)

/-- What an address reads as that nothing has written since reset: the half that is ACTIVE at reset
holds the built-in defaults, the other zeros (R144, R153, R154). -/
def resetByte (a : Nat) : Byte := if a < bankSize then u8 (defaultAt a) else 0#8

/-- The byte at an address. -/
def Memory.read : List Host.Cell → Nat → Byte
  | [], a => resetByte a
  | (k, b) :: rest, a => if a = k then b else Memory.read rest a

/-- The list without an entry for an address. -/
def Memory.erase : List Host.Cell → Nat → List Host.Cell
  | [], _ => []
  | (k, b) :: rest, a =>
    if k = a then Memory.erase rest a else (k, b) :: Memory.erase rest a

/-- The list with an entry for an address, at its place in rising order. -/
def Memory.insert : List Host.Cell → Nat → Byte → List Host.Cell
  | [], a, v => [(a, v)]
  | (k, b) :: rest, a, v =>
    if a < k then (a, v) :: (k, b) :: rest
    else if k = a then (a, v) :: rest
    else (k, b) :: Memory.insert rest a v

/-- A write keeps the canonical form: writing what an unlisted address reads as removes the entry. -/
def Memory.write (m : List Host.Cell) (a : Nat) (v : Byte) : List Host.Cell :=
  if v = resetByte a then Memory.erase m a else Memory.insert m a v

/-- Bytes written at rising addresses. -/
def Memory.writeBytes : List Host.Cell → Nat → List Byte → List Host.Cell
  | m, _, [] => m
  | m, a, b :: rest => Memory.writeBytes (Memory.write m a b) (a + 1) rest

/-- The bytes at `n` addresses from `a`. -/
def Memory.readBytes (m : List Host.Cell) (a : Nat) : Nat → List Byte
  | 0 => []
  | n + 1 => Memory.read m a :: Memory.readBytes m (a + 1) n

/-- Every entry lies above `a` and below the end of the space, the addresses rise strictly, and no
entry equals what its address reads as unlisted. -/
def Memory.wfFrom : Nat → List Host.Cell → Bool
  | _, [] => true
  | lo, (k, b) :: rest =>
    decide (lo ≤ k) && decide (k < 2 * bankSize) && decide (b ≠ resetByte k) &&
      Memory.wfFrom (k + 1) rest

/-- The canonical form of the memory. -/
def Memory.wf (m : List Host.Cell) : Bool := Memory.wfFrom 0 m

/-! ### Banks -/

/-- The two banks (08 section 8.1). -/
inductive Bank | active | staged
  deriving DecidableEq, Repr

/-- The first address of a bank, as the swaps so far have placed it. -/
def State.bankBase (s : State) : Bank → Nat
  | .active => if s.tbs.activeHigh then bankSize else 0
  | .staged => if s.tbs.activeHigh then 0 else bankSize

/-- The address of a byte of a table. -/
def State.tableAddr (s : State) (b : Bank) (t : Table) (off : Nat) : Nat :=
  s.bankBase b + t.base + off

/-- A byte of a table as the bank stores it. -/
def State.tableByte (s : State) (b : Bank) (t : Table) (off : Nat) : Byte :=
  Memory.read s.mem (s.tableAddr b t off)

/-- A two-byte field of a table. -/
def State.tableWord (s : State) (b : Bank) (t : Table) (off : Nat) : Nat :=
  rd16 (s.tableByte b t off) (s.tableByte b t (off + 1))

end Sys2Proof.Machine
end

