-- ==== Sys2Proof/Machine/Operands.lean ====
section
/-! DEFINITION. The fields of the tables in force, read from the ACTIVE bank by the layouts of 11
section 11.3, and the fields of the frames the part receives (11 sections 11.1, 11.2). -/

namespace Sys2Proof.Machine

/-! ### GENERAL -/

/-- A one-byte field of the ACTIVE GENERAL table. -/
def State.gen8 (s : State) (off : Nat) : Nat := (s.tableByte .active .general off).toNat
/-- A two-byte field of the ACTIVE GENERAL table. -/
def State.gen16 (s : State) (off : Nat) : Nat := s.tableWord .active .general off

def State.codeLength (s : State) : Nat := s.gen8 0
def State.flushLimit (s : State) : Nat := s.gen8 1
/-- The burst timeout in microseconds. -/
def State.burstTimeout (s : State) : Nat := ms (s.gen16 2)
def State.ageLimit (s : State) : Nat := ms (s.gen16 4)
def State.pollInterval (s : State) : Nat := ms (s.gen8 6)
def State.responseTimeout (s : State) : Nat := ms (s.gen8 7)
def State.slipTolerance (s : State) : Nat := s.gen16 8
def State.slipMinimum (s : State) : Nat := s.gen16 10
def State.slipTime (s : State) : Nat := ms (s.gen16 12)
def State.stallCurrent (s : State) : Nat := s.gen16 14
def State.jamCurrent (s : State) : Nat := s.gen16 16
def State.stallTime (s : State) : Nat := ms (s.gen16 18)
def State.jamTime (s : State) : Nat := ms (s.gen16 20)
def State.defaultForward (s : State) : Nat := s.gen16 22
def State.defaultReverse (s : State) : Nat := s.gen16 24
def State.defaultSlopeMax (s : State) : Nat := s.gen16 26
def State.tiltPersistence (s : State) : Nat := ms (s.gen16 28)
def State.outsideLimit (s : State) : Nat := ms (s.gen16 30)
def State.returnThreshold (s : State) : Nat := s.gen16 32
def State.returnPersistence (s : State) : Nat := ms (s.gen16 34)
def State.rainReturn (s : State) : Bool := s.gen8 36 == 1
def State.contactDebounce (s : State) : Nat := s.gen8 37
def State.rainPersistence (s : State) : Nat := ms (s.gen16 38)
def State.relayTimeout (s : State) : Nat := ms (s.gen16 40)
def State.departureSpeed (s : State) : Nat := s.gen16 42
def State.departureTime (s : State) : Nat := ms (s.gen16 44)
def State.swapTimeout (s : State) : Nat := ms (s.gen16 46)
def State.telemetryInterval (s : State) : Nat := ms (s.gen16 48)

def NodeKind.ofByte (n : Nat) : NodeKind :=
  match n with
  | 1 => .wheelLeft
  | 2 => .wheelRight
  | 3 => .blade
  | 4 => .power
  | _ => .noNode

/-- The kind of an address in the ACTIVE node table: address a at offset 49 + a. -/
def State.nodeKind (s : State) (n : Node) : NodeKind := NodeKind.ofByte (s.gen8 (50 + n.val))

def NodeKind.isWheel : NodeKind → Bool
  | .wheelLeft => true
  | .wheelRight => true
  | _ => false

/-- The address of the POWER node, if one is fitted (R83 leaves at most one). -/
def State.powerNode (s : State) : Option Node := nodes.find? fun n => s.nodeKind n == .power

def PinMode.ofByte (n : Nat) : PinMode :=
  match n with
  | 1 => .level
  | 2 => .edgeCount
  | 3 => .pulseWidth
  | 4 => .duty
  | _ => .off

def PinMode.num : PinMode → Nat
  | .off => 0
  | .level => 1
  | .edgeCount => 2
  | .pulseWidth => 3
  | .duty => 4

def PinRole.ofByte (n : Nat) : PinRole :=
  match n with
  | 1 => .bumpFront
  | 2 => .bumpRear
  | 3 => .lift
  | 4 => .rain
  | 5 => .tiltPitch
  | 6 => .tiltRoll
  | _ => .general

def PinRole.num : PinRole → Nat
  | .general => 0
  | .bumpFront => 1
  | .bumpRear => 2
  | .lift => 3
  | .rain => 4
  | .tiltPitch => 5
  | .tiltRoll => 6

def Level.num : Level → Nat
  | .high => 0
  | .low => 1

/-- Whether a mode has a parameter (Table 3-2). -/
def PinMode.hasParam : PinMode → Bool
  | .off => false
  | .level => true
  | .edgeCount => true
  | .pulseWidth => false
  | .duty => true

/-- A pin configuration of the ACTIVE GENERAL table; a parameter the mode has not is absent (R45). -/
def State.pinCfg (s : State) (p : Pin) : PinCfg :=
  let o := 64 + 6 * p.val
  let mode := PinMode.ofByte (s.gen8 o)
  { mode := mode
    role := PinRole.ofByte (s.gen8 (o + 1))
    active := if s.gen8 (o + 2) = 1 then .low else .high
    param := if mode.hasParam then s.gen16 (o + 4) else 0 }

/-! ### CODES and PROFILES -/

/-- A two-byte field of a code record. -/
def State.codeWord (s : State) (code off : Nat) : Nat :=
  s.tableWord .active .codes (16 * code + off)

def State.codeEnabled (s : State) (code : Nat) : Bool := bitsAt 15 1 (s.codeWord code 8) == 1
def State.kMin (s : State) (code : Nat) : Nat := bitsAt 0 6 (s.codeWord code 8)
def State.kMax (s : State) (code : Nat) : Nat := bitsAt 8 6 (s.codeWord code 8)
def State.tPass (s : State) (code : Nat) : Nat := bitsAt 0 11 (s.codeWord code 10)
def State.pNeed (s : State) (code : Nat) : Nat := bitsAt 12 4 (s.codeWord code 10)
def State.tStrong (s : State) (code : Nat) : Nat := bitsAt 0 11 (s.codeWord code 12)
def State.profileOf (s : State) (code : Nat) : Nat := bitsAt 12 2 (s.codeWord code 12)
def State.floorOf (s : State) (code : Nat) : Nat := bitsAt 0 11 (s.codeWord code 14)

/-- Chip i of a code: +1 where bit i of the pattern is 1 and -1 where it is 0, bit i counted from
the least significant bit of byte 7. -/
def State.chip (s : State) (code i : Nat) : Int :=
  let b := s.tableByte .active .codes (16 * code + 7 - i / 8)
  if bitsAt (i % 8) 1 b.toNat = 1 then 1 else -1

/-- The weight of a profile at a period (R12): periods beyond the sixteenth use the sixteenth. -/
def State.weight (s : State) (profile k : Nat) : Nat :=
  (s.tableByte .active .profiles (16 * profile + (min k 16 - 1))).toNat

/-! ### ZONES -/

def SlotKind.ofByte (n : Nat) : SlotKind :=
  match n with
  | 1 => .perimeter
  | 2 => .keepout
  | 3 => .guide
  | 4 => .station
  | _ => .disabled

def State.zone8 (s : State) (i : Slot) (off : Nat) : Nat :=
  (s.tableByte .active .zones (32 * i.val + off)).toNat
def State.zone16 (s : State) (i : Slot) (off : Nat) : Nat :=
  s.tableWord .active .zones (32 * i.val + off)

def State.slotKind (s : State) (i : Slot) : SlotKind := SlotKind.ofByte (s.zone8 i 0)
/-- A slot is enabled when its kind in the ACTIVE bank is not DISABLED (R27, R29). -/
def State.enabled (s : State) (i : Slot) : Bool := s.slotKind i != .disabled
def State.slotCode (s : State) (i : Slot) : Nat := s.zone8 i 1
def State.zoneNumber (s : State) (i : Slot) : Nat := s.zone8 i 2
def State.lossLimit (s : State) (i : Slot) : Nat := s.zone8 i 3
def State.zoneForward (s : State) (i : Slot) : Nat := s.zone16 i 4
def State.zoneReverse (s : State) (i : Slot) : Nat := s.zone16 i 6
def State.zoneBlade (s : State) (i : Slot) : Bool := bitsAt 0 1 (s.zone8 i 8) == 1
def State.zoneBladeMax (s : State) (i : Slot) : Nat := s.zone16 i 10
def State.zoneSlopeMax (s : State) (i : Slot) : Nat := s.zone16 i 12
def State.nearLevel (s : State) (i : Slot) : Nat := s.zone16 i 14
def State.nearPercent (s : State) (i : Slot) : Nat := s.zone8 i 16
/-- Whether slot j is in the passage mask of slot i. -/
def State.passage (s : State) (i j : Slot) : Bool := bitsAt j.val 1 (s.zone8 i 17) == 1

/-- The enabled GUIDE slot, if there is one (R29 leaves at most one). -/
def State.guideSlot (s : State) : Option Slot := slots.find? fun i => s.slotKind i == .guide
/-- The enabled STATION slot, if there is one. -/
def State.stationSlot (s : State) : Option Slot := slots.find? fun i => s.slotKind i == .station

/-- The fields of the guide and station slots, taken as 0 where no such slot is enabled (R69). -/
def State.followSpeed (s : State) : Nat :=
  match s.guideSlot with | some i => s.zone16 i 4 | none => 0
def State.turnDelta (s : State) : Nat :=
  match s.guideSlot with | some i => s.zone16 i 6 | none => 0
/-- Whether the guide's inside side is RIGHT_INSIDE. -/
def State.rightInside (s : State) : Bool :=
  match s.guideSlot with | some i => s.zone8 i 8 == 1 | none => false
def State.approachSpeed (s : State) : Nat :=
  match s.stationSlot with | some i => s.zone16 i 4 | none => 0
def State.stationLevel (s : State) : Nat :=
  match s.stationSlot with | some i => s.zone16 i 6 | none => 0
/-- The approach timeout in microseconds; the field is in seconds. -/
def State.approachTimeout (s : State) : Nat :=
  match s.stationSlot with | some i => ms (1000 * s.zone8 i 8) | none => 0
def State.stationRetries (s : State) : Nat :=
  match s.stationSlot with | some i => s.zone8 i 9 | none => 0

/-! ### DERATE and RESPONSES -/

def State.derateSpeed (s : State) (band : Nat) : Nat :=
  (s.tableByte .active .derate (2 * band)).toNat
def State.derateBlade (s : State) (band : Nat) : Bool :=
  (s.tableByte .active .derate (2 * band + 1)).toNat == 1

/-- The number of a trigger kind, in the order of Table 6-1. -/
def Trig.num : Trig → Nat
  | .perimeterExit => 0
  | .keepoutEntry => 1
  | .bumpFront => 2
  | .bumpRear => 3
  | .stall => 4
  | .slip => 5
  | .bladeJam => 6
  | .lift => 7
  | .tiltOver => 8
  | .wireLost => 9
  | .nodeLost => 10
  | .outsideLimit => 11

/-- Whether the trigger map decides a kind (Table 6-1). -/
def Trig.tabled (t : Trig) : Bool := t.num < 7

/-- The level and sequence the trigger map gives a tabled kind (R105). -/
def State.trigLevel (s : State) (t : Trig) : Nat :=
  (s.tableByte .active .responses (2 * t.num)).toNat
def State.trigSeq (s : State) (t : Trig) : Nat :=
  (s.tableByte .active .responses (2 * t.num + 1)).toNat

def State.seqByte (s : State) (q off : Nat) : Nat :=
  (s.tableByte .active .responses (32 + 68 * q + off)).toNat
def State.seqWord (s : State) (q off : Nat) : Nat :=
  s.tableWord .active .responses (32 + 68 * q + off)

def State.stepCount (s : State) (q : Nat) : Nat := s.seqByte q 0
def State.repeatStart (s : State) (q : Nat) : Nat := s.seqByte q 1
def State.repeatEnd (s : State) (q : Nat) : Nat := s.seqByte q 2
def State.repeatCount (s : State) (q : Nat) : Nat := s.seqByte q 3

/-- A step of a sequence (Table 6-3); speeds in mm/s, durations in microseconds. -/
inductive SeqStep
  | finish
  | drive (left right : Int) (duration : Nat)
  | wait (duration : Nat)
  | bladeStop
  | hold
  deriving DecidableEq, Repr

/-- Step j of a sequence, END 0 to HOLD 4; `finish` is END, as is a kind above 4 (R175). -/
def State.stepAt (s : State) (q j : Nat) : SeqStep :=
  let o := 4 + 8 * j
  match s.seqByte q o with
  | 1 => .drive (sgn16 (s.seqWord q (o + 2))) (sgn16 (s.seqWord q (o + 4)))
      (ms (s.seqWord q (o + 6)))
  | 2 => .wait (ms (s.seqWord q (o + 6)))
  | 3 => .bladeStop
  | 4 => .hold
  | _ => .finish

/-! ### Frames -/

/-- Byte i of a payload, 0 beyond its end; every reader checks the length first. -/
def byteAt (l : List Byte) (i : Nat) : Nat := (l.getD i 0#8).toNat
/-- The two-byte field at offset i of a payload. -/
def wordAt (l : List Byte) (i : Nat) : Nat := rd16 (l.getD i 0#8) (l.getD (i + 1) 0#8)

/-- The tables by number (Table 8-1). -/
def Table.ofNat? (n : Nat) : Option Table :=
  match n with
  | 0 => some .general
  | 1 => some .codes
  | 2 => some .profiles
  | 3 => some .zones
  | 4 => some .derate
  | 5 => some .responses
  | _ => none

/-- The place of a table in the collections of six. -/
def Table.ix : Table → Fin 6
  | .general => 0
  | .codes => 1
  | .profiles => 2
  | .zones => 3
  | .derate => 4
  | .responses => 5

def Coil.ofNat? (n : Nat) : Option Coil :=
  match n with
  | 0 => some .left
  | 1 => some .right
  | _ => none

def Coil.num : Coil → Nat
  | .left => 0
  | .right => 1

/-- A slot number 0..3. -/
def slotOfNat? (n : Nat) : Option Slot := if h : n < 4 then some ⟨n, h⟩ else none
/-- A pin number 0..7. -/
def pinOfNat? (n : Nat) : Option Pin := if h : n < 8 then some ⟨n, h⟩ else none
/-- A node address 1..6. -/
def nodeOfNat? (n : Nat) : Option Node := if h : 1 ≤ n ∧ n ≤ 6 then some ⟨n - 1, by omega⟩ else none

/-- The address of a node as frames carry it. -/
def nodeAddr (n : Node) : Nat := n.val + 1

end Sys2Proof.Machine
end

