-- ==== Sys2Proof/Machine/Flags.lean ====
section
/-! DEFINITION. The event flags, the report mask and the upstream transmitter (09 sections 9.3, 9.4),
and the STOP line (06 section 6.7). -/

namespace Sys2Proof.Machine

/-- The number of an event flag, in the order of Table 9-4. -/
def EventFlag.num : EventFlag → Nat
  | .boundaryResponse => 0
  | .obstacleResponse => 1
  | .hazard => 2
  | .cmdStale => 3
  | .slipSeen => 4
  | .senseFault => 5
  | .sampleOverrun => 6
  | .postDiscard => 7
  | .nodeLostEvent => 8
  | .returnStarted => 9
  | .guideLost => 10
  | .dockedEvent => 11
  | .dockFaultEvent => 12
  | .dockLost => 13
  | .stationRequest => 14
  | .swapDone => 15
  | .swapTimeout => 16
  | .testDone => 17
  | .linkError => 18

/-- How many bytes the detail of a flag takes (Table 9-4, 11 section 11.1). -/
def EventFlag.detailSize : EventFlag → Nat
  | .boundaryResponse => 2
  | .obstacleResponse => 2
  | .hazard => 2
  | .cmdStale => 1
  | .slipSeen => 1
  | .senseFault => 1
  | .sampleOverrun => 1
  | .postDiscard => 1
  | .nodeLostEvent => 1
  | .returnStarted => 1
  | .guideLost => 1
  | .dockedEvent => 1
  | .dockFaultEvent => 1
  | .dockLost => 0
  | .stationRequest => 1
  | .swapDone => 1
  | .swapTimeout => 1
  | .testDone => 2
  | .linkError => 1

/-- The nineteen flags in order. -/
def eventFlags : List EventFlag :=
  [.boundaryResponse, .obstacleResponse, .hazard, .cmdStale, .slipSeen, .senseFault,
    .sampleOverrun, .postDiscard, .nodeLostEvent, .returnStarted, .guideLost, .dockedEvent,
    .dockFaultEvent, .dockLost, .stationRequest, .swapDone, .swapTimeout, .testDone, .linkError]

/-- The detail a flag is set with, or none while it is clear. -/
def State.flag (s : State) (f : EventFlag) : Option (List Byte) := s.nli.flags.getD f.num none

/-- Whether a flag's member of the report mask is on. -/
def State.reports (s : State) (f : EventFlag) : Bool := s.nli.mask.getLsbD f.num

/-- A set of event flags as its three-byte mask, flag n at bit n of the last byte on. -/
def mask3 (n : Nat) : List Byte := [u8 (n / 65536), u8 (n / 256), u8 n]

/-- The number whose bit n says whether flag n is set. -/
def setFlagsNum (flags : List (Option (List Byte))) : Nat :=
  flags.foldr (fun f n => 2 * n + if f.isSome then 1 else 0) 0

/-! ### Frames of the N-link -/

/-- The frame kinds (11 section 11.1). -/
def kindMotion : Byte := 1#8
def kindMgmtReq : Byte := 2#8
def kindPass : Byte := 3#8
def kindMgmtResp : Byte := 4#8
def kindPassResp : Byte := 5#8
def kindEvent : Byte := 6#8
def kindTelemetry : Byte := 7#8

/-- The bytes the CRC is taken over: header and payload (R156). -/
def NFrame.body (f : NFrame) : List Byte :=
  u8 f.payload.length :: u8 (16 * f.dst + f.src) :: f.kind :: f.tag :: f.payload

/-- The frame as it stands on the link. -/
def NFrame.bytes (f : NFrame) : List Byte := 0x7E#8 :: (f.body ++ crcBytes f.body)

/-- The EVENT payload: the flag number and four bytes of detail, unused ones 0 (11 section 11.1). -/
def eventPayload (f : EventFlag) (d : List Byte) : List Byte :=
  u8 f.num :: (d ++ List.replicate (4 - d.length) 0#8)

/-! ### The transmitter (R160) -/

/-- When no frame is being sent, the transmitter begins the oldest answer, else the oldest event,
else the telemetry frame; an EVENT or TELEMETRY frame takes its tag now (R160, R161, R163). Once the
answer to a FULL_RESET has been sent, nothing more begins before the reset (R166). -/
def txBegin (s : State) : State :=
  if s.mrh.fullResetDue || s.resetHeld then s else
  match s.nli.sending with
  | some _ => s
  | none =>
    match s.nli.answers with
    | f :: rest => { s with nli := { s.nli with sending := some f, answers := rest } }
    | [] =>
      match s.nli.events with
      | (f, d) :: rest =>
        let out : OutFrame := ⟨.event, ⟨0, 1, kindEvent, u8 s.nli.eventTag, eventPayload f d⟩⟩
        { s with nli := { s.nli with sending := some out, events := rest } }
      | [] =>
        match s.nli.telemetry with
        | some p =>
          let out : OutFrame := ⟨.telemetry, ⟨0, 1, kindTelemetry, u8 s.nli.telemTag, p⟩⟩
          { s with nli := { s.nli with sending := some out, telemetry := none } }
        | none => s

/-- A frame joins the answer list. -/
def pushAnswer (o : OutFrame) (s : State) : State :=
  txBegin { s with nli := { s.nli with answers := s.nli.answers ++ [o] } }

/-- Whether the event list holds a frame for a flag. -/
def hasEvent (f : EventFlag) (l : List (EventFlag × List Byte)) : Bool := l.any fun e => e.1 == f

/-- The event list with the waiting frame of a flag given a new detail in place. -/
def replaceEvent (f : EventFlag) (d : List Byte) (l : List (EventFlag × List Byte)) :
    List (EventFlag × List Byte) := l.map fun e => if e.1 == f then (f, d) else e

/-- An owning block sets an event flag (R161): a set flag stays as it was; a clear flag is set with
the detail, and with its mask member on an EVENT frame joins the list, or a frame of the flag that
still waits takes the new detail in place. -/
def setFlag (f : EventFlag) (d : List Byte) (s : State) : State :=
  match s.flag f with
  | some _ => s
  | none =>
    let n := { s.nli with flags := s.nli.flags.set f.num (some d) }
    if s.nli.mask.getLsbD f.num then
      if hasEvent f n.events then
        { s with nli :=
          { n with
            events := replaceEvent f d n.events
            cnt := { n.cnt with eventReplaced := bump n.cnt.eventReplaced } } }
      else txBegin { s with nli := { n with events := n.events ++ [(f, d)] } }
    else { s with nli := n }

/-! ### Response codes (Table 9-3) -/

inductive RespCode
  | ok | accepted | busy | refusedState | badParam | incomplete | retry | noNode | nodeTimeout
  deriving DecidableEq, Repr

def RespCode.num : RespCode → Nat
  | .ok => 0
  | .accepted => 1
  | .busy => 2
  | .refusedState => 3
  | .badParam => 4
  | .incomplete => 5
  | .retry => 6
  | .noNode => 7
  | .nodeTimeout => 8

/-! ### The STOP line (R122) -/

/-- The STOP line is asserted while a stop reason is set, and while RESET_N is asserted (R167). -/
def State.stopLine (s : State) : Bool :=
  s.rse.stopHazard || s.rse.stopSettle || s.rse.stopTest || s.resetHeld

end Sys2Proof.Machine
end

