-- ==== Sys2Proof/Machine/Ops.lean ====
section
/-! DEFINITION. What blocks hand one another, computed from the owner (log entry 9), the passing of
time, free choices, and the answers of the Management Request Handler. -/

namespace Sys2Proof.Machine

/-! ### Responses -/

/-- Whether the Response Engine holds any context (R112). -/
def State.ctxHeld (s : State) : Bool :=
  s.rse.ctx1.isSome || s.rse.ctx2.isSome || s.rse.ctx3.isSome

/-- The running context with its level: the one at the highest level held (R112). -/
def State.runningCtx (s : State) : Option (Nat × Ctx) :=
  match s.rse.ctx3 with
  | some c => some (3, c)
  | none =>
    match s.rse.ctx2 with
    | some c => some (2, c)
    | none => s.rse.ctx1.map fun c => (1, c)

/-- The running response level, 0 when no context is held (R124). -/
def State.runningLevel (s : State) : Nat :=
  match s.runningCtx with
  | some (l, _) => l
  | none => 0

/-! ### Tests -/

/-- Whether a test runs (R168). -/
def State.testRunning (s : State) : Bool := s.lbu.status == .running

/-- Whether a D-link echo test runs: posting is held and the link belongs to the test (R76, R93). -/
def State.dEchoRunning (s : State) : Bool := s.testRunning && s.lbu.kind == .dLinkEcho

/-- Whether an N-link echo runs that has begun (R169). -/
def State.nEchoing (s : State) : Bool :=
  s.testRunning && s.lbu.kind == .nLinkEcho && s.lbu.begun

/-- The slot and coil under a wire pattern test, if one runs (R171). -/
def State.wireTest (s : State) : Option (Slot × Coil) :=
  if s.testRunning then
    match s.lbu.params with
    | .wirePattern slot coil _ _ _ _ => some (slot, coil)
    | _ => none
  else none

/-- Whether a coil is under a wire pattern test (R26). -/
def State.underTest (s : State) (c : Coil) : Bool :=
  match s.wireTest with
  | some (_, t) => t == c
  | none => false

/-! ### Motion Gate and drive link -/

/-- The wheels-still indication: every last posted value of every wheel address is 0 (R139). -/
def State.wheelsStill (s : State) : Bool :=
  nodes.all fun n => !(s.nodeKind n).isWheel || s.mgt.posted.get n == 0

/-- The posted-zero indication: every last posted value of every wheel and blade address is 0
(R78). -/
def State.postedZero (s : State) : Bool :=
  nodes.all fun n =>
    !((s.nodeKind n).isWheel || s.nodeKind n == .blade) || s.mgt.posted.get n == 0

/-- The state of a fitted node. -/
def State.nodeState (s : State) (n : Node) : Option NodeState := (s.dlc.recs.get n).map (·.st)

/-- The drive-node-lost indication (R84). -/
def State.driveNodeLost (s : State) : Bool :=
  nodes.any fun n =>
    ((s.nodeKind n).isWheel || s.nodeKind n == .blade) && s.nodeState n == some .unresponsive

/-! ### Sense pins -/

/-- Whether a working pin of a role has a debounced level that is active (R47). -/
def PinUnit.activeAs (u : PinUnit) (r : PinRole) : Bool :=
  u.cfg.mode == .level && u.cfg.role == r && u.deb == some u.cfg.active

/-- The lift condition: a LIFT pin is active or UNSET (R54). -/
def State.liftCond (s : State) : Bool :=
  s.spu.units.toList.any fun u =>
    u.cfg.mode == .level && u.cfg.role == .lift && (u.deb == some u.cfg.active || u.deb == none)

/-- The rain condition: a RAIN pin is active (R55). -/
def State.rainCond (s : State) : Bool := s.spu.units.toList.any fun u => u.activeAs .rain

/-- The slope of R57. -/
def State.slope (s : State) : Nat := max s.spu.pitch.angle.natAbs s.spu.roll.angle.natAbs

/-- Whether an axis counts as unknown (Table 3-3). -/
def AxisState.unknown : AxisState → Bool
  | .absent => false
  | .pending => true
  | .valid => false
  | .fault => true

/-- The unknown indication of R57. -/
def State.tiltUnknown (s : State) : Bool := s.spu.pitch.st.unknown || s.spu.roll.st.unknown

/-- The slope max in force (R40, R58). -/
def State.slopeMax (s : State) : Nat :=
  match s.zcu.active with
  | some i => s.zoneSlopeMax i
  | none => s.defaultSlopeMax

/-- The over-slope condition (R58). -/
def State.overSlope (s : State) : Bool := s.slopeMax < s.slope

/-! ### Zone context -/

/-- The wire-lost condition over given loop states (R37). -/
def State.wireLostCondOf (s : State) (loops : PerSlot LoopState) : Bool :=
  (slots.any fun i => s.slotKind i == .perimeter) &&
    slots.all fun i => s.slotKind i != .perimeter || loops.get i == .lost

/-- The wire-lost condition (R37). -/
def State.wireLostCond (s : State) : Bool := s.wireLostCondOf s.zcu.loops

/-- The outside condition that CLEAR_HAZARD judges: the active slot is OUT and the outside limit is
above 0 (R38, Table 6-6). -/
def State.outsideCond (s : State) : Bool :=
  match s.zcu.active with
  | some i => s.zcu.loops.get i == .outside && decide (0 < s.outsideLimit)
  | none => false

/-- The five blocking conditions in the order of Table 6-6. -/
def State.blocking (s : State) : List Bool :=
  [s.liftCond, s.overSlope, s.wireLostCond, s.driveNodeLost, s.outsideCond]

/-- The zone number the host sees for the active zone, 0 for NONE (R40). -/
def State.activeNumber (s : State) : Nat :=
  match s.zcu.active with
  | some i => s.zoneNumber i
  | none => 0

/-! ### The safe point (R150) -/

/-- The dock states in which a swap may be taken. -/
def DockState.safe : DockState → Bool
  | .undocked => true
  | .docked => true
  | .dockFault => true
  | _ => false

/-- The safe point of R150. -/
def State.safePoint (s : State) : Bool := s.postedZero && !s.ctxHeld && s.dkc.dock.safe

/-! ### The passing of time -/

/-- A running timer after `dt`, standing at its limit once it is reached. -/
def Timer.advance (limit dt : Nat) (t : Timer) : Timer :=
  if t.st = .running then { t with elapsed := elapse limit dt t.elapsed } else t

/-- A running timer after `dt`, against the limit it keeps. -/
def LimitTimer.advance (dt : Nat) (t : LimitTimer) : LimitTimer :=
  if t.st = .running then { t with elapsed := elapse t.limit dt t.elapsed } else t

/-- Whether a timer runs and has reached a limit. -/
def Timer.due (limit : Nat) (t : Timer) : Bool := t.st == .running && decide (limit ≤ t.elapsed)

/-- Whether a timer runs and has reached the limit it keeps. -/
def LimitTimer.due (t : LimitTimer) : Bool := t.st == .running && decide (t.limit ≤ t.elapsed)

/-- The age timer after `dt`: RUNNING against the command age limit, and counting on while EXPIRED
up to 65535 ms (R65, R79; log entry 12). -/
def ageAdvance (limit dt : Nat) (t : Timer) : Timer :=
  match t.st with
  | .running => { t with elapsed := elapse limit dt t.elapsed }
  | .expired => { t with elapsed := elapse (ms 65535) dt t.elapsed }
  | _ => t

/-- A pin unit after `dt`. -/
def PinUnit.advance (dt : Nat) (u : PinUnit) : PinUnit :=
  if u.measuring then
    { u with
      debTimer := u.debTimer.map (elapse (ms u.cfg.param) dt)
      window := elapse (ms u.cfg.param) dt u.window
      pulse := u.pulse.map (· + dt)
      period := u.period.map (· + dt)
      dutyTimer := elapse (ms u.cfg.param) dt u.dutyTimer }
  else u

/-- A node record after `dt`: its exchange age saturates at 65535 ms (R84, R94). -/
def NodeRec.advance (dt : Nat) (r : NodeRec) : NodeRec :=
  { r with
    age := elapse (ms 65535) dt r.age
    slip := r.slip.advance dt
    stall := r.stall.advance dt
    jam := r.jam.advance dt }

/-- A running context after `dt`: its remaining step time falls (R111). -/
def Ctx.advance (dt : Nat) (c : Ctx) : Ctx := { c with remaining := c.remaining.map (· - dt) }

/-- The contexts after `dt`: only the running one's step time falls (R111). -/
def Rse.advance (dt : Nat) (r : Rse) : Rse :=
  match r.ctx3 with
  | some _ => r
  | none =>
    match r.ctx2 with
    | some c => { r with ctx2 := some (c.advance dt) }
    | none => { r with ctx1 := r.ctx1.map (Ctx.advance dt) }

def CoilUnit.advance (limit dt : Nat) (u : CoilUnit) : CoilUnit :=
  { u with timer := u.timer.advance limit dt }

/-- Every running timer of the part after `dt` microseconds (log entry 1). -/
def advance (dt : Nat) (s : State) : State :=
  { s with
    wdc := { s.wdc with coils := s.wdc.coils.map (CoilUnit.advance s.burstTimeout dt) }
    zcu := { s.zcu with outTimer := s.zcu.outTimer.advance s.outsideLimit dt }
    spu := { s.spu with
      settle := s.spu.settle.map (elapse (ms 50) dt)
      units := s.spu.units.map (PinUnit.advance dt)
      tilt := s.spu.tilt.advance s.tiltPersistence dt }
    mgt := { s.mgt with age := ageAdvance s.ageLimit dt s.mgt.age }
    dlc := { s.dlc with
      recs := s.dlc.recs.map (Option.map (NodeRec.advance dt))
      tx := s.dlc.tx.map fun t => { t with elapsed := elapse t.timeout dt t.elapsed } }
    rse := s.rse.advance dt
    dkc := { s.dkc with
      approachT := s.dkc.approachT.advance s.approachTimeout dt
      relayT := s.dkc.relayT.advance s.relayTimeout dt
      motionT := s.dkc.motionT.advance s.departureTime dt
      batteryT := s.dkc.batteryT.advance dt
      rainT := s.dkc.rainT.advance dt }
    tbs := { s.tbs with swapT := s.tbs.swapT.advance dt }
    nli := { s.nli with telemT := s.nli.telemT.advance dt }
    lbu := { s.lbu with
      echoTime :=
        if s.nEchoing then
          match s.lbu.params with
          | .nLinkEcho sec => elapse (ms (1000 * sec)) dt s.lbu.echoTime
          | _ => s.lbu.echoTime
        else s.lbu.echoTime } }

/-- An event that comes about only when it is due; one that is not changes nothing but the time (log
entry 3). -/
def whenDue (due : State → Bool) (f : State → State) (s : State) : State :=
  if due s then f s else s

/-- A timer judged by a condition (R58, R96, R97, R129, R130), with whether it expires at once: it
takes the limit in force, starts when the condition comes to hold, runs on while it holds, and stops
when it does not. -/
def LimitTimer.judge (cond : Bool) (limit : Nat) (t : LimitTimer) : LimitTimer × Bool :=
  if cond then
    match t.st with
    | .running => ({ t with limit := limit }, false)
    | .spent => (t, false)
    | _ => if limit = 0 then (⟨.spent, 0, 0⟩, true) else (⟨.running, 0, limit⟩, false)
  else
    match t.st with
    | .running => ({ t with st := .stopped }, false)
    | .spent => ({ t with st := .stopped }, false)
    | _ => (t, false)

/-- A timer stopped, its elapsed time kept (log entry 12). -/
def Timer.stop (t : Timer) : Timer := { t with st := .stopped }

/-- A timer stopped, its elapsed time kept (log entry 12). -/
def LimitTimer.stop (t : LimitTimer) : LimitTimer := { t with st := .stopped }

/-- A timer that has expired and raises nothing more. -/
def LimitTimer.spend (t : LimitTimer) : LimitTimer := { t with st := .spent }

/-! ### Free choices (log entry 8) -/

/-- The next free choice between two orders. -/
def State.choice (s : State) : Bool := Config.interleave s.freeCount

/-- The choice has been drawn. -/
def drawn (s : State) : State := { s with freeCount := s.freeCount + 1 }

/-! ### Answers (R159) -/

/-- Whether the head of the management queue is still to be carried out. -/
def State.headReady (s : State) : Bool :=
  !s.mrh.queue.isEmpty && !s.mrh.headDone && !s.mrh.fullResetDue

/-- The payload of a MGMT_RESP or PASS_RESP: the request code as received and the response code, or
the response code alone, then the data (11 section 11.1). -/
def respPayload (r : Req) (code : RespCode) (data : List Byte) : List Byte :=
  if r.pass then u8 code.num :: data
  else r.payload.getD 0 0#8 :: u8 code.num :: data

/-- The answer frame of a request: it carries the request's tag and goes to its source (R157, R159). -/
def respFrame (r : Req) (code : RespCode) (data : List Byte) : NFrame :=
  ⟨r.src, 1, if r.pass then kindPassResp else kindMgmtResp, r.tag, respPayload r code data⟩

/-- The MRH hands the answer of the head to the transmitter; the entry stays in the queue until its
answer has been sent (R158, R159). -/
def answerThen (after : AfterSent) (code : RespCode) (data : List Byte) (s : State) : State :=
  match s.mrh.queue with
  | [] => s
  | r :: _ =>
    pushAnswer ⟨.headAnswer after, respFrame r code data⟩
      { s with mrh := { s.mrh with headDone := true } }

/-- The answer of the head. -/
def answer (code : RespCode) (data : List Byte) (s : State) : State :=
  answerThen .nothing code data s

/-- The outstanding pass-through read is answered and cleared (R101, R159). -/
def answerRead (code : RespCode) (data : List Byte) (s : State) : State :=
  match s.mrh.outstanding with
  | none => s
  | some (tag, src) =>
    pushAnswer ⟨.readAnswer, ⟨src, 1, kindPassResp, tag, u8 code.num :: data⟩⟩
      { s with mrh := { s.mrh with outstanding := none } }

/-- Whether the head is a MGMT_REQ whose request code is `n`. -/
def headIs (n : Nat) (s : State) : Bool :=
  s.headReady &&
    match s.mrh.queue with
    | r :: _ => !r.pass && !r.payload.isEmpty && byteAt r.payload 0 == n
    | [] => false

/-- The parameters of the head request: its payload after the request code. -/
def State.headParams (s : State) : List Byte :=
  match s.mrh.queue with
  | r :: _ => r.payload.drop 1
  | [] => []

/-- The MRH carries out the head when it is the request `n`, with its parameters (R159). -/
def onRequest (n : Nat) (f : List Byte → State → State) (s : State) : State :=
  whenDue (headIs n) (fun s => f s.headParams s) s

end Sys2Proof.Machine
end

