-- ==== Sys2Proof/Machine/Parts.lean ====
section
/-! DEFINITION. Updating one block of the part, and the counters of one block. -/

namespace Sys2Proof.Machine

def onWdc (f : Wdc → Wdc) (s : State) : State := { s with wdc := f s.wdc }
def onZcu (f : Zcu → Zcu) (s : State) : State := { s with zcu := f s.zcu }
def onSpu (f : Spu → Spu) (s : State) : State := { s with spu := f s.spu }
def onMgt (f : Mgt → Mgt) (s : State) : State := { s with mgt := f s.mgt }
def onDlc (f : Dlc → Dlc) (s : State) : State := { s with dlc := f s.dlc }
def onRse (f : Rse → Rse) (s : State) : State := { s with rse := f s.rse }
def onDkc (f : Dkc → Dkc) (s : State) : State := { s with dkc := f s.dkc }
def onTbs (f : Tbs → Tbs) (s : State) : State := { s with tbs := f s.tbs }
def onNli (f : Nli → Nli) (s : State) : State := { s with nli := f s.nli }
def onMrh (f : Mrh → Mrh) (s : State) : State := { s with mrh := f s.mrh }
def onLbu (f : Lbu → Lbu) (s : State) : State := { s with lbu := f s.lbu }

def countZcu (f : ZcuCounters → ZcuCounters) (s : State) : State :=
  onZcu (fun z => { z with cnt := f z.cnt }) s
def countMgt (f : MgtCounters → MgtCounters) (s : State) : State :=
  onMgt (fun m => { m with cnt := f m.cnt }) s
def countDlc (f : DlcCounters → DlcCounters) (s : State) : State :=
  onDlc (fun d => { d with cnt := f d.cnt }) s
def countRse (f : RseCounters → RseCounters) (s : State) : State :=
  onRse (fun r => { r with cnt := f r.cnt }) s
def countDkc (f : DkcCounters → DkcCounters) (s : State) : State :=
  onDkc (fun d => { d with cnt := f d.cnt }) s
def countTbs (f : TbsCounters → TbsCounters) (s : State) : State :=
  onTbs (fun t => { t with cnt := f t.cnt }) s
def countNli (f : NliCounters → NliCounters) (s : State) : State :=
  onNli (fun n => { n with cnt := f n.cnt }) s

end Sys2Proof.Machine
end

