-- ==== Sys2Proof/Machine/Post.lean ====
section
/-! DEFINITION. The drive post queue, arbitration and the hazard discard of the Drive Link Controller
(05 sections 5.3, 5.4, 5.6). -/

namespace Sys2Proof.Machine

/-! ### Entries -/

/-- A RELAY entry. -/
def PostValue.isRelay : PostValue → Bool
  | .relay _ => true
  | _ => false

/-- A PASS_WRITE entry. -/
def PostValue.isPass : PostValue → Bool
  | .param _ => true
  | _ => false

/-- The speed a WHEEL_SET or BLADE_SET carries. -/
def PostValue.speed : PostValue → Int
  | .wheel v => v
  | .blade v => v
  | _ => 0

/-- Two set-points of the same kind, which coalesce (R89). -/
def PostValue.coalesces : PostValue → PostValue → Bool
  | .wheel _, .wheel _ => true
  | .blade _, .blade _ => true
  | _, _ => false

/-- A WHEEL_SET or BLADE_SET with a nonzero value (R98). -/
def PostValue.moving (v : PostValue) : Bool := v.speed != 0

/-- A node status record as it begins (R84): a poll is due at once. -/
def NodeRec.fresh (interval : Nat) : NodeRec :=
  ⟨.unknown, none, interval, none, LimitTimer.zero, LimitTimer.zero, LimitTimer.zero⟩

/-! ### Request frames (R85, 11 section 11.2) -/

/-- The kind byte of a request: SET 1, POLL 2, PARAM_WRITE 3, PARAM_READ 4, ECHO 5. -/
def Carried.request : Carried → Nat
  | .post (.param _) => 3
  | .post _ => 1
  | .poll => 2
  | .read _ => 4
  | .echo _ => 5

/-- The payload of the SET or PARAM_WRITE of an entry: a two-byte value, for RELAY OPEN 0 and CLOSE 1,
or the parameter number and data. -/
def PostValue.payload : PostValue → List Byte
  | .wheel v => be16i v
  | .blade v => be16i v
  | .relay close => be16 (if close then 1 else 0)
  | .param bytes => bytes

/-- The payload of a request. -/
def Carried.payload : Carried → List Byte
  | .post v => v.payload
  | .poll => []
  | .read param => param
  | .echo bytes => bytes

/-- A D-link frame as it stands on the link: node address, kind, payload length, payload and CRC. -/
def dLinkBytes (addr kind : Nat) (payload : List Byte) : List Byte :=
  let body := u8 addr :: u8 kind :: u8 payload.length :: payload
  body ++ crcBytes body

/-- The request frame of a transaction with a node. -/
def requestFrame (n : Node) (c : Carried) : List Byte := dLinkBytes (nodeAddr n) c.request c.payload

/-! ### Arbitration (R93, R94) -/

/-- A transaction begins: its request frame is formed and sent, and the response timer starts with the
timeout in force (R85). -/
def beginTx (n : Node) (c : Carried) (s : State) : State :=
  onDlc (fun d =>
    { d with
      tx := some ⟨n, s.nodeKind n, c, requestFrame n c, false, 0, s.responseTimeout, false⟩
      cnt := { d.cnt with framesSent := bump d.cnt.framesSent } }) s

/-- The exchange age of a node whose poll is due (R94). -/
def State.pollDueAge (s : State) (n : Node) : Option Nat :=
  match s.dlc.recs.get n with
  | some r => if s.pollInterval ≤ r.age then some r.age else none
  | none => none

/-- The more overdue of a node found so far and a further node of a higher address. -/
def State.worse (s : State) (best : Option (Node × Nat)) (n : Node) : Option (Node × Nat) :=
  match s.pollDueAge n with
  | none => best
  | some a =>
    match best with
    | none => some (n, a)
    | some (m, b) => if b < a then some (n, a) else some (m, b)

/-- The most overdue node, the lowest address on a tie (R94). -/
def State.mostOverdue (s : State) : Option Node :=
  (nodes.foldl s.worse none).map Prod.fst

/-- The head entry is sent, and the flush count goes up (R92, R93). -/
def sendHead (s : State) : State :=
  match s.dlc.queue with
  | [] => s
  | e :: rest =>
    beginTx e.node (.post e.val)
      (onDlc (fun d =>
        { d with queue := { e with inFlight := true } :: rest, flush := d.flush + 1 }) s)

/-- A node is polled, and the flush count returns to 0 (R93). -/
def sendPoll (n : Node) (s : State) : State :=
  beginTx n .poll
    (onDlc (fun d => { d with flush := 0, cnt := { d.cnt with polls := bump d.cnt.polls } }) s)

/-- The pending pass-through read is sent (R93, step 4). -/
def sendRead (s : State) : State :=
  match s.dlc.read with
  | none => s
  | some r =>
    beginTx r.node (.read r.param)
      (onDlc (fun d => { d with read := some { r with inFlight := true } }) s)

/-- Whether the link is free (R93). -/
def State.linkFree (s : State) : Bool := s.dlc.tx.isNone && !s.dEchoRunning

/-- Whether step 1 of R93 applies. -/
def State.queueFirst (s : State) : Bool :=
  !s.dlc.queue.isEmpty && (s.flushLimit == 0 || decide (s.dlc.flush < s.flushLimit))

/-- The DLC chooses the next transaction whenever the link is free (R93). -/
def arbitrate (s : State) : State :=
  if !s.linkFree then s
  else if s.queueFirst then sendHead s
  else
    match s.mostOverdue with
    | some n => sendPoll n s
    | none => if s.dlc.queue.isEmpty then sendRead s else sendHead s

/-! ### Posting (R89, R90) -/

/-- An entry joins the tail; joining an empty queue is a moment of arbitration (R93). -/
def joinTail (e : QEntry) (s : State) : State :=
  let t := onDlc (fun d => { d with queue := d.queue ++ [e] }) s
  if s.dlc.queue.isEmpty then arbitrate t else t

/-- Whether an entry is the one a set-point for a node replaces. -/
def QEntry.matches (n : Node) (v : PostValue) (e : QEntry) : Bool :=
  e.node == n && e.val.coalesces v

/-- An entry replaced in place; one in flight is marked resend (R89). -/
def QEntry.replaced (v : PostValue) (o : Origin) (e : QEntry) : QEntry :=
  { e with val := v, origin := o, resend := e.inFlight }

/-- A post put in the place of the entry it coalesces with (R89). -/
def replaceIn (n : Node) (v : PostValue) (o : Origin) (q : List QEntry) : List QEntry :=
  q.map fun e => if e.matches n v then e.replaced v o else e

/-- A WHEEL_SET or BLADE_SET is posted for a node (R89); the value that stands behind a zero of a DRIVE
channel reset is the one it replaces, so that the zero still goes out (R77; log entry 45). -/
def postSet (n : Node) (v : PostValue) (o : Origin) (s : State) : State :=
  if s.dlc.behind.any (QEntry.matches n v) then
    onDlc (fun d =>
      { d with
        behind := replaceIn n v o d.behind
        cnt := { d.cnt with coalesce := bump d.cnt.coalesce } }) s
  else if s.dlc.queue.any (QEntry.matches n v) then
    onDlc (fun d =>
      { d with
        queue := replaceIn n v o d.queue
        cnt := { d.cnt with coalesce := bump d.cnt.coalesce } }) s
  else joinTail ⟨n, v, o, false, false⟩ s

/-- A WHEEL_SET or BLADE_SET of an evaluation of a DRIVE channel reset is posted for a node: it follows the
zero of the reset, behind which it waits while that zero is in the queue, unless a set-point waits there
already, which it replaces (R77, R104; log entry 45, DESIGN CHOICE). -/
def postBehind (n : Node) (v : PostValue) (o : Origin) (s : State) : State :=
  if s.dlc.queue.any (QEntry.matches n v) && !s.dlc.behind.any (QEntry.matches n v) then
    onDlc (fun d => { d with behind := d.behind ++ [⟨n, v, o, false, false⟩] }) s
  else postSet n v o s

/-- Whether the queue holds a RELAY entry. -/
def State.relayQueued (s : State) : Bool := s.dlc.queue.any fun e => e.val.isRelay

/-- A relay command is posted to the POWER node: it joins the tail, or the holding place while a
RELAY entry is in the queue (R90). Without a POWER node no post is made (R135). -/
def postRelay (close : Bool) (s : State) : State :=
  match s.powerNode with
  | none => s
  | some n =>
    if s.relayQueued then
      onDlc (fun d =>
        { d with
          relayHeld := some (n, close)
          cnt := { d.cnt with
            relaySuperseded :=
              if d.relayHeld.isSome then bump d.cnt.relaySuperseded else d.cnt.relaySuperseded } }) s
    else joinTail ⟨n, .relay close, .dock, false, false⟩ s

/-! ### Leaving the queue (R77, R90, R92) -/

/-- Whether a set-point still waits behind a zero of its node in the queue (R77; log entry 45). -/
def Dlc.waits (d : Dlc) (e : QEntry) : Bool := d.queue.any (QEntry.matches e.node e.val)

/-- The set-points whose zero has left the queue join its tail, in the order they were posted (R77; log entry
45). -/
def joinBehind (d : Dlc) : Dlc :=
  { d with
    queue := d.queue ++ d.behind.filter fun e => !d.waits e
    behind := d.behind.filter d.waits }

/-- What follows when entries have left the queue: an empty queue returns the flush count to 0, the
set-points that stood behind a zero that has left join the tail (R77; log entry 45), and the held relay
command joins it once no RELAY entry is left (R90, R92). The queue is judged empty before any of them joins:
R77, R90 and R92 leave that open (log entry 75, DESIGN CHOICE). -/
def afterLeaving (d : Dlc) : Dlc :=
  let d := joinBehind (if d.queue.isEmpty then { d with flush := 0 } else d)
  match d.relayHeld with
  | some (n, c) =>
    if d.queue.any fun e => e.val.isRelay then d
    else { d with queue := d.queue ++ [⟨n, .relay c, .dock, false, false⟩], relayHeld := none }
  | none => d

/-- The entry the transaction in flight serves: the head, if it is marked in flight. -/
def Dlc.served (d : Dlc) : Option QEntry :=
  match d.queue with
  | e :: _ => if e.inFlight then some e else none
  | [] => none

/-! ### The hazard discard (R98) -/

/-- Whether the hazard discard keeps an entry. -/
def QEntry.kept (e : QEntry) : Bool := e.origin == .resp3

/-- The entries the hazard discard removes, those behind the zeros of a DRIVE reset among them (log entry
45). -/
def State.discarded (s : State) : List QEntry :=
  (s.dlc.queue ++ s.dlc.behind).filter fun e => !e.kept

/-- The hazard discard (R98). -/
def hazardDiscard (s : State) : State :=
  let removed := s.discarded
  let s := onDlc (fun d =>
    afterLeaving
      { d with
        queue := d.queue.filter QEntry.kept
        behind := d.behind.filter QEntry.kept
        relayHeld := none
        cnt := { d.cnt with discards := bumpBy removed.length d.cnt.discards } }) s
  if removed.any fun e => e.val.moving then setFlag .postDiscard [u8 removed.length] s else s

end Sys2Proof.Machine
end

