-- ==== Sys2Proof/Machine/Gate.lean ====
section
/-! DEFINITION. The Motion Gate's evaluation: source, limits, scaling, blade gate and posting (04). -/

namespace Sys2Proof.Machine

/-! ### Source, command and limits (R61, R62, R66, R68, R69) -/

/-- The dock states in which DOCK is selected (R61). -/
def DockState.drives : DockState → Bool
  | .undocked => false
  | .returnSeek => false
  | _ => true

/-- The source of the level of a running context. -/
def Source.ofLevel : Nat → Source
  | 1 => .resp1
  | 2 => .resp2
  | _ => .resp3

/-- The source an evaluation selects (R61). -/
def State.selectedSource (s : State) : Source :=
  match s.runningCtx with
  | some (l, _) => Source.ofLevel l
  | none => if s.dkc.dock.drives then .dock else .nav

/-- The origin of the entries a source posts. -/
def Source.origin : Source → Origin
  | .nav => .nav
  | .dock => .dock
  | .resp1 => .resp1
  | .resp2 => .resp2
  | .resp3 => .resp3

/-- The NAV command while it is held, its mode is DRIVE and it is not stale (R62). -/
def State.navLive (s : State) : Option NavCmd :=
  match s.mgt.cmd with
  | some c => if c.mode == .drive && s.mgt.age.st == .running then some c else none
  | none => none

/-- The wheel pair a source supplies (R62). -/
def State.sourcePair (s : State) (src : Source) : Int × Int :=
  match src with
  | .nav =>
    match s.navLive with
    | some c => (c.left, c.right)
    | none => (0, 0)
  | .dock => (s.dkc.cmdL, s.dkc.cmdR)
  | _ =>
    match s.runningCtx with
    | some (_, c) => (c.left, c.right)
    | none => (0, 0)

/-- The slope band (R66). -/
def State.slopeBand (s : State) : Nat := if s.tiltUnknown then 7 else min (s.slope / 50) 7

/-- The proximity percent, by the active zone and the strength that the gate sees (R68). -/
def State.nearWirePercent (s : State) (src : Source) : Nat :=
  match s.mgt.zone with
  | some i =>
    if src != .dock && decide (0 < s.nearLevel i) && decide (s.nearLevel i ≤ s.mgt.prox) then
      s.nearPercent i
    else 100
  | none => 100

/-- The limits of the ground the mower is on: the active zone's, or the defaults (R69). -/
def State.groundLimits (s : State) : Nat × Nat :=
  match s.mgt.zone with
  | some i => (s.zoneForward i, s.zoneReverse i)
  | none => (s.defaultForward, s.defaultReverse)

/-- The base limits F_b and R_b (R69). -/
def State.baseLimits (s : State) (src : Source) : Nat × Nat :=
  match s.dkc.dock with
  | .contact => (0, 0)
  | .docked => (0, 0)
  | d =>
    if src != .dock then s.groundLimits
    else
      match d with
      | .follow => (s.followSpeed, s.turnDelta)
      | .approach => (s.approachSpeed, s.turnDelta)
      | .departing => (0, s.departureSpeed)
      | .backoff => (0, s.departureSpeed)
      | _ => (0, 0)

/-! ### Scaling (R71) -/

/-- The limit of a side: the forward limit for a speed of 0 or above, else the reverse limit. -/
def sideLimit (f r : Nat) (v : Int) : Nat := if 0 ≤ v then f else r

/-- Whether a side overshoots its limit. -/
def overshoots (f r : Nat) (v : Int) : Bool := decide (sideLimit f r v < v.natAbs)

/-- Whether the left side is the one chosen: the overshooting side with the smaller ratio of limit to
speed, the left one on a tie. -/
def leftChosen (f r : Nat) (vL vR : Int) : Bool :=
  if overshoots f r vL && overshoots f r vR then
    decide (sideLimit f r vL * vR.natAbs ≤ sideLimit f r vR * vL.natAbs)
  else overshoots f r vL

/-- The side that the scaling chooses, as the gate reports it: none where neither overshoots (R71; log entry
73). -/
def chosenSide (f r : Nat) (vL vR : Int) : Option Side :=
  if !overshoots f r vL && !overshoots f r vR then none
  else some (if leftChosen f r vL vR then .left else .right)

/-- A speed times a fraction, truncated toward zero. -/
def scaleBy (v : Int) (num den : Nat) : Int := (v * (num : Int)).tdiv (den : Int)

/-- The wheel pair within the limits (R71). -/
def scalePair (f r : Nat) (vL vR : Int) : Int × Int :=
  if !overshoots f r vL && !overshoots f r vR then (vL, vR)
  else
    let v := if leftChosen f r vL vR then vL else vR
    (scaleBy vL (sideLimit f r v) v.natAbs, scaleBy vR (sideLimit f r v) v.natAbs)

/-! ### The blade gate (R72) -/

/-- Whether a source lets the blade follow the host's request. -/
def State.bladeSource (s : State) (src : Source) : Bool :=
  match src with
  | .nav => true
  | .resp1 =>
    match s.runningCtx with
    | some (_, c) => !c.bladeStop
    | none => false
  | _ => false

/-- The effective blade value (R72). -/
def State.bladeValue (s : State) (src : Source) : Nat :=
  match s.navLive, s.mgt.zone with
  | some c, some i =>
    if s.bladeSource src && s.dkc.dock == .undocked && !s.liftCond && s.zoneBlade i &&
        s.derateBlade s.slopeBand then
      min c.blade (s.zoneBladeMax i)
    else 0
  | _, _ => 0

/-! ### Posting (R73, R74, R76) -/

/-- The set-point due at an address, for a wheel or blade node (R73). -/
def State.dueAt (s : State) (n : Node) : Option PostValue :=
  match s.nodeKind n with
  | .wheelLeft => some (.wheel s.mgt.outL)
  | .wheelRight => some (.wheel s.mgt.outR)
  | .blade => some (.blade s.mgt.outBlade)
  | _ => none

/-- The gate records a value as last posted and counts the post (R74). -/
def recordPost (n : Node) (v : PostValue) (s : State) : State :=
  onMgt (fun m =>
    { m with
      posted := m.posted.set n v.speed
      cnt := { m.cnt with posts := bump m.cnt.posts } }) s

/-- The gate posts a value for an address, records it as last posted and counts it (R74). -/
def gatePost (n : Node) (v : PostValue) (o : Origin) (s : State) : State :=
  recordPost n v (postSet n v o s)

/-- An address whose value due differs from its last posted value is posted (R74). -/
def postIfDue (s : State) (n : Node) : State :=
  match s.dueAt n with
  | some v => if s.mgt.posted.get n = v.speed then s else gatePost n v s.mgt.source.origin s
  | none => s

/-- The comparison that ends an evaluation; during a D-link echo test posting is held (R74, R76). -/
def postDue (s : State) : State := if s.dEchoRunning then s else nodes.foldl postIfDue s

/-- The gate's own figures of an evaluation (R61 to R72). -/
def State.evaluated (s : State) : Mgt :=
  let src := s.selectedSource
  let ps := s.derateSpeed s.slopeBand
  let pn := s.nearWirePercent src
  let base := s.baseLimits src
  let feff := base.1 * ps * pn / 10000
  let reff := base.2 * ps * pn / 10000
  let pair := s.sourcePair src
  let out := scalePair feff reff pair.1 pair.2
  { s.mgt with
    source := src
    band := s.slopeBand
    ps := ps
    pn := pn
    fb := base.1
    rb := base.2
    feff := feff
    reff := reff
    chosen := chosenSide feff reff pair.1 pair.2
    outL := out.1
    outR := out.2
    outBlade := s.bladeValue src
    cnt := { s.mgt.cnt with
      sourceChanges :=
        if src = s.mgt.source then s.mgt.cnt.sourceChanges else bump s.mgt.cnt.sourceChanges } }

/-- One evaluation of the gate (R70). -/
def evaluate (s : State) : State := postDue { s with mgt := s.evaluated }

/-! ### Zero posts (R75, R77, R82) -/

/-- The zero set-point of an address, if a wheel or blade node is fitted there. -/
def State.zeroAt (s : State) (n : Node) : Option PostValue :=
  match s.nodeKind n with
  | .wheelLeft => some (.wheel 0)
  | .wheelRight => some (.wheel 0)
  | .blade => some (.blade 0)
  | _ => none

/-- The zero posts of a hazard entry, unconditional and counted, with origin RESP3 (R75). -/
def hazardZeroPosts (s : State) : State :=
  nodes.foldl (fun s n =>
    match s.zeroAt n with
    | some v => gatePost n v .resp3 s
    | none => s) s

/-- The gate takes a new level-3 context: the zero posts, then its evaluation (R75). -/
def gateHazard (s : State) : State := evaluate (hazardZeroPosts s)

/-- An address whose value due differs from its last posted value is posted behind the zeros of a DRIVE
channel reset, recorded and counted (R74, R77). -/
def postBehindIfDue (s : State) (n : Node) : State :=
  match s.dueAt n with
  | some v =>
    if s.mgt.posted.get n = v.speed then s
    else recordPost n v (postBehind n v s.mgt.source.origin s)
  | none => s

/-- An evaluation that follows the zero posts of a DRIVE channel reset, whose own posts follow them in the
queue (R77). No D-link echo runs any more then, so that nothing holds the posting. -/
def evaluateBehind (s : State) : State :=
  nodes.foldl postBehindIfDue { s with mgt := s.evaluated }

/-- One evaluation, which follows the zero posts of a DRIVE channel reset where `behind` says so. -/
def evaluateAs (behind : Bool) (s : State) : State := if behind then evaluateBehind s else evaluate s

/-- The zero posts of a DRIVE channel reset, which are the DLC's: the gate records the zeros and does
not count them (R77, R104). -/
def resetZeroPosts (s : State) : State :=
  nodes.foldl (fun s n =>
    match s.zeroAt n with
    | some v =>
      onMgt (fun m => { m with posted := m.posted.set n 0 }) (postSet n v s.mgt.source.origin s)
    | none => s) s

/-- The gate's part in a swap before its evaluation: a newly fitted wheel or blade address is posted
zero, and an address that left those kinds is forgotten (R82). -/
def swapZeroPosts (before : PerSix NodeKind) (s : State) : State :=
  nodes.foldl (fun s n =>
    if s.nodeKind n = before.get n then s
    else
      match s.zeroAt n with
      | some v => gatePost n v s.mgt.source.origin s
      | none => onMgt (fun m => { m with posted := m.posted.set n 0 }) s) s

end Sys2Proof.Machine
end

