-- ==== Sys2Proof/Machine/Hazard.lean ====
section
/-! DEFINITION. Level-3 triggers: the hazard entry and the joining of a hazard (06 R118), and the two
level-3 triggers of the Zone Context Unit that other blocks' events release (02 R37, R38). -/

namespace Sys2Proof.Machine

/-! ### The hazard entry (R118) -/

/-- A fixed kind joins a hazard set. -/
def HazardSet.add (h : HazardSet) (t : Trig) : HazardSet :=
  match t with
  | .lift => { h with lift := true }
  | .tiltOver => { h with tiltOver := true }
  | .wireLost => { h with wireLost := true }
  | .nodeLost => { h with nodeLost := true }
  | .outsideLimit => { h with outsideLimit := true }
  | _ => h

/-- The trigger-received counter of a kind increments (R105). -/
def arrived (t : Trig) (s : State) : State :=
  countRse (fun c => { c with received := c.received.modify t.num bump }) s

/-- The level-3 context of a trigger: it has passed BLADE_STOP and rests on HOLD (R108, R118). Its
remaining repeats are a free value (log entry 20). -/
def hazardCtx (t : Trig) (d : Option Nat) : Ctx :=
  { trigger := t
    detail := d
    hazards := HazardSet.none.add t
    seq := none
    step := 1
    remaining := none
    repeats := Config.hazardRepeats.toNat
    bladeStop := true
    left := 0
    right := 0
    entered := true }

/-- How many contexts are held. -/
def Rse.held (r : Rse) : Nat :=
  (if r.ctx1.isSome then 1 else 0) + (if r.ctx2.isSome then 1 else 0) +
    (if r.ctx3.isSome then 1 else 0)

/-- The detail of a response event: the trigger kind and its pin, slot or address, 0 where it carries
none (R123, 11 section 11.1). -/
def trigDetail (t : Trig) (d : Option Nat) : List Byte := [u8 t.num, u8 (d.getD 0)]

/-- A timer while a response context is held: RUNNING becomes HELD with its elapsed time (R141). -/
def Timer.hold (t : Timer) : Timer := if t.st = .running then { t with st := .held } else t

/-- The DKC is told that a context is held (R141). -/
def dkcHold (s : State) : State :=
  onDkc (fun d =>
    { d with
      approachT := d.approachT.hold
      relayT := d.relayT.hold
      motionT := d.motionT.hold }) s

/-- Steps 1 to 3 of R118: every context held is discarded, the level-3 context is created and the
STOP line is asserted. -/
def hazardCreate (t : Trig) (d : Option Nat) (s : State) : State :=
  onRse (fun r =>
    { r with
      ctx1 := none
      ctx2 := none
      ctx3 := some (hazardCtx t d)
      stopHazard := true
      cnt := { r.cnt with
        discarded := bumpBy r.held r.cnt.discarded
        created3 := bump r.cnt.created3 } }) s

/-- The hazard entry (R118): the context and the STOP line, the HAZARD flag, the hazard discard, then
the zero posts and the evaluation of the gate, and the DKC's timers HELD (R114, R141). -/
def hazardEntry (t : Trig) (d : Option Nat) (s : State) : State :=
  dkcHold (gateHazard (hazardDiscard (setFlag .hazard (trigDetail t d) (hazardCreate t d s))))

/-- A level-3 trigger under a level-3 context joins its hazard set (R118). -/
def hazardJoin (t : Trig) (c : Ctx) (s : State) : State :=
  onRse (fun r =>
    { r with
      ctx3 := some { c with hazards := c.hazards.add t }
      cnt := { r.cnt with joined := bump r.cnt.joined } }) s

/-- A fixed trigger arrives (R105, R118). -/
def raiseFixed (t : Trig) (d : Option Nat) (s : State) : State :=
  match s.rse.ctx3 with
  | some c => hazardJoin t c (arrived t s)
  | none => hazardEntry t d (arrived t s)

/-! ### WIRE_LOST and OUTSIDE_LIMIT (R37, R38) -/

/-- WIRE_LOST clears its arm and is counted (R37). -/
def wireLostTaken (s : State) : State :=
  onZcu (fun z =>
    { z with wireLostArm := false, cnt := { z.cnt with wireLost := bump z.cnt.wireLost } }) s

/-- The test of R37 as a dock state change makes it; a frozen context raises nothing (R42). -/
def wireLostTest (s : State) : State :=
  if s.zcu.frozen || !s.wireLostCond || !s.zcu.wireLostArm || s.dkc.dock == .docked then s
  else raiseFixed .wireLost none (wireLostTaken s)

/-- OUTSIDE_LIMIT is due for a HELD timer: the moment no context is held, outside a freeze, finds the
active slot (R38, R42). -/
def State.outsideHeldDue (s : State) : Option Slot :=
  if s.zcu.outTimer.st == .held && !s.zcu.frozen && !s.ctxHeld then s.zcu.active else none

/-- OUTSIDE_LIMIT is raised: the timer goes SPENT and it is counted (R38). -/
def outsideRaise (i : Slot) (s : State) : State :=
  raiseFixed .outsideLimit (some i.val)
    (onZcu (fun z =>
      { z with
        outTimer := { z.outTimer with st := .spent }
        cnt := { z.cnt with outside := bump z.cnt.outside } }) s)

/-- The ZCU sees whether no context is held: OUTSIDE_LIMIT is raised for a HELD timer (R38). -/
def outsideTest (s : State) : State :=
  match s.outsideHeldDue with
  | some i => outsideRaise i s
  | none => s

end Sys2Proof.Machine
end

