-- ==== Sys2Proof/Machine/Dock.lean ====
section
/-! DEFINITION. The Dock Controller: its states, timers, contact, steering and handshake (07). -/

namespace Sys2Proof.Machine

/-! ### Numbers and parts -/

/-- A dock state as the layouts number it, in the order of Table 7-1. -/
def DockState.num : DockState → Nat
  | .undocked => 0
  | .returnSeek => 1
  | .follow => 2
  | .approach => 3
  | .contact => 4
  | .docked => 5
  | .departing => 6
  | .backoff => 7
  | .dockFault => 8

/-- A return reason as the layouts number it, in the order of Table 7-2. -/
def ReturnReason.num : ReturnReason → Nat
  | .noReason => 0
  | .nav => 1
  | .battery => 2
  | .rain => 3

/-- The details of DOCK_FAULT_EVENT (11 section 11.1). -/
inductive DockFaultCause | retriesSpent | relayStuck
  deriving DecidableEq, Repr

def DockFaultCause.num : DockFaultCause → Nat
  | .retriesSpent => 0
  | .relayStuck => 1

def countReturn (r : ReturnReason) (c : DkcCounters) : DkcCounters :=
  match r with
  | .nav => { c with returnsNav := bump c.returnsNav }
  | .battery => { c with returnsBattery := bump c.returnsBattery }
  | .rain => { c with returnsRain := bump c.returnsRain }
  | .noReason => c

/-- Whether an enabled GUIDE slot and an enabled STATION slot exist (07 section 7.2). -/
def State.canReturn (s : State) : Bool := s.guideSlot.isSome && s.stationSlot.isSome

/-- A timer that starts from 0: RUNNING, or HELD while a context is held (R133, R135, R136, R141). -/
def State.timerStart (s : State) : Timer := ⟨if s.ctxHeld then .held else .running, 0⟩

/-- A timer that goes on with its elapsed time: RUNNING, or HELD while a context is held. -/
def State.timerResume (s : State) (t : Timer) : Timer :=
  { t with st := if s.ctxHeld then .held else .running }

def setDock (d : DockState) (s : State) : State := onDkc (fun k => { k with dock := d }) s

def setCmd (l r : Int) (s : State) : State := onDkc (fun k => { k with cmdL := l, cmdR := r }) s

/-- The straight reverse at the departure speed (Table 7-1). -/
def reverseCmd (s : State) : State :=
  setCmd (-(s.departureSpeed : Int)) (-(s.departureSpeed : Int)) s

/-! ### Steering (R132) -/

/-- The steering pair of a LEFT_INSIDE guide: none where the guide is LOST. -/
def steerPair (loop : LoopState) (left : LaneClass) (s d : Int) : Option (Int × Int) :=
  match loop with
  | .straddle => if left = .inside then some (s, s) else some (d, -d)
  | .inside => some (s + d, s - d)
  | .outside => some (s - d, s + d)
  | .lost => none
  | _ => some (0, 0)

/-- A steering speed brought into range after the sum. -/
def steerClamp (p : Int × Int) : Int × Int := (clampI (-2000) 2000 p.1, clampI (-2000) 2000 p.2)

/-- The base speed of R132. -/
def State.steerSpeed (s : State) : Nat :=
  if s.dkc.dock = .approach then s.approachSpeed else s.followSpeed

/-- The steering pair of the guide as seen; RIGHT_INSIDE is the mirror image. -/
def State.steering (s : State) : Option (Int × Int) :=
  let g := s.dkc.guide
  if s.rightInside then
    (steerPair g.loop g.right s.steerSpeed s.turnDelta).map fun p => steerClamp (p.2, p.1)
  else (steerPair g.loop g.left s.steerSpeed s.turnDelta).map steerClamp

/-- A LOST guide in FOLLOW or APPROACH (R132). -/
def guideLostFall (s : State) : State :=
  setFlag .guideLost [u8 s.dkc.dock.num]
    (onDkc (fun k =>
      { k with
        dock := .returnSeek
        approachT := k.approachT.stop
        cmdL := 0
        cmdR := 0
        cnt := { k.cnt with guideLost := bump k.cnt.guideLost } }) s)

/-- The steering pair is formed, or the guide is LOST (R132). -/
def formSteering (s : State) : State :=
  match s.steering with
  | some (l, r) => setCmd l r s
  | none => guideLostFall s

/-! ### Entries (R131 to R139) -/

/-- The entry to CONTACT (R134, R135, R139): the approach timer goes HELD with its elapsed time, whatever the
context and the origin (R133; log entry 50). -/
def enterContact (origin : ContactOrigin) (s : State) : State :=
  let t := s.timerStart
  postRelay true
    (onDkc (fun k =>
      { k with
        dock := .contact
        origin := origin
        approachT := { k.approachT with st := .held }
        relayT := t
        cmdL := 0
        cmdR := 0
        cnt := { k.cnt with contacts := bump k.cnt.contacts } }) s)

/-- The entry to APPROACH from FOLLOW (R133, R134). -/
def enterApproach (s : State) : State :=
  let t := s.timerStart
  let s := formSteering
    (onDkc (fun k =>
      { k with
        dock := .approach
        approachT := t
        cnt := { k.cnt with approaches := bump k.cnt.approaches } }) s)
  if s.dkc.dock = .approach ∧ s.dkc.established then enterContact .approach s else s

/-- The station test (R133). -/
def State.stationReached (s : State) : Bool :=
  s.dkc.station.loop == .inside || decide (s.stationLevel ≤ s.dkc.station.strength)

/-- The station test as FOLLOW makes it (R133). -/
def stationTest (s : State) : State :=
  if s.dkc.dock = .follow ∧ s.stationReached then enterApproach s else s

/-- The entry to FOLLOW: the steering, then the station test (R131, R132, R133). -/
def enterFollow (s : State) : State := stationTest (formSteering (setDock .follow s))

/-- RETURN_SEEK leaves for FOLLOW while the guide is STRADDLE (R131). -/
def seekTest (s : State) : State :=
  if s.dkc.dock = .returnSeek ∧ s.dkc.guide.loop = .straddle then enterFollow s else s

/-- The return entry (R131). -/
def returnEntry (reason : ReturnReason) (s : State) : State :=
  seekTest
    (setFlag .returnStarted [u8 reason.num]
      (onDkc (fun k =>
        { k with
          dock := .returnSeek
          retry := 0
          reason := reason
          batteryT := k.batteryT.stop
          rainT := k.rainT.stop
          cmdL := 0
          cmdR := 0
          cnt := countReturn reason k.cnt }) s))

/-- What a battery or rain expiry or a RETURN leads to in UNDOCKED (R128 to R130). -/
def tryReturn (reason : ReturnReason) (s : State) : State :=
  if s.canReturn then returnEntry reason s
  else countDkc (fun c => { c with unavailable := bump c.unavailable }) s

/-- The rain judgement (R130). -/
def rainJudge (s : State) : State :=
  let j := s.dkc.rainT.judge (s.rainReturn && s.dkc.rain) s.rainPersistence
  let s := onDkc (fun k => { k with rainT := j.1 }) s
  if j.2 then tryReturn .rain s else s

/-- The entry to UNDOCKED (R139). -/
def enterUndocked (s : State) : State :=
  rainJudge
    (onDkc (fun k =>
      { k with
        dock := .undocked
        cmdL := 0
        cmdR := 0
        approachT := k.approachT.stop
        relayT := k.relayT.stop
        motionT := k.motionT.stop }) s)

/-- The entry to BACKOFF (R136). -/
def enterBackoff (mark : Bool) (s : State) : State :=
  let t := s.timerStart
  reverseCmd
    (onDkc (fun k =>
      { k with
        dock := .backoff
        backoffRelay := mark
        approachT := k.approachT.stop
        relayT := k.relayT.stop
        motionT := t
        cnt := { k.cnt with backoffs := bump k.cnt.backoffs } }) s)

/-- The entry to DOCK_FAULT (R136, R138). -/
def enterDockFault (cause : DockFaultCause) (s : State) : State :=
  setFlag .dockFaultEvent [u8 cause.num]
    (onDkc (fun k =>
      { k with
        dock := .dockFault
        relayT := k.relayT.stop
        motionT := k.motionT.stop
        cmdL := 0
        cmdR := 0
        cnt := { k.cnt with dockFaults := bump k.cnt.dockFaults } }) s)

/-- The entry to DOCKED (R135). -/
def enterDocked (s : State) : State :=
  setFlag .dockedEvent [u8 s.dkc.retry]
    (onDkc (fun k =>
      { k with
        dock := .docked
        relayT := k.relayT.stop
        approachT := k.approachT.stop
        cmdL := 0
        cmdR := 0
        cnt := { k.cnt with docks := bump k.cnt.docks } }) s)

/-- Docked at start-up (R139). -/
def startContact (s : State) : State :=
  enterContact .start
    (onDkc (fun k =>
      { k with retry := 0, batteryT := k.batteryT.stop, rainT := k.rainT.stop }) s)

/-! ### The power node (R127, R129, R135, R137, R138) -/

/-- The contact is established. -/
def contactEstablished (s : State) : State :=
  match s.dkc.dock with
  | .approach => enterContact .approach s
  | .undocked => if s.wheelsStill then startContact s else s
  | _ => s

/-- CONTACT loses the contact: RELAY OPEN, and back to where the origin says (R135). -/
def contactLostInContact (s : State) : State :=
  let s := postRelay false (onDkc (fun k => { k with relayT := k.relayT.stop }) s)
  match s.dkc.origin with
  | .start => enterUndocked s
  | .approach =>
    let t := s.timerResume s.dkc.approachT
    formSteering (onDkc (fun k => { k with dock := .approach, approachT := t }) s)

/-- DOCKED loses the contact (R137). -/
def contactLostInDocked (s : State) : State :=
  enterUndocked
    (setFlag .dockLost []
      (countDkc (fun c => { c with dockLost := bump c.dockLost }) (postRelay false s)))

/-- The contact is lost. -/
def contactLost (s : State) : State :=
  match s.dkc.dock with
  | .contact => contactLostInContact s
  | .docked => contactLostInDocked s
  | _ => s

/-- The contact report of a power STATUS (R127). -/
def takeContact (present : Bool) (s : State) : State :=
  let k := s.dkc
  if present then
    let n := min (k.present + 1) 15
    if !k.established && decide (s.contactDebounce ≤ n) then
      contactEstablished { s with dkc := { k with present := n, absent := 0, established := true } }
    else { s with dkc := { k with present := n, absent := 0 } }
  else
    let n := min (k.absent + 1) 15
    if k.established && decide (s.contactDebounce ≤ n) then
      contactLost { s with dkc := { k with absent := n, present := 0, established := false } }
    else { s with dkc := { k with absent := n, present := 0 } }

/-- DEPARTING begins its reverse (R138). -/
def beginReverse (s : State) : State :=
  let t := s.timerStart
  reverseCmd
    (onDkc (fun k => { k with relayT := k.relayT.stop, phase := .reversing, motionT := t }) s)

/-- The relay report of a power STATUS (R135, R138). -/
def takeRelay (closed : Bool) (s : State) : State :=
  match s.dkc.dock with
  | .contact => if closed then enterDocked s else s
  | .departing => if s.dkc.phase = .waitOpen ∧ closed = false then beginReverse s else s
  | _ => s

/-- Whether the POWER node is RESPONSIVE (R129). -/
def State.powerResponsive (s : State) : Bool :=
  match s.powerNode with
  | some n => s.nodeState n == some .responsive
  | none => false

/-- The battery report of a power STATUS (R129). -/
def takeBattery (mv : Nat) (s : State) : State :=
  if s.dkc.dock = .undocked then
    let low := decide (0 < s.returnThreshold) && s.powerResponsive && decide (mv < s.returnThreshold)
    let j := s.dkc.batteryT.judge low s.returnPersistence
    let s := onDkc (fun k => { k with batteryT := j.1 }) s
    if j.2 then tryReturn .battery s else s
  else s

/-- The presses of a button count reported after the one seen (R127). -/
def pressesSince (seen reported : Nat) : Nat := (reported + 256 - seen) % 256

/-- The button count of a power STATUS (R127, R137). -/
def takeButton (count : Nat) (s : State) : State :=
  let presses := match s.dkc.button with
    | none => 0
    | some seen => pressesSince seen count
  let s := onDkc (fun k => { k with button := some count }) s
  if s.dkc.dock = .docked ∧ 0 < presses then
    setFlag .stationRequest [u8 presses]
      (countDkc (fun c => { c with stationRequests := bumpBy presses c.stationRequests }) s)
  else s

/-- A power STATUS: contact, relay, battery and button count, in this order, each judged by the dock
state the fields before it left (R127; log entry 48). -/
def takePower (contact closed : Bool) (mv button : Nat) (s : State) : State :=
  takeButton button (takeBattery mv (takeRelay closed (takeContact contact s)))

/-- The POWER node is no longer RESPONSIVE (R127, R129). -/
def powerSilent (s : State) : State :=
  onDkc (fun k =>
    { k with present := 0, absent := 0, established := false, batteryT := k.batteryT.stop }) s

/-! ### Hand-offs of the Zone Context Unit and the Sense Pin Unit -/

/-- A guide hand-off (R131, R132). -/
def takeGuide (g : GuideSeen) (s : State) : State :=
  let s := onDkc (fun k => { k with guide := g }) s
  match s.dkc.dock with
  | .returnSeek => seekTest s
  | .follow => formSteering s
  | .approach => formSteering s
  | _ => s

/-- A station hand-off (R133). -/
def takeStation (v : StationSeen) (s : State) : State :=
  stationTest (onDkc (fun k => { k with station := v }) s)

/-- A change of the rain condition (R130). -/
def takeRain (rain : Bool) (s : State) : State :=
  let s := onDkc (fun k => { k with rain := rain }) s
  if s.dkc.dock = .undocked then rainJudge s else s

/-! ### Timer expiries -/

/-- The approach has failed (R134). -/
def approachExpired (s : State) : State :=
  enterBackoff false
    (countDkc (fun c => { c with approachTimeouts := bump c.approachTimeouts }) s)

/-- The relay timeout (R135, R138). -/
def relayExpired (s : State) : State :=
  match s.dkc.dock with
  | .contact =>
    enterBackoff true
      (countDkc (fun c => { c with relayTimeouts := bump c.relayTimeouts }) (postRelay false s))
  | .departing => enterDockFault .relayStuck s
  | _ => s

/-- BACKOFF has run its departure time (R136). -/
def backoffDone (s : State) : State :=
  let s := onDkc (fun k => { k with motionT := k.motionT.stop }) s
  if s.canReturn && decide (s.dkc.retry < s.stationRetries) then
    enterFollow
      (onDkc (fun k =>
        { k with retry := k.retry + 1, cnt := { k.cnt with retries := bump k.cnt.retries } }) s)
  else enterDockFault .retriesSpent s

/-- The motion timer has reached the departure time (R136, R138). -/
def motionExpired (s : State) : State :=
  match s.dkc.dock with
  | .backoff => backoffDone s
  | .departing => enterUndocked s
  | _ => s

/-- The battery timer has reached the return persistence (R129). -/
def batteryExpired (s : State) : State :=
  tryReturn .battery (onDkc (fun k => { k with batteryT := k.batteryT.spend }) s)

/-- The rain timer has reached the rain persistence (R130), also where a swap has turned the rain-return
flag off meanwhile (log entry 68). -/
def rainExpired (s : State) : State :=
  tryReturn .rain (onDkc (fun k => { k with rainT := k.rainT.spend }) s)

/-! ### Requests (R128, R138, R140) -/

/-- RETURN (R128). -/
def dockReturn (s : State) : State :=
  if s.dkc.dock = .undocked then tryReturn .nav s else s

/-- Whether RETURN is answered OK (R128). -/
def State.returnAccepted (s : State) : Bool := s.dkc.dock == .undocked && s.canReturn

/-- UNDOCK in DOCKED (R138). -/
def dockUndock (s : State) : State :=
  let t := s.timerStart
  postRelay false
    (onDkc (fun k =>
      { k with
        dock := .departing
        phase := .waitOpen
        relayT := t
        cnt := { k.cnt with departures := bump k.cnt.departures } }) s)

/-- The dock states in which CANCEL_RETURN is answered OK (R140). -/
def DockState.cancellable : DockState → Bool
  | .undocked => false
  | .docked => false
  | .departing => false
  | _ => true

/-- CANCEL_RETURN (R140). -/
def dockCancel (s : State) : State :=
  let s := countDkc (fun c => { c with cancels := bump c.cancels }) s
  enterUndocked (if s.dkc.dock = .contact then postRelay false s else s)

/-! ### The end of a response (R141) -/

/-- A HELD timer resumes with its elapsed time (R141). -/
def Timer.unhold (t : Timer) : Timer := if t.st = .held then { t with st := .running } else t

/-- The relay command posted again at the end of a context: CLOSE, OPEN or none (R141). -/
def State.relayRepost (s : State) : Option Bool :=
  match s.dkc.dock with
  | .contact => some true
  | .departing => if s.dkc.phase = .waitOpen then some false else none
  | .backoff => if s.dkc.backoffRelay then some false else none
  | _ => none

/-- A relay command is posted again and counted, if a POWER node is fitted (R141). -/
def repostRelay (c : Option Bool) (s : State) : State :=
  match c with
  | none => s
  | some close =>
    if s.powerNode.isSome then
      countDkc (fun k => { k with relayReposts := bump k.relayReposts }) (postRelay close s)
    else s

/-- No context is held any longer (R141). -/
def dkcResume (s : State) : State :=
  let again := s.relayRepost
  let s := onDkc (fun k =>
    { k with
      approachT := if k.dock = .contact then k.approachT else k.approachT.unhold
      relayT := k.relayT.unhold
      motionT := k.motionT.unhold }) s
  let s := match s.dkc.dock with
    | .follow => stationTest (formSteering s)
    | .approach => formSteering s
    | _ => s
  repostRelay again s

/-! ### One event at the DKC (R126) -/

/-- Whether the dock state or the dock command differ. -/
def Dkc.handsOn (a b : Dkc) : Bool := a.dock != b.dock || a.cmdL != b.cmdL || a.cmdR != b.cmdR

/-- An event at the DKC: its own effects; then the gate's one evaluation, if the dock state or the
dock command changed; then the test of R37, if the dock state changed (R126; log entry 7). -/
def dkcEvent (f : State → State) (s : State) : State :=
  let t := f s
  let u := if t.dkc.handsOn s.dkc then evaluate t else t
  if t.dkc.dock = s.dkc.dock then u else wireLostTest u

end Sys2Proof.Machine
end

