-- ==== Sys2Proof/Machine/Respond.lean ====
section
/-! DEFINITION. The Response Engine: sequences, contexts of level 1 and 2, tabled triggers, and the
removal of contexts (06). -/

namespace Sys2Proof.Machine

/-! ### Steps (R107, R109, R110) -/

/-- Whether a sequence's repeat block is in effect (R107). -/
def State.blockInEffect (s : State) (q : Nat) : Bool :=
  decide (s.repeatStart q ≤ s.repeatEnd q) && decide (s.repeatEnd q < s.stepCount q)

/-- The step after the last, if it lies within the step count (R110, step 2). -/
def State.stepAfter (s : State) (q i rep : Nat) : Option (Nat × Nat) :=
  if i + 1 < s.stepCount q then some (i + 1, rep) else none

/-- The step a context goes on to when step `i` has ended with `rep` remaining repeats, and the
repeats then remaining; none where the sequence is complete (R110). -/
def State.nextStep (s : State) (q i rep : Nat) : Option (Nat × Nat) :=
  if i = s.repeatEnd q ∧ s.blockInEffect q then
    if s.repeatCount q = 0 then some (s.repeatStart q, rep)
    else if 1 < rep then some (s.repeatStart q, rep - 1)
    else s.stepAfter q i rep
  else s.stepAfter q i rep

/-- The most steps a validated sequence can pass in no time: eight steps, 255 times, and eight more
(log entry 22). -/
def stepFuel : Nat := 2056

/-- A context rests on a step. -/
def Ctx.rest (c : Ctx) (l r : Int) (remaining : Option Nat) : Ctx :=
  { c with left := l, right := r, remaining := remaining }

/-- A context enters step `j` of its sequence and passes through every step that takes no time; none
where it ends (R109, R110). -/
def State.enterStep (s : State) (q : Nat) : Nat → Ctx → Nat → Option Ctx
  | 0, _, _ => none
  | fuel + 1, c, j =>
    let c := { c with step := j, entered := true }
    let pass (c : Ctx) : Option Ctx :=
      match s.nextStep q j c.repeats with
      | some (k, rep) => s.enterStep q fuel { c with repeats := rep } k
      | none => none
    match s.stepAt q j with
    | .finish => none
    | .drive l r d => if d = 0 then pass (c.rest l r none) else some (c.rest l r (some d))
    | .wait d => if d = 0 then pass (c.rest 0 0 none) else some (c.rest 0 0 (some d))
    | .bladeStop => pass { c with bladeStop := true }
    | .hold => some (c.rest 0 0 none)

/-- The step a context rests on has ended, and the context advances (R110). -/
def State.leaveStep (s : State) (c : Ctx) : Option Ctx :=
  match c.seq with
  | none => some c
  | some q =>
    match s.nextStep q c.step c.repeats with
    | some (k, rep) => s.enterStep q stepFuel { c with repeats := rep } k
    | none => none

/-! ### Creating contexts (R113, R123) -/

/-- The record of a new context of level 1 or 2 (R113). -/
def State.newCtx (s : State) (t : Trig) (d : Option Nat) : Ctx :=
  { trigger := t
    detail := d
    hazards := HazardSet.none
    seq := some (s.trigSeq t)
    step := 0
    remaining := none
    repeats := s.repeatCount (s.trigSeq t)
    bladeStop := false
    left := 0
    right := 0
    entered := false }

/-- A new context created RUNNING: it enters its step 0 at once; none where it ends at once. -/
def State.startCtx (s : State) (t : Trig) (d : Option Nat) : Option Ctx :=
  s.enterStep (s.trigSeq t) stepFuel (s.newCtx t d) 0

/-- A new context created SUSPENDED: step 0 with the remaining time of that step (R113). -/
def State.suspendedCtx (s : State) (t : Trig) (d : Option Nat) : Ctx :=
  let c := s.newCtx t d
  match s.stepAt (s.trigSeq t) 0 with
  | .drive l r dur => c.rest l r (some dur)
  | .wait dur => c.rest 0 0 (some dur)
  | .hold => c.rest 0 0 none
  | _ => c.rest 0 0 (some 0)

/-- The event flag a context of level 1 or 2 sets by its trigger (R123). -/
def Trig.event : Trig → EventFlag
  | .perimeterExit => .boundaryResponse
  | .keepoutEntry => .boundaryResponse
  | _ => .obstacleResponse

def setCtx1 (c : Option Ctx) (s : State) : State := onRse (fun r => { r with ctx1 := c }) s
def setCtx2 (c : Option Ctx) (s : State) : State := onRse (fun r => { r with ctx2 := c }) s

/-- A SUSPENDED level-1 context resumes when the level-2 context is gone (R113). -/
def resumeCtx1 (s : State) : State :=
  match s.rse.ctx1 with
  | none => s
  | some c =>
    let s := countRse (fun k => { k with resumed := bump k.resumed }) s
    if c.entered then s
    else
      match c.seq with
      | some q => setCtx1 (s.enterStep q stepFuel c 0) s
      | none => s

/-- The running level-2 context becomes `c`, or ends and lets a SUSPENDED context resume (R113). -/
def putCtx2 (c : Option Ctx) (s : State) : State :=
  match c with
  | some c => setCtx2 (some c) s
  | none => resumeCtx1 (setCtx2 none s)

/-! ### Hand-offs of the response state (R114, R141; log entries 7, 8) -/

/-- The DKC and the Zone Context Unit are told that no context is held, in that order. -/
def noneLate (s : State) : State := outsideTest (dkcEvent dkcResume s)

/-- The Zone Context Unit is told first: OUTSIDE_LIMIT makes its hazard entry before the DKC is told
of the moment without a context. -/
def noneEarly (i : Slot) (s : State) : State :=
  dkcHold (dkcEvent dkcResume (outsideRaise i s))

/-- No context is left: the gate is told, and then the DKC and the Zone Context Unit, in an order the
spec leaves open where it matters (R38, R114, R141; log entry 8). -/
def toldNone (s : State) : State :=
  let s := evaluate s
  match s.outsideHeldDue with
  | none => noneLate s
  | some i => if s.choice then noneEarly i (drawn s) else noneLate (drawn s)

/-- The hand-offs after an event that changed the running context or its step; `held` says whether a
context was held before it (R114). A context created with none held that ends at once is told to the
gate alone (log entry 47). -/
def rseHandOff (held : Bool) (s : State) : State :=
  if s.ctxHeld then
    if held then evaluate s else dkcHold (evaluate s)
  else if held then toldNone s else evaluate s

/-! ### Taking a trigger (R105, R115 to R119) -/

/-- A response event is set at a creation (R123). -/
def setResponse (t : Trig) (d : Option Nat) (s : State) : State :=
  setFlag t.event (trigDetail t d) s

/-- A level-1 trigger under a running level-2 context: its context waits SUSPENDED (R117). -/
def takeSuspended (t : Trig) (d : Option Nat) (s : State) : State :=
  let c := s.suspendedCtx t d
  setResponse t d
    (onRse (fun r =>
      { r with
        ctx1 := some c
        cnt := { r.cnt with
          created1 := bump r.cnt.created1
          replaced := if r.ctx1.isSome then bump r.cnt.replaced else r.cnt.replaced } }) s)

/-- A level-1 trigger with no level-2 context: it creates or replaces (R113, R115). -/
def takeLevel1 (t : Trig) (d : Option Nat) (s : State) : State :=
  let c := s.startCtx t d
  rseHandOff s.ctxHeld
    (setResponse t d
      (onRse (fun r =>
        { r with
          ctx1 := c
          cnt := { r.cnt with
            created1 := bump r.cnt.created1
            replaced := if r.ctx1.isSome then bump r.cnt.replaced else r.cnt.replaced } }) s))

/-- A level-2 trigger: it creates, replaces a level-2 context, or preempts a level-1 context (R113,
R115, R116). -/
def takeLevel2 (t : Trig) (d : Option Nat) (s : State) : State :=
  let c := s.startCtx t d
  let counted := onRse (fun r =>
    { r with
      cnt := { r.cnt with
        created2 := bump r.cnt.created2
        replaced := if r.ctx2.isSome then bump r.cnt.replaced else r.cnt.replaced
        suspended :=
          if r.ctx2.isNone && r.ctx1.isSome then bump r.cnt.suspended else r.cnt.suspended } }) s
  rseHandOff s.ctxHeld (putCtx2 c (setResponse t d counted))

/-- The dock states in which level-1 and level-2 triggers are ignored (R119). -/
def DockState.onStation : DockState → Bool
  | .contact => true
  | .docked => true
  | _ => false

/-- A tabled trigger arrives (R105, R115 to R117, R119). -/
def raiseTabled (t : Trig) (d : Option Nat) (s : State) : State :=
  let s := arrived t s
  if s.trigLevel t = 0 then countRse (fun c => { c with unmapped := bump c.unmapped }) s
  else if s.rse.ctx3.isSome then countRse (fun c => { c with underHazard := bump c.underHazard }) s
  else if s.dkc.dock.onStation then countRse (fun c => { c with docked := bump c.docked }) s
  else if s.trigLevel t = 1 then
    if s.rse.ctx2.isSome then takeSuspended t d s else takeLevel1 t d s
  else takeLevel2 t d s

/-- A trigger arrives (R105). -/
def raise (t : Trig) (d : Option Nat) (s : State) : State :=
  if t.tabled then raiseTabled t d s else raiseFixed t d s

/-- Triggers raised by one event at their owner, as separate arrivals in order (R105). -/
def raiseAll (l : List (Trig × Option Nat)) (s : State) : State :=
  l.foldl (fun s e => raise e.1 e.2 s) s

/-! ### Step timer, cancel and clear (R111, R120, R121) -/

/-- Whether the running context's step time has run out (R111). -/
def State.stepDue (s : State) : Bool :=
  match s.runningCtx with
  | some (_, c) => c.remaining == some 0
  | none => false

/-- The running context's step has ended (R110, R111). -/
def stepExpired (s : State) : State :=
  match s.rse.ctx2 with
  | some c => rseHandOff true (putCtx2 (s.leaveStep c) s)
  | none =>
    match s.rse.ctx1 with
    | some c => rseHandOff true (setCtx1 (s.leaveStep c) s)
    | none => s

/-- CANCEL_RESPONSE removes the level-1 context (R120). -/
def cancelLevel1 (s : State) : State :=
  let s := setCtx1 none (countRse (fun c => { c with cancels := bump c.cancels }) s)
  if s.rse.ctx2.isSome then s else rseHandOff true s

/-- CANCEL_RESPONSE removes the level-2 context (R120). -/
def cancelLevel2 (s : State) : State :=
  rseHandOff true (putCtx2 none (countRse (fun c => { c with cancels := bump c.cancels }) s))

/-- An accepted CLEAR_HAZARD (R121): the context goes and the hazard reason of the STOP line. -/
def clearAccepted (s : State) : State :=
  rseHandOff true
    (onRse (fun r =>
      { r with
        ctx3 := none
        stopHazard := false
        cnt := { r.cnt with clearsAccepted := bump r.cnt.clearsAccepted } }) s)

end Sys2Proof.Machine
end

