-- ==== Sys2Proof/Machine/Sense.lean ====
section
/-! DEFINITION. The Sense Pin Unit: measuring, publishing, the roles, tilt and its resets (03). -/

namespace Sys2Proof.Machine

/-! ### Units and axes -/

/-- A unit that begins measuring in a configuration (R46). -/
def PinUnit.begin (c : PinCfg) (raw : Level) (results overruns faults : Nat) : PinUnit :=
  { PinUnit.idle c results overruns faults with
    measuring := true
    cand := raw
    debTimer := if c.mode = .level then some 0 else none }

/-- Whether a unit works a tilt role. -/
def PinUnit.tilts (u : PinUnit) (r : PinRole) : Bool := u.cfg.mode == .duty && u.cfg.role == r

/-- The pin that works a tilt role; R45 leaves at most one. -/
def Spu.tiltPin (u : Spu) (r : PinRole) : Option Pin := pins.find? fun p => (u.units.get p).tilts r

/-- An axis after units have restarted (R56, Table 3-3). -/
def Spu.axisAfter (u : Spu) (restarted : Pin → Bool) (r : PinRole) (old : Axis) : Axis :=
  match u.tiltPin r with
  | none => ⟨.absent, 0⟩
  | some p => if restarted p then ⟨.pending, 0⟩ else old

/-- Both axes after units have restarted. -/
def Spu.reformAxes (u : Spu) (restarted : Pin → Bool) : Spu :=
  { u with
    pitch := u.axisAfter restarted .tiltPitch u.pitch
    roll := u.axisAfter restarted .tiltRoll u.roll }

def setUnit (p : Pin) (u : PinUnit) (s : State) : State :=
  onSpu (fun x => { x with units := x.units.set p u }) s

/-- The axis a unit's role serves takes a value. -/
def setAxis (r : PinRole) (a : Axis) (s : State) : State :=
  match r with
  | .tiltPitch => onSpu (fun x => { x with pitch := a }) s
  | .tiltRoll => onSpu (fun x => { x with roll := a }) s
  | _ => s

/-! ### Tilt-over (R58) -/

/-- TILT_OVER is raised and the timer goes SPENT. -/
def tiltRaise (s : State) : State :=
  raiseFixed .tiltOver none (onSpu (fun x => { x with tilt := { x.tilt with st := .spent } }) s)

/-- The over-slope test at a change of the slope or of the slope max (R58). -/
def tiltTest (s : State) : State :=
  if s.overSlope then
    match s.spu.tilt.st with
    | .running => s
    | .spent => s
    | _ =>
      if s.tiltPersistence = 0 then tiltRaise s
      else onSpu (fun x => { x with tilt := ⟨.running, 0⟩ }) s
  else
    match s.spu.tilt.st with
    | .running => onSpu (fun x => { x with tilt := x.tilt.stop }) s
    | .spent => onSpu (fun x => { x with tilt := x.tilt.stop }) s
    | _ => s

/-- The test a swap brings, and after it the judgement of a timer already past the new persistence,
which raises TILT_OVER (R58; log entry 44). -/
def tiltSwapTest (s : State) : State :=
  let s := tiltTest s
  if s.spu.tilt.due s.tiltPersistence then tiltRaise s else s

/-! ### Hand-offs (R54, R55, R57; log entry 7) -/

/-- What the SPU hands on after an event: lift and slope band to the gate, which makes one evaluation for
the two (R70; log entry 72), rain to the DKC, and the tilt-over test. -/
def spuHandOff (before s : State) : State :=
  let s :=
    if s.liftCond != before.liftCond || s.slopeBand != before.slopeBand then evaluate s else s
  let s := if s.rainCond != s.dkc.rain then dkcEvent (takeRain s.rainCond) s else s
  if s.slope = before.slope then s else tiltTest s

/-! ### Publishing (R51) -/

/-- A result replaces the last one, with the flags of R51. -/
def PinUnit.publish (r : PinResult) (u : PinUnit) : PinUnit :=
  let u := { u with result := some r, results := bump u.results, sinceRestart := true }
  if u.cfg.role = .general then
    if u.ready then { u with overrun := true, overruns := bump u.overruns }
    else { u with ready := true }
  else { u with ready := true }

/-! ### Duty, faults and angles (R50, R56) -/

/-- The duty in permille of a complete period; a period of no measurable time is a free value (log
entry 21). -/
def dutyOf (high period : Nat) : Nat :=
  if period = 0 then min 1000 (Config.zeroPeriodDuty high) else high * 1000 / period

/-- Whether a tilt pin's duty is valid (R56). -/
def dutyValid (d : Nat) : Bool := decide (50 ≤ d) && decide (d ≤ 950)

/-- The angle of a duty in tenths of a degree (R56). -/
def angleOf (d : Nat) : Int := (((d : Int) - 500) * 9).tdiv 5

/-- A unit enters FAULT, or stays in it (R50, R56). -/
def enterFault (p : Pin) (s : State) : State :=
  let u := s.spu.units.get p
  if u.fault then s
  else
    let s := setUnit p { u with fault := true, faults := bump u.faults } s
    if u.tilts .tiltPitch || u.tilts .tiltRoll then
      setFlag .senseFault [u8 p.val] (setAxis u.cfg.role ⟨.fault, 0⟩ s)
    else s

/-- A complete period's duty is taken: a GENERAL pin's is always valid, a tilt pin's gives its axis
an angle or a fault (R50, R56). -/
def takeDuty (p : Pin) (d : Nat) (s : State) : State :=
  let u := s.spu.units.get p
  if u.tilts .tiltPitch || u.tilts .tiltRoll then
    if dutyValid d then
      setAxis u.cfg.role ⟨.valid, angleOf d⟩ (setUnit p { u with fault := false } s)
    else enterFault p s
  else setUnit p { u with fault := false } s

/-! ### Edges (R47 to R50) -/

/-- A raw edge at a LEVEL unit (R47). -/
def PinUnit.levelEdge (l : Level) (u : PinUnit) : PinUnit :=
  if u.deb = some l then { u with debTimer := none } else { u with cand := l, debTimer := some 0 }

/-- An edge at a PULSE_WIDTH unit (R49). -/
def PinUnit.pulseEdge (l : Level) (u : PinUnit) : PinUnit :=
  match l with
  | .high => { u with pulse := some 0 }
  | .low =>
    match u.pulse with
    | some t => { u.publish (.num (min t 65535)) with pulse := none }
    | none => u

/-- The complete period a rising edge ends, if any: its high time and its length (R50). -/
def PinUnit.complete (u : PinUnit) : Option (Nat × Nat) :=
  match u.period, u.high with
  | some p, some h => some (h, p)
  | _, _ => none

/-- A rising edge at a DUTY unit (R50). -/
def dutyRise (p : Pin) (s : State) : State :=
  let u := s.spu.units.get p
  let next := { u with period := some 0, high := none }
  match u.complete with
  | some (h, t) =>
    let d := dutyOf h t
    takeDuty p d (setUnit p { next.publish (.num d) with dutyTimer := 0 } s)
  | none => setUnit p next s

/-- An edge at a DUTY unit (R50). -/
def dutyEdge (p : Pin) (l : Level) (s : State) : State :=
  match l with
  | .high => dutyRise p s
  | .low =>
    let u := s.spu.units.get p
    match u.period with
    | some t => setUnit p { u with high := some t } s
    | none => s

/-- An edge at a measuring unit, by its mode. -/
def unitEdge (p : Pin) (l : Level) (s : State) : State :=
  let u := s.spu.units.get p
  match u.cfg.mode with
  | .off => s
  | .level => setUnit p (u.levelEdge l) s
  | .edgeCount => setUnit p { u with count := min (u.count + 1) 65535 } s
  | .pulseWidth => setUnit p (u.pulseEdge l) s
  | .duty => dutyEdge p l s

/-- A sense pin changes level. The raw level is kept in every case; during the settle the edge is not
seen (R46). -/
def pinChange (p : Pin) (l : Level) (s : State) : State :=
  if s.spu.levels.get p = l then s
  else
    let t := onSpu (fun x => { x with levels := x.levels.set p l }) s
    if (t.spu.units.get p).measuring then spuHandOff s (unitEdge p l t) else t

/-! ### Expiries -/

/-- Whether a pin's debounce timer has run out (R47). -/
def State.debounceDue (p : Pin) (s : State) : Bool :=
  let u := s.spu.units.get p
  u.measuring && u.cfg.mode == .level && u.debTimer == some (ms u.cfg.param)

/-- The trigger a LEVEL role raises when its pin becomes active (R53, R54). -/
def raiseRole (p : Pin) (r : PinRole) (s : State) : State :=
  match r with
  | .bumpFront =>
    match s.dkc.dock with
    | .approach | .contact | .docked =>
      onSpu (fun x => { x with bumpsSuppressed := bump x.bumpsSuppressed }) s
    | _ => raise .bumpFront (some p.val) s
  | .bumpRear => raise .bumpRear (some p.val) s
  | .lift => raise .lift (some p.val) s
  | _ => s

/-- The candidate becomes the debounced level and is published; then the hand-offs, and the trigger
of a role that became active (R47, R51, R53 to R55). -/
def debounced (p : Pin) (s : State) : State :=
  let u := s.spu.units.get p
  let v := { u.publish (.lvl u.cand) with deb := some u.cand, debTimer := none }
  let t := spuHandOff s (setUnit p v s)
  if u.cand = u.cfg.active then raiseRole p u.cfg.role t else t

/-- Whether a pin's count window has ended (R48). -/
def State.edgeWindowDue (p : Pin) (s : State) : Bool :=
  let u := s.spu.units.get p
  u.measuring && u.cfg.mode == .edgeCount && decide (ms u.cfg.param ≤ u.window)

/-- The count is published and the next window starts at once (R48). -/
def edgeWindowEnd (p : Pin) (s : State) : State :=
  let u := s.spu.units.get p
  setUnit p { u.publish (.num u.count) with count := 0, window := 0 } s

/-- Whether a pin's duty timeout has run out (R50). -/
def State.dutyTimeoutDue (p : Pin) (s : State) : Bool :=
  let u := s.spu.units.get p
  u.measuring && u.cfg.mode == .duty && decide (ms u.cfg.param ≤ u.dutyTimer)

/-- The duty timeout: the unit enters FAULT, where the next rising edge begins a period and completes
none, and the timer restarts (R50, R56; log entry 35). -/
def dutyTimedOut (p : Pin) (s : State) : State :=
  let u := s.spu.units.get p
  let v :=
    if u.fault then { u with dutyTimer := 0 }
    else { u with dutyTimer := 0, period := none, high := none }
  spuHandOff s (enterFault p (setUnit p v s))

/-! ### Restarts (R46, R59, R60) -/

/-- Every unit begins measuring in the configuration of the ACTIVE bank at the end of the settle, and
the settle reason of the STOP line is cleared (R46, R122). -/
def settleOver (s : State) : State :=
  let units := PerPin.of fun p =>
    let u := s.spu.units.get p
    PinUnit.begin (s.pinCfg p) (s.spu.levels.get p) u.results u.overruns u.faults
  let t := onSpu (fun x =>
    ({ x with settle := none, units := units } : Spu).reformAxes fun _ => true) s
  spuHandOff s (onRse (fun r => { r with stopSettle := false }) t)

/-- Whether the settle has run its 50 ms. -/
def State.settleDue (s : State) : Bool := s.spu.settle == some (ms 50)

/-- A unit of a SENSE channel reset; during the settle it waits for its end (R46, R60; log entry
23). -/
def State.resetUnit (s : State) (p : Pin) : PinUnit :=
  if s.spu.settle.isSome then PinUnit.idle (s.spu.units.get p).cfg 0 0 0
  else PinUnit.begin (s.pinCfg p) (s.spu.levels.get p) 0 0 0

/-- The SENSE channel reset (R60). -/
def senseReset (s : State) : State :=
  let units := PerPin.of s.resetUnit
  spuHandOff s (onSpu (fun x =>
    ({ x with units := units, tilt := Timer.zero, bumpsSuppressed := 0 } : Spu).reformAxes
      fun _ => true) s)

/-- Whether a swap restarts a unit: its configuration differs from the one it works in (R46). -/
def State.unitChanged (s : State) (p : Pin) : Bool := (s.spu.units.get p).cfg != s.pinCfg p

/-- A unit after a swap (R46). -/
def State.swapUnit (s : State) (p : Pin) : PinUnit :=
  let u := s.spu.units.get p
  if s.unitChanged p then
    PinUnit.begin (s.pinCfg p) (s.spu.levels.get p) u.results u.overruns u.faults
  else u

/-- The SPU's units at a swap, without the hand-offs; during the settle the swap is held (R46; log
entry 24). -/
def spuSwapUnits (s : State) : State :=
  if s.spu.settle.isSome then s
  else
    let units := PerPin.of s.swapUnit
    let changed := s.unitChanged
    onSpu (fun x => ({ x with units := units } : Spu).reformAxes changed) s

/-- The lift and rain hand-offs of a swap, and the tilt-over test it brings; the gate makes its own
evaluation (R54, R55, R58, R82). -/
def spuSwapHandOff (s : State) : State :=
  tiltSwapTest (if s.rainCond != s.dkc.rain then dkcEvent (takeRain s.rainCond) s else s)

/-! ### SENSE_READ (R52) -/

/-- The read of a GENERAL pin consumes its result; any other read clears nothing. -/
def consumeResult (p : Pin) (s : State) : State :=
  let u := s.spu.units.get p
  if u.cfg.role = .general ∧ u.cfg.mode ≠ .off then
    setUnit p { u with ready := false, overrun := false } s
  else s

end Sys2Proof.Machine
end

