-- ==== Sys2Proof/Machine/Zone.lean ====
section
/-! DEFINITION. The Zone Context Unit: taking an update of the Wire Decoder, settling the active zone,
the triggers, the outside timer, the strengths, the recomputation and the reset (02). -/

namespace Sys2Proof.Machine

/-! ### Lane classes (01 R17) -/

/-- The class a held verdict gives, before aging. -/
def VerdictKind.cls : VerdictKind → LaneClass
  | .lockedIn => .inside
  | .weakIn => .inside
  | .lockedOut => .outside
  | .weakOut => .outside
  | .absent => .noClass

/-- The class of a lane of an enabled slot (R17). -/
def Lane.cls (silent : Bool) (lossLimit : Nat) (l : Lane) : LaneClass :=
  if silent then .noClass
  else
    match l.verdict with
    | some v => if l.burstsSince ≤ lossLimit then v.kind.cls else .noClass
    | none =>
      if !l.verdictSince && !l.silentSince && decide (l.burstsSince < lossLimit) then .pending
      else .noClass

/-- The class of a lane as the Wire Decoder holds it. -/
def State.laneClass (s : State) (i : Slot) (c : Coil) : LaneClass :=
  ((s.wdc.lanes.get i).get c).cls (s.wdc.coils.get c).silent (s.lossLimit i)

/-- The strength of a lane: that of its last verdict, 0 without one (R20). -/
def State.laneStrength (s : State) (i : Slot) (c : Coil) : Nat :=
  match ((s.wdc.lanes.get i).get c).verdict with
  | some v => v.strength
  | none => 0

/-- The loop state of an enabled slot from its two lane classes (R18). -/
def loopOf : LaneClass → LaneClass → LoopState
  | .inside, .inside => .inside
  | .outside, .outside => .outside
  | .inside, .outside => .straddle
  | .outside, .inside => .straddle
  | .inside, _ => .inside
  | _, .inside => .inside
  | .outside, _ => .outside
  | _, .outside => .outside
  | .noClass, .noClass => .lost
  | _, _ => .pending

/-! ### Updates (01 R19) -/

/-- The lanes that published in an update: the slots of one coil. -/
structure Published where
  coil : Coil
  slots : List Slot
  deriving DecidableEq, Repr

/-- No lane published. -/
def Published.none : Published := ⟨.left, []⟩

/-- Whether a lane is named in the update the Wire Decoder hands on: its class differs from the one
handed on before, or it published with a new strength (R19; log entry 30). -/
def State.laneNamed (s : State) (pub : Published) (i : Slot) (c : Coil) : Bool :=
  s.enabled i &&
    (s.laneClass i c != ((s.zcu.mirror.get i).get c).cls ||
      (pub.coil == c && pub.slots.contains i &&
        s.laneStrength i c != ((s.zcu.mirror.get i).get c).strength))

/-- Whether a slot has a lane named in the update. -/
def State.slotNamed (s : State) (pub : Published) (i : Slot) : Bool :=
  s.laneNamed pub i .left || s.laneNamed pub i .right

/-- A mirrored lane after the update: its class, and its strength where it published (R30, stage 1). -/
def State.mirrorLane (s : State) (pub : Published) (i : Slot) (c : Coil) : MirrorLane :=
  let m := (s.zcu.mirror.get i).get c
  if s.laneNamed pub i c then
    { cls := s.laneClass i c
      strength := if pub.coil = c ∧ pub.slots.contains i then s.laneStrength i c else m.strength }
  else m

/-- The mirror after the update. -/
def State.mirrored (s : State) (pub : Published) : PerSlot (PerCoil MirrorLane) :=
  PerSlot.of fun i => ⟨s.mirrorLane pub i .left, s.mirrorLane pub i .right⟩

/-- The loop state a slot's mirrored lanes give; DISABLED for a disabled slot (R18, R27). -/
def State.loopFrom (s : State) (m : PerSlot (PerCoil MirrorLane)) (i : Slot) : LoopState :=
  if s.enabled i then loopOf (m.get i).left.cls (m.get i).right.cls else .disabled

/-! ### The active zone (R31 to R33) -/

/-- The lowest-numbered PERIMETER slot that is IN, other than those excluded. -/
def State.insideSlot (s : State) (loops : PerSlot LoopState) (ok : Slot → Bool) : Option Slot :=
  slots.find? fun i => s.slotKind i == .perimeter && loops.get i == .inside && ok i

/-- The slot a passage takes the active zone to, if passage takes place (R33). -/
def State.passageTo (s : State) (prior now : PerSlot LoopState) (i : Slot) : Option Slot :=
  if prior.get i = .inside ∧ now.get i = .outside then s.insideSlot now (s.passage i) else none

/-- Whether a loop state lets a slot stay the active zone (R31). -/
def LoopState.holdsZone : LoopState → Bool
  | .inside => true
  | .outside => true
  | .straddle => true
  | _ => false

/-- The active zone after an update (R31 to R33). -/
def State.settledZone (s : State) (prior now : PerSlot LoopState) : Option Slot :=
  match s.zcu.active with
  | none => s.insideSlot now fun _ => true
  | some i =>
    match s.passageTo prior now i with
    | some j => some j
    | none =>
      if (now.get i).holdsZone then some i else s.insideSlot now fun j => j != i

/-- Whether the update was a passage. -/
def State.passed (s : State) (prior now : PerSlot LoopState) : Bool :=
  match s.zcu.active with
  | none => false
  | some i => (s.passageTo prior now i).isSome

/-! ### Boundary triggers (R34 to R36) -/

/-- Whether any enabled perimeter of a slot's passage mask is IN or STRADDLE (R34). -/
def State.passageNear (s : State) (now : PerSlot LoopState) (i : Slot) : Bool :=
  slots.any fun j =>
    s.slotKind j == .perimeter && s.passage i j &&
      (now.get j == .inside || now.get j == .straddle)

/-- The dock states in which R35 withholds an exit. -/
def DockState.nearStation : DockState → Bool
  | .approach => true
  | .contact => true
  | .departing => true
  | _ => false

/-- Whether the station withholds an exit (R35). -/
def State.stationWithholds (s : State) (now : PerSlot LoopState) : Bool :=
  s.dkc.dock.nearStation &&
    match s.stationSlot with
    | some i => now.get i == .inside || now.get i == .straddle
    | none => false

/-- What R34 and R35 make of the active slot's move. -/
inductive ExitOutcome | noExit | withheld | withheldByStation | raised
  deriving DecidableEq, Repr

/-- The outcome for the active slot, when it stays the active zone (R34, R35). -/
def State.exitOutcome (s : State) (prior now : PerSlot LoopState) (i : Slot) : ExitOutcome :=
  if s.zcu.exitArm && prior.get i == .inside &&
      (now.get i == .straddle || now.get i == .outside) then
    if s.passageNear now i then .withheld
    else if s.stationWithholds now then .withheldByStation
    else .raised
  else .noExit

/-- The outcome of the whole update: only a slot that was and stays active is judged. -/
def State.exitOf (s : State) (prior now : PerSlot LoopState) : ExitOutcome :=
  match s.zcu.active with
  | none => .noExit
  | some i =>
    if s.settledZone prior now = some i then s.exitOutcome prior now i else .noExit

/-- The exit arm after the update: set while the active slot is IN or newly active, cleared as it
leaves IN or as the active zone is left (R31, R32, R34). -/
def State.exitArmAfter (s : State) (prior now : PerSlot LoopState) : Bool :=
  match s.settledZone prior now with
  | none => false
  | some j =>
    if s.zcu.active = some j then
      if now.get j = .inside then true
      else if prior.get j = .inside then false
      else s.zcu.exitArm
    else true

/-- Whether a KEEPOUT slot's move raises KEEPOUT_ENTRY (R36). -/
def State.keepoutEntered (s : State) (prior now : PerSlot LoopState) (i : Slot) : Bool :=
  s.slotKind i == .keepout && s.zcu.entryArm.get i && prior.get i != now.get i &&
    (now.get i == .straddle || now.get i == .inside)

/-- A KEEPOUT slot's entry arm after the update (R36). -/
def State.entryArmAfter (s : State) (prior now : PerSlot LoopState) (i : Slot) : Bool :=
  if s.slotKind i = .keepout then
    match now.get i with
    | .outside => true
    | .lost => true
    | .pending => true
    | _ => if s.keepoutEntered prior now i then false else s.zcu.entryArm.get i
  else s.zcu.entryArm.get i

/-- The triggers of one slot in an update. -/
def State.slotTriggers (s : State) (prior now : PerSlot LoopState) (i : Slot) :
    List (Trig × Option Nat) :=
  (if s.zcu.active = some i ∧ s.exitOf prior now = .raised then
      [(Trig.perimeterExit, some i.val)] else []) ++
    (if s.keepoutEntered prior now i then [(Trig.keepoutEntry, some i.val)] else [])

/-- Whether the update raises WIRE_LOST (R37). -/
def State.wireLostDue (s : State) (now : PerSlot LoopState) : Bool :=
  s.wireLostCondOf now && s.zcu.wireLostArm && s.dkc.dock != .docked

/-- The triggers of an update: the slots ascending, then WIRE_LOST (R30, stage 5). -/
def State.updateTriggers (s : State) (prior now : PerSlot LoopState) : List (Trig × Option Nat) :=
  (slots.flatMap fun i => s.slotTriggers prior now i) ++
    (if s.wireLostDue now then [(Trig.wireLost, none)] else [])

/-- The wire-lost arm after the update (R37). -/
def State.wireLostArmAfter (s : State) (now : PerSlot LoopState) : Bool :=
  if s.wireLostCondOf now then s.zcu.wireLostArm && !s.wireLostDue now else true

/-! ### The outside timer (R38) -/

/-- The outside timer after an update (R38). -/
def State.outTimerAfter (s : State) (prior now : PerSlot LoopState) : Timer :=
  let t := s.zcu.outTimer
  match s.settledZone prior now with
  | none => t.stop
  | some j =>
    if s.zcu.active = some j then
      if now.get j = .outside then
        if prior.get j = .outside then t
        else if s.outsideLimit = 0 then t
        else ⟨.running, 0⟩
      else t.stop
    else t.stop

/-! ### Strengths (R39) -/

/-- The strength a lane counts with: only when it is IN or OUT (R39). -/
def MirrorLane.counted (m : MirrorLane) : Nat :=
  match m.cls with
  | .inside => m.strength
  | .outside => m.strength
  | _ => 0

/-- The strength of a slot: the larger of its two lanes' (R39). -/
def slotStrength (m : PerSlot (PerCoil MirrorLane)) (i : Option Slot) : Nat :=
  match i with
  | some i => max (m.get i).left.counted (m.get i).right.counted
  | none => 0

/-! ### The stages together (R30) -/

/-- The counters of Table 2-4 after an update: each trigger it raises is counted with it. -/
def State.zoneCounts (s : State) (prior now : PerSlot LoopState) : ZcuCounters :=
  let c := s.zcu.cnt
  { zoneChanges :=
      if s.settledZone prior now = s.zcu.active then c.zoneChanges else bump c.zoneChanges
    passages := if s.passed prior now then bump c.passages else c.passages
    exits := if s.exitOf prior now = .raised then bump c.exits else c.exits
    exitsWithheld :=
      if s.exitOf prior now = .withheld then bump c.exitsWithheld else c.exitsWithheld
    exitsByStation :=
      if s.exitOf prior now = .withheldByStation then bump c.exitsByStation else c.exitsByStation
    keepouts := bumpBy (slots.filter (s.keepoutEntered prior now)).length c.keepouts
    wireLost := if s.wireLostDue now then bump c.wireLost else c.wireLost
    outside := c.outside }

/-- The zone context after stages 3 to 7 of an update, from the prior loop states to the new ones. -/
def State.zoneAfter (s : State) (m : PerSlot (PerCoil MirrorLane)) (now : PerSlot LoopState) : Zcu :=
  let prior := s.zcu.loops
  let zone := s.settledZone prior now
  { s.zcu with
    mirror := m
    loops := now
    active := zone
    exitArm := s.exitArmAfter prior now
    entryArm := PerSlot.of (s.entryArmAfter prior now)
    wireLostArm := s.wireLostArmAfter now
    outTimer := s.outTimerAfter prior now
    prox := slotStrength m zone
    station := slotStrength m s.stationSlot
    cnt := s.zoneCounts prior now }

/-! ### Hand-offs (R39 to R41; log entry 7) -/

/-- The guide loop as the ZCU hands it on (R41). -/
def State.guideNow (s : State) : GuideSeen :=
  match s.guideSlot with
  | some i => ⟨s.zcu.loops.get i, (s.zcu.mirror.get i).left.cls, (s.zcu.mirror.get i).right.cls⟩
  | none => ⟨.disabled, .pending, .pending⟩

/-- The station loop as the ZCU hands it on (R41). -/
def State.stationNow (s : State) : StationSeen :=
  match s.stationSlot with
  | some i => ⟨s.zcu.loops.get i, s.zcu.station⟩
  | none => ⟨.disabled, 0⟩

/-- The gate takes the active zone and makes its evaluation (R40, R70). -/
def gateTakesZone (s : State) : State := evaluate (onMgt (fun m => { m with zone := s.zcu.active }) s)

/-- The gate takes the proximity strength, and makes an evaluation where that changes the proximity
percent (R39, R68, R70). -/
def gateTakesStrength (s : State) : State :=
  let t := onMgt (fun m => { m with prox := s.zcu.prox }) s
  if t.nearWirePercent t.selectedSource = t.mgt.pn then t else evaluate t

/-- A change of the active zone goes to the gate and, with its slope max, to the SPU, and then the
proximity strength goes to the gate as an event of its own (R39, R40, R70; log entry 7). -/
def zoneToGate (before s : State) : State :=
  gateTakesStrength (if s.zcu.active = before.zcu.active then s else tiltTest (gateTakesZone s))

/-- The guide loop and then the station loop to the DKC (R41; log entry 49). -/
def zoneToDock (guide station : Bool) (s : State) : State :=
  let s := if guide then dkcEvent (takeGuide s.guideNow) s else s
  if station then dkcEvent (takeStation s.stationNow) s else s

/-- Whether either lane class of a slot differs between two mirrors. -/
def lanesDiffer (a b : PerSlot (PerCoil MirrorLane)) (i : Option Slot) : Bool :=
  match i with
  | some i =>
    (a.get i).left.cls != (b.get i).left.cls || (a.get i).right.cls != (b.get i).right.cls
  | none => false

/-- The triggers of an update reach the Response Engine as separate arrivals (R30, stage 5). What they
hand the ZCU waits until the update is done: the outside timer stands STOPPED meanwhile, so that no end
of a context finds it HELD. -/
def raiseInUpdate (trigs : List (Trig × Option Nat)) (z : Zcu) (s : State) : State :=
  onZcu (fun x => { x with outTimer := z.outTimer })
    (raiseAll trigs { s with zcu := { z with outTimer := z.outTimer.stop } })

/-- Stages 5 to 7 of an update that forms the zone context `z`: the triggers against what the gate has
seen so far, then the hand-offs, and then what has reached the ZCU meanwhile (R30; log entry 7). -/
def zoneCarried (trigs : List (Trig × Option Nat)) (z : Zcu) (guide station : Bool) (s : State) :
    State :=
  outsideTest (zoneToDock guide station (zoneToGate s (raiseInUpdate trigs z s)))

/-- Stages 3 to 7 of an update (R30). -/
def zoneStages (m : PerSlot (PerCoil MirrorLane)) (now : PerSlot LoopState) (s : State) : State :=
  zoneCarried (s.updateTriggers s.zcu.loops now) (s.zoneAfter m now)
    (lanesDiffer s.zcu.mirror m s.guideSlot)
    (lanesDiffer s.zcu.mirror m s.stationSlot || slotStrength m s.stationSlot != s.zcu.station) s

/-- The ZCU takes an update of the Wire Decoder, if it holds any change (R19, R30). -/
def zoneUpdate (pub : Published) (s : State) : State :=
  if slots.any (s.slotNamed pub) then
    let m := s.mirrored pub
    if s.zcu.frozen then onZcu (fun z => { z with mirror := m }) s
    else
      zoneStages m
        (PerSlot.of fun i => if s.slotNamed pub i then s.loopFrom m i else s.zcu.loops.get i) s
  else s

/-! ### Freeze and recomputation (R42) -/

/-- A wire pattern test starts: a RUNNING outside timer goes to PAUSED (R42). -/
def zoneFreeze (s : State) : State :=
  onZcu (fun z =>
    { z with
      frozen := true
      outTimer := if z.outTimer.st = .running then { z.outTimer with st := .paused } else z.outTimer })
    s

/-- A PAUSED timer resumes when the same slot is still active and still OUT (R42). -/
def Timer.unpause (t : Timer) : Timer := if t.st = .paused then { t with st := .running } else t

/-- The recomputation that ends a freeze: every enabled slot's loop state from the mirror, through
stages 4 to 7 against the states held throughout (R42). -/
def zoneRecompute (s : State) : State :=
  let s := onZcu (fun z => { z with frozen := false }) s
  let now := PerSlot.of (s.loopFrom s.zcu.mirror)
  let z := s.zoneAfter s.zcu.mirror now
  zoneCarried (s.updateTriggers s.zcu.loops now) { z with outTimer := z.outTimer.unpause }
    s.guideSlot.isSome s.stationSlot.isSome s

/-! ### Reset (R43) -/

/-- The zone context as it stands after a reset under the tables in force (R43). -/
def State.zoneFresh (s : State) (cnt : ZcuCounters) : Zcu :=
  { mirror := PerSlot.all (PerCoil.all ⟨.pending, 0⟩)
    loops := PerSlot.of fun i => if s.enabled i then .pending else .disabled
    active := none
    exitArm := false
    entryArm := PerSlot.of fun i => s.slotKind i == .keepout
    wireLostArm := true
    outTimer := Timer.zero
    prox := 0
    station := 0
    frozen := false
    cnt := cnt }

/-- The counters of Table 2-4 at 0. -/
def ZcuCounters.zero : ZcuCounters := ⟨0, 0, 0, 0, 0, 0, 0, 0⟩

/-- A WIRE channel reset at the ZCU, with its hand-offs (R43). -/
def zoneReset (s : State) : State :=
  let t := { s with zcu := s.zoneFresh ZcuCounters.zero }
  zoneToDock true true (zoneToGate s t)

/-! ### OUTSIDE_TIMER_EXPIRY (R38) -/

/-- The outside timer has reached the outside limit (R38). -/
def State.outsideDue (s : State) : Bool := s.zcu.outTimer.due s.outsideLimit

/-- At the limit OUTSIDE_LIMIT is raised, or the timer goes HELD while a context is held (R38). -/
def outsideExpired (s : State) : State :=
  match s.zcu.active with
  | some i =>
    if s.ctxHeld then onZcu (fun z => { z with outTimer := { z.outTimer with st := .held } }) s
    else outsideRaise i s
  | none => s

end Sys2Proof.Machine
end

