-- ==== Sys2Proof/Machine/Wire.lean ====
section
/-! DEFINITION. The Wire Decoder: burst arrival, the sample ring and the correlator, windows and
verdicts, silence and restarts (01). -/

namespace Sys2Proof.Machine

/-! ### Lanes and coils -/

/-- Every lane of a coil, changed. -/
def mapLanes (c : Coil) (f : Lane → Lane) (s : State) : State :=
  onWdc (fun w => { w with lanes := w.lanes.map fun l => l.set c (f (l.get c)) }) s

/-- A coil's own record, changed. -/
def onCoil (c : Coil) (f : CoilUnit → CoilUnit) (s : State) : State :=
  onWdc (fun w => { w with coils := w.coils.set c (f (w.coils.get c)) }) s

/-- How many lanes of a coil hold an open window. -/
def State.openWindows (s : State) (c : Coil) : Nat :=
  (slots.filter fun i => ((s.wdc.lanes.get i).get c).window.isSome).length

/-- Every open window of a coil is aborted without a verdict, each counted once (R8, R15). -/
def abortWindows (c : Coil) (s : State) : State :=
  let n := s.openWindows c
  onCoil c (fun u => { u with aborted := bumpBy n u.aborted })
    (mapLanes c (fun l => { l with window := none }) s)

/-- Every lane of a coil ages by one burst (R16). -/
def ageLanes (c : Coil) (s : State) : State :=
  mapLanes c (fun l => { l with burstsSince := min (l.burstsSince + 1) 255 }) s

/-- The ring and the burst in correlation without a coil's bursts (R8, R26). -/
def dropBursts (c : Coil) (s : State) : State :=
  onWdc (fun w =>
    { w with
      ring := w.ring.filter fun e => e.coil != c
      inCorr := w.inCorr.filter fun e => e.coil != c }) s

/-! ### The correlator (R7, R15) -/

/-- An idle correlator takes the oldest burst. A gap-marked burst aborts the open windows of its coil
(R15; log entry 13); with no enabled slot every waiting burst is taken and ends at once (R7). -/
def correlatorTake (s : State) : State :=
  match s.wdc.inCorr with
  | some _ => s
  | none =>
    if slots.any s.enabled then
      match s.wdc.ring with
      | [] => s
      | e :: rest =>
        let t := onWdc (fun w => { w with ring := rest, inCorr := some e }) s
        if e.gap.isSome then abortWindows e.coil t else t
    else onWdc (fun w => { w with ring := [] }) s

/-! ### Burst arrival (R1 to R5) -/

/-- The missing count of an accepted burst: none for a plain acceptance (R5). -/
def gapOf (expect : Option Nat) (seq : Nat) : Option Nat :=
  match expect with
  | none => none
  | some e => if seq = (e + 1) % 256 then none else some ((seq + 511 - e) % 256)

/-- Whether a burst repeats the expectation or one that waits (R3). -/
def State.duplicateBurst (s : State) (c : Coil) (seq : Nat) : Bool :=
  (s.wdc.coils.get c).expect == some seq || s.wdc.ring.any fun e => e.coil == c && e.seq == seq

/-- A coil's record at an acceptance (R5, R8). -/
def CoilUnit.accept (seq : Nat) (u : CoilUnit) : CoilUnit :=
  { u with
    expect := some seq
    silent := false
    timer := ⟨.running, 0⟩
    accepted := bump u.accepted
    missing := bumpBy ((gapOf u.expect seq).getD 0) u.missing }

/-- A burst joins the tail of the ring. -/
def joinRing (e : RingEntry) (s : State) : State := onWdc (fun w => { w with ring := w.ring ++ [e] }) s

/-- A burst is accepted (R5): the expectation, the counters, the silence timer, the aging, the ring,
the correlator if it is idle, and the update of the Zone Context Unit. -/
def acceptBurst (c : Coil) (seq : Nat) (samples : List Int) (s : State) : State :=
  let gap := gapOf (s.wdc.coils.get c).expect seq
  zoneUpdate Published.none
    (correlatorTake
      (joinRing ⟨c, seq, samples, gap⟩ (ageLanes c (onCoil c (CoilUnit.accept seq) s))))

/-- A burst of a named coil that is not under test (R1, tests 2 to 5). -/
def judgeBurst (c : Coil) (seq : Nat) (samples : List Int) (s : State) : State :=
  if samples.length ≠ s.codeLength then
    onWdc (fun w => { w with malformed := bump w.malformed }) s
  else if s.duplicateBurst c seq then
    onCoil c (fun u => { u with duplicate := bump u.duplicate }) s
  else if 4 ≤ s.wdc.ring.length then
    setFlag .sampleOverrun [u8 (Coil.num c)] (onCoil c (fun u => { u with overrun := bump u.overrun }) s)
  else acceptBurst c seq samples s

/-- A burst arrives on the C-port (R1, R2). -/
def burst (coil seq : Byte) (samples : List (BitVec 16)) (s : State) : State :=
  match Coil.ofNat? coil.toNat with
  | none => onWdc (fun w => { w with malformed := bump w.malformed }) s
  | some c =>
    if s.underTest c then onCoil c (fun u => { u with testDropped := bump u.testDropped }) s
    else judgeBurst c seq.toNat (samples.map sample12) s

/-! ### Correlation and windows (R10 to R14) -/

/-- The sum of the samples times the chips from chip `i` on. -/
def State.chipSum (s : State) (code : Nat) : Nat → List Int → Int
  | _, [] => 0
  | i, x :: rest => x * s.chip code i + s.chipSum code (i + 1) rest

/-- The period value (R10). -/
def State.periodValue (s : State) (code : Nat) (samples : List Int) : Int :=
  (s.chipSum code 0 samples).tdiv (s.codeLength : Int)

/-- A window before it is stepped: the open one with its period counted, or a new one (R11). -/
def Lane.opened (l : Lane) : Window :=
  match l.window with
  | some w => { w with k := w.k + 1 }
  | none => ⟨1, 0, 0, 0, 0⟩

/-- Whether a period passes, given the accumulator after the addition (R12, step 3). -/
def periodPasses (tPass : Nat) (v acc : Int) : Bool :=
  v != 0 && v.sign == acc.sign && decide (tPass ≤ v.natAbs)

/-- Whether a period is a mismatch, given the accumulator before the addition (R12, step 4). -/
def periodMismatch (k : Nat) (v acc : Int) : Bool :=
  decide (2 ≤ k) && v != 0 && v.sign != acc.sign

/-- A window stepped with a period value (R12, steps 1 to 4). -/
def State.stepWindow (s : State) (code : Nat) (w : Window) (v : Int) : Window :=
  let weight := s.weight (s.profileOf code) w.k
  let acc := w.acc + (weight : Int) * v
  { k := w.k
    acc := acc
    wsum := w.wsum + weight
    passes := if periodPasses (s.tPass code) v acc then w.passes + 1 else 0
    mismatches := if periodMismatch w.k v w.acc then w.mismatches + 1 else w.mismatches }

/-- The mean of a window (R12, step 5). -/
def Window.mean (w : Window) : Int := if w.wsum = 0 then 0 else w.acc.tdiv (w.wsum : Int)

/-- The strength of a window (R12, step 5). -/
def Window.strength (w : Window) : Nat := min w.mean.natAbs 2047

/-- Whether the lock qualification holds (R13). -/
def State.qualifies (s : State) (code : Nat) (w : Window) : Bool :=
  w.mean != 0 && decide (s.floorOf code ≤ w.strength)

/-- Whether criterion 1 or 2 of R13 stops the window LOCKED; a period passed when its
consecutive-pass count is above 0. -/
def State.locks (s : State) (code : Nat) (w : Window) : Bool :=
  decide (s.kMin code ≤ w.k) && s.qualifies code w &&
    (decide (s.pNeed code ≤ w.passes) ||
      (decide (0 < s.tStrong code) && decide (0 < w.passes) &&
        decide (s.tStrong code ≤ w.strength)))

/-- The kind of verdict a window stops with, or none where it stays open (R13, R14). -/
def State.stopKind (s : State) (code : Nat) (w : Window) : Option VerdictKind :=
  if s.locks code w then some (if 0 < w.mean then .lockedIn else .lockedOut)
  else if w.k = s.kMax code then
    some
      (if s.qualifies code w then (if 0 < w.mean then .weakIn else .weakOut) else .absent)
  else none

/-- The verdict record of a stopped window (R14). -/
def Window.verdict (w : Window) (kind : VerdictKind) (seq : Nat) : Verdict :=
  { kind := kind
    strength := w.strength
    periods := w.k
    consecutive := min w.passes 15
    mismatches := w.mismatches
    endSeq := seq }

/-- A lane after it has published a verdict (R14). -/
def Lane.published (v : Verdict) (l : Lane) : Lane :=
  { l with window := none, verdict := some v, burstsSince := 0, verdictSince := true }

/-- A lane stepped with a burst, and the verdict it published, if any (R10 to R14). -/
def State.stepLane (s : State) (i : Slot) (e : RingEntry) (l : Lane) : Lane × Option Verdict :=
  let code := s.slotCode i
  let w := s.stepWindow code l.opened (s.periodValue code e.samples)
  match s.stopKind code w with
  | some kind =>
    let v := w.verdict kind e.seq
    (l.published v, some v)
  | none => ({ l with window := some w }, none)

/-- The step of a slot's lane with a burst; a lane of a disabled slot is not stepped (R7). -/
def State.laneStep (s : State) (e : RingEntry) (i : Slot) : Lane × Option Verdict :=
  let l := (s.wdc.lanes.get i).get e.coil
  if s.enabled i then s.stepLane i e l else (l, none)

/-- The lanes after every enabled lane of the burst's coil has been stepped, and the correlator
idle. -/
def stepLanes (e : RingEntry) (s : State) : State :=
  onWdc (fun w =>
    { w with
      lanes := PerSlot.of fun i => (w.lanes.get i).set e.coil (s.laneStep e i).1
      inCorr := none }) s

/-- The slots whose lanes published with a burst. -/
def State.publishedBy (s : State) (e : RingEntry) : Published :=
  ⟨e.coil, slots.filter fun i => (s.laneStep e i).2.isSome⟩

/-! ### Silence (R8) -/

/-- A lane of a coil that falls silent. -/
def Lane.silenced (l : Lane) : Lane := { l with verdict := none, silentSince := true }

/-- Whether a coil's silence timer has run out. -/
def State.silenceDue (c : Coil) (s : State) : Bool :=
  (s.wdc.coils.get c).timer.due s.burstTimeout

/-- The silence timer of a coil expires (R8). -/
def silence (c : Coil) (s : State) : State :=
  zoneUpdate Published.none
    (correlatorTake
      (onCoil c (fun u =>
          { u with silent := true, timer := u.timer.stop, silences := bump u.silences })
        (dropBursts c (mapLanes c Lane.silenced (abortWindows c s)))))

/-! ### Restarts (R23 to R26) -/

/-- A coil's record restarted; its counters are kept (R23). -/
def CoilUnit.restart (u : CoilUnit) : CoilUnit :=
  { u with expect := none, silent := false, timer := ⟨.running, 0⟩ }

/-- A coil restart (R23). -/
def restartCoil (c : Coil) (s : State) : State :=
  onCoil c CoilUnit.restart (mapLanes c (fun _ => Lane.fresh) s)

/-- The WDC at a WIRE channel reset (R24). -/
def wdcReset (s : State) : State := { s with wdc := Wdc.reset }

/-- The WDC at a swap (R25). -/
def wdcSwap (s : State) : State :=
  onWdc (fun w => { w with ring := [], inCorr := none }) (restartCoil .left (restartCoil .right s))

/-- The WDC takes a coil into test (R26). -/
def coilIntoTest (c : Coil) (s : State) : State :=
  zoneUpdate Published.none
    (correlatorTake
      (onCoil c (fun u => { u with silent := false, timer := u.timer.stop })
        (mapLanes c (fun _ => Lane.fresh) (dropBursts c s))))

/-- The WDC takes a coil out of test: its synthesized bursts go and the coil restarts (R26). -/
def coilOutOfTest (c : Coil) (s : State) : State :=
  zoneUpdate Published.none (restartCoil c (dropBursts c s))

end Sys2Proof.Machine
end

