-- ==== Sys2Proof/Machine/Loopback.lean ====
section
/-! DEFINITION. The Loopback Unit: the generator, the three tests and their ends (10), and the end of
a correlation, which may end a wire pattern test. -/

namespace Sys2Proof.Machine

/-! ### Numbers -/

/-- A test kind as the test result record numbers it (11 section 11.1). -/
def TestKind.num : TestKind → Nat
  | .noTest => 0
  | .nLinkEcho => 1
  | .dLinkEcho => 2
  | .wirePattern => 3

/-- A test status as the test result record numbers it. -/
def TestStatus.num : TestStatus → Nat
  | .noStatus => 0
  | .running => 1
  | .completed => 2
  | .aborted => 3

def onRecord (f : TestRecord → TestRecord) (s : State) : State :=
  onLbu (fun l => { l with record := f l.record }) s

/-! ### The generator (R170, R171) -/

/-- The output of one step: the exclusive-or of stages 14 and 15; stage n is bit n - 1. -/
def genOut (g : BitVec 15) : Bool := g.getLsbD 13 ^^ g.getLsbD 14

/-- The stages after one step. -/
def genStep (g : BitVec 15) : BitVec 15 :=
  (g <<< 1) ||| (if genOut g then 1#15 else 0#15)

/-- The stages after a number of steps. -/
def genSteps : Nat → BitVec 15 → BitVec 15
  | 0, g => g
  | n + 1, g => genSteps n (genStep g)

/-- A number of outputs as a number, the first the most significant. -/
def genNat : Nat → BitVec 15 → Nat → Nat
  | 0, _, acc => acc
  | n + 1, g, acc => genNat n (genStep g) (2 * acc + if genOut g then 1 else 0)

/-- Bytes drawn from the generator, eight steps each. -/
def genBytes : Nat → BitVec 15 → List Byte
  | 0, _ => []
  | n + 1, g => u8 (genNat 8 g 0) :: genBytes n (genSteps 8 g)

/-! ### The end of a test -/

/-- A test ends: its status, the STOP line's test reason, and TEST_DONE (R169, R170, R172). -/
def testOver (status : TestStatus) (s : State) : State :=
  setFlag .testDone [u8 s.lbu.kind.num, u8 status.num]
    (onRse (fun r => { r with stopTest := false })
      (onLbu (fun l => { l with status := status, begun := false, beginDue := false }) s))

/-! ### N-link echo (R169) -/

/-- How many echoed frames wait on the answer list. -/
def State.echoedWaiting (s : State) : Nat :=
  (s.nli.answers.filter fun o => o.cls == .echoed).length

/-- A claimed frame during the echo is returned unchanged, or dropped when four wait (R169). -/
def echoFrame (f : NFrame) (s : State) : State :=
  if s.echoedWaiting < 4 then
    pushAnswer ⟨.echoed, f⟩ (onRecord (fun r => { r with echoed := bump r.echoed }) s)
  else onRecord (fun r => { r with echoDropped := bump r.echoDropped }) s

/-- Whether the OK of an N-link echo's START_TEST has been sent. -/
def State.echoBeginDue (s : State) : Bool :=
  s.testRunning && s.lbu.kind == .nLinkEcho && s.lbu.beginDue

/-- The N-link echo begins and its timer starts (R169). -/
def nEchoBegin (s : State) : State :=
  onLbu (fun l => { l with begun := true, beginDue := false, echoTime := 0 }) s

/-- Whether the echo's timer has reached the duration. -/
def State.echoEndDue (s : State) : Bool :=
  s.nEchoing &&
    match s.lbu.params with
    | .nLinkEcho sec => decide (ms (1000 * sec) ≤ s.lbu.echoTime)
    | _ => false

/-! ### D-link echo (R170) -/

/-- The eight bytes of an ECHO request: its frame number, and seven bytes of the generator. -/
def echoBytes (number : Nat) (g : BitVec 15) : List Byte := u8 number :: genBytes 7 g

/-- The next ECHO request of the test is sent (R170). -/
def echoSend (s : State) : State :=
  match s.lbu.params with
  | .dLinkEcho node frames =>
    beginTx node (.echo (echoBytes (frames + 1 - s.lbu.left) s.lbu.gen))
      (onLbu (fun l =>
        { l with
          left := l.left - 1
          gen := genSteps 56 l.gen
          record := { l.record with sent := bump l.record.sent } }) s)
  | _ => s

/-- Whether a D-link echo waits for the link and the link is free. -/
def State.takeLinkDue (s : State) : Bool := s.dEchoRunning && !s.lbu.begun && s.dlc.tx.isNone

/-- The test takes the link and sends its first ECHO (R170). -/
def takeLink (s : State) : State := echoSend (onLbu (fun l => { l with begun := true }) s)

/-- The test ends at the end of its last transaction: the link goes back to the DLC, which arbitrates at once,
and the gate then ends its hold with an evaluation (R76, R170). That the arbitration of R93 comes before the
evaluation, and both before the store looks for a safe point, is the model's choice (log entry 80, DESIGN
CHOICE). -/
def dEchoOver (s : State) : State := evaluate (arbitrate (testOver .completed s))

/-- An ECHO transaction has ended: the next ECHO, or the end of the test. -/
def echoNext (s : State) : State := if 0 < s.lbu.left then echoSend s else dEchoOver s

/-! ### Wire pattern test (R171, R172) -/

/-- The samples of a synthesized burst from chip `i` on (R171). -/
def State.synth (s : State) (code : Nat) (level noise : Int) : Nat → Nat → BitVec 15 → List Int
  | _, 0, _ => []
  | i, n + 1, g =>
    clampI (-2048) 2047 (level * s.chip code i + if genOut g then noise else -noise) ::
      s.synth code level noise (i + 1) n (genStep g)

/-- A synthesized burst is placed in the ring (R26, R171). -/
def placeBurst (s : State) : State :=
  match s.lbu.params with
  | .wirePattern slot coil negative amplitude noise _ =>
    let level : Int := if negative then -(amplitude : Int) else (amplitude : Int)
    let samples := s.synth (s.slotCode slot) level (noise : Int) 0 s.codeLength s.lbu.gen
    let e : RingEntry := ⟨coil, s.lbu.record.placed % 256, samples, none⟩
    let t := onLbu (fun l =>
      { l with
        left := l.left - 1
        gen := genSteps s.codeLength l.gen
        record := { l.record with placed := bump l.record.placed } }) s
    zoneUpdate Published.none (correlatorTake (joinRing e (ageLanes coil t)))
  | _ => s

/-- Whether a synthesized burst waits in the ring. -/
def State.synthWaiting (s : State) (c : Coil) : Bool := s.wdc.ring.any fun e => e.coil == c

/-- Whether the next synthesized burst may be placed (R171). -/
def State.placeDue (s : State) : Bool :=
  match s.wireTest with
  | some (_, c) =>
    decide (0 < s.lbu.left) && !s.synthWaiting c && decide (s.wdc.ring.length < 4)
  | none => false

/-- The count of a verdict kind goes up, and the verdict is kept as the last (R171). -/
def TestRecord.take (v : Verdict) (r : TestRecord) : TestRecord :=
  let r := { r with last := some v }
  match v.kind with
  | .lockedIn => { r with lockedIn := bump r.lockedIn }
  | .lockedOut => { r with lockedOut := bump r.lockedOut }
  | .weakIn => { r with weakIn := bump r.weakIn }
  | .weakOut => { r with weakOut := bump r.weakOut }
  | .absent => { r with absent := bump r.absent }

/-- The verdict the tested lane published with a burst, if any. -/
def State.testedVerdict (s : State) (e : RingEntry) : Option Verdict :=
  match s.wireTest with
  | some (slot, c) => if c = e.coil then (s.laneStep e slot).2 else none
  | none => none

/-- The record takes the tested lane's verdict. -/
def recordVerdict (v : Option Verdict) (s : State) : State :=
  match v with
  | some v => onRecord (TestRecord.take v) s
  | none => s

/-- Whether the correlation just ended was that of the last synthesized burst. -/
def State.patternOver (s : State) (e : RingEntry) : Bool :=
  match s.wireTest with
  | some (_, c) => c == e.coil && s.lbu.left == 0 && !s.synthWaiting c
  | none => false

/-- A wire pattern test completes: the coil restarts, the freeze ends with the recomputation, and
the test is over (R26, R42, R172), TEST_DONE after the triggers of the recomputation (log entry 54). -/
def patternDone (c : Coil) (s : State) : State :=
  testOver .completed (zoneRecompute (coilOutOfTest c s))

/-! ### The end of a correlation (R7, R172) -/

/-- The correlation of a burst ends: the lanes are stepped, the verdicts published and handed on, a
test whose last burst it was completes, and the correlator takes the next burst. -/
def correlationEnded (e : RingEntry) (s : State) : State :=
  let t := zoneUpdate (s.publishedBy e) (recordVerdict (s.testedVerdict e) (stepLanes e s))
  correlatorTake (if t.patternOver e then patternDone e.coil t else t)

/-- The burst in correlation has been worked through. -/
def correlationOver (s : State) : State :=
  match s.wdc.inCorr with
  | some e => correlationEnded e s
  | none => s

/-! ### START_TEST (R168) -/

/-- The parameters of START_TEST within their ranges; none otherwise. -/
def parseTest (p : List Byte) : Option TestParams :=
  match byteAt p 0 with
  | 1 =>
    if 2 ≤ p.length ∧ 1 ≤ byteAt p 1 ∧ byteAt p 1 ≤ 60 then some (.nLinkEcho (byteAt p 1)) else none
  | 2 =>
    match nodeOfNat? (byteAt p 1) with
    | some n => if 3 ≤ p.length ∧ 1 ≤ byteAt p 2 then some (.dLinkEcho n (byteAt p 2)) else none
    | none => none
  | 3 =>
    match slotOfNat? (byteAt p 1), Coil.ofNat? (byteAt p 2) with
    | some i, some c =>
      if 9 ≤ p.length ∧ (byteAt p 3 = 1 ∨ byteAt p 3 = 255) ∧ wordAt p 4 ≤ 2047 ∧
          wordAt p 6 ≤ 1023 ∧ 1 ≤ byteAt p 8 then
        some (.wirePattern i c (byteAt p 3 == 255) (wordAt p 4) (wordAt p 6) (byteAt p 8))
      else none
    | _, _ => none
  | _ => none

/-- Whether a test names a disabled slot (R168, check 2). -/
def State.testSlotDisabled (s : State) (p : TestParams) : Bool :=
  match p with
  | .wirePattern i _ _ _ _ _ => !s.enabled i
  | _ => false

/-- Whether a test names an address that is not fitted (R168, check 3). -/
def State.testNodeAbsent (s : State) (p : TestParams) : Bool :=
  match p with
  | .dLinkEcho n _ => s.nodeKind n == .noNode
  | _ => false

/-- The dock states in which a test may start. -/
def DockState.testable : DockState → Bool
  | .undocked => true
  | .docked => true
  | _ => false

/-- The state START_TEST asks for (R168, check 4). -/
def State.testState (s : State) : Bool := s.postedZero && !s.ctxHeld && s.dkc.dock.testable

/-- Whether a test is refused for a queue that is not empty (R168, check 5). -/
def State.testQueueBusy (s : State) (p : TestParams) : Bool :=
  match p with
  | .dLinkEcho _ _ => !s.dlc.queue.isEmpty
  | _ => false

/-- The judgement of START_TEST with parameters in their ranges: the code, OK where it passes. -/
def State.judgeTest (s : State) (p : TestParams) : RespCode :=
  if s.testSlotDisabled p then .badParam
  else if s.testNodeAbsent p then .noNode
  else if !s.testState then .refusedState
  else if s.testQueueBusy p then .retry
  else .ok

/-- The kind of a test. -/
def TestParams.kind : TestParams → TestKind
  | .absent => .noTest
  | .nLinkEcho _ => .nLinkEcho
  | .dLinkEcho _ _ => .dLinkEcho
  | .wirePattern _ _ _ _ _ _ => .wirePattern

/-- How many frames or bursts a test has before it. -/
def TestParams.count : TestParams → Nat
  | .dLinkEcho _ frames => frames
  | .wirePattern _ _ _ _ _ bursts => bursts
  | _ => 0

/-- The LBU as a test starts (R168). -/
def TestParams.started (p : TestParams) : Lbu :=
  ⟨p.kind, .running, p, false, false, p.count, 0, TestRecord.zero, BitVec.allOnes 15⟩

/-- An accepted test starts: the record is cleared, the generator seeded, and for the two tests that
reach the motors or the wire the STOP line is asserted; a wire pattern test freezes the zone context,
takes the coil into test and places its first burst if the ring has room (R168, R171). -/
def startTest (p : TestParams) (s : State) : State :=
  let t := { s with lbu := p.started }
  match p with
  | .wirePattern _ c _ _ _ _ =>
    let t := coilIntoTest c (zoneFreeze (onRse (fun r => { r with stopTest := true }) t))
    if t.placeDue then placeBurst t else t
  | .dLinkEcho _ _ => onRse (fun r => { r with stopTest := true }) t
  | _ => t

end Sys2Proof.Machine
end

