-- ==== Sys2Proof/Machine/Link.lean ====
section
/-! DEFINITION. The drive link: answers, timeouts, telemetry intake, slip, stall and jam, pass-through,
and what a swap and a DRIVE channel reset do to the Drive Link Controller (05). -/

namespace Sys2Proof.Machine

/-! ### Requests and answers (05 section 5.2, 11 section 11.2) -/

/-- The payload length of a STATUS by the kind of node (11 section 11.2). -/
def NodeKind.statusLength : NodeKind → Nat
  | .power => 6
  | _ => 4

/-- Whether a valid answer may have a payload length (R174; log entry 16); a STATUS is that of the kind
the node had when the transaction began (log entry 46). -/
def Transaction.lengthFits (t : Transaction) (n : Nat) : Bool :=
  match t.carried with
  | .post (.param _) => true
  | .post _ => n == t.nodeKind.statusLength
  | .poll => n == t.nodeKind.statusLength
  | .read _ => decide (1 ≤ n)
  | .echo _ => n == 8

/-- The payload of a D-link frame whose length and CRC match, with its address and kind (R86, R174). That a
frame with more bytes than its length byte and its CRC account for fails the check is log entry 74 (DESIGN
CHOICE). -/
def parseDLink (bytes : List Byte) : Option (Nat × Nat × List Byte) :=
  let body := bytes.take (bytes.length - 2)
  if 5 ≤ bytes.length ∧ byteAt bytes 2 + 5 = bytes.length ∧
      bytes.drop (bytes.length - 2) = crcBytes body then
    some (byteAt bytes 0, byteAt bytes 1, body.drop 3)
  else none

/-- The payload of a frame that is a valid answer to a transaction (R86). -/
def Transaction.answeredBy (t : Transaction) (bytes : List Byte) : Option (List Byte) :=
  match parseDLink bytes with
  | some (a, k, p) =>
    if a = nodeAddr t.node ∧ k = t.carried.request + 128 ∧ t.lengthFits p.length then some p else none
  | none => none

/-! ### Records -/

/-- A node's record, changed. -/
def onNode (n : Node) (f : NodeRec → NodeRec) (s : State) : State :=
  onDlc (fun d => { d with recs := d.recs.set n ((d.recs.get n).map f) }) s

/-- A node has answered: it is RESPONSIVE and its exchange age returns to 0 (R86). -/
def nodeAnswered (n : Node) (s : State) : State :=
  let back := s.nodeState n == some .unresponsive
  onNode n (fun r => { r with st := .responsive, age := 0 })
    (countDlc (fun c =>
      { c with
        answers := bump c.answers
        nodesRecovered := if back then bump c.nodesRecovered else c.nodesRecovered }) s)

/-! ### Slip, stall and jam (R96, R97) -/

/-- SLIP is raised: SLIP_SEEN, the slips counter, then the trigger (R96). -/
def slipRaise (n : Node) (s : State) : State :=
  raise .slip (some (nodeAddr n))
    (setFlag .slipSeen [u8 (nodeAddr n)] (countDlc (fun c => { c with slips := bump c.slips }) s))

/-- STALL is raised (R97). -/
def stallRaise (n : Node) (s : State) : State :=
  raise .stall (some (nodeAddr n)) (countDlc (fun c => { c with stalls := bump c.stalls }) s)

/-- BLADE_JAM is raised (R97). -/
def jamRaise (n : Node) (s : State) : State :=
  raise .bladeJam (some (nodeAddr n)) (countDlc (fun c => { c with jams := bump c.jams }) s)

/-- The slip condition (R96). -/
def State.slipCond (s : State) (ack : Option PostValue) (speed : Int) : Bool :=
  match ack with
  | some (.wheel v) =>
    decide (0 < s.slipTolerance) && decide (s.slipMinimum ≤ v.natAbs) &&
      decide (s.slipTolerance < (v - speed).natAbs)
  | _ => false

/-- The stall or jam condition against its threshold current (R97). -/
def currentCond (threshold current : Nat) : Bool :=
  decide (0 < threshold) && decide (threshold ≤ current)

/-! ### Telemetry intake (R95) -/

/-- A wheel STATUS: the telemetry, then slip and stall judged. Where one STATUS raises both, SLIP comes first:
R95 to R97 and R115 give the two arrivals no order (log entry 77, DESIGN CHOICE). -/
def wheelStatus (n : Node) (speed : Int) (current : Nat) (s : State) : State :=
  match s.dlc.recs.get n with
  | none => s
  | some r =>
    let slip := r.slip.judge (s.slipCond r.lastAck speed) s.slipTime
    let stall := r.stall.judge (currentCond s.stallCurrent current) s.stallTime
    let t := onNode n (fun r =>
      { r with telem := some (.wheel speed current), slip := slip.1, stall := stall.1 }) s
    let t := if slip.2 then slipRaise n t else t
    if stall.2 then stallRaise n t else t

/-- A blade STATUS: the telemetry, then jam judged. -/
def bladeStatus (n : Node) (speed current : Nat) (s : State) : State :=
  match s.dlc.recs.get n with
  | none => s
  | some r =>
    let jam := r.jam.judge (currentCond s.jamCurrent current) s.jamTime
    let t := onNode n (fun r => { r with telem := some (.blade speed current), jam := jam.1 }) s
    if jam.2 then jamRaise n t else t

/-- A power STATUS: the telemetry, handed to the DKC as a whole record, which is one event there, so the
dock state is handed on once, after its last field (log entry 67). -/
def powerStatus (n : Node) (mv : Nat) (contact closed : Bool) (charge button : Nat) (s : State) :
    State :=
  dkcEvent (takePower contact closed mv button)
    (onNode n (fun r => { r with telem := some (.power mv contact closed charge button) }) s)

/-- A STATUS is taken in, each value brought to the nearest bound of its range (R95). -/
def takeStatus (n : Node) (kind : NodeKind) (p : List Byte) (s : State) : State :=
  match kind with
  | .wheelLeft => wheelStatus n (clampI (-2000) 2000 (sgn16 (wordAt p 0))) (min (wordAt p 2) 30000) s
  | .wheelRight => wheelStatus n (clampI (-2000) 2000 (sgn16 (wordAt p 0))) (min (wordAt p 2) 30000) s
  | .blade => bladeStatus n (min (wordAt p 0) 5000) (min (wordAt p 2) 30000) s
  | .power =>
    powerStatus n (wordAt p 0) (bitsAt 0 1 (byteAt p 2) == 1) (bitsAt 1 1 (byteAt p 2) == 1)
      (min (wordAt p 3) 30000) (byteAt p 5) s
  | .noNode => s

/-- The value sent becomes the last acknowledged; a different one stops the slip timer (R86, R96). -/
def NodeRec.acknowledge (v : PostValue) (r : NodeRec) : NodeRec :=
  { r with lastAck := some v, slip := if r.lastAck = some v then r.slip else r.slip.stop }

/-! ### The end of a transaction -/

/-- The queue after a valid answer: the served entry leaves, or stays unsent when it was replaced
meanwhile (R92). -/
def Dlc.answered (d : Dlc) : Dlc :=
  match d.queue with
  | e :: rest =>
    if e.inFlight then
      if e.resend then { d with queue := { e with inFlight := false, resend := false } :: rest }
      else afterLeaving { d with queue := rest }
    else d
  | [] => d

/-- The queue after a second timeout: the served entry is removed and counted (R87, R92). -/
def Dlc.failed (d : Dlc) : Dlc :=
  match d.queue with
  | e :: rest =>
    if e.inFlight then
      afterLeaving
        { d with queue := rest, cnt := { d.cnt with removedOnLoss := bump d.cnt.removedOnLoss } }
    else d
  | [] => d

/-- No transaction is in flight. -/
def clearTx (s : State) : State := onDlc (fun d => { d with tx := none }) s

/-- The pass-through read is answered NO_NODE and counted in pass-refused (R100, R103; log entry
41). -/
def refuseRead (s : State) : State :=
  answerRead .noNode []
    (countDlc (fun c => { c with passRefused := bump c.passRefused })
      (onDlc (fun d => { d with read := none }) s))

/-- The pass-through read has ended with its transaction: it is answered, with NO_NODE where a swap
meanwhile made its address NONE (R101, R103). -/
def endRead (code : RespCode) (data : List Byte) (s : State) : State :=
  match s.dlc.read with
  | none => s
  | some r =>
    if r.gone then refuseRead s else answerRead code data (onDlc (fun d => { d with read := none }) s)

/-- The effect of a valid answer on the node record and its readers; none where a swap has changed
the node's kind meanwhile (R86, R103). -/
def takeAnswer (t : Transaction) (p : List Byte) (s : State) : State :=
  if t.renewed then countDlc (fun c => { c with answers := bump c.answers }) s
  else
    let s := nodeAnswered t.node s
    match t.carried with
    | .post (.param _) => s
    | .post v => takeStatus t.node t.nodeKind p (onNode t.node (NodeRec.acknowledge v) s)
    | .poll => takeStatus t.node t.nodeKind p s
    | .read _ => s
    | .echo _ => s

/-- The record of a D-link echo counts an answered frame (R170). -/
def echoAnswered (sent p : List Byte) (s : State) : State :=
  onRecord (fun r =>
    if p = sent then { r with matched := bump r.matched }
    else { r with mismatched := bump r.mismatched }) s

/-- A valid answer ends the transaction (R86, R92; log entries 36 and 42), and the DLC arbitrates; the answer
to an ECHO goes to the Loopback Unit, which sends the next or ends the test. -/
def answered (t : Transaction) (p : List Byte) (s : State) : State :=
  let s := takeAnswer t p s
  match t.carried with
  | .post _ => arbitrate (clearTx (onDlc Dlc.answered s))
  | .poll => arbitrate (clearTx s)
  | .read _ => arbitrate (clearTx (endRead .ok (p.take 95) s))
  | .echo sent => echoNext (echoAnswered sent p (clearTx s))

/-- A frame arrives on the D-link: a valid answer, or a bad answer that is dropped (R86, R88). -/
def dLinkArrival (bytes : List Byte) (s : State) : State :=
  match s.dlc.tx with
  | none => countDlc (fun c => { c with badAnswers := bump c.badAnswers }) s
  | some t =>
    match t.answeredBy bytes with
    | some p => answered t p s
    | none => countDlc (fun c => { c with badAnswers := bump c.badAnswers }) s

/-! ### Timeouts (R87) -/

/-- Whether the response timer has run out. -/
def State.responseDue (s : State) : Bool :=
  match s.dlc.tx with
  | some t => decide (t.timeout ≤ t.elapsed)
  | none => false

/-- What the second attempt carries: the current value of the entry it serves (R87; log entry 15), or the
value first sent where that entry has been removed (log entry 59). -/
def Dlc.retryValue (d : Dlc) (c : Carried) : Carried :=
  match c with
  | .post v =>
    match d.served with
    | some e => .post e.val
    | none => .post v
  | _ => c

/-- The second attempt of a transaction, with what it carries (R85, R87). -/
def Transaction.again (t : Transaction) (c : Carried) : Transaction :=
  { t with carried := c, frame := requestFrame t.node c, second := true, elapsed := 0 }

/-- The first attempt has timed out: the request is sent again (R87). -/
def retry (t : Transaction) (s : State) : State :=
  onDlc (fun d =>
    { d with
      tx := some (t.again (d.retryValue t.carried))
      cnt := { d.cnt with
        timeouts := bump d.cnt.timeouts
        retries := bump d.cnt.retries
        framesSent := bump d.cnt.framesSent } }) s

/-- A node becomes UNRESPONSIVE: counted, its judging timers STOPPED (R87). -/
def loseNode (n : Node) (s : State) : State :=
  countDlc (fun c => { c with nodesLost := bump c.nodesLost })
    (onNode n (fun r =>
      { r with
        st := .unresponsive
        slip := r.slip.stop
        stall := r.stall.stop
        jam := r.jam.stop }) s)

/-- A lost POWER node: NODE_LOST_EVENT, and the DKC is told (R87, R127). -/
def losePower (n : Node) (s : State) : State :=
  powerSilent (setFlag .nodeLostEvent [u8 (nodeAddr n)] s)

/-- Whether a transaction's second timeout loses its node. -/
def State.losesNode (s : State) (t : Transaction) : Bool :=
  !t.renewed && s.nodeState t.node != some .unresponsive

/-- What a failed transaction leaves: the node's exchange age at 0, its entry removed or its read
answered, and no transaction in flight (R87); the fresh record of an address that a swap gave another kind
keeps its age (R103; log entry 58). -/
def failTx (t : Transaction) (s : State) : State :=
  let s := countDlc (fun c => { c with timeouts := bump c.timeouts }) s
  let s := if t.renewed then s else onNode t.node (fun r => { r with age := 0 }) s
  let s := if s.losesNode t then loseNode t.node s else s
  match t.carried with
  | .post _ => clearTx (onDlc Dlc.failed s)
  | .read _ => clearTx (endRead .nodeTimeout [] s)
  | _ => clearTx s

/-- NODE_LOST is raised, in an order with the arbitration that the spec leaves open (05 section
5.6.1; log entry 8). -/
def nodeLostRaise (n : Node) (s : State) : State :=
  if s.choice then raise .nodeLost (some (nodeAddr n)) (arbitrate (drawn s))
  else arbitrate (raise .nodeLost (some (nodeAddr n)) (drawn s))

/-- The second attempt has timed out (R87); the answer of a read is handed on before the loss of its node
(log entry 66). -/
def secondTimeout (t : Transaction) (s : State) : State :=
  let u := failTx t s
  if s.losesNode t then
    if t.nodeKind = .power then arbitrate (losePower t.node u) else nodeLostRaise t.node u
  else arbitrate u

/-- An ECHO has timed out: it is not retried and changes no node state (R87, R170). -/
def echoTimeout (t : Transaction) (s : State) : State :=
  echoNext
    (onRecord (fun r => { r with timeouts := bump r.timeouts })
      (clearTx
        (onNode t.node (fun r => { r with age := 0 })
          (countDlc (fun c => { c with timeouts := bump c.timeouts }) s))))

/-- The response timer expires (R87). -/
def responseExpired (s : State) : State :=
  match s.dlc.tx with
  | none => s
  | some t =>
    match t.carried with
    | .echo _ => echoTimeout t s
    | _ => if t.second then secondTimeout t s else retry t s

/-! ### Timers of a node (R96, R97) -/

def State.slipDue (n : Node) (s : State) : Bool :=
  match s.dlc.recs.get n with
  | some r => r.slip.due
  | none => false

def State.stallDue (n : Node) (s : State) : Bool :=
  match s.dlc.recs.get n with
  | some r => r.stall.due
  | none => false

def State.jamDue (n : Node) (s : State) : Bool :=
  match s.dlc.recs.get n with
  | some r => r.jam.due
  | none => false

def slipExpired (n : Node) (s : State) : State :=
  slipRaise n (onNode n (fun r => { r with slip := r.slip.spend }) s)

def stallExpired (n : Node) (s : State) : State :=
  stallRaise n (onNode n (fun r => { r with stall := r.stall.spend }) s)

def jamExpired (n : Node) (s : State) : State :=
  jamRaise n (onNode n (fun r => { r with jam := r.jam.spend }) s)

/-! ### Pass-through (R91, R99 to R101) -/

/-- The operations of a PASS frame that are carried out (11 section 11.1). -/
inductive PassOp | write | read
  deriving DecidableEq, Repr

def PassOp.num : PassOp → Nat
  | .write => 0
  | .read => 1

/-- The judgement of R99 on a PASS payload: the node and operation, or the refusing code; three bytes are
enough, for a write too (log entry 69). -/
def State.judgePass (s : State) (p : List Byte) : RespCode ⊕ (Node × PassOp) :=
  if p.isEmpty then .inl .badParam
  else
    match nodeOfNat? (byteAt p 0) with
    | none => .inl .noNode
    | some n =>
      if s.nodeKind n = .noNode then .inl .noNode
      else if p.length < 3 ∨ 1 < byteAt p 1 then .inl .badParam
      else if s.dEchoRunning then .inl .busy
      else .inr (n, if byteAt p 1 = 0 then .write else .read)

/-- Whether the queue admits a PASS_WRITE (R91). -/
def State.admitsPass (s : State) : Bool :=
  decide (s.dlc.queue.length < 12) &&
    decide ((s.dlc.queue.filter fun e => e.val.isPass).length < 10)

/-- A refused PASS is counted and answered (R100). -/
def refusePass (code : RespCode) (s : State) : State :=
  answer code [] (countDlc (fun c => { c with passRefused := bump c.passRefused }) s)

/-- A PARAM_WRITE that passed R99 (R100). -/
def passWrite (n : Node) (bytes : List Byte) (s : State) : State :=
  if s.rse.ctx3.isSome then refusePass .refusedState s
  else if !s.admitsPass then refusePass .retry s
  else
    answer .ok []
      (joinTail ⟨n, .param bytes, .pass, false, false⟩
        (countDlc (fun c => { c with passWrites := bump c.passWrites }) s))

/-- The accepted read leaves the management queue and becomes the outstanding one (R159). -/
def holdRead (s : State) : State :=
  match s.mrh.queue with
  | [] => s
  | r :: rest => onMrh (fun m => { m with queue := rest, outstanding := some (r.tag, r.src) }) s

/-- A PARAM_READ that passed R99 (R101). -/
def passRead (n : Node) (bytes : List Byte) (s : State) : State :=
  if s.dlc.read.isSome then refusePass .busy s
  else if !s.dlc.queue.isEmpty then refusePass .retry s
  else
    arbitrate
      (onDlc (fun d =>
        { d with
          read := some ⟨n, bytes, false, false⟩
          cnt := { d.cnt with passReads := bump d.cnt.passReads } }) (holdRead s))

/-- A PASS is carried out (R99 to R101). -/
def passRequest (p : List Byte) (s : State) : State :=
  match s.judgePass p with
  | .inl code => refusePass code s
  | .inr (n, .write) => passWrite n (p.drop 2) s
  | .inr (n, .read) => passRead n [p.getD 2 0#8] s

/-! ### The DRIVE channel reset (R77, R104) -/

/-- The DLC after steps 1 to 4 of R104, but for the answer of the read. -/
def State.freshDlc (s : State) : Dlc :=
  { s.dlc with
    recs := PerSix.of fun n =>
      if s.nodeKind n = .noNode then none else some (NodeRec.fresh s.pollInterval)
    queue := []
    behind := []
    relayHeld := none
    flush := 0
    tx := none
    read := none
    cnt := DlcCounters.zero }

/-- A D-link echo ends as aborted, before the read is answered (log entry 64); the link is not yet given
back. -/
def abortDEcho (s : State) : State := if s.dEchoRunning then testOver .aborted s else s

/-- The DRIVE channel reset up to its zero posts (R77, R104): a D-link echo ends with TEST_DONE and then the
read is answered (log entry 64), the transaction, queue, records and counters go, and the zeros are posted. -/
def driveStilled (s : State) : State :=
  let t := abortDEcho s
  let t := if t.dlc.read.isSome then answerRead .nodeTimeout [] t else t
  resetZeroPosts (powerSilent { t with dlc := t.freshDlc })

/-! ### A swap (R103) -/

/-- The kinds of the six addresses under the tables in force. -/
def State.nodeKinds (s : State) : PerSix NodeKind := PerSix.of s.nodeKind

/-- Whether an address keeps its kind through a swap. -/
def State.kindKept (s : State) (before : PerSix NodeKind) (n : Node) : Bool :=
  before.get n == s.nodeKind n

/-- A record after a swap (R103). -/
def State.swapRec (s : State) (before : PerSix NodeKind) (n : Node) : Option NodeRec :=
  if s.kindKept before n then s.dlc.recs.get n
  else if s.nodeKind n = .noNode then none
  else some (NodeRec.fresh s.pollInterval)

/-- A held relay command whose address changed kind. -/
def State.relayGoes (s : State) (before : PerSix NodeKind) : Bool :=
  match s.dlc.relayHeld with
  | some (n, _) => !s.kindKept before n
  | none => false

/-- The queue with what stands behind its zeros (log entry 45), the holding place, the records and the
transaction at a swap (R103). -/
def State.swapDlc (s : State) (before : PerSix NodeKind) : Dlc :=
  let stays (e : QEntry) : Bool := s.kindKept before e.node
  let leave := (s.dlc.queue ++ s.dlc.behind).filter fun e => !stays e
  let gone := leave.length + if s.relayGoes before then 1 else 0
  afterLeaving
    { s.dlc with
      recs := PerSix.of (s.swapRec before)
      queue := s.dlc.queue.filter stays
      behind := s.dlc.behind.filter stays
      relayHeld := if s.relayGoes before then none else s.dlc.relayHeld
      tx := s.dlc.tx.map fun t => { t with renewed := t.renewed || !s.kindKept before t.node }
      cnt := { s.dlc.cnt with discards := bumpBy gone s.dlc.cnt.discards } }

/-- A pass-through read to an address that is NONE now: one in flight is marked, so that it is answered
NO_NODE when its transaction ends, and any other is answered NO_NODE at once (R103). -/
def swapRead (s : State) : State :=
  match s.dlc.read with
  | none => s
  | some r =>
    if s.nodeKind r.node ≠ .noNode then s
    else if r.inFlight then onDlc (fun d => { d with read := some { r with gone := true } }) s
    else refuseRead s

/-- The DLC takes a new node table (R103); a POWER node that has begun afresh or gone is not
RESPONSIVE to the DKC (R127; log entry 27). -/
def dlcSwap (before : PerSix NodeKind) (powerBefore : Option Node) (s : State) : State :=
  let t := swapRead { s with dlc := s.swapDlc before }
  if t.powerNode = powerBefore then t else powerSilent t

end Sys2Proof.Machine
end

