-- ==== Sys2Proof/Machine/Nav.lean ====
section
/-! DEFINITION. The receive framer and its frames, MOTION frames and their age, the management queue,
and the end of an upstream frame (09, 04 section 4.3). -/

namespace Sys2Proof.Machine

/-! ### MOTION frames and their age (R63 to R65) -/

/-- A frame's sequence against the latest command's (R63): none for a duplicate, otherwise the
sequence numbers skipped. -/
def motionSkipped (latest : Option NavCmd) (seq : Nat) : Option Nat :=
  match latest with
  | none => some 0
  | some c =>
    if seq = c.seq then none
    else if seq = (c.seq + 1) % 256 then some 0
    else some ((seq + 511 - c.seq) % 256)

/-- The command of an accepted frame, each field brought into range (R64). -/
def motionCmd (p : List Byte) : NavCmd :=
  { seq := byteAt p 0
    mode := if byteAt p 1 = 1 then .drive else .stop
    left := clampI (-2000) 2000 (sgn16 (wordAt p 2))
    right := clampI (-2000) 2000 (sgn16 (wordAt p 4))
    blade := min (wordAt p 6) 5000 }

/-- How many fields of a frame are brought into range (R64; log entry 14). -/
def motionClamps (p : List Byte) : Nat :=
  (if 1 < byteAt p 1 then 1 else 0) +
    (if (motionCmd p).left = sgn16 (wordAt p 2) then 0 else 1) +
    (if (motionCmd p).right = sgn16 (wordAt p 4) then 0 else 1) +
    (if (motionCmd p).blade = wordAt p 6 then 0 else 1)

/-- The gate after it has accepted a frame: the latest command, its age from 0, and the counts
(R63, R64). -/
def motionTaken (p : List Byte) (skipped : Nat) (m : Mgt) : Mgt :=
  { m with
    cmd := some (motionCmd p)
    age := ⟨.running, 0⟩
    cnt := { m.cnt with
      accepted := bump m.cnt.accepted
      skipped := bumpBy skipped m.cnt.skipped
      clamped := bumpBy (motionClamps p) m.cnt.clamped } }

/-- A MOTION frame reaches the gate (R63, R64). -/
def motionFrame (p : List Byte) (s : State) : State :=
  if p.length ≠ 8 then countMgt (fun c => { c with malformed := bump c.malformed }) s
  else
    match motionSkipped s.mgt.cmd (byteAt p 0) with
    | none => countMgt (fun c => { c with duplicate := bump c.duplicate }) s
    | some k => evaluate (onMgt (motionTaken p k) s)

/-- Whether the command age limit has been reached (R65). -/
def State.ageDue (s : State) : Bool := s.mgt.age.due s.ageLimit

/-- The NAV command goes stale and becomes STOP, without the evaluation that follows (R65). -/
def goStale (s : State) : State :=
  match s.mgt.cmd with
  | none => s
  | some c =>
    setFlag .cmdStale [u8 c.seq]
      (onMgt (fun m =>
        { m with
          cmd := some { c with mode := .stop }
          age := { m.age with st := .expired }
          cnt := { m.cnt with stale := bump m.cnt.stale } }) s)

/-- The NAV command goes stale (R65). -/
def ageExpired (s : State) : State := evaluate (goStale s)

/-! ### Link errors (R156 to R158) -/

/-- The causes of LINK_ERROR (11 section 11.1). -/
inductive LinkCause | length | crc | truncated | kind | queueFull
  deriving DecidableEq, Repr

def LinkCause.num : LinkCause → Nat
  | .length => 0
  | .crc => 1
  | .truncated => 2
  | .kind => 3
  | .queueFull => 4

def countCause (cause : LinkCause) (c : NliCounters) : NliCounters :=
  match cause with
  | .length => { c with lengthOverrun := bump c.lengthOverrun }
  | .crc => { c with badCrc := bump c.badCrc }
  | .truncated => { c with truncated := bump c.truncated }
  | .kind => { c with kindRefused := bump c.kindRefused }
  | .queueFull => { c with queueFull := bump c.queueFull }

/-- A frame is discarded, refused or dropped for a cause: counted, and LINK_ERROR set. -/
def linkError (cause : LinkCause) (s : State) : State :=
  setFlag .linkError [u8 cause.num] (countNli (countCause cause) s)

/-! ### Dispatch (R157, R158) -/

/-- A claimed MGMT_REQ or PASS is offered to the management queue (R158). -/
def queueRequest (f : NFrame) (s : State) : State :=
  if s.mrh.queue.length < 4 then
    onMrh (fun m =>
      { m with queue := m.queue ++ [⟨f.kind == kindPass, f.tag, f.src, f.payload⟩] }) s
  else linkError .queueFull s

/-- A claimed frame by its kind (R157). -/
def dispatch (f : NFrame) (s : State) : State :=
  if f.kind = kindMotion then motionFrame f.payload s
  else if f.kind = kindMgmtReq ∨ f.kind = kindPass then queueRequest f s
  else linkError .kind s

/-- A received frame: counted, claimed when its destination is 1, and echoed while an N-link echo
runs (R156, R157, R169). -/
def received (f : NFrame) (s : State) : State :=
  let s := countNli (fun c => { c with received := bump c.received }) s
  if f.dst ≠ 1 then countNli (fun c => { c with notClaimed := bump c.notClaimed }) s
  else if s.nEchoing then echoFrame f s
  else dispatch f s

/-! ### The receive framer (R156) -/

def setFramer (st : FramerState) (bytes : List Byte) (s : State) : State :=
  onNli (fun n => { n with framer := ⟨st, bytes⟩ }) s

/-- The frame whose header, payload and CRC the framer has taken. -/
def frameOf (bytes : List Byte) : NFrame :=
  { dst := byteAt bytes 1 / 16
    src := byteAt bytes 1 % 16
    kind := bytes.getD 2 0#8
    tag := bytes.getD 3 0#8
    payload := (bytes.drop 4).take (byteAt bytes 0) }

/-- Whether the two CRC bytes match the header and payload. -/
def frameCrcOk (bytes : List Byte) : Bool :=
  bytes.drop (4 + byteAt bytes 0) == crcBytes (bytes.take (4 + byteAt bytes 0))

/-- A complete frame: received, or discarded for its CRC. -/
def frameDone (bytes : List Byte) (s : State) : State :=
  let s := setFramer .hunt [] s
  if frameCrcOk bytes then received (frameOf bytes) s else linkError .crc s

/-- A complete header: the payload length is judged (R156). -/
def headerDone (bytes : List Byte) (s : State) : State :=
  if 96 < byteAt bytes 0 then linkError .length (setFramer .hunt [] s)
  else if byteAt bytes 0 = 0 then setFramer .check bytes s
  else setFramer .payload bytes s

/-- One byte arrives at the framer (R156). -/
def takeByte (s : State) (b : Byte) : State :=
  let bytes := s.nli.framer.bytes ++ [b]
  match s.nli.framer.st with
  | .hunt => if b = 0x7E#8 then setFramer .header [] s else s
  | .header => if bytes.length = 4 then headerDone bytes s else setFramer .header bytes s
  | .payload =>
    if bytes.length = 4 + byteAt bytes 0 then setFramer .check bytes s
    else setFramer .payload bytes s
  | .check =>
    if bytes.length = 6 + byteAt bytes 0 then frameDone bytes s else setFramer .check bytes s

/-- Bytes arrive one after another. -/
def takeBytes (bytes : List Byte) (s : State) : State := bytes.foldl takeByte s

/-- No further byte has come within 1 ms: a frame in progress is truncated (R156). -/
def truncate (s : State) : State :=
  if s.nli.framer.st = .hunt then s else linkError .truncated (setFramer .hunt [] s)

/-! ### The upstream transmitter (R160, R161, R163, R166, R169) -/

/-- The head of the management queue leaves once its answer has been sent (R158, R159). -/
def popHead (s : State) : State :=
  onMrh (fun m => { m with queue := m.queue.tail, headDone := false }) s

/-- What the end of an upstream frame brings by where it came from. -/
def sentEffect (cls : OutClass) (s : State) : State :=
  match cls with
  | .headAnswer .nothing => popHead s
  | .headAnswer .fullReset => onMrh (fun m => { m with fullResetDue := true }) (popHead s)
  | .headAnswer .echoBegin => onLbu (fun l => { l with beginDue := true }) (popHead s)
  | .readAnswer => s
  | .echoed => s
  | .event =>
    onNli (fun n =>
      { n with
        eventTag := (n.eventTag + 1) % 256
        cnt := { n.cnt with eventsSent := bump n.cnt.eventsSent } }) s
  | .telemetry =>
    onNli (fun n =>
      { n with
        telemTag := (n.telemTag + 1) % 256
        cnt := { n.cnt with telemetrySent := bump n.cnt.telemetrySent } }) s

/-- The sending of an upstream frame ends, and the transmitter begins the next (R160). -/
def frameSent (s : State) : State :=
  match s.nli.sending with
  | none => s
  | some o =>
    txBegin
      (sentEffect o.cls
        (onNli (fun n =>
          { n with sending := none, cnt := { n.cnt with framesSent := bump n.cnt.framesSent } }) s))

end Sys2Proof.Machine
end

