-- ==== Sys2Proof/Machine/Store.lean ====
section
/-! DEFINITION. The Table Store: load validation by the field rules, loading, reading, and the swap
with the cross-table validation (08, and the validations of 01 R9, 02 R28 and R29, 03 R45, 04 R67, 05
R83, 06 R106 and R107). -/

namespace Sys2Proof.Machine

/-! ### A table under validation -/

/-- The memory, the address of the table under validation, and the fields changed so far. -/
structure Check where
  mem : List Host.Cell
  base : Nat
  n : Nat
  deriving DecidableEq, Repr

def Check.get8 (c : Check) (off : Nat) : Nat := (Memory.read c.mem (c.base + off)).toNat
def Check.get16 (c : Check) (off : Nat) : Nat :=
  rd16 (Memory.read c.mem (c.base + off)) (Memory.read c.mem (c.base + off + 1))

/-- A one-byte field takes a value; a change is one clamped field. -/
def Check.fix8 (off v : Nat) (c : Check) : Check :=
  if c.get8 off = v then c
  else { c with mem := Memory.write c.mem (c.base + off) (u8 v), n := c.n + 1 }

/-- A two-byte word takes a value in which `changed` fields differ. -/
def Check.fix16 (off v changed : Nat) (c : Check) : Check :=
  if c.get16 off = v then c
  else { c with mem := Memory.writeBytes c.mem (c.base + off) (be16 v), n := c.n + changed }

/-- A one-byte number brought into its range. -/
def Check.clamp8 (off lo hi : Nat) (c : Check) : Check := c.fix8 off (clampN lo hi (c.get8 off))

/-- A two-byte number brought into its range. -/
def Check.clamp16 (off lo hi : Nat) (c : Check) : Check := c.fix16 off (clampN lo hi (c.get16 off)) 1

/-- A two-byte signed number brought into its range. -/
def Check.clampS16 (off : Nat) (lo hi : Int) (c : Check) : Check :=
  c.fix16 off (clampI lo hi (sgn16 (c.get16 off)) % 65536).toNat 1

/-- An enumerated field above its last value takes the replacement value. -/
def Check.enum (off last repl : Nat) (c : Check) : Check :=
  c.fix8 off (if last < c.get8 off then repl else c.get8 off)

/-! ### GENERAL (R45, R83, R145) -/

/-- The nearest of the three code lengths (R145). -/
def nearestLength (n : Nat) : Nat := if n < 24 then 16 else if n < 48 then 32 else 64

/-- The telemetry interval in range: 0 stands (R145). -/
def telemetryRange (n : Nat) : Nat := if n = 0 then 0 else clampN 10 10000 n

/-- The scalar parameters (R145, Table 8-2). -/
def checkScalars (c : Check) : Check :=
  let c := c.fix8 0 (nearestLength (c.get8 0))
  let c := (((c.clamp8 1 0 15).clamp16 2 5 1000).clamp16 4 20 2000).clamp8 6 5 200
  let c := (((c.clamp8 7 1 20).clamp16 8 0 2000).clamp16 10 0 2000).clamp16 12 0 5000
  let c := (((c.clamp16 14 0 30000).clamp16 16 0 30000).clamp16 18 0 5000).clamp16 20 0 5000
  let c := (((c.clamp16 22 0 2000).clamp16 24 0 1000).clamp16 26 0 450).clamp16 28 0 5000
  let c := (((c.clamp16 30 0 10000).clamp16 34 0 60000).enum 36 1 0).clamp8 37 1 15
  let c := (((c.clamp16 38 0 60000).clamp16 40 100 5000).clamp16 42 0 1000).clamp16 44 0 10000
  (c.clamp16 46 0 60000).fix16 48 (telemetryRange (c.get16 48)) 1

/-- The mode a role requires, as the layout numbers modes: LEVEL 1, DUTY 4, 0 for any (R45). -/
def requiredMode (role : Nat) : Nat :=
  match role with
  | 1 | 2 | 3 | 4 => 1
  | 5 | 6 => 4
  | _ => 0

/-- Whether a lower-numbered pin has kept a tilt role in DUTY mode (R45, step 3). -/
def Check.tiltTaken (c : Check) (role : Nat) : Nat → Bool
  | 0 => false
  | p + 1 => (c.get8 (64 + 6 * p) == 4 && c.get8 (65 + 6 * p) == role) || c.tiltTaken role p

/-- The mode of a pin after steps 1 to 3 of R45, its role already validated. -/
def Check.pinMode (c : Check) (p : Nat) : Nat :=
  let m := c.get8 (64 + 6 * p)
  let role := c.get8 (65 + 6 * p)
  if 4 < m then 0
  else if requiredMode role ≠ 0 ∧ m ≠ requiredMode role then 0
  else if requiredMode role = 4 ∧ c.tiltTaken role p then 0
  else m

/-- The parameter of a pin in its mode's range (R45, step 4). -/
def Check.pinParam (p : Nat) (c : Check) : Check :=
  match c.get8 (64 + 6 * p) with
  | 1 => c.clamp16 (68 + 6 * p) 1 255
  | 2 => c.clamp16 (68 + 6 * p) 10 10000
  | 4 => c.clamp16 (68 + 6 * p) 10 1000
  | _ => c

/-- A pin configuration validated (R45). -/
def checkPin (c : Check) (p : Nat) : Check :=
  let c := (c.enum (65 + 6 * p) 6 0).enum (66 + 6 * p) 1 0
  Check.pinParam p (c.fix8 (64 + 6 * p) (c.pinMode p))

/-- How many of the addresses below `a` (counted from 0) have a kind. -/
def Check.kindsBelow (c : Check) (kind : Nat) : Nat → Nat
  | 0 => 0
  | a + 1 => (if c.get8 (50 + a) = kind then 1 else 0) + c.kindsBelow kind a

/-- How many nodes of a kind a node table may fit (R83). -/
def kindRoom (kind : Nat) : Nat :=
  match kind with
  | 1 | 2 => 2
  | 3 | 4 => 1
  | _ => 6

/-- An address of the node table validated (R83). -/
def checkNode (c : Check) (a : Nat) : Check :=
  let k := c.get8 (50 + a)
  c.fix8 (50 + a) (if 4 < k ∨ kindRoom k ≤ c.kindsBelow k a then 0 else k)

/-- The GENERAL table (R45, R83, R145). -/
def checkGeneral (c : Check) : Check :=
  (List.range 6).foldl checkNode ((List.range 8).foldl checkPin (checkScalars c))

/-! ### CODES and PROFILES (R9) -/

/-- A code record validated (R9): K_max, K_min, P_need and T_pass; the other fields fit their bits. -/
def checkCode (c : Check) (i : Nat) : Check :=
  let w := c.get16 (16 * i + 8)
  let v := c.get16 (16 * i + 10)
  let kMax := clampN 1 63 (bitsAt 8 6 w)
  let kMin := clampN 1 kMax (bitsAt 0 6 w)
  let pNeed := min (clampN 1 15 (bitsAt 12 4 v)) kMax
  let tPass := max 1 (bitsAt 0 11 v)
  let changedW :=
    (if kMax = bitsAt 8 6 w then 0 else 1) + (if kMin = bitsAt 0 6 w then 0 else 1)
  let changedV :=
    (if pNeed = bitsAt 12 4 v then 0 else 1) + (if tPass = bitsAt 0 11 v then 0 else 1)
  (c.fix16 (16 * i + 8) (putBits 0 6 kMin (putBits 8 6 kMax w)) changedW).fix16 (16 * i + 10)
    (putBits 0 11 tPass (putBits 12 4 pNeed v)) changedV

def checkCodes (c : Check) : Check := (List.range 8).foldl checkCode c

/-- A weight validated (R9). -/
def checkWeight (c : Check) (i : Nat) : Check := c.clamp8 i 0 32

def checkProfiles (c : Check) : Check := (List.range 64).foldl checkWeight c

/-! ### ZONES (R28) -/

/-- The fields of a PERIMETER slot. -/
def checkPerimeter (i : Nat) (c : Check) : Check :=
  let o := 32 * i
  let c := (((c.clamp16 (o + 4) 0 2000).clamp16 (o + 6) 0 1000).clamp16 (o + 10) 0 5000).clamp16
    (o + 12) 0 450
  let c := (c.clamp16 (o + 14) 0 2047).clamp8 (o + 16) 0 100
  c.fix8 (o + 17) (putBits i 1 0 (c.get8 (o + 17)))

/-- The fields of a GUIDE slot. -/
def checkGuide (i : Nat) (c : Check) : Check :=
  let o := 32 * i
  ((c.clamp16 (o + 4) 0 2000).clamp16 (o + 6) 0 1000).enum (o + 8) 1 0

/-- The fields of a STATION slot. -/
def checkStation (i : Nat) (c : Check) : Check :=
  let o := 32 * i
  (((c.clamp16 (o + 4) 0 2000).clamp16 (o + 6) 0 2047).clamp8 (o + 8) 1 120).clamp8 (o + 9) 0 3

/-- A slot validated on its own (R28). -/
def checkZone (c : Check) (i : Nat) : Check :=
  let o := 32 * i
  let c := (((c.enum o 4 0).clamp8 (o + 1) 0 7).clamp8 (o + 2) 1 15).clamp8 (o + 3) 1 255
  match c.get8 o with
  | 1 => checkPerimeter i c
  | 3 => checkGuide i c
  | 4 => checkStation i c
  | _ => c

def checkZones (c : Check) : Check := (List.range 4).foldl checkZone c

/-! ### DERATE (R67) and RESPONSES (R106, R107) -/

/-- A band of the DERATE table validated (R67). -/
def checkBand (c : Check) (b : Nat) : Check := (c.clamp8 (2 * b) 0 100).enum (2 * b + 1) 1 0

def checkDerate (c : Check) : Check := (List.range 8).foldl checkBand c

/-- An entry of the trigger map validated (R106). -/
def checkMap (c : Check) (t : Nat) : Check := (c.clamp8 (2 * t) 0 2).clamp8 (2 * t + 1) 0 15

/-- A step validated by its kind (R107, step 3); `o` is the offset of the step. -/
def checkStep (o : Nat) (c : Check) : Check :=
  let c := c.enum o 4 0
  match c.get8 o with
  | 1 =>
    ((c.clampS16 (o + 2) (-2000) 2000).clampS16 (o + 4) (-2000) 2000).clamp16 (o + 6) 0 10000
  | 2 => c.clamp16 (o + 6) 0 10000
  | _ => c

/-- The first `n` steps of the sequence at offset `o` validated. -/
def checkSteps (o : Nat) : Nat → Check → Check
  | 0, c => c
  | n + 1, c => checkStep (o + 4 + 8 * n) (checkSteps o n c)

/-- Whether a step keeps a repeat block from taking no time (R107, step 4). -/
def Check.stepHolds (c : Check) (o : Nat) : Bool :=
  match c.get8 o with
  | 0 => true
  | 4 => true
  | 1 => decide (0 < c.get16 (o + 6))
  | 2 => decide (0 < c.get16 (o + 6))
  | _ => false

/-- Whether a step from `a` to `b` does. -/
def Check.blockHolds (c : Check) (o a b : Nat) : Bool :=
  (List.range 8).any fun j => decide (a ≤ j) && decide (j ≤ b) && c.stepHolds (o + 4 + 8 * j)

/-- The repeat count after steps 2 and 4 of R107. -/
def Check.repeatCount (c : Check) (o : Nat) : Nat :=
  let a := c.get8 (o + 1)
  let b := c.get8 (o + 2)
  if b < a ∨ c.get8 o ≤ b then 1
  else if c.get8 (o + 3) = 0 ∧ c.blockHolds o a b = false then 1
  else c.get8 (o + 3)

/-- A sequence validated (R107). -/
def checkSequence (c : Check) (q : Nat) : Check :=
  let o := 32 + 68 * q
  let c := ((c.clamp8 o 1 8).clamp8 (o + 1) 0 7).clamp8 (o + 2) 0 7
  let c := checkSteps o (c.get8 o) c
  c.fix8 (o + 3) (c.repeatCount o)

def checkResponses (c : Check) : Check :=
  (List.range 16).foldl checkSequence ((List.range 7).foldl checkMap c)

/-- A table validated by the field rules of Table 8-1. -/
def checkTable (t : Table) (c : Check) : Check :=
  match t with
  | .general => checkGeneral c
  | .codes => checkCodes c
  | .profiles => checkProfiles c
  | .zones => checkZones c
  | .derate => checkDerate c
  | .responses => checkResponses c

/-! ### Loading (R146, R147) -/

/-- The positions of a segment: FIRST 0, MIDDLE 1, LAST 2, ONLY 3. -/
inductive SegPos | first | middle | last | only
  deriving DecidableEq, Repr

def SegPos.ofNat? (n : Nat) : Option SegPos :=
  match n with
  | 0 => some .first
  | 1 => some .middle
  | 2 => some .last
  | 3 => some .only
  | _ => none

/-- Whether a segment begins a load. -/
def SegPos.begins : SegPos → Bool
  | .first => true
  | .only => true
  | _ => false

/-- Whether a segment ends a load. -/
def SegPos.ends : SegPos → Bool
  | .last => true
  | .only => true
  | _ => false

def State.staged (s : State) (t : Table) : StagedTable := s.tbs.staged.get t.ix

def setStaged (t : Table) (v : StagedTable) (s : State) : State :=
  onTbs (fun b => { b with staged := b.staged.set t.ix v }) s

/-- A WRITE_TABLE is refused with BAD_PARAM (R146). -/
def refuseSegment (s : State) : State :=
  answer .badParam [] (countTbs (fun c => { c with segmentsRefused := bump c.segmentsRefused }) s)

/-- A refusal at checks 3 to 5 abandons the table's load (R146). -/
def abandonLoad (t : Table) (s : State) : State :=
  setStaged t { s.staged t with load := none } s

/-- Checks 3 to 5 of R146. -/
def State.segmentFits (s : State) (t : Table) (pos : SegPos) (off len : Nat) : Bool :=
  (if pos.begins then off == 0 else (s.staged t).load == some off) &&
    decide (off + len ≤ t.size) && (pos.ends || len % 16 == 0)

/-- A complete load is validated, its values written back and its mark set (R147). -/
def completeLoad (t : Table) (s : State) : State :=
  let c := checkTable t ⟨s.mem, s.tableAddr .staged t 0, 0⟩
  answer .ok (be16 c.n)
    (setStaged t ⟨true, none, c.n⟩
      (countTbs (fun k => { k with loadsCompleted := bump k.loadsCompleted })
        { s with mem := c.mem }))

/-- A load that ends short (R147); the answer's number takes two bytes (log entry 61). -/
def incompleteLoad (t : Table) (got : Nat) (s : State) : State :=
  answer .incomplete (be16 got)
    (setStaged t { s.staged t with load := none }
      (countTbs (fun k => { k with loadsIncomplete := bump k.loadsIncomplete }) s))

/-- An accepted segment (R146, R147); the bytes received are answered in two bytes (log entry 61). -/
def takeSegment (t : Table) (pos : SegPos) (off : Nat) (data : List Byte) (s : State) : State :=
  let mark := if pos.begins then false else (s.staged t).mark
  let got := off + data.length
  let s := setStaged t { s.staged t with mark := mark, load := some got }
    { s with mem := Memory.writeBytes s.mem (s.tableAddr .staged t off) data }
  if pos.ends then
    if got = t.size then completeLoad t s else incompleteLoad t got s
  else answer .ok (be16 got) s

/-- WRITE_TABLE (R146). -/
def writeTable (p : List Byte) (s : State) : State :=
  if s.tbs.swapPending then answer .busy [] s
  else
    match Table.ofNat? (byteAt p 0), SegPos.ofNat? (byteAt p 1) with
    | some t, some pos =>
      let data := p.drop 4
      if data.isEmpty ∨ 64 < data.length then refuseSegment s
      else if s.segmentFits t pos (wordAt p 2) data.length then
        takeSegment t pos (wordAt p 2) data s
      else refuseSegment (abandonLoad t s)
    | _, _ => refuseSegment s

/-! ### Reading (R148) -/

/-- The banks by number: ACTIVE 0, STAGED 1. -/
def Bank.ofNat? (n : Nat) : Option Bank :=
  match n with
  | 0 => some .active
  | 1 => some .staged
  | _ => none

/-- The bytes READ_TABLE asks for, or none where a parameter is out of its set or range (R148). -/
def State.tableBytes (s : State) (p : List Byte) : Option (List Byte) :=
  match Bank.ofNat? (byteAt p 0), Table.ofNat? (byteAt p 1) with
  | some b, some t =>
    if 5 ≤ p.length ∧ 1 ≤ byteAt p 4 ∧ byteAt p 4 ≤ 64 ∧ wordAt p 2 + byteAt p 4 ≤ t.size then
      some (Memory.readBytes s.mem (s.tableAddr b t (wordAt p 2)) (byteAt p 4))
    else none
  | _, _ => none

/-! ### SWAP_TABLES (R149) -/

/-- The set of STAGED tables whose loaded mark is clear. -/
def State.marksClear (s : State) : List Bool := s.tbs.staged.toList.map fun v => !v.mark

/-- The swap timer as an accepted SWAP_TABLES starts it, or with timeout 0 leaves it (R149; log entry
62). -/
def swapTimer (timeout : Nat) : LimitTimer :=
  if timeout = 0 then LimitTimer.zero else ⟨.running, 0, timeout⟩

/-- SWAP_TABLES (R149): INCOMPLETE alone carries the tables whose marks are clear (log entry 76). -/
def swapTables (s : State) : State :=
  if s.tbs.swapPending then answer .busy [] s
  else if s.marksClear.any id then
    answer .incomplete [maskByte s.marksClear]
      (countTbs (fun c => { c with swapsRefused := bump c.swapsRefused }) s)
  else
    answer .accepted []
      (onTbs (fun b => { b with swapPending := true, swapT := swapTimer s.swapTimeout }) s)

/-! ### Cross-table validation (R29) -/

/-- The address of a byte of a slot of the ACTIVE ZONES table. -/
def State.slotAddr (s : State) (i : Slot) (off : Nat) : Nat :=
  s.tableAddr .active .zones (32 * i.val + off)

def writeSlot (i : Slot) (off : Nat) (v : Byte) (s : State) : State :=
  { s with mem := Memory.write s.mem (s.slotAddr i off) v }

/-- Whether a lower-numbered slot that is still enabled satisfies a condition. -/
def State.lowerEnabled (s : State) (i : Slot) (ok : Slot → Bool) : Bool :=
  slots.any fun j => decide (j.val < i.val) && s.enabled j && ok j

/-- Whether the validation disables a slot (R29). -/
def State.slotRefused (s : State) (i : Slot) : Bool :=
  s.enabled i &&
    (!s.codeEnabled (s.slotCode i) ||
      s.lowerEnabled i (fun j => s.slotCode j == s.slotCode i) ||
      ((s.slotKind i == .guide || s.slotKind i == .station) &&
        s.lowerEnabled i (fun j => s.slotKind j == s.slotKind i)))

/-- A refused slot's kind is rewritten to DISABLED. -/
def validateSlot (s : State) (i : Slot) : State :=
  if s.slotRefused i then writeSlot i 0 0#8 s else s

/-- The bits of a passage mask that name an enabled PERIMETER slot, bits 4 to 7 kept (R29, R175). -/
def State.prunedMask (s : State) (m : Nat) : Nat :=
  let keep (j : Slot) : Nat :=
    if s.slotKind j = .perimeter then bitsAt j.val 1 m * 2 ^ j.val else 0
  bitsAt 4 4 m * 16 + keep 0 + keep 1 + keep 2 + keep 3

/-- A PERIMETER slot's passage mask is pruned. -/
def pruneSlot (s : State) (i : Slot) : State :=
  if s.slotKind i = .perimeter then writeSlot i 17 (u8 (s.prunedMask (s.zone8 i 17))) s else s

/-- How many slots are enabled. -/
def State.enabledCount (s : State) : Nat := (slots.filter s.enabled).length

/-- The cross-table validation (R29). -/
def crossValidate (s : State) : State := slots.foldl pruneSlot (slots.foldl validateSlot s)

/-! ### The swap (R151) -/

/-- Stage 1: the slots of the outgoing ZONES table are put back from the slot copy. -/
def restoreSlot (s : State) (i : Slot) : State :=
  writeSlot i 17 (s.tbs.slotCopy.get i).2 (writeSlot i 0 (s.tbs.slotCopy.get i).1 s)

/-- A slot's kind and passage mask bytes in the ACTIVE bank. -/
def State.slotBytes (s : State) (i : Slot) : Byte × Byte :=
  (s.tableByte .active .zones (32 * i.val), s.tableByte .active .zones (32 * i.val + 17))

/-- Stages 1 to 4: the slots put back, the banks exchanged, the marks set, the slot copy taken, and
the swap counted. -/
def exchange (s : State) : State :=
  let s := slots.foldl restoreSlot s
  let s := onTbs (fun b =>
    { b with
      activeHigh := !b.activeHigh
      staged := PerSix.all ⟨true, none, 0⟩
      swapPending := false
      swapT := b.swapT.stop
      cnt := { b.cnt with swapsTaken := bump b.cnt.swapsTaken } }) s
  let copy := PerSlot.of s.slotBytes
  onTbs (fun b => { b with slotCopy := copy }) s

/-- A NAV command whose age has passed the new limit goes stale at the swap (R65). -/
def swapStale (s : State) : State := if s.ageDue then goStale s else s

/-- The gate at a swap (R82): staleness, the zero posts, and its evaluation, which takes the swap's lift
and slope hand-offs with the new bank (log entry 72); at a swap that the zeros of a DRIVE channel reset bring,
its posts follow those zeros (R77; log entry 45). -/
def gateSwap (behind : Bool) (before : PerSix NodeKind) (s : State) : State :=
  evaluateAs behind (swapZeroPosts before (swapStale s))

/-- The telemetry timer restarts from 0 with the new interval (R163). -/
def telemetryRestart (s : State) : State :=
  onNli (fun n =>
    { n with
      telemT :=
        if s.telemetryInterval = 0 then LimitTimer.zero else ⟨.running, 0, s.telemetryInterval⟩ }) s

/-- The zone context begins afresh at a swap, and the gate sees no active zone and no strength before
the one evaluation it makes for the swap (R43, R82). -/
def zoneSwap (s : State) : State :=
  { s with zcu := s.zoneFresh s.zcu.cnt, mgt := { s.mgt with zone := none, prox := 0 } }

/-- Stage 5: every block takes the new ACTIVE bank (R25, R29, R43, R46, R58, R82, R103, R143, R163;
log entry 7). -/
def handBank (behind : Bool) (before : PerSix NodeKind) (powerBefore : Option Node) (s : State) :
    State :=
  let s := zoneSwap (wdcSwap s)
  let s := dlcSwap before powerBefore (spuSwapUnits s)
  let s := zoneToDock true true (gateSwap behind before s)
  telemetryRestart (spuSwapHandOff s)

/-- A swap is taken (R151), with the posts of the gate behind the zeros of a DRIVE channel reset where `behind`
says so. -/
def takeSwap (behind : Bool) (s : State) : State :=
  let t := exchange s
  let u := crossValidate t
  let gone := t.enabledCount - u.enabledCount
  arbitrate (setFlag .swapDone [u8 gone] (handBank behind s.nodeKinds s.powerNode u))

/-- Whether a pending swap can be taken (R150). -/
def State.swapDue (s : State) : Bool := s.tbs.swapPending && s.safePoint && !s.testRunning

/-- The test of the safe point: a pending swap is taken at the first moment at which the safe point holds and
no test runs (R150). It stands between a step and the next command, whatever that is, so that no other
command can come before the swap (log entry 79), and after the zero posts of a DRIVE channel reset (R154). -/
def takeDueSwap (behind : Bool) (s : State) : State := if s.swapDue then takeSwap behind s else s

/-! ### The DRIVE channel reset (R77, R104, R154) -/

/-- The DRIVE channel reset: the zeros are posted; the posted-zero indication that then holds reaches the Table
Store, which takes a pending swap where its safe point holds (R78, R150, R154); and the gate makes its
evaluation, the one of R77 and, where an echo has ended, of R76 too (log entry 57), whose posts, and those of
the swap, follow the zeros (log entry 45). -/
def driveReset (s : State) : State := arbitrate (evaluateBehind (takeDueSwap true (driveStilled s)))

/-! ### The swap timeout (R152) -/

/-- Whether the swap timer has reached its timeout while the swap is PENDING (R152). Where the safe point came
first the swap has been taken, so that no expiry follows (R150). -/
def State.swapTimeoutDue (s : State) : Bool := s.tbs.swapPending && s.tbs.swapT.due

/-- The conditions that do not hold: posted-zero, no context, dock state, no test. -/
def State.notSafe (s : State) : List Bool :=
  [!s.postedZero, s.ctxHeld, !s.dkc.dock.safe, s.testRunning]

/-- The pending swap is dropped (R152). -/
def dropSwap (s : State) : State :=
  setFlag .swapTimeout [maskByte s.notSafe]
    (onTbs (fun b =>
      { b with
        swapPending := false
        swapT := b.swapT.stop
        cnt := { b.cnt with swapsTimedOut := bump b.cnt.swapsTimedOut } }) s)

end Sys2Proof.Machine
end

