-- ==== Sys2Proof/Machine/Status.lean ====
section
/-! DEFINITION. What the host reads: the sections of READ_STATUS, the counters, READ_VERDICT,
SENSE_READ, TEST_RESULT and the TELEMETRY frame (11 section 11.1; log entry 17). -/

namespace Sys2Proof.Machine

/-! ### Fields -/

/-- The state of a timer in the order of the table that owns it. -/
def timerByte (order : List TimerState) (st : TimerState) : Byte := u8 (order.idxOf st)

/-- A timer with its elapsed time in two bytes. -/
def timer16 (order : List TimerState) (t : Timer) : List Byte :=
  timerByte order t.st :: be16 (toMs t.elapsed)

/-- A timer with its elapsed time in two bytes. -/
def limit16 (order : List TimerState) (t : LimitTimer) : List Byte :=
  timer16 order ⟨t.st, t.elapsed⟩

/-- Timers that are STOPPED, RUNNING or SPENT. -/
def spentOrder : List TimerState := [.stopped, .running, .spent]
/-- Timers that are STOPPED, RUNNING or HELD. -/
def heldOrder : List TimerState := [.stopped, .running, .held]
/-- The outside timer (Table 2-2). -/
def outsideOrder : List TimerState := [.stopped, .running, .paused, .held, .spent]
/-- The age timer (Table 4-1). -/
def ageOrder : List TimerState := [.stopped, .running, .expired]

/-- A field that holds a number of one byte or a named value. -/
def opt8 (n : Option Nat) : List Byte :=
  match n with
  | some n => [0#8, u8 n]
  | none => [1#8, 0#8]

/-- A field that holds a number of two bytes or a named value. -/
def opt16 (z : Option Int) : List Byte :=
  match z with
  | some z => 0#8 :: be16i z
  | none => [1#8, 0#8, 0#8]

/-- A lane class in the order of Table 2-2. -/
def LaneClass.num : LaneClass → Nat
  | .pending => 0
  | .inside => 1
  | .outside => 2
  | .noClass => 3

/-- A loop state as the TELEMETRY layout numbers it (log entry 55). -/
def LoopState.num : LoopState → Nat
  | .disabled => 0
  | .pending => 1
  | .inside => 2
  | .outside => 3
  | .straddle => 4
  | .lost => 5

def AxisState.num : AxisState → Nat
  | .absent => 0
  | .pending => 1
  | .valid => 2
  | .fault => 3

def Source.num : Source → Nat
  | .nav => 0
  | .dock => 1
  | .resp1 => 2
  | .resp2 => 3
  | .resp3 => 4

def NodeState.num : NodeState → Nat
  | .unknown => 0
  | .responsive => 1
  | .unresponsive => 2

def VerdictKind.num : VerdictKind → Nat
  | .lockedIn => 0
  | .lockedOut => 1
  | .weakIn => 2
  | .weakOut => 3
  | .absent => 4

/-! ### ZONE (R44) -/

/-- The ZONE section: loop state and zone number slot by slot (log entry 43), a loop state by the
TELEMETRY layout's numbers (log entry 55), then the active zone, the strengths, the outside timer and the
freeze. -/
def State.zoneSection (s : State) : List Byte :=
  (slots.flatMap fun i =>
    [u8 (s.zcu.loops.get i).num, u8 (if s.enabled i then s.zoneNumber i else 0)]) ++
  opt8 (s.zcu.active.map Fin.val) ++ [u8 s.activeNumber] ++ be16 s.zcu.prox ++
  be16 s.zcu.station ++ timer16 outsideOrder s.zcu.outTimer ++ [flagByte s.zcu.frozen]

/-! ### SENSE (R59) -/

/-- Whether a pin is reported active (R59). -/
def PinUnit.reportedActive (u : PinUnit) : Bool :=
  u.activeAs .bumpFront || u.activeAs .bumpRear || u.activeAs .lift || u.activeAs .rain

/-- An axis: its angle and then its state (log entry 56). -/
def axisBytes (a : Axis) : List Byte := be16i a.angle ++ [u8 a.st.num]

/-- The SENSE section: each axis with its state (log entry 56), the slope, the tilt timer, the conditions and
the pins. -/
def State.senseSection (s : State) : List Byte :=
  axisBytes s.spu.pitch ++ axisBytes s.spu.roll ++ be16 s.slope ++
  [flagByte s.tiltUnknown, flagByte s.overSlope] ++ timer16 spentOrder s.spu.tilt ++
  [flagByte s.liftCond, flagByte s.rainCond] ++
  s.spu.units.toList.map fun u => flagByte u.reportedActive

/-! ### GATE (R79) -/

/-- The latest NAV command: its sequence or none, then its other fields (log entry 65). -/
def navBytes (c : Option NavCmd) : List Byte :=
  match c with
  | some c =>
    opt8 (some c.seq) ++ [if c.mode = .drive then 1#8 else 0#8] ++ be16i c.left ++ be16i c.right ++
      be16 c.blade
  | none => opt8 none ++ [0#8] ++ be16 0 ++ be16 0 ++ be16 0

/-- The last posted value of an address that the gate maps to, 0 elsewhere. -/
def State.postedAt (s : State) (n : Node) : Int :=
  if (s.zeroAt n).isSome then s.mgt.posted.get n else 0

/-- The GATE section, with the fields of R79 in their order, none of which is the side that R71 chooses (log
entry 73). -/
def State.gateSection (s : State) : List Byte :=
  let m := s.mgt
  [u8 m.source.num] ++ navBytes m.cmd ++ timer16 ageOrder m.age ++
  [flagByte (m.age.st == .expired), u8 m.band, u8 m.ps, u8 m.pn] ++
  be16 m.fb ++ be16 m.rb ++ be16 m.feff ++ be16 m.reff ++ be16i m.outL ++ be16i m.outR ++
  be16i m.outBlade ++ (nodes.flatMap fun n => be16i (s.postedAt n)) ++
  [flagByte s.dEchoRunning, flagByte s.postedZero]

/-! ### DRIVE and NODE (R102) -/

/-- The kind of an entry as section 5.3 orders them: WHEEL_SET 0 to PASS_WRITE 3. -/
def PostValue.kindNum : PostValue → Nat
  | .wheel _ => 0
  | .blade _ => 1
  | .relay _ => 2
  | .param _ => 3

/-- How many entries of a kind the queue holds. -/
def State.entriesOf (s : State) (k : Nat) : Nat :=
  (s.dlc.queue.filter fun e => e.val.kindNum == k).length

/-- The transaction in flight: a presence byte, node, request and attempt (log entry 53). -/
def txBytes (t : Option Transaction) : List Byte :=
  match t with
  | some t => [1#8, u8 (nodeAddr t.node), u8 t.carried.request, flagByte t.second]
  | none => [0#8, 0#8, 0#8, 0#8]

/-- Whether a pass-through read waits to be sent. -/
def State.readPending (s : State) : Bool :=
  match s.dlc.read with
  | some r => !r.inFlight
  | none => false

def State.driveSection (s : State) : List Byte :=
  [u8 s.dlc.queue.length] ++ ([0, 1, 2, 3].map fun k => u8 (s.entriesOf k)) ++
  [flagByte s.dlc.relayHeld.isSome] ++ be16 (min s.dlc.flush 65535) ++ txBytes s.dlc.tx ++
  [flagByte s.readPending]

/-- The value of an acknowledged set-point or relay command. -/
def PostValue.ackNum : PostValue → Int
  | .wheel v => v
  | .blade v => v
  | .relay close => if close then 1 else 0
  | .param _ => 0

/-- The telemetry of a node by its kind, 0 while absent (log entry 65); a closed relay is 1 (log entry
70). -/
def telemBytes (kind : NodeKind) (t : Option Telem) : List Byte :=
  match t with
  | some (.wheel speed current) => be16i speed ++ be16 current
  | some (.blade speed current) => be16 speed ++ be16 current
  | some (.power mv contact closed charge button) =>
    be16 mv ++ [flagByte contact, flagByte closed] ++ be16 charge ++ [u8 button]
  | none => List.replicate (if kind = .power then 7 else 4) 0#8

/-- The judging timers of a node by its kind (log entry 65). -/
def nodeTimers (kind : NodeKind) (r : NodeRec) : List Byte :=
  match kind with
  | .wheelLeft => limit16 spentOrder r.slip ++ limit16 spentOrder r.stall
  | .wheelRight => limit16 spentOrder r.slip ++ limit16 spentOrder r.stall
  | .blade => limit16 spentOrder r.jam
  | _ => []

/-- The status record of one node (R84; log entries 42 and 65). -/
def nodeBytes (kind : NodeKind) (r : NodeRec) : List Byte :=
  [u8 r.st.num] ++ opt16 (r.lastAck.map PostValue.ackNum) ++ be16 (toMs r.age) ++
  telemBytes kind r.telem ++ nodeTimers kind r

/-- The NODE section of an address, none where it names no fitted node. -/
def State.nodeSection (s : State) (addr : Nat) : Option (List Byte) :=
  match nodeOfNat? addr with
  | none => none
  | some n => (s.dlc.recs.get n).map (nodeBytes (s.nodeKind n))

/-! ### RESPONSE (R124) -/

def hazardMask (h : HazardSet) : Byte :=
  maskByte [h.lift, h.tiltOver, h.wireLost, h.nodeLost, h.outsideLimit]

/-- A context with every field of Table 6-4. -/
def ctxBytes (level : Nat) (running : Bool) (c : Option Ctx) : List Byte :=
  match c with
  | some c =>
    [u8 level, flagByte (!running), u8 c.trigger.num] ++ opt8 c.detail ++ [hazardMask c.hazards] ++
    opt8 c.seq ++ [u8 c.step] ++ opt16 (c.remaining.map fun r => (toMs r : Int)) ++
    [u8 c.repeats, flagByte c.bladeStop] ++ be16i c.left ++ be16i c.right
  | none => List.replicate 18 0#8

/-- The running level, or none. -/
def State.levelHeld (s : State) : Option Nat := s.runningCtx.map Prod.fst

/-- The RESPONSE section: the level, the contexts, each blocking condition in a byte of its own (log entry
60), the STOP line with its reasons, and the dock state. -/
def State.responseSection (s : State) : List Byte :=
  opt8 s.levelHeld ++ ctxBytes 1 (s.runningLevel == 1) s.rse.ctx1 ++
  ctxBytes 2 (s.runningLevel == 2) s.rse.ctx2 ++ ctxBytes 3 (s.runningLevel == 3) s.rse.ctx3 ++
  s.blocking.map flagByte ++
  [flagByte s.stopLine, flagByte s.rse.stopHazard, flagByte s.rse.stopSettle,
    flagByte s.rse.stopTest, u8 s.dkc.dock.num]

/-! ### DOCK (R142) -/

/-- The DOCK section; the debounced contact is 1 for ESTABLISHED (log entry 51). -/
def State.dockSection (s : State) : List Byte :=
  let k := s.dkc
  [u8 k.dock.num, flagByte (k.phase == .reversing), flagByte (k.origin == .start), u8 k.retry,
    u8 k.reason.num] ++
  (timerByte heldOrder k.approachT.st :: be32 (toMs k.approachT.elapsed)) ++
  timer16 heldOrder k.relayT ++ timer16 heldOrder k.motionT ++ limit16 spentOrder k.batteryT ++
  limit16 spentOrder k.rainT ++ [u8 k.present, u8 k.absent, flagByte k.established] ++
  opt8 k.button ++ be16i k.cmdL ++ be16i k.cmdR

/-! ### STORE (R155) -/

/-- A STAGED table: its mark, its load state with the bytes received in two bytes (log entry 61), and its
clamp count. -/
def stagedBytes (v : StagedTable) : List Byte :=
  [flagByte v.mark, flagByte v.load.isSome] ++ be16 (v.load.getD 0) ++ be16 v.clamps

def State.storeSection (s : State) : List Byte :=
  s.tbs.staged.toList.flatMap stagedBytes ++ [flagByte s.tbs.swapPending] ++
  limit16 spentOrder s.tbs.swapT ++
  [flagByte s.postedZero, flagByte s.ctxHeld, u8 s.dkc.dock.num, flagByte s.testRunning]

/-! ### LINK (R164) -/

/-- A flag with its detail in its own width, flag by flag (log entry 63). -/
def State.flagBytes (s : State) (f : EventFlag) : List Byte :=
  match s.flag f with
  | some d => 1#8 :: (d ++ List.replicate (f.detailSize - d.length) 0#8)
  | none => 0#8 :: List.replicate f.detailSize 0#8

/-- The strapped N-link rate in Mbit/s, as the LINK section gives it (log entry 52). -/
def nRateNum : NRate → Nat
  | .mbit1 => 1
  | .mbit2 => 2
  | .mbit4 => 4
  | .mbit8 => 8

/-- The strapped D-link rate in Mbit/s, as the LINK section gives it (log entry 52). -/
def dRateNum : DRate → Nat
  | .mbit1 => 1
  | .mbit2 => 2

def State.linkSection (s : State) : List Byte :=
  eventFlags.flatMap s.flagBytes ++ mask3 s.nli.mask.toNat ++
  [u8 s.mrh.queue.length, flagByte s.mrh.outstanding.isSome, u8 s.nli.answers.length,
    u8 s.nli.events.length, flagByte s.stopLine, u8 (nRateNum s.nRate), u8 (dRateNum s.dRate)]

/-! ### READ_STATUS (R164) -/

/-- The answer data of READ_STATUS, none for BAD_PARAM. -/
def State.statusData (s : State) (p : List Byte) : Option (List Byte) :=
  if p.isEmpty then none
  else
    match byteAt p 0 with
    | 0 => some s.zoneSection
    | 1 => some s.senseSection
    | 2 => some s.gateSection
    | 3 => some s.driveSection
    | 4 => s.nodeSection (byteAt p 1)
    | 5 => some s.responseSection
    | 6 => some s.dockSection
    | 7 => some s.storeSection
    | 8 => some s.linkSection
    | _ => none

/-! ### READ_COUNTERS (R164) -/

def nliCounts (c : NliCounters) : List Nat :=
  [c.received, c.lengthOverrun, c.badCrc, c.truncated, c.notClaimed, c.kindRefused, c.queueFull,
    c.unknownRequest, c.framesSent, c.eventsSent, c.eventReplaced, c.telemetrySent,
    c.telemetrySkipped]

def tbsCounts (c : TbsCounters) : List Nat :=
  [c.segmentsRefused, c.loadsCompleted, c.loadsIncomplete, c.swapsRefused, c.swapsTaken,
    c.swapsTimedOut]

/-- One counter of both coils. -/
def coilCounts (w : Wdc) (f : CoilUnit → Nat) : List Nat := [f w.coils.left, f w.coils.right]

def wdcCounts (w : Wdc) : List Nat :=
  coilCounts w (·.accepted) ++ [w.malformed] ++ coilCounts w (·.duplicate) ++
  coilCounts w (·.missing) ++ coilCounts w (·.overrun) ++ coilCounts w (·.aborted) ++
  coilCounts w (·.silences) ++ coilCounts w (·.testDropped)

def zcuCounts (c : ZcuCounters) : List Nat :=
  [c.zoneChanges, c.passages, c.exits, c.exitsWithheld, c.exitsByStation, c.keepouts, c.wireLost,
    c.outside]

def spuCounts (u : Spu) : List Nat :=
  u.units.toList.map (·.results) ++ u.units.toList.map (·.overruns) ++
  u.units.toList.map (·.faults) ++ [u.bumpsSuppressed]

def mgtCounts (c : MgtCounters) : List Nat :=
  [c.accepted, c.duplicate, c.skipped, c.clamped, c.malformed, c.stale, c.sourceChanges, c.posts]

def dlcCounts (c : DlcCounters) : List Nat :=
  [c.framesSent, c.answers, c.timeouts, c.retries, c.badAnswers, c.nodesLost, c.nodesRecovered,
    c.removedOnLoss, c.coalesce, c.relaySuperseded, c.discards, c.polls, c.slips, c.stalls, c.jams,
    c.passWrites, c.passReads, c.passRefused]

def rseCounts (c : RseCounters) : List Nat :=
  c.received ++
  [c.unmapped, c.underHazard, c.docked, c.created1, c.created2, c.created3, c.replaced,
    c.suspended, c.resumed, c.discarded, c.joined, c.cancels, c.clearsAccepted, c.clearsRefused]

def dkcCounts (c : DkcCounters) : List Nat :=
  [c.returnsNav, c.returnsBattery, c.returnsRain, c.unavailable, c.guideLost, c.approaches,
    c.approachTimeouts, c.contacts, c.relayTimeouts, c.docks, c.backoffs, c.retries, c.dockFaults,
    c.dockLost, c.stationRequests, c.departures, c.cancels, c.relayReposts]

/-- The counters of a block as Table 0-1 numbers it, none for BAD_PARAM: the MRH and the LBU keep
none. -/
def State.counters (s : State) (block : Nat) : Option (List Nat) :=
  match block with
  | 0 => some (nliCounts s.nli.cnt)
  | 2 => some (tbsCounts s.tbs.cnt)
  | 3 => some (wdcCounts s.wdc)
  | 4 => some (zcuCounts s.zcu.cnt)
  | 5 => some (spuCounts s.spu)
  | 6 => some (mgtCounts s.mgt.cnt)
  | 7 => some (dlcCounts s.dlc.cnt)
  | 8 => some (rseCounts s.rse.cnt)
  | 9 => some (dkcCounts s.dkc.cnt)
  | _ => none

/-- The answer data of READ_COUNTERS, none for BAD_PARAM. -/
def State.counterData (s : State) (p : List Byte) : Option (List Byte) :=
  if p.isEmpty then none else (s.counters (byteAt p 0)).map fun l => l.flatMap be16

/-! ### READ_VERDICT (R21) -/

/-- The verdict record of eight bytes, FF throughout when absent (11 section 11.1). -/
def verdictBytes (v : Option Verdict) (age : Nat) : List Byte :=
  match v with
  | some v =>
    [u8 v.kind.num, u8 v.periods] ++ be16 v.strength ++
    [u8 v.consecutive, u8 v.mismatches, u8 v.endSeq, u8 age]
  | none => List.replicate 8 0xFF#8

/-- The class READ_VERDICT reports: DISABLED, after the four classes, for a disabled slot (log entry
65). -/
def State.reportedClass (s : State) (i : Slot) (c : Coil) : Nat :=
  if s.enabled i then (s.laneClass i c).num else 4

/-- Whether a window is open, its period count and its consecutive-pass count. -/
def windowBytes (w : Option Window) : List Byte :=
  match w with
  | some w => [1#8, u8 w.k, u8 w.passes]
  | none => [0#8, 0#8, 0#8]

def State.laneData (s : State) (i : Slot) (c : Coil) : List Byte :=
  let l := (s.wdc.lanes.get i).get c
  let u := s.wdc.coils.get c
  [flagByte (s.enabled i), flagByte u.silent, u8 (s.reportedClass i c),
    flagByte l.verdict.isSome] ++
  verdictBytes l.verdict l.burstsSince ++ windowBytes l.window ++ opt8 u.expect

/-- The answer data of READ_VERDICT, none for BAD_PARAM. -/
def State.verdictData (s : State) (p : List Byte) : Option (List Byte) :=
  if p.length < 2 then none
  else
    match slotOfNat? (byteAt p 0), Coil.ofNat? (byteAt p 1) with
    | some i, some c => some (s.laneData i c)
    | _, _ => none

/-! ### SENSE_READ (R52) -/

/-- A pin result in two bytes; a LEVEL result is HIGH 0 or LOW 1. -/
def resultBytes (r : Option PinResult) : List Byte :=
  match r with
  | some (.lvl l) => 1#8 :: be16 (Level.num l)
  | some (.num n) => 1#8 :: be16 n
  | none => [0#8, 0#8, 0#8]

/-- The axis of a tilt pin, 0 for any other pin. -/
def State.pinAxis (s : State) (r : PinRole) : List Byte :=
  match r with
  | .tiltPitch => u8 s.spu.pitch.st.num :: be16i s.spu.pitch.angle
  | .tiltRoll => u8 s.spu.roll.st.num :: be16i s.spu.roll.angle
  | _ => [0#8, 0#8, 0#8]

/-- The answer data of SENSE_READ for a pin. -/
def State.pinData (s : State) (p : Pin) : List Byte :=
  let c := s.pinCfg p
  let u := s.spu.units.get p
  [u8 c.mode.num, u8 c.role.num, u8 (Level.num c.active)] ++ resultBytes u.result ++
  [flagByte u.ready, flagByte u.overrun, flagByte u.fault] ++
  s.pinAxis (if c.mode = .duty then c.role else .general)

/-! ### TEST_RESULT (R173) -/

def polarityByte (negative : Bool) : Byte := if negative then 0xFF#8 else 1#8

/-- The record of a test by its kind (11 section 11.1, Table 10-2); the last verdict is carried with
age 0. -/
def testBytes (p : TestParams) (r : TestRecord) : List Byte :=
  match p with
  | .absent => []
  | .nLinkEcho sec => [u8 sec] ++ be16 r.echoed ++ be16 r.echoDropped
  | .dLinkEcho node frames =>
    [u8 (nodeAddr node), u8 frames] ++ be16 r.sent ++ be16 r.matched ++ be16 r.mismatched ++
    be16 r.timeouts
  | .wirePattern slot coil negative amplitude noise bursts =>
    [u8 slot.val, u8 (Coil.num coil), polarityByte negative] ++ be16 amplitude ++ be16 noise ++
    [u8 bursts] ++ be16 r.placed ++ be16 r.lockedIn ++ be16 r.lockedOut ++ be16 r.weakIn ++
    be16 r.weakOut ++ be16 r.absent ++ verdictBytes r.last 0

/-- The answer data of TEST_RESULT. -/
def State.testData (s : State) : List Byte :=
  [u8 s.lbu.kind.num, u8 s.lbu.status.num] ++ testBytes s.lbu.params s.lbu.record

/-! ### Telemetry (R163) -/

/-- The lowest address of a kind. -/
def State.lowest (s : State) (k : NodeKind) : Option Node := nodes.find? fun n => s.nodeKind n == k

/-- The last posted value of the lowest address of a kind, 0 where none is fitted. -/
def State.postedOf (s : State) (k : NodeKind) : Int :=
  match s.lowest k with
  | some n => s.mgt.posted.get n
  | none => 0

/-- The telemetry of the lowest address of a kind. -/
def State.telemOf (s : State) (k : NodeKind) : Option Telem :=
  match s.lowest k with
  | some n => (s.dlc.recs.get n).bind (·.telem)
  | none => none

/-- The measured speed of the lowest address of a wheel kind, 0 without a STATUS (R102). -/
def State.speedOf (s : State) (k : NodeKind) : Int :=
  match s.telemOf k with
  | some (.wheel v _) => v
  | _ => 0

/-- The battery voltage of the POWER node, 0 without a STATUS (R102). -/
def State.batteryMv (s : State) : Nat :=
  match s.telemOf .power with
  | some (.power mv _ _ _ _) => mv
  | _ => 0

/-- The 39 bytes of a TELEMETRY payload. -/
def State.telemetryPayload (s : State) : List Byte :=
  be16i (s.postedOf .wheelLeft) ++ be16i (s.postedOf .wheelRight) ++ be16i (s.postedOf .blade) ++
  [u8 s.mgt.band, u8 s.runningLevel] ++ be16 s.mgt.feff ++ be16 s.mgt.reff ++
  be16i (s.speedOf .wheelLeft) ++ be16i (s.speedOf .wheelRight) ++ be16 s.batteryMv ++
  [u8 s.activeNumber, u8 s.dkc.dock.num] ++ (slots.map fun i => u8 (s.zcu.loops.get i).num) ++
  be16 s.zcu.prox ++ be16 s.zcu.station ++ be16i s.spu.pitch.angle ++ be16i s.spu.roll.angle ++
  be16 s.slope ++ [flagByte s.stopLine, 0#8] ++ mask3 (setFlagsNum s.nli.flags)

/-- Whether the telemetry timer has reached its interval. -/
def State.telemetryDue (s : State) : Bool := s.nli.telemT.due

/-- A TELEMETRY frame is formed and placed, in place of one that waits (R163). -/
def formTelemetry (s : State) : State :=
  let p := s.telemetryPayload
  txBegin
    (onNli (fun n =>
      { n with
        telemetry := some p
        telemT := { n.telemT with elapsed := 0 }
        cnt := { n.cnt with
          telemetrySkipped :=
            if n.telemetry.isSome then bump n.cnt.telemetrySkipped else n.cnt.telemetrySkipped } })
      s)

end Sys2Proof.Machine
end

