-- ==== Sys2Proof/Machine/Event.lean ====
section
/-! DEFINITION. The shape every command shares: a swap that is due is taken, time passes, and then the
command's own event comes about. -/

namespace Sys2Proof.Machine

/-- The part as a command meets it: a pending swap whose safe point holds has been taken, at the moment it
came to hold (R150; log entry 79), and then the command's `dt` has passed (log entry 1). -/
def arrive (dt : Nat) (s : State) : State := advance dt (takeDueSwap false s)

/-- The shape every command shares: while RESET_N is asserted the part is held and nothing happens
(R167); otherwise the event comes about in the part as the command meets it. -/
def onEvent (dt : Nat) (f : State → State) (s : State) : Host.Outcome State Fault Refusal :=
  if s.resetHeld then .next s else .next (f (arrive dt s))

end Sys2Proof.Machine
end

