-- ==== Sys2Proof/Machine/DockCommands.lean ====
section
/-! DEFINITION. The timer commands of the Response Engine and the Dock Controller. -/

namespace Sys2Proof.Machine

/-- Whether the approach timer has reached the approach timeout in APPROACH (R134). -/
def State.approachDue (s : State) : Bool :=
  s.dkc.dock == .approach && s.dkc.approachT.due s.approachTimeout

/-- Whether the relay timer has reached the relay timeout (R135, R138). -/
def State.relayDue (s : State) : Bool := s.dkc.relayT.due s.relayTimeout

/-- Whether the motion timer has reached the departure time (R136, R138). -/
def State.motionDue (s : State) : Bool := s.dkc.motionT.due s.departureTime

/-- STEP_TIMER_EXPIRY: the running context's step time runs out (R111). -/
def execStepTimerExpiry (dt : Nat) (s : State) : Host.Outcome State Fault Refusal :=
  onEvent dt (whenDue State.stepDue stepExpired) s

/-- BATTERY_TIMER_EXPIRY (R129). -/
def execBatteryTimerExpiry (dt : Nat) (s : State) : Host.Outcome State Fault Refusal :=
  onEvent dt (whenDue (fun s => s.dkc.batteryT.due) (dkcEvent batteryExpired)) s

/-- RAIN_TIMER_EXPIRY (R130). -/
def execRainTimerExpiry (dt : Nat) (s : State) : Host.Outcome State Fault Refusal :=
  onEvent dt (whenDue (fun s => s.dkc.rainT.due) (dkcEvent rainExpired)) s

/-- APPROACH_TIMER_EXPIRY (R134). -/
def execApproachTimerExpiry (dt : Nat) (s : State) : Host.Outcome State Fault Refusal :=
  onEvent dt (whenDue State.approachDue (dkcEvent approachExpired)) s

/-- RELAY_TIMER_EXPIRY (R135, R138). -/
def execRelayTimerExpiry (dt : Nat) (s : State) : Host.Outcome State Fault Refusal :=
  onEvent dt (whenDue State.relayDue (dkcEvent relayExpired)) s

/-- MOTION_TIMER_EXPIRY (R136, R138). -/
def execMotionTimerExpiry (dt : Nat) (s : State) : Host.Outcome State Fault Refusal :=
  onEvent dt (whenDue State.motionDue (dkcEvent motionExpired)) s

end Sys2Proof.Machine
end

