-- ==== Sys2Proof/Machine/DriveCommands.lean ====
section
/-! DEFINITION. The commands of the drive link. -/

namespace Sys2Proof.Machine

/-- POLL_DUE: a poll falls due for a node (R93, R94). -/
def execPollDue (dt : Nat) (n : Node) (s : State) : Host.Outcome State Fault Refusal :=
  onEvent dt (whenDue (fun s => (s.pollDueAge n).isSome) arbitrate) s

/-- D_LINK_FRAME: a frame arrives on the D-link (R86, R88). -/
def execDLinkFrame (dt : Nat) (bytes : List Byte) (s : State) : Host.Outcome State Fault Refusal :=
  onEvent dt (dLinkArrival bytes) s

/-- RESPONSE_TIMEOUT: the response timer expires (R87). -/
def execResponseTimeout (dt : Nat) (s : State) : Host.Outcome State Fault Refusal :=
  onEvent dt (whenDue State.responseDue responseExpired) s

/-- SLIP_TIMER_EXPIRY: a slip timer reaches the slip time (R96). -/
def execSlipTimerExpiry (dt : Nat) (n : Node) (s : State) : Host.Outcome State Fault Refusal :=
  onEvent dt (whenDue (State.slipDue n) (slipExpired n)) s

/-- STALL_TIMER_EXPIRY: a stall timer reaches the stall time (R97). -/
def execStallTimerExpiry (dt : Nat) (n : Node) (s : State) : Host.Outcome State Fault Refusal :=
  onEvent dt (whenDue (State.stallDue n) (stallExpired n)) s

/-- JAM_TIMER_EXPIRY: a jam timer reaches the jam time (R97). -/
def execJamTimerExpiry (dt : Nat) (n : Node) (s : State) : Host.Outcome State Fault Refusal :=
  onEvent dt (whenDue (State.jamDue n) (jamExpired n)) s

end Sys2Proof.Machine
end

