-- ==== Sys2Proof/Machine/NavCommands.lean ====
section
/-! DEFINITION. The commands of the N-link and of the NAV command's age. -/

namespace Sys2Proof.Machine

/-- N_LINK_FRAME: the bytes of a frame arrive on the N-link (R156). -/
def execNLinkFrame (dt : Nat) (bytes : List Byte) (s : State) : Host.Outcome State Fault Refusal :=
  onEvent dt (takeBytes bytes) s

/-- FRAME_TRUNCATION: bytes arrive, and then none for 1 ms (R156). -/
def execFrameTruncation (dt : Nat) (bytes : List Byte) (s : State) :
    Host.Outcome State Fault Refusal :=
  onEvent dt (fun s => truncate (takeBytes bytes s)) s

/-- LENGTH_OVERRUN: bytes arrive whose header gives a length above 96 (R156). -/
def execLengthOverrun (dt : Nat) (bytes : List Byte) (s : State) :
    Host.Outcome State Fault Refusal :=
  onEvent dt (takeBytes bytes) s

/-- AGE_TIMER_EXPIRY: the NAV command goes stale (R65). -/
def execAgeTimerExpiry (dt : Nat) (s : State) : Host.Outcome State Fault Refusal :=
  onEvent dt (whenDue State.ageDue ageExpired) s

/-- UPSTREAM_FRAME_SENT: the sending of an upstream frame ends (R160). -/
def execUpstreamFrameSent (dt : Nat) (s : State) : Host.Outcome State Fault Refusal :=
  onEvent dt frameSent s

/-- TELEMETRY_TIMER_EXPIRY: a TELEMETRY frame is formed (R163). -/
def execTelemetryTimerExpiry (dt : Nat) (s : State) : Host.Outcome State Fault Refusal :=
  onEvent dt (whenDue State.telemetryDue formTelemetry) s

end Sys2Proof.Machine
end

