-- ==== Sys2Proof/Machine/RequestCommands.lean ====
section
/-! DEFINITION. The management and pass-through requests, carried out from the head of the
management queue (09 section 9.2; log entry 5). -/

namespace Sys2Proof.Machine

/-! ### Answers -/

/-- OK with data, or BAD_PARAM without it (log entry 76). -/
def answerData (d : Option (List Byte)) (s : State) : State :=
  match d with
  | some d => answer .ok d s
  | none => answer .badParam [] s

/-- The number a three-byte mask holds. -/
def maskNat (p : List Byte) : Nat := byteAt p 0 * 65536 + byteAt p 1 * 256 + byteAt p 2

/-- The flags without those a mask names, flag n at bit n; the first flag has number `i` (R162). -/
def clearFlags (mask : Nat) : Nat → List (Option (List Byte)) → List (Option (List Byte))
  | _, [] => []
  | i, f :: rest => (if mask.testBit i then none else f) :: clearFlags mask (i + 1) rest

/-- ACK_EVENTS (R162). A BAD_PARAM carries no mask (log entry 76, DESIGN CHOICE). -/
def ackEvents (p : List Byte) (s : State) : State :=
  if p.length < 3 then answer .badParam [] s
  else
    let flags := clearFlags (maskNat p) 0 s.nli.flags
    answer .ok (mask3 (setFlagsNum flags)) (onNli (fun n => { n with flags := flags }) s)

/-- SET_REPORT_MASK (R162): members outside the nineteen flags are passed over. A BAD_PARAM carries no
mask (log entry 76, DESIGN CHOICE). -/
def setReportMask (p : List Byte) (s : State) : State :=
  if p.length < 3 then answer .badParam [] s
  else
    let mask := BitVec.ofNat 19 (maskNat p)
    answer .ok (mask3 mask.toNat) (onNli (fun n => { n with mask := mask }) s)

/-- RETURN (R128). -/
def requestReturn (s : State) : State :=
  answer (if s.returnAccepted then .ok else .refusedState) [] (dkcEvent dockReturn s)

/-- CANCEL_RETURN (R140). -/
def requestCancel (s : State) : State :=
  if s.dkc.dock.cancellable then answer .ok [] (dkcEvent dockCancel s)
  else answer .refusedState [] s

/-- UNDOCK (R138). -/
def requestUndock (s : State) : State :=
  if s.dkc.dock = .docked then answer .ok [] (dkcEvent dockUndock s)
  else answer .refusedState [] s

/-- CANCEL_RESPONSE (R120). -/
def cancelResponse (p : List Byte) (s : State) : State :=
  match byteAt p 0 with
  | 1 =>
    if s.rse.ctx1.isSome then answer .ok [] (cancelLevel1 s) else answer .refusedState [] s
  | 2 =>
    if s.rse.ctx2.isSome then answer .ok [] (cancelLevel2 s) else answer .refusedState [] s
  | _ => answer .badParam [] s

/-- CLEAR_HAZARD (R121): a refusal carries the blocking conditions that hold, none without a level-3
context. -/
def clearHazard (s : State) : State :=
  match s.rse.ctx3 with
  | none => answer .refusedState [0#8] s
  | some _ =>
    if s.blocking.any id then
      answer .refusedState [maskByte s.blocking]
        (countRse (fun c => { c with clearsRefused := bump c.clearsRefused }) s)
    else answer .ok [] (clearAccepted s)

/-- SENSE_READ (R52): the answer gives the flags as they stood before the read, and a BAD_PARAM none of
its data (log entry 76). -/
def senseRead (p : List Byte) (s : State) : State :=
  if p.isEmpty then answer .badParam [] s
  else
    match pinOfNat? (byteAt p 0) with
    | some pin => answer .ok (s.pinData pin) (consumeResult pin s)
    | none => answer .badParam [] s

/-- What follows the sending of a START_TEST's OK (R169). -/
def TestParams.after : TestParams → AfterSent
  | .nLinkEcho _ => .echoBegin
  | _ => .nothing

/-- START_TEST (R168). -/
def requestTest (p : List Byte) (s : State) : State :=
  if s.testRunning then answer .busy [] s
  else
    match parseTest p with
    | none => answer .badParam [] s
    | some t =>
      if s.judgeTest t = .ok then answerThen t.after .ok [] (startTest t s)
      else answer (s.judgeTest t) [] s

/-- The WIRE channel reset (R24, R43, R172): a wire pattern test that runs is aborted, TEST_DONE after
the hand-offs of the reset (log entry 54), of which the slope max may raise TILT_OVER (log entry 71). -/
def wireReset (s : State) : State :=
  let t := zoneReset (wdcReset s)
  if s.wireTest.isSome then testOver .aborted t else t

/-- CHANNEL_RESET (R165): WIRE 0, DRIVE 1, SENSE 2. -/
def channelReset (p : List Byte) (s : State) : State :=
  if p.isEmpty then answer .badParam [] s
  else
    match byteAt p 0 with
    | 0 => answer .ok [] (wireReset s)
    | 1 => answer .ok [] (driveReset s)
    | 2 => answer .ok [] (senseReset s)
    | _ => answer .badParam [] s

/-- Whether the head is a MGMT_REQ that names no request (R159; log entry 18). -/
def headUnknown (s : State) : Bool :=
  s.headReady &&
    match s.mrh.queue with
    | r :: _ => !r.pass && (r.payload.isEmpty || decide (17 < byteAt r.payload 0))
    | [] => false

/-- A request that names none is counted and answered BAD_PARAM (R159). -/
def unknownRequest (s : State) : State :=
  answer .badParam [] (countNli (fun c => { c with unknownRequest := bump c.unknownRequest }) s)

/-- Whether the head is a PASS that does not ask for the other operation (R99; log entry 19). -/
def headPass (other : PassOp) (s : State) : Bool :=
  s.headReady &&
    match s.mrh.queue with
    | r :: _ => r.pass && byteAt r.payload 1 != other.num
    | [] => false

/-- The PASS at the head is carried out. -/
def passHead (s : State) : State :=
  match s.mrh.queue with
  | r :: _ => passRequest r.payload s
  | [] => s

/-! ### The requests -/

/-- READ_STATUS (R164). -/
def execReadStatus (dt : Nat) (s : State) : Host.Outcome State Fault Refusal :=
  onEvent dt (onRequest 0 (fun p s => answerData (s.statusData p) s)) s

/-- READ_VERDICT (R21). -/
def execReadVerdict (dt : Nat) (s : State) : Host.Outcome State Fault Refusal :=
  onEvent dt (onRequest 1 (fun p s => answerData (s.verdictData p) s)) s

/-- READ_COUNTERS (R164). -/
def execReadCounters (dt : Nat) (s : State) : Host.Outcome State Fault Refusal :=
  onEvent dt (onRequest 2 (fun p s => answerData (s.counterData p) s)) s

/-- ACK_EVENTS (R162). -/
def execAckEvents (dt : Nat) (s : State) : Host.Outcome State Fault Refusal :=
  onEvent dt (onRequest 3 ackEvents) s

/-- SET_REPORT_MASK (R162). -/
def execSetReportMask (dt : Nat) (s : State) : Host.Outcome State Fault Refusal :=
  onEvent dt (onRequest 4 setReportMask) s

/-- WRITE_TABLE (R146, R147). -/
def execWriteTable (dt : Nat) (s : State) : Host.Outcome State Fault Refusal :=
  onEvent dt (onRequest 5 writeTable) s

/-- READ_TABLE (R148). -/
def execReadTable (dt : Nat) (s : State) : Host.Outcome State Fault Refusal :=
  onEvent dt (onRequest 6 (fun p s => answerData (s.tableBytes p) s)) s

/-- SWAP_TABLES (R149). -/
def execSwapTables (dt : Nat) (s : State) : Host.Outcome State Fault Refusal :=
  onEvent dt (onRequest 7 (fun _ => swapTables)) s

/-- RETURN (R128). -/
def execReturnHome (dt : Nat) (s : State) : Host.Outcome State Fault Refusal :=
  onEvent dt (onRequest 8 (fun _ => requestReturn)) s

/-- CANCEL_RETURN (R140). -/
def execCancelReturn (dt : Nat) (s : State) : Host.Outcome State Fault Refusal :=
  onEvent dt (onRequest 9 (fun _ => requestCancel)) s

/-- UNDOCK (R138). -/
def execUndock (dt : Nat) (s : State) : Host.Outcome State Fault Refusal :=
  onEvent dt (onRequest 10 (fun _ => requestUndock)) s

/-- CANCEL_RESPONSE (R120). -/
def execCancelResponse (dt : Nat) (s : State) : Host.Outcome State Fault Refusal :=
  onEvent dt (onRequest 11 cancelResponse) s

/-- CLEAR_HAZARD (R121). -/
def execClearHazard (dt : Nat) (s : State) : Host.Outcome State Fault Refusal :=
  onEvent dt (onRequest 12 (fun _ => clearHazard)) s

/-- SENSE_READ (R52). -/
def execSenseRead (dt : Nat) (s : State) : Host.Outcome State Fault Refusal :=
  onEvent dt (onRequest 13 senseRead) s

/-- START_TEST (R168). -/
def execStartTest (dt : Nat) (s : State) : Host.Outcome State Fault Refusal :=
  onEvent dt (onRequest 14 requestTest) s

/-- TEST_RESULT (R173). -/
def execTestResult (dt : Nat) (s : State) : Host.Outcome State Fault Refusal :=
  onEvent dt (onRequest 15 (fun _ s => answer .ok s.testData s)) s

/-- CHANNEL_RESET (R165). -/
def execChannelReset (dt : Nat) (s : State) : Host.Outcome State Fault Refusal :=
  onEvent dt (onRequest 16 channelReset) s

/-- FULL_RESET, whose effect follows once its answer has been sent (R166). -/
def execFullReset (dt : Nat) (s : State) : Host.Outcome State Fault Refusal :=
  onEvent dt (onRequest 17 (fun _ => answerThen .fullReset .ok [])) s

/-- UNKNOWN_REQUEST (R159). -/
def execUnknownRequest (dt : Nat) (s : State) : Host.Outcome State Fault Refusal :=
  onEvent dt (whenDue headUnknown unknownRequest) s

/-- PASS_WRITE (R99, R100). -/
def execPassWrite (dt : Nat) (s : State) : Host.Outcome State Fault Refusal :=
  onEvent dt (whenDue (headPass .read) passHead) s

/-- PASS_READ (R99, R101). -/
def execPassRead (dt : Nat) (s : State) : Host.Outcome State Fault Refusal :=
  onEvent dt (whenDue (headPass .write) passHead) s

end Sys2Proof.Machine
end

