-- ==== Sys2Proof/Machine/ResetCommands.lean ====
section
/-! DEFINITION. The reset of the whole part (09 R166, R167). -/

namespace Sys2Proof.Machine

/-- The part begins again, with its straps as sampled (R166, R167). -/
def restart (n : NRate) (d : DRate) (s : State) : State :=
  State.afterReset s.pending s.freeCount s.spu.levels n d

/-- FULL_RESET_EFFECT: the answer to a FULL_RESET has been sent, and the part takes its state after
RESET_N (R166). -/
def execFullResetEffect (dt : Nat) (n : NRate) (d : DRate) (s : State) :
    Host.Outcome State Fault Refusal :=
  onEvent dt (whenDue (fun s => s.mrh.fullResetDue) (restart n d)) s

/-- RESET_N is asserted: the part is held, the STOP line is asserted, and a frame partly received or
partly sent is lost (R122, R167; log entry 26). -/
def holdReset (s : State) : State :=
  onNli (fun n => { n with framer := ⟨.hunt, []⟩, sending := none })
    (onRse (fun r => { r with stopSettle := true }) { s with resetHeld := true })

/-- RESET_N_ASSERT (R167). -/
def execResetNAssert (dt : Nat) (s : State) : Host.Outcome State Fault Refusal :=
  onEvent dt holdReset s

/-- RESET_N_DEASSERT: every block takes its state after RESET_N, and the straps are sampled (R167). -/
def execResetNDeassert (dt : Nat) (n : NRate) (d : DRate) (s : State) :
    Host.Outcome State Fault Refusal :=
  if s.resetHeld then .next (restart n d s) else onEvent dt id s

end Sys2Proof.Machine
end

