-- ==== Sys2Proof/Machine/SenseCommands.lean ====
section
/-! DEFINITION. The commands of the Sense Pin Unit. -/

namespace Sys2Proof.Machine

/-- PIN_EDGE: a sense pin changes level (R47 to R50). The level of a pin is an input, so it follows
even while RESET_N holds the part (log entry 10). -/
def execPinEdge (dt : Nat) (p : Pin) (l : Level) (s : State) : Host.Outcome State Fault Refusal :=
  if s.resetHeld then .next (onSpu (fun x => { x with levels := x.levels.set p l }) s)
  else onEvent dt (pinChange p l) s

/-- DEBOUNCE_EXPIRY: a LEVEL pin has held its candidate (R47). -/
def execDebounceExpiry (dt : Nat) (p : Pin) (s : State) : Host.Outcome State Fault Refusal :=
  onEvent dt (whenDue (State.debounceDue p) (debounced p)) s

/-- EDGE_WINDOW_EXPIRY: a count window ends (R48). -/
def execEdgeWindowExpiry (dt : Nat) (p : Pin) (s : State) : Host.Outcome State Fault Refusal :=
  onEvent dt (whenDue (State.edgeWindowDue p) (edgeWindowEnd p)) s

/-- DUTY_TIMEOUT_EXPIRY: no complete period for the duty timeout (R50). -/
def execDutyTimeoutExpiry (dt : Nat) (p : Pin) (s : State) : Host.Outcome State Fault Refusal :=
  onEvent dt (whenDue (State.dutyTimeoutDue p) (dutyTimedOut p)) s

/-- TILT_TIMER_EXPIRY: the tilt timer reaches the tilt persistence (R58). -/
def execTiltTimerExpiry (dt : Nat) (s : State) : Host.Outcome State Fault Refusal :=
  onEvent dt (whenDue (fun s => s.spu.tilt.due s.tiltPersistence) tiltRaise) s

/-- SETTLE_END: the settle after a reset ends (R46). -/
def execSettleEnd (dt : Nat) (s : State) : Host.Outcome State Fault Refusal :=
  onEvent dt (whenDue State.settleDue settleOver) s

end Sys2Proof.Machine
end

