-- ==== Sys2Proof/Machine/StoreCommands.lean ====
section
/-! DEFINITION. The commands of the table swap and of the running tests. -/

namespace Sys2Proof.Machine

/-- SWAP_TAKE: a pending swap whose safe point holds is taken (R150, R151), at the moment it came to hold and
so before its `dt` passes (log entry 79). -/
def execSwapTake (dt : Nat) (s : State) : Host.Outcome State Fault Refusal :=
  if s.resetHeld then .next s else .next (advance dt (takeDueSwap false s))

/-- SWAP_TIMER_EXPIRY: a pending swap is dropped (R152). -/
def execSwapTimerExpiry (dt : Nat) (s : State) : Host.Outcome State Fault Refusal :=
  onEvent dt (whenDue State.swapTimeoutDue dropSwap) s

/-- N_LINK_ECHO_BEGIN: the OK of the START_TEST has been sent (R169). -/
def execNLinkEchoBegin (dt : Nat) (s : State) : Host.Outcome State Fault Refusal :=
  onEvent dt (whenDue State.echoBeginDue nEchoBegin) s

/-- N_LINK_ECHO_END: the echo timer reaches the duration (R169). -/
def execNLinkEchoEnd (dt : Nat) (s : State) : Host.Outcome State Fault Refusal :=
  onEvent dt (whenDue State.echoEndDue (testOver .completed)) s

/-- D_LINK_ECHO_TAKE_LINK: a D-link echo takes the free link (R170). -/
def execDLinkEchoTakeLink (dt : Nat) (s : State) : Host.Outcome State Fault Refusal :=
  onEvent dt (whenDue State.takeLinkDue takeLink) s

/-- PATTERN_BURST_PLACE: the next synthesized burst joins the ring (R171). -/
def execPatternBurstPlace (dt : Nat) (s : State) : Host.Outcome State Fault Refusal :=
  onEvent dt (whenDue State.placeDue placeBurst) s

end Sys2Proof.Machine
end

