-- ==== Sys2Proof/Machine/WireCommands.lean ====
section
/-! DEFINITION. The commands of the Wire Decoder and the Zone Context Unit. -/

namespace Sys2Proof.Machine

/-- BURST_ARRIVAL: a burst arrives on the C-port (R1). -/
def execBurstArrival (dt : Nat) (coil seq : Byte) (samples : List (BitVec 16)) (s : State) :
    Host.Outcome State Fault Refusal :=
  onEvent dt (burst coil seq samples) s

/-- CORRELATION_END: the correlation of a burst ends (R7). -/
def execCorrelationEnd (dt : Nat) (s : State) : Host.Outcome State Fault Refusal :=
  onEvent dt correlationOver s

/-- SILENCE_EXPIRY: a coil falls silent (R8). -/
def execSilenceExpiry (dt : Nat) (c : Coil) (s : State) : Host.Outcome State Fault Refusal :=
  onEvent dt (whenDue (State.silenceDue c) (silence c)) s

/-- OUTSIDE_TIMER_EXPIRY: the outside timer reaches the outside limit (R38). -/
def execOutsideTimerExpiry (dt : Nat) (s : State) : Host.Outcome State Fault Refusal :=
  onEvent dt (whenDue State.outsideDue outsideExpired) s

end Sys2Proof.Machine
end

