-- ==== Sys2Proof/Machine/Dispatch.lean ====
section
/-! DEFINITION. The meaning of every command: one arm per constructor of Instr. -/

namespace Sys2Proof.Machine

def exec (i : Instr) (s : State) : Host.Outcome State Fault Refusal :=
  match i with
  | .burstArrival dt coil seq samples => Sys2Proof.Machine.execBurstArrival dt coil seq samples s
  | .correlationEnd dt => Sys2Proof.Machine.execCorrelationEnd dt s
  | .silenceExpiry dt coil => Sys2Proof.Machine.execSilenceExpiry dt coil s
  | .outsideTimerExpiry dt => Sys2Proof.Machine.execOutsideTimerExpiry dt s
  | .pinEdge dt pin level => Sys2Proof.Machine.execPinEdge dt pin level s
  | .debounceExpiry dt pin => Sys2Proof.Machine.execDebounceExpiry dt pin s
  | .edgeWindowExpiry dt pin => Sys2Proof.Machine.execEdgeWindowExpiry dt pin s
  | .dutyTimeoutExpiry dt pin => Sys2Proof.Machine.execDutyTimeoutExpiry dt pin s
  | .tiltTimerExpiry dt => Sys2Proof.Machine.execTiltTimerExpiry dt s
  | .settleEnd dt => Sys2Proof.Machine.execSettleEnd dt s
  | .nLinkFrame dt bytes => Sys2Proof.Machine.execNLinkFrame dt bytes s
  | .frameTruncation dt bytes => Sys2Proof.Machine.execFrameTruncation dt bytes s
  | .ageTimerExpiry dt => Sys2Proof.Machine.execAgeTimerExpiry dt s
  | .pollDue dt node => Sys2Proof.Machine.execPollDue dt node s
  | .dLinkFrame dt bytes => Sys2Proof.Machine.execDLinkFrame dt bytes s
  | .responseTimeout dt => Sys2Proof.Machine.execResponseTimeout dt s
  | .slipTimerExpiry dt node => Sys2Proof.Machine.execSlipTimerExpiry dt node s
  | .stallTimerExpiry dt node => Sys2Proof.Machine.execStallTimerExpiry dt node s
  | .jamTimerExpiry dt node => Sys2Proof.Machine.execJamTimerExpiry dt node s
  | .stepTimerExpiry dt => Sys2Proof.Machine.execStepTimerExpiry dt s
  | .batteryTimerExpiry dt => Sys2Proof.Machine.execBatteryTimerExpiry dt s
  | .rainTimerExpiry dt => Sys2Proof.Machine.execRainTimerExpiry dt s
  | .approachTimerExpiry dt => Sys2Proof.Machine.execApproachTimerExpiry dt s
  | .relayTimerExpiry dt => Sys2Proof.Machine.execRelayTimerExpiry dt s
  | .motionTimerExpiry dt => Sys2Proof.Machine.execMotionTimerExpiry dt s
  | .swapTake dt => Sys2Proof.Machine.execSwapTake dt s
  | .swapTimerExpiry dt => Sys2Proof.Machine.execSwapTimerExpiry dt s
  | .readStatus dt => Sys2Proof.Machine.execReadStatus dt s
  | .readVerdict dt => Sys2Proof.Machine.execReadVerdict dt s
  | .readCounters dt => Sys2Proof.Machine.execReadCounters dt s
  | .ackEvents dt => Sys2Proof.Machine.execAckEvents dt s
  | .setReportMask dt => Sys2Proof.Machine.execSetReportMask dt s
  | .writeTable dt => Sys2Proof.Machine.execWriteTable dt s
  | .readTable dt => Sys2Proof.Machine.execReadTable dt s
  | .swapTables dt => Sys2Proof.Machine.execSwapTables dt s
  | .returnHome dt => Sys2Proof.Machine.execReturnHome dt s
  | .cancelReturn dt => Sys2Proof.Machine.execCancelReturn dt s
  | .undock dt => Sys2Proof.Machine.execUndock dt s
  | .cancelResponse dt => Sys2Proof.Machine.execCancelResponse dt s
  | .clearHazard dt => Sys2Proof.Machine.execClearHazard dt s
  | .senseRead dt => Sys2Proof.Machine.execSenseRead dt s
  | .startTest dt => Sys2Proof.Machine.execStartTest dt s
  | .testResult dt => Sys2Proof.Machine.execTestResult dt s
  | .channelReset dt => Sys2Proof.Machine.execChannelReset dt s
  | .fullReset dt => Sys2Proof.Machine.execFullReset dt s
  | .unknownRequest dt => Sys2Proof.Machine.execUnknownRequest dt s
  | .passWrite dt => Sys2Proof.Machine.execPassWrite dt s
  | .passRead dt => Sys2Proof.Machine.execPassRead dt s
  | .fullResetEffect dt nRate dRate => Sys2Proof.Machine.execFullResetEffect dt nRate dRate s
  | .upstreamFrameSent dt => Sys2Proof.Machine.execUpstreamFrameSent dt s
  | .telemetryTimerExpiry dt => Sys2Proof.Machine.execTelemetryTimerExpiry dt s
  | .nLinkEchoBegin dt => Sys2Proof.Machine.execNLinkEchoBegin dt s
  | .nLinkEchoEnd dt => Sys2Proof.Machine.execNLinkEchoEnd dt s
  | .dLinkEchoTakeLink dt => Sys2Proof.Machine.execDLinkEchoTakeLink dt s
  | .patternBurstPlace dt => Sys2Proof.Machine.execPatternBurstPlace dt s
  | .resetNAssert dt => Sys2Proof.Machine.execResetNAssert dt s
  | .resetNDeassert dt nRate dRate => Sys2Proof.Machine.execResetNDeassert dt nRate dRate s
  | .lengthOverrun dt bytes => Sys2Proof.Machine.execLengthOverrun dt bytes s

end Sys2Proof.Machine
end

