-- ==== Sys2Proof/Machine/Step.lean ====
section
/-! DEFINITION. One step: the command at the front of the queue is carried out. -/

namespace Sys2Proof.Machine

/-- The part with a given queue of commands. -/
def State.withPending (s : State) (l : List Instr) : State := { s with pending := l }

/-- The command at the front of the queue is carried out with the rest of the queue left; on an empty
queue the part idles (log entry 2). -/
def step (s : State) : Host.Outcome State Fault Refusal :=
  match s.pending with
  | [] => .next s
  | c :: rest => exec c (s.withPending rest)

/-- The state with the command that a word spells at the front of its queue; no word spells one. -/
def State.withFetchWord (s : State) (nbits w : Nat) : State :=
  match decodeTableWord nbits w with
  | some c => s.withPending (c :: s.pending)
  | none => s

end Sys2Proof.Machine
end

