-- ==== Sys2Proof/Safety.lean ====
section
/-! DEFINITION. What it means for a state to be safe: a step from it runs, the properties of states
that every step keeps, and what it means for every step to keep a property. -/

namespace Sys2Proof

/-- A step neither faults nor refuses. -/
def Machine.State.runs (s : Machine.State) : Prop :=
  ∃ t, Machine.step s = .next t

/-- A property of states that every step keeps. -/
def StepKeeps (P : Machine.State → Prop) : Prop :=
  ∀ s t, P s → Machine.step s = .next t → P t

namespace Machine

/-- Two bursts with the same coil and sequence number (R6). -/
def RingEntry.same (a b : RingEntry) : Prop := a.coil = b.coil ∧ a.seq = b.seq

/-- The sample ring holds at most four bursts, no two with the same coil and sequence number (R6). -/
def State.ringLegal (s : State) : Prop :=
  s.wdc.ring.length ≤ 4 ∧ s.wdc.ring.Pairwise fun a b => ¬ a.same b

/-- The active zone is NONE or an enabled PERIMETER slot that is IN, STRADDLE or OUT (R31), and the
Motion Gate has seen the active zone and the proximity strength that stand (R39, R40). -/
def State.zoneLegal (s : State) : Prop :=
  (∀ i, s.zcu.active = some i →
    s.slotKind i = .perimeter ∧
      (s.zcu.loops.get i = .inside ∨ s.zcu.loops.get i = .straddle ∨
        s.zcu.loops.get i = .outside)) ∧
    s.mgt.zone = s.zcu.active ∧ s.mgt.prox = s.zcu.prox

/-- A level-3 context runs the built-in sequence: it has passed BLADE_STOP and rests on HOLD with
the wheel pair (0, 0) (R108). -/
def Ctx.resting (c : Ctx) : Prop :=
  c.seq = none ∧ c.remaining = none ∧ c.bladeStop = true ∧ c.left = 0 ∧ c.right = 0

/-- A context of level 1 or 2 is a tabled trigger's and runs a sequence of the table (R105, R113). -/
def Ctx.ordinary (c : Ctx) : Prop := c.seq.isSome = true ∧ c.trigger.tabled = true

/-- A level-3 context is held alone, and the hazard reason of the STOP line is set exactly while one
is held (R112, R122). -/
def State.responsesLegal (s : State) : Prop :=
  (s.rse.ctx3.isSome = true → s.rse.ctx1 = none ∧ s.rse.ctx2 = none) ∧
    s.rse.stopHazard = s.rse.ctx3.isSome ∧
    (∀ c, s.rse.ctx3 = some c → c.resting) ∧
    (∀ c, s.rse.ctx1 = some c → c.ordinary) ∧
    ∀ c, s.rse.ctx2 = some c → c.ordinary

/-- What waits for the drive nodes: the entries of the queue, and those that stand behind the zeros of a
DRIVE channel reset (R77; log entry 45). -/
def State.posts (s : State) : List QEntry := s.dlc.queue ++ s.dlc.behind

/-- While a level-3 context is held the gate's output is zero under the source RESP3, and no entry that
waits carries a nonzero set-point; an entry of origin RESP3 never does (R72, R75, R98). -/
def State.hazardStill (s : State) : Prop :=
  (s.rse.ctx3.isSome = true →
    s.mgt.source = .resp3 ∧ s.mgt.outL = 0 ∧ s.mgt.outR = 0 ∧ s.mgt.outBlade = 0 ∧
      ∀ e ∈ s.posts, e.val.speed = 0) ∧
    ∀ e ∈ s.posts, e.origin = .resp3 → e.val.speed = 0

/-- The gate's output is within the effective limits of its evaluation, and the blade value is not
negative (R71, R72). -/
def State.outputLegal (s : State) : Prop :=
  -(s.mgt.reff : Int) ≤ s.mgt.outL ∧ s.mgt.outL ≤ (s.mgt.feff : Int) ∧
    -(s.mgt.reff : Int) ≤ s.mgt.outR ∧ s.mgt.outR ≤ (s.mgt.feff : Int) ∧ 0 ≤ s.mgt.outBlade

/-- Every wheel or blade address's last posted value is the gate's output, unless a D-link echo holds
the posting; a running test's kind is that of its parameters (R74, R76). -/
def State.postsLegal (s : State) : Prop :=
  (s.dEchoRunning = false → ∀ n v, s.dueAt n = some v → s.mgt.posted.get n = v.speed) ∧
    (s.testRunning = true → s.lbu.kind = s.lbu.params.kind)

/-- The drive post queue holds at most one RELAY entry, at most ten PASS_WRITE entries and at most
one set-point of a kind for a node, and only its head is in flight (R89 to R92). What stands behind the zeros
of a DRIVE channel reset is at most one set-point of a kind for a node, none in flight or marked resend, each
behind a set-point of its node that is in the queue (R77; log entry 45). -/
def State.driveQueueLegal (s : State) : Prop :=
  let apart (l : List QEntry) : Prop :=
    l.Pairwise fun a b => ¬ (a.node = b.node ∧ a.val.coalesces b.val = true)
  (s.dlc.queue.filter fun e => e.val.isRelay).length ≤ 1 ∧
    (s.dlc.queue.filter fun e => e.val.isPass).length ≤ 10 ∧
    apart s.dlc.queue ∧ (∀ e ∈ s.dlc.queue.tail, e.inFlight = false) ∧ apart s.dlc.behind ∧
    ∀ e ∈ s.dlc.behind, e.inFlight = false ∧ e.resend = false ∧
      ∃ x ∈ s.dlc.queue, x.node = e.node ∧ x.val.coalesces e.val = true

/-- The management queue holds at most four entries, the nineteen flags are there, the event list
holds at most one frame for a flag, at most four echoed frames wait, and the two tag counts are in
0..255 (R158, R160, R161, R163, R169). -/
def State.linkLegal (s : State) : Prop :=
  s.mrh.queue.length ≤ 4 ∧ s.nli.flags.length = 19 ∧ (s.nli.events.map Prod.fst).Nodup ∧
    s.echoedWaiting ≤ 4 ∧ s.nli.eventTag < 256 ∧ s.nli.telemTag < 256

/-- The memory of the table store is in its canonical form. -/
def State.memLegal (s : State) : Prop := Memory.wf s.mem = true

end Machine

end Sys2Proof
end

