-- ==== Sys2Proof/WellFormed.lean ====
section
/-! DEFINITION. The commands whose operands are ones the part's ports can carry (01 section 1.1, 09
R156, 11 sections 11.1 and 11.2). A command that is not well formed still has its meaning: the
framer, the frame check and the tests of a burst judge what arrives. -/

namespace Sys2Proof

/-- A burst carries 0 to 64 samples (01 section 1.1). -/
def burstWf (samples : List (BitVec 16)) : Bool := decide (samples.length ≤ 64)

/-- The bytes of one N-link frame: the start delimiter, the header, a payload of the length the
header gives, at most 96, and the CRC (09 section 9.1). -/
def nFrameWf (bytes : List Byte) : Bool :=
  match bytes with
  | d :: n :: rest => d == 0x7E#8 && decide (n.toNat ≤ 96) && rest.length == n.toNat + 5
  | _ => false

/-- The bytes of a truncated N-link frame: it begins with the start delimiter and ends before the
frame is complete (R156). -/
def truncationWf (bytes : List Byte) : Bool :=
  match bytes with
  | [] => false
  | [d] => d == 0x7E#8
  | d :: n :: rest =>
    d == 0x7E#8 && (decide (rest.length < 3) ||
      (decide (n.toNat ≤ 96) && decide (rest.length < n.toNat + 5)))

/-- The bytes of a length overrun: the start delimiter and a header whose length is above 96. -/
def overrunWf (bytes : List Byte) : Bool :=
  match bytes with
  | d :: n :: rest => d == 0x7E#8 && decide (96 < n.toNat) && rest.length == 3
  | _ => false

/-- The bytes of a D-link frame: at least address, kind, length and CRC, and at most a payload of
255. -/
def dFrameWf (bytes : List Byte) : Bool :=
  decide (5 ≤ bytes.length) && decide (bytes.length ≤ 260)

/-- A command whose operands its port can carry. -/
def Instr.wf : Instr → Bool
  | .burstArrival _ _ _ samples => burstWf samples
  | .nLinkFrame _ bytes => nFrameWf bytes
  | .frameTruncation _ bytes => truncationWf bytes
  | .lengthOverrun _ bytes => overrunWf bytes
  | .dLinkFrame _ bytes => dFrameWf bytes
  | _ => true

end Sys2Proof
end

