-- ==== Sys2Proof/Certificates/Slice0/Obligations.lean ====
section
/-! DEFINITION. The statements about the CT-740, from the numbered rules of the spec. In each of
them `u` is the part as the command meets it: a pending swap that is due has been taken, as
`Obligations.BanksAreSwapped` says (R150; log entry 79), and then the command's `dt` has passed (log
entry 1); a statement about a command speaks of a part that RESET_N does not hold. -/

open Sys2Proof Sys2Proof.Machine

/-! ### What several statements share -/

/-- What follows an event at the Dock Controller that took the part from `s` to `t`: the gate's one
evaluation where the dock state or the dock command changed, and then the test of R37 where the dock
state did (R126; log entry 7). -/
def Sys2Proof.Machine.dockHandOn (s t : State) : State :=
  let u :=
    if t.dkc.dock ≠ s.dkc.dock ∨ t.dkc.cmdL ≠ s.dkc.cmdL ∨ t.dkc.cmdR ≠ s.dkc.cmdR then evaluate t
    else t
  if t.dkc.dock = s.dkc.dock then u else wireLostTest u

/-- A timer of the Dock Controller as it starts or goes on: HELD while a response context is held
(R133, R135, R136, R138). -/
def Sys2Proof.Machine.State.dockTimer (s : State) (elapsed : Nat) : Timer :=
  ⟨if s.rse.ctx1 = none ∧ s.rse.ctx2 = none ∧ s.rse.ctx3 = none then .running else .held, elapsed⟩

/-- The entry to CONTACT: RELAY CLOSE is posted, the relay timer starts, the approach timer is HELD with its
elapsed time, and the dock command is (0, 0) (R133, R134, R135; log entry 50). -/
def Sys2Proof.Machine.contactEntry (o : ContactOrigin) (s : State) : State :=
  let k := s.dkc
  postRelay true { s with
    dkc := { k with
      dock := .contact
      origin := o
      approachT := { k.approachT with st := .held }
      relayT := s.dockTimer 0
      cmdL := 0
      cmdR := 0
      cnt := { k.cnt with contacts := bump k.cnt.contacts } } }

/-- The zero set-point of an address by the kind of node fitted there, none where it is neither a wheel
nor a blade. -/
def Sys2Proof.Machine.State.stillAt (s : State) (n : Node) : Option PostValue :=
  match s.nodeKind n with
  | .wheelLeft => some (.wheel 0)
  | .wheelRight => some (.wheel 0)
  | .blade => some (.blade 0)
  | _ => none

/-- The end of a test: its status, the test reason of the STOP line, and TEST_DONE with the kind and the
status (R169, R170, R172). -/
def Sys2Proof.Machine.testEnded (kind status : Byte) (st : TestStatus) (s : State) : State :=
  setFlag .testDone [kind, status] { s with
    rse := { s.rse with stopTest := false }
    lbu := { s.lbu with status := st, begun := false, beginDue := false } }

/-- A number in two bytes, most significant first. -/
def Sys2Proof.Machine.twoBytes (n : Nat) : List Byte := [u8 (n / 256), u8 n]

/-- A signed number in two bytes, two's complement. -/
def Sys2Proof.Machine.signedBytes (z : Int) : List Byte := twoBytes (z % 65536).toNat

/-- A two-state field: 1 for yes. -/
def Sys2Proof.Machine.yesByte (b : Bool) : Byte := if b = true then 1#8 else 0#8

/-- The number of a member in a list that gives its table's order. -/
def Sys2Proof.Machine.numberIn {α : Type} [DecidableEq α] (order : List α) (x : α) : Byte :=
  u8 (order.findIdx fun y => decide (y = x))

/-- A timer in an answer: its state by its number, and its elapsed milliseconds in two bytes. -/
def Sys2Proof.Machine.timerIn (order : List TimerState) (st : TimerState) (elapsed : Nat) : List Byte :=
  numberIn order st :: twoBytes (elapsed / 1000)

/-- A field that holds a number of one byte or a named value. -/
def Sys2Proof.Machine.orNamed (n : Option Nat) : List Byte :=
  match n with
  | some n => [0#8, u8 n]
  | none => [1#8, 0#8]

/-- A field that holds a signed number of two bytes or a named value. -/
def Sys2Proof.Machine.orNamed16 (z : Option Int) : List Byte :=
  match z with
  | some z => 0#8 :: signedBytes z
  | none => [1#8, 0#8, 0#8]

/-- The number of a response code in the order of Table 9-3. -/
def Sys2Proof.Machine.respNumber (c : RespCode) : Byte :=
  numberIn [.ok, .accepted, .busy, .refusedState, .badParam, .incomplete, .retry, .noNode, .nodeTimeout] c

/-! ### The queue of commands, time and the held part -/

/-- The command at the front of the queue is carried out with the rest of the queue, and on an empty
queue the part idles (log entry 2). -/
def Obligations.StepCarriesOutTheFront : Prop :=
  (∀ (c : Instr) (rest : List Instr) (s : State),
    s.pending = c :: rest → step s = exec c { s with pending := rest }) ∧
  ∀ s : State, s.pending = [] → step s = .next s

/-- While RESET_N is asserted the STOP line is asserted and a command changes nothing (R122, R167),
but that a pin's raw level follows (log entry 10), and the release begins the part afresh with the
straps as sampled (R167). -/
def Obligations.HeldPartWaits : Prop :=
  ∀ (c : Instr) (s : State), s.resetHeld = true →
    s.stopLine = true ∧
    exec c s =
      match c with
      | .resetNDeassert _ n d => .next (State.afterReset s.pending s.freeCount s.spu.levels n d)
      | .pinEdge _ p l => .next { s with spu := { s.spu with levels := s.spu.levels.set p l } }
      | _ => .next s

/-- The request commands in the order of their request codes (11 section 11.1). -/
def Sys2Proof.Machine.requestCommands (dt : Nat) : List Instr :=
  [.readStatus dt, .readVerdict dt, .readCounters dt, .ackEvents dt, .setReportMask dt,
    .writeTable dt, .readTable dt, .swapTables dt, .returnHome dt, .cancelReturn dt, .undock dt,
    .cancelResponse dt, .clearHazard dt, .senseRead dt, .startTest dt, .testResult dt,
    .channelReset dt, .fullReset dt]

/-- Every expiry, internal command and request that is not due in `u` leads from `s` to `u` (log entry
3); SWAP_TAKE always does, since a swap that is due has been taken in `u` (log entry 79). -/
def Sys2Proof.Machine.NotDueLetsTimePass (dt : Nat) (s u : State) : Prop :=
  let idle (c : Instr) : Prop := exec c s = .next u
  let unit (p : Pin) : PinUnit := u.spu.units.get p
  let noTimer (n : Node) (f : NodeRec → LimitTimer) : Prop :=
    ∀ r, u.dlc.recs.get n = some r → (f r).due = false
  (u.wdc.inCorr = none → idle (.correlationEnd dt)) ∧
  (∀ c, (u.wdc.coils.get c).timer.due u.burstTimeout = false → idle (.silenceExpiry dt c)) ∧
  (u.zcu.outTimer.due u.outsideLimit = false → idle (.outsideTimerExpiry dt)) ∧
  (∀ p, (unit p).measuring = false ∨ (unit p).cfg.mode ≠ .level ∨
    (unit p).debTimer ≠ some (ms (unit p).cfg.param) → idle (.debounceExpiry dt p)) ∧
  (∀ p, (unit p).measuring = false ∨ (unit p).cfg.mode ≠ .edgeCount ∨
    (unit p).window < ms (unit p).cfg.param → idle (.edgeWindowExpiry dt p)) ∧
  (∀ p, (unit p).measuring = false ∨ (unit p).cfg.mode ≠ .duty ∨
    (unit p).dutyTimer < ms (unit p).cfg.param → idle (.dutyTimeoutExpiry dt p)) ∧
  (u.spu.tilt.due u.tiltPersistence = false → idle (.tiltTimerExpiry dt)) ∧
  (u.spu.settle ≠ some (ms 50) → idle (.settleEnd dt)) ∧
  (u.mgt.age.due u.ageLimit = false → idle (.ageTimerExpiry dt)) ∧
  (∀ n, u.pollDueAge n = none → idle (.pollDue dt n)) ∧
  ((∀ t, u.dlc.tx = some t → t.elapsed < t.timeout) → idle (.responseTimeout dt)) ∧
  (∀ n, noTimer n (·.slip) → idle (.slipTimerExpiry dt n)) ∧
  (∀ n, noTimer n (·.stall) → idle (.stallTimerExpiry dt n)) ∧
  (∀ n, noTimer n (·.jam) → idle (.jamTimerExpiry dt n)) ∧
  ((∀ l c, u.runningCtx = some (l, c) → c.remaining ≠ some 0) → idle (.stepTimerExpiry dt)) ∧
  (u.dkc.batteryT.due = false → idle (.batteryTimerExpiry dt)) ∧
  (u.dkc.rainT.due = false → idle (.rainTimerExpiry dt)) ∧
  (u.dkc.dock ≠ .approach ∨ u.dkc.approachT.due u.approachTimeout = false →
    idle (.approachTimerExpiry dt)) ∧
  (u.dkc.relayT.due u.relayTimeout = false → idle (.relayTimerExpiry dt)) ∧
  (u.dkc.motionT.due u.departureTime = false → idle (.motionTimerExpiry dt)) ∧
  idle (.swapTake dt) ∧
  (u.tbs.swapPending = false ∨ u.tbs.swapT.due = false → idle (.swapTimerExpiry dt)) ∧
  (u.nli.telemT.due = false → idle (.telemetryTimerExpiry dt)) ∧
  (u.nli.sending = none → idle (.upstreamFrameSent dt)) ∧
  (u.mrh.fullResetDue = false → ∀ n d, idle (.fullResetEffect dt n d)) ∧
  (u.lbu.status ≠ .running ∨ u.lbu.kind ≠ .nLinkEcho ∨ u.lbu.beginDue = false →
    idle (.nLinkEchoBegin dt)) ∧
  (u.nEchoing = false ∨ (∃ sec, u.lbu.params = .nLinkEcho sec ∧ u.lbu.echoTime < ms (1000 * sec)) →
    idle (.nLinkEchoEnd dt)) ∧
  (u.dEchoRunning = false ∨ u.lbu.begun = true ∨ u.dlc.tx ≠ none → idle (.dLinkEchoTakeLink dt)) ∧
  (u.wireTest = none ∨ u.lbu.left = 0 ∨ 4 ≤ u.wdc.ring.length ∨
    (∃ i c, u.wireTest = some (i, c) ∧ ∃ e ∈ u.wdc.ring, e.coil = c) →
    idle (.patternBurstPlace dt)) ∧
  (∀ k c, (requestCommands dt)[k]? = some c → headIs k u = false → idle c) ∧
  (headUnknown u = false → idle (.unknownRequest dt)) ∧
  (headPass .read u = false → idle (.passWrite dt)) ∧
  (headPass .write u = false → idle (.passRead dt))

/-- The passing of time moves the running timers and nothing else: each field that time reaches is
given with what time makes of it, a timer stands at its limit once it has reached it, and all the rest
stays (log entry 1). A command meets a part in which only time has passed unless a pending swap is due
(R150; log entry 79). An expiry, an internal command or a request that is not due changes nothing more
(log entry 3). -/
def Obligations.OnlyTimersMoveWithTime : Prop :=
  ∀ (dt : Nat) (s : State), s.resetHeld = false →
    let u := advance dt s
    let on (limit e : Nat) : Nat := max e (min (e + dt) limit)
    let run (limit : Nat) (t : Timer) : Timer :=
      if t.st = .running then { t with elapsed := on limit t.elapsed } else t
    let runOwn (t : LimitTimer) : LimitTimer :=
      if t.st = .running then { t with elapsed := on t.limit t.elapsed } else t
    let falls (c : Ctx) : Ctx := { c with remaining := c.remaining.map (· - dt) }
    u = { s with
      wdc := { s.wdc with coils := u.wdc.coils }
      zcu := { s.zcu with outTimer := run s.outsideLimit s.zcu.outTimer }
      spu := { s.spu with
        settle := s.spu.settle.map (on (ms 50))
        units := u.spu.units
        tilt := run s.tiltPersistence s.spu.tilt }
      mgt := { s.mgt with age := u.mgt.age }
      dlc := { s.dlc with
        recs := u.dlc.recs
        tx := s.dlc.tx.map fun t => { t with elapsed := on t.timeout t.elapsed } }
      rse := { s.rse with
        ctx1 :=
          if s.rse.ctx2 = none ∧ s.rse.ctx3 = none then s.rse.ctx1.map falls else s.rse.ctx1
        ctx2 := if s.rse.ctx3 = none then s.rse.ctx2.map falls else s.rse.ctx2 }
      dkc := { s.dkc with
        approachT := run s.approachTimeout s.dkc.approachT
        relayT := run s.relayTimeout s.dkc.relayT
        motionT := run s.departureTime s.dkc.motionT
        batteryT := runOwn s.dkc.batteryT
        rainT := runOwn s.dkc.rainT }
      tbs := { s.tbs with swapT := runOwn s.tbs.swapT }
      nli := { s.nli with telemT := runOwn s.nli.telemT }
      lbu := { s.lbu with echoTime := u.lbu.echoTime } } ∧
    (∀ c, u.wdc.coils.get c = { s.wdc.coils.get c with
      timer := run s.burstTimeout (s.wdc.coils.get c).timer }) ∧
    (∀ p,
      let x := s.spu.units.get p
      u.spu.units.get p =
        if x.measuring = true then { x with
          debTimer := x.debTimer.map (on (ms x.cfg.param))
          window := on (ms x.cfg.param) x.window
          pulse := x.pulse.map (· + dt)
          period := x.period.map (· + dt)
          dutyTimer := on (ms x.cfg.param) x.dutyTimer }
        else x) ∧
    (∀ n, u.dlc.recs.get n = (s.dlc.recs.get n).map fun r => { r with
      age := on (ms 65535) r.age
      slip := runOwn r.slip
      stall := runOwn r.stall
      jam := runOwn r.jam }) ∧
    u.mgt.age.st = s.mgt.age.st ∧
    (s.mgt.age.st = .running → u.mgt.age.elapsed = on s.ageLimit s.mgt.age.elapsed) ∧
    (s.mgt.age.st = .expired → u.mgt.age.elapsed = on (ms 65535) s.mgt.age.elapsed) ∧
    (s.mgt.age.st ≠ .running → s.mgt.age.st ≠ .expired → u.mgt.age = s.mgt.age) ∧
    (∀ sec, s.nEchoing = true → s.lbu.params = .nLinkEcho sec →
      u.lbu.echoTime = on (ms (1000 * sec)) s.lbu.echoTime) ∧
    (s.nEchoing = false ∨ (∀ sec, s.lbu.params ≠ .nLinkEcho sec) →
      u.lbu.echoTime = s.lbu.echoTime) ∧
    (s.tbs.swapPending = false ∨ s.safePoint = false ∨ s.testRunning = true → arrive dt s = u) ∧
    NotDueLetsTimePass dt s (arrive dt s)

/-! ### Resets -/

/-- The ACTIVE bank holds the built-in defaults (R153, Table 8-2). -/
def Sys2Proof.Machine.DefaultsAreActive (t : State) : Prop :=
  t.codeLength = 32 ∧ t.burstTimeout = ms 100 ∧ t.ageLimit = ms 200 ∧ t.flushLimit = 4 ∧
  t.pollInterval = ms 20 ∧ t.responseTimeout = ms 5 ∧ t.slipTolerance = 0 ∧ t.slipMinimum = 200 ∧
  t.slipTime = ms 500 ∧ t.stallCurrent = 0 ∧ t.jamCurrent = 0 ∧ t.stallTime = ms 500 ∧
  t.jamTime = ms 500 ∧ t.defaultForward = 0 ∧ t.defaultReverse = 0 ∧ t.defaultSlopeMax = 200 ∧
  t.tiltPersistence = ms 500 ∧ t.outsideLimit = 0 ∧ t.returnThreshold = 0 ∧
  t.returnPersistence = ms 5000 ∧ t.rainReturn = false ∧ t.rainPersistence = ms 10000 ∧
  t.contactDebounce = 3 ∧ t.relayTimeout = ms 1000 ∧ t.departureSpeed = 200 ∧
  t.departureTime = ms 1500 ∧ t.swapTimeout = 0 ∧ t.telemetryInterval = ms 100 ∧
  (∀ n, t.nodeKind n = .noNode) ∧ (∀ p, t.pinCfg p = ⟨.off, .general, .high, 0⟩) ∧
  (∀ k, k < 8 →
    t.codeEnabled k = false ∧ (∀ b, b < 8 → t.tableByte .active .codes (16 * k + b) = 0#8) ∧
    t.kMax k = 8 ∧ t.kMin k = 3 ∧ t.pNeed k = 3 ∧ t.tPass k = 100 ∧ t.tStrong k = 0 ∧
    t.floorOf k = 50 ∧ t.profileOf k = 0) ∧
  (∀ f k, f < 4 → 1 ≤ k → k ≤ 16 → t.weight f k = 32) ∧
  (∀ i, t.slotKind i = .disabled ∧ t.slotCode i = 0 ∧ t.zoneNumber i = 1 ∧ t.lossLimit i = 16) ∧
  (∀ b, b < 8 → t.derateSpeed b = 100 ∧ t.derateBlade b = true) ∧
  (∀ x : Trig, x.tabled = true → t.trigLevel x = 0 ∧ t.trigSeq x = 0) ∧
  ∀ q, q < 16 → t.stepCount q = 1 ∧ t.stepAt q 0 = .finish ∧ t.repeatStart q = 0 ∧
    t.repeatEnd q = 0 ∧ t.repeatCount q = 1

/-- The Wire Decoder, the Zone Context Unit and the Sense Pin Unit as a reset of the part leaves them (R24,
Table 2-2, R43, R46, R60). -/
def Sys2Proof.Machine.SensingBegins (t : State) : Prop :=
  (∀ i c, (t.wdc.lanes.get i).get c = ⟨none, none, 0, false, false⟩) ∧
  (∀ c, t.wdc.coils.get c = ⟨none, false, ⟨.running, 0⟩, 0, 0, 0, 0, 0, 0, 0⟩) ∧
  t.wdc.malformed = 0 ∧ t.wdc.ring = [] ∧ t.wdc.inCorr = none ∧
  (∀ i, t.zcu.loops.get i = .disabled ∧ t.zcu.entryArm.get i = false ∧
    ∀ c, (t.zcu.mirror.get i).get c = ⟨.pending, 0⟩) ∧
  t.zcu.active = none ∧ t.zcu.exitArm = false ∧ t.zcu.wireLostArm = true ∧
  t.zcu.outTimer = ⟨.stopped, 0⟩ ∧ t.zcu.prox = 0 ∧ t.zcu.station = 0 ∧ t.zcu.frozen = false ∧
  t.zcu.cnt = ⟨0, 0, 0, 0, 0, 0, 0, 0⟩ ∧
  t.spu.settle = some 0 ∧ t.spu.tilt = ⟨.stopped, 0⟩ ∧ t.spu.bumpsSuppressed = 0 ∧
  t.spu.pitch = ⟨.absent, 0⟩ ∧ t.spu.roll = ⟨.absent, 0⟩ ∧ t.slope = 0 ∧ t.tiltUnknown = false ∧
  t.liftCond = false ∧ t.rainCond = false ∧ t.overSlope = false ∧
  ∀ p,
    let y := t.spu.units.get p
    y.cfg.mode = .off ∧ y.cfg.role = .general ∧ y.cfg.active = .high ∧ y.measuring = false ∧
    y.deb = none ∧ y.debTimer = none ∧ y.count = 0 ∧ y.window = 0 ∧ y.pulse = none ∧
    y.period = none ∧ y.high = none ∧ y.dutyTimer = 0 ∧ y.result = none ∧ y.ready = false ∧
    y.overrun = false ∧ y.fault = false ∧ y.sinceRestart = false ∧ y.results = 0 ∧
    y.overruns = 0 ∧ y.faults = 0

/-- The Motion Gate, the Drive Link Controller and the Response Engine as a reset of the part leaves them
(Table 4-1, R81, R104, R112, R125). -/
def Sys2Proof.Machine.DrivingBegins (t : State) : Prop :=
  t.mgt.cmd = none ∧ t.mgt.age.st = .stopped ∧ t.mgt.zone = none ∧ t.mgt.prox = 0 ∧
  t.mgt.source = .nav ∧ t.mgt.band = 0 ∧ t.mgt.ps = 100 ∧ t.mgt.pn = 100 ∧
  t.mgt.fb = 0 ∧ t.mgt.rb = 0 ∧ t.mgt.feff = 0 ∧ t.mgt.reff = 0 ∧
  t.mgt.outL = 0 ∧ t.mgt.outR = 0 ∧ t.mgt.outBlade = 0 ∧ (∀ a, t.mgt.posted.get a = 0) ∧
  t.dEchoRunning = false ∧ t.mgt.cnt = ⟨0, 0, 0, 0, 0, 0, 0, 0⟩ ∧
  (∀ a, t.dlc.recs.get a = none) ∧ t.dlc.queue = [] ∧ t.dlc.behind = [] ∧
  t.dlc.relayHeld = none ∧ t.dlc.flush = 0 ∧
  t.dlc.tx = none ∧ t.dlc.read = none ∧
  t.dlc.cnt = ⟨0, 0, 0, 0, 0, 0, 0, 0, 0, 0, 0, 0, 0, 0, 0, 0, 0, 0⟩ ∧
  t.rse.ctx1 = none ∧ t.rse.ctx2 = none ∧ t.rse.ctx3 = none ∧
  t.rse.stopHazard = false ∧ t.rse.stopSettle = true ∧ t.rse.stopTest = false ∧
  t.stopLine = true ∧ t.blocking = [false, false, false, false, false] ∧
  t.rse.cnt = ⟨List.replicate 12 0, 0, 0, 0, 0, 0, 0, 0, 0, 0, 0, 0, 0, 0, 0⟩

/-- The Dock Controller as a reset of the part leaves it (Table 7-2, R41, R43, R143). -/
def Sys2Proof.Machine.DockingBegins (t : State) : Prop :=
  t.dkc.dock = .undocked ∧ t.dkc.origin = .approach ∧ t.dkc.phase = .waitOpen ∧
  t.dkc.backoffRelay = false ∧ t.dkc.retry = 0 ∧ t.dkc.reason = .noReason ∧
  t.dkc.approachT = ⟨.stopped, 0⟩ ∧ t.dkc.relayT = ⟨.stopped, 0⟩ ∧ t.dkc.motionT = ⟨.stopped, 0⟩ ∧
  t.dkc.batteryT.st = .stopped ∧ t.dkc.batteryT.elapsed = 0 ∧
  t.dkc.rainT.st = .stopped ∧ t.dkc.rainT.elapsed = 0 ∧
  t.dkc.present = 0 ∧ t.dkc.absent = 0 ∧ t.dkc.established = false ∧ t.dkc.button = none ∧
  t.dkc.guide = ⟨.disabled, .pending, .pending⟩ ∧ t.dkc.station = ⟨.disabled, 0⟩ ∧
  t.dkc.rain = false ∧ t.dkc.cmdL = 0 ∧ t.dkc.cmdR = 0 ∧
  t.dkc.cnt = ⟨0, 0, 0, 0, 0, 0, 0, 0, 0, 0, 0, 0, 0, 0, 0, 0, 0, 0⟩

/-- The Table Store, the Navigation Link Interface, the Management Request Handler and the Loopback Unit as
a reset of the part leaves them (R144, R154, R163, R167, R173, Table 10-1). -/
def Sys2Proof.Machine.LinkBegins (t : State) : Prop :=
  (∀ tab : Table, t.staged tab = ⟨false, none, 0⟩ ∧
    ∀ off, off < tab.size → t.tableByte .staged tab off = 0#8) ∧
  (∀ i, t.tbs.slotCopy.get i =
    (t.tableByte .active .zones (32 * i.val), t.tableByte .active .zones (32 * i.val + 17))) ∧
  t.tbs.swapPending = false ∧ t.tbs.swapT.st = .stopped ∧ t.tbs.swapT.elapsed = 0 ∧
  t.tbs.cnt = ⟨0, 0, 0, 0, 0, 0⟩ ∧
  t.nli.framer = ⟨.hunt, []⟩ ∧ (∀ f, t.flag f = none) ∧ (∀ f, t.reports f = true) ∧
  t.nli.answers = [] ∧ t.nli.events = [] ∧ t.nli.telemetry = none ∧ t.nli.sending = none ∧
  t.nli.eventTag = 0 ∧ t.nli.telemTag = 0 ∧ t.nli.telemT = ⟨.running, 0, ms 100⟩ ∧
  t.nli.cnt = ⟨0, 0, 0, 0, 0, 0, 0, 0, 0, 0, 0, 0, 0⟩ ∧
  t.mrh.queue = [] ∧ t.mrh.outstanding = none ∧ t.mrh.headDone = false ∧
  t.mrh.fullResetDue = false ∧
  t.lbu.kind = .noTest ∧ t.lbu.status = .noStatus ∧ t.lbu.gen = BitVec.allOnes 15 ∧
  t.lbu.record = ⟨0, 0, 0, 0, 0, 0, 0, 0, 0, 0, 0, 0, none⟩

/-- The part as RESET_N or FULL_RESET leaves it, block by block, with the values the spec gives (R23, R24,
R43, R46, R60, R81, R104, R125, R143, R144, R153, R154, R166, R167, R173), and every counter of
READ_COUNTERS at 0. The raw pin levels stay, as log entry 10 has it (DESIGN CHOICE), and so do the commands
that wait (log entry 2). Bytes and fields for which the spec gives no reset value are not stated here (log
entries 6, 31 and 73). -/
def Obligations.ResetLeaves : Prop :=
  ∀ (l : List Instr) (k : Nat) (levels : PerPin Level) (n : NRate) (d : DRate),
    let t := State.afterReset l k levels n d
    t.resetHeld = false ∧ t.nRate = n ∧ t.dRate = d ∧ t.spu.levels = levels ∧ t.pending = l ∧
    DefaultsAreActive t ∧ SensingBegins t ∧ DrivingBegins t ∧ DockingBegins t ∧ LinkBegins t ∧
    t.counters 0 = some (List.replicate 13 0) ∧ t.counters 2 = some (List.replicate 6 0) ∧
    t.counters 3 = some (List.replicate 15 0) ∧ t.counters 4 = some (List.replicate 8 0) ∧
    t.counters 5 = some (List.replicate 25 0) ∧ t.counters 6 = some (List.replicate 8 0) ∧
    t.counters 7 = some (List.replicate 18 0) ∧ t.counters 8 = some (List.replicate 26 0) ∧
    t.counters 9 = some (List.replicate 18 0)

/-- RESET_N is asserted: the part is held and the STOP line asserted, and a frame partly received or
partly sent is lost (R122, R167); the rest waits for the release (log entry 26). -/
def Obligations.ResetNHoldsThePart : Prop :=
  ∀ (dt : Nat) (s : State), s.resetHeld = false →
    let u := arrive dt s
    ∃ t, exec (.resetNAssert dt) s = .next t ∧ t.stopLine = true ∧
      t = { u with
        resetHeld := true
        rse := { u.rse with stopSettle := true }
        nli := { u.nli with framer := ⟨.hunt, []⟩, sending := none } } ∧
    ∀ n d, exec (.resetNDeassert dt n d) s = .next u

/-- FULL_RESET is answered OK, and once that answer has been sent nothing more begins and the part
takes its state after RESET_N, with the straps as sampled (R166). -/
def Obligations.FullResetBeginsAgain : Prop :=
  ∀ (dt : Nat) (n : NRate) (d : DRate) (s : State), s.resetHeld = false →
    let u := arrive dt s
    (headIs 17 u = true → exec (.fullReset dt) s = .next (answerThen .fullReset .ok [] u)) ∧
    (∀ f, u.nli.sending = some ⟨.headAnswer .fullReset, f⟩ → ∃ t,
      exec (.upstreamFrameSent dt) s = .next t ∧ t.mrh.fullResetDue = true ∧
        t.mrh.queue = u.mrh.queue.tail ∧ t.nli.sending = none ∧
        t.nli.cnt.framesSent = bump u.nli.cnt.framesSent) ∧
    (u.mrh.fullResetDue = true →
      exec (.fullResetEffect dt n d) s =
        .next (State.afterReset u.pending u.freeCount u.spu.levels n d))

/-! ### Wire decoding -/

/-- The tests of a burst in their order: under test, malformed, duplicate, overrun; a dropped burst
changes its one counter, and an overrun sets SAMPLE_OVERRUN (R1 to R4, R26). -/
def Obligations.DroppedBurstsAreCounted : Prop :=
  ∀ (dt : Nat) (coil seq : Byte) (samples : List (BitVec 16)) (s : State), s.resetHeld = false →
    let u := arrive dt s
    (Coil.ofNat? coil.toNat = none →
      exec (.burstArrival dt coil seq samples) s =
        .next { u with wdc := { u.wdc with malformed := bump u.wdc.malformed } }) ∧
    ∀ c, Coil.ofNat? coil.toNat = some c →
      let repeated :=
        (u.wdc.coils.get c).expect = some seq.toNat ∨
          ∃ e ∈ u.wdc.ring, e.coil = c ∧ e.seq = seq.toNat
      (u.underTest c = true →
        exec (.burstArrival dt coil seq samples) s =
          .next (onCoil c (fun x => { x with testDropped := bump x.testDropped }) u)) ∧
      (u.underTest c = false → samples.length ≠ u.codeLength →
        exec (.burstArrival dt coil seq samples) s =
          .next { u with wdc := { u.wdc with malformed := bump u.wdc.malformed } }) ∧
      (u.underTest c = false → samples.length = u.codeLength → repeated →
        exec (.burstArrival dt coil seq samples) s =
          .next (onCoil c (fun x => { x with duplicate := bump x.duplicate }) u)) ∧
      (u.underTest c = false → samples.length = u.codeLength → ¬ repeated →
        4 ≤ u.wdc.ring.length →
        exec (.burstArrival dt coil seq samples) s =
          .next (setFlag .sampleOverrun [u8 (Coil.num c)]
            (onCoil c (fun x => { x with overrun := bump x.overrun }) u)))

/-- The gap mark of an accepted burst (R5). -/
def Sys2Proof.Machine.gapMark (expect : Option Nat) (seq : Nat) : Option Nat :=
  match expect with
  | none => none
  | some e => if seq = (e + 1) % 256 then none else some ((seq + 511 - e) % 256)

/-- A burst that passes the tests is accepted: the expectation, the counters, the silence timer, the
aging and the ring, then the correlator if it is idle, and the one update to the Zone Context Unit; a
gap mark lies in 1..254 (R5, R16). -/
def Obligations.AcceptedBurstJoinsTheRing : Prop :=
  ∀ (dt : Nat) (coil seq : Byte) (samples : List (BitVec 16)) (s : State) (c : Coil),
    s.resetHeld = false →
    let u := arrive dt s
    let x := u.wdc.coils.get c
    let gap := gapMark x.expect seq.toNat
    Coil.ofNat? coil.toNat = some c → u.underTest c = false → samples.length = u.codeLength →
    x.expect ≠ some seq.toNat → (∀ e ∈ u.wdc.ring, ¬ (e.coil = c ∧ e.seq = seq.toNat)) →
    u.wdc.ring.length < 4 →
    (exec (.burstArrival dt coil seq samples) s =
      .next (zoneUpdate Published.none (correlatorTake { u with
        wdc := { u.wdc with
          coils := u.wdc.coils.set c { x with
            expect := some seq.toNat
            silent := false
            timer := ⟨.running, 0⟩
            accepted := bump x.accepted
            missing := bumpBy (gap.getD 0) x.missing }
          lanes := u.wdc.lanes.map fun l =>
            l.set c { l.get c with burstsSince := min ((l.get c).burstsSince + 1) 255 }
          ring := u.wdc.ring ++ [⟨c, seq.toNat, samples.map sample12, gap⟩] } }))) ∧
    ∀ e m, x.expect = some e → e < 256 → gap = some m → 1 ≤ m ∧ m ≤ 254

/-- An idle correlator takes the oldest burst, and a gap-marked one first aborts the open windows of
its coil, each counted; with no enabled slot every waiting burst ends at once. The end of a
correlation steps every lane of the burst's coil that belongs to an enabled slot and no other, hands
the verdicts on, whose slots are those of the enabled slots whose lanes published, ascending, and the idle
correlator takes the next burst (R7, R11, R14, R15, R19). -/
def Obligations.CorrelationStepsTheLanes : Prop :=
  (∀ s : State, s.wdc.inCorr = none →
     ((∀ i, s.enabled i = false) → correlatorTake s = { s with wdc := { s.wdc with ring := [] } }) ∧
     ((∃ i, s.enabled i = true) → s.wdc.ring = [] → correlatorTake s = s) ∧
     ∀ e rest, (∃ i, s.enabled i = true) → s.wdc.ring = e :: rest →
       let x := s.wdc.coils.get e.coil
       let n := (slots.filter fun i => ((s.wdc.lanes.get i).get e.coil).window.isSome).length
       correlatorTake s = { s with
         wdc :=
           if e.gap = none then { s.wdc with ring := rest, inCorr := some e }
           else { s.wdc with
             ring := rest
             inCorr := some e
             coils := s.wdc.coils.set e.coil { x with aborted := bumpBy n x.aborted }
             lanes := s.wdc.lanes.map fun l => l.set e.coil { l.get e.coil with window := none } } }) ∧
  ∀ (dt : Nat) (s : State), s.resetHeld = false →
    let u := arrive dt s
    (u.wdc.inCorr = none → exec (.correlationEnd dt) s = .next u) ∧
    ∀ e, u.wdc.inCorr = some e → u.wireTest = none → ∃ v,
      exec (.correlationEnd dt) s = .next (correlatorTake (zoneUpdate (u.publishedBy e) v)) ∧
      u.publishedBy e = ⟨e.coil, ([0, 1, 2, 3] : List Slot).filter fun i =>
        u.enabled i && (u.stepLane i e ((u.wdc.lanes.get i).get e.coil)).2.isSome⟩ ∧
      v = { u with wdc := { u.wdc with lanes := v.wdc.lanes, inCorr := none } } ∧
      ∀ i c, (v.wdc.lanes.get i).get c =
        if c = e.coil ∧ u.enabled i = true then (u.stepLane i e ((u.wdc.lanes.get i).get c)).1
        else (u.wdc.lanes.get i).get c

/-- The period value is the sum of the samples times the chips, divided by the code length and
truncated toward zero; it lies in -2048..2048, and it reaches 2048 only when every sample is -2048
against a chip of -1 (R10). -/
def Obligations.PeriodValueIsBounded : Prop :=
  ∀ (s : State) (code : Nat) (x : List Int), x.length = s.codeLength →
    s.periodValue code x =
      (((List.range x.length).map fun i => x.getD i 0 * s.chip code i).sum).tdiv s.codeLength ∧
    ((∀ y ∈ x, -2048 ≤ y ∧ y ≤ 2047) →
      -2048 ≤ s.periodValue code x ∧ s.periodValue code x ≤ 2048 ∧
      (s.periodValue code x = 2048 →
        ∀ i, i < x.length → x.getD i 0 = -2048 ∧ s.chip code i = -1))

/-- A window stepped with a period value V at period k: the weight, the accumulator, the pass, the
mismatch, the mean and the strength (R12). -/
def Obligations.WindowIsStepped : Prop :=
  ∀ (s : State) (code : Nat) (w : Window) (v : Int),
    let weight :=
      (s.tableByte .active .profiles (16 * s.profileOf code + (min w.k 16 - 1))).toNat
    let x := s.stepWindow code w v
    x.k = w.k ∧ x.acc = w.acc + (weight : Int) * v ∧ x.wsum = w.wsum + weight ∧
    x.passes =
      (if v ≠ 0 ∧ v.sign = x.acc.sign ∧ s.tPass code ≤ v.natAbs then w.passes + 1 else 0) ∧
    x.mismatches =
      (if 2 ≤ w.k ∧ v ≠ 0 ∧ v.sign ≠ w.acc.sign then w.mismatches + 1 else w.mismatches) ∧
    x.mean = (if x.wsum = 0 then 0 else x.acc.tdiv x.wsum) ∧
    x.strength = min x.mean.natAbs 2047

/-- The lock qualification of R13. -/
def Sys2Proof.Machine.State.lockQualifies (s : State) (code : Nat) (w : Window) : Prop :=
  w.mean ≠ 0 ∧ s.floorOf code ≤ w.strength

/-- Criteria 1 and 2 of R13. -/
def Sys2Proof.Machine.State.lockStop (s : State) (code : Nat) (w : Window) : Prop :=
  s.kMin code ≤ w.k ∧ s.lockQualifies code w ∧
    (s.pNeed code ≤ w.passes ∨
      (0 < s.tStrong code ∧ 0 < w.passes ∧ s.tStrong code ≤ w.strength))

/-- The kind of verdict a stopped window publishes, by the table of R14. -/
def Sys2Proof.Machine.State.kindAtStop (s : State) (code : Nat) (w : Window) : VerdictKind → Prop
  | .lockedIn => s.lockStop code w ∧ 0 < w.mean
  | .lockedOut => s.lockStop code w ∧ w.mean < 0
  | .absent => ¬ s.lockStop code w ∧ ¬ s.lockQualifies code w
  | .weakIn => ¬ s.lockStop code w ∧ s.lockQualifies code w ∧ 0 < w.mean
  | .weakOut => ¬ s.lockStop code w ∧ s.lockQualifies code w ∧ w.mean < 0

/-- A lane as its own bounds have it: an open window is below the code's K_max and has fewer
mismatches than periods. -/
def Sys2Proof.Machine.State.laneLegal (s : State) (code : Nat) (l : Lane) : Prop :=
  ∀ w, l.window = some w → w.k < s.kMax code ∧ w.mismatches < w.k

/-- A stepped lane publishes exactly when a stop criterion is met, no later than at K_max, with the
kind and the record of R14, and otherwise keeps its window open (R11, R13, R14). -/
def Obligations.LaneStopsByTheCriteria : Prop :=
  ∀ (s : State) (i : Slot) (e : RingEntry) (l : Lane),
    let code := s.slotCode i
    let w := s.stepWindow code
      (match l.window with | some x => { x with k := x.k + 1 } | none => ⟨1, 0, 0, 0, 0⟩)
      (s.periodValue code e.samples)
    1 ≤ s.kMax code → s.kMin code ≤ s.kMax code → s.laneLegal code l →
    w.k ≤ s.kMax code ∧ w.mismatches < w.k ∧
    (¬ s.lockStop code w → w.k ≠ s.kMax code →
      s.stepLane i e l = ({ l with window := some w }, none) ∧
      s.laneLegal code { l with window := some w }) ∧
    (s.lockStop code w ∨ w.k = s.kMax code → ∃ v,
      s.stepLane i e l =
        ({ l with window := none, verdict := some v, burstsSince := 0, verdictSince := true },
          some v) ∧
      s.kindAtStop code w v.kind ∧ v.strength = w.strength ∧ v.strength ≤ 2047 ∧
      v.periods = w.k ∧ v.consecutive = min w.passes 15 ∧ v.mismatches = w.mismatches ∧
      v.mismatches ≤ v.periods - 1 ∧ v.endSeq = e.seq ∧
      (v.kind = .lockedIn ∨ v.kind = .lockedOut → s.kMin code ≤ v.periods) ∧
      (v.kind ≠ .lockedIn → v.kind ≠ .lockedOut → v.periods = s.kMax code))

/-- The silence timer of a coil expires: the coil is SILENT, its windows are aborted and counted, its
verdicts dropped, and its bursts leave the ring and the correlator (R8); that the stopped timer keeps its
elapsed time is the model's reading (log entry 12, DEDUCED). -/
def Obligations.SilenceDropsTheCoil : Prop :=
  ∀ (dt : Nat) (c : Coil) (s : State), s.resetHeld = false →
    let u := arrive dt s
    let x := u.wdc.coils.get c
    let n := (slots.filter fun i => ((u.wdc.lanes.get i).get c).window.isSome).length
    x.timer.st = .running → u.burstTimeout ≤ x.timer.elapsed →
    exec (.silenceExpiry dt c) s =
      .next (zoneUpdate Published.none (correlatorTake { u with
        wdc := { u.wdc with
          coils := u.wdc.coils.set c { x with
            silent := true
            timer := { x.timer with st := .stopped }
            silences := bump x.silences
            aborted := bumpBy n x.aborted }
          lanes := u.wdc.lanes.map fun l =>
            l.set c { l.get c with window := none, verdict := none, silentSince := true }
          ring := u.wdc.ring.filter fun e => e.coil != c
          inCorr := u.wdc.inCorr.filter fun e => e.coil != c } }))

/-! ### The Dock Controller's own steps -/

/-- The table of a judged timer: slip, stall, jam, battery and rain (R96, R97, R129, R130); a timer that
runs takes the limit in force, and a stopped one keeps its elapsed time (log entries 3 and 12). -/
def Sys2Proof.Machine.TimerIsJudged : Prop :=
  ∀ (cond : Bool) (limit : Nat) (t : LimitTimer),
    let r := t.judge cond limit
    (cond = true →
      (t.st = .stopped → 0 < limit → r = (⟨.running, 0, limit⟩, false)) ∧
      (t.st = .stopped → limit = 0 → r = (⟨.spent, 0, 0⟩, true)) ∧
      (t.st = .running → r = ({ t with limit := limit }, false)) ∧
      (t.st = .spent → r = (t, false))) ∧
    (cond = false →
      (t.st = .running ∨ t.st = .spent → r = ({ t with st := .stopped }, false)) ∧
      (t.st = .stopped → r = (t, false)))

/-- The steering pair in FOLLOW and APPROACH by the guide's loop state and lanes, mirrored for a guide
whose inside side is RIGHT_INSIDE, each speed brought into range; and a LOST guide, which leads back to
RETURN_SEEK with GUIDE_LOST (R132). -/
def Sys2Proof.Machine.SteeringIsFormed : Prop :=
  ∀ s : State,
    let k := s.dkc
    let g := k.guide
    let v : Int := if k.dock = .approach then s.approachSpeed else s.followSpeed
    let d : Int := s.turnDelta
    let inRange (x : Int) : Int := max (-2000) (min x 2000)
    let inner := if s.rightInside = true then g.right else g.left
    let drives (a b : Int) : Prop :=
      formSteering s = { s with
        dkc := { k with
          cmdL := inRange (if s.rightInside = true then b else a)
          cmdR := inRange (if s.rightInside = true then a else b) } }
    let lost (detail : Byte) : Prop :=
      formSteering s = setFlag .guideLost [detail] { s with
        dkc := { k with
          dock := .returnSeek
          approachT := { k.approachT with st := .stopped }
          cmdL := 0
          cmdR := 0
          cnt := { k.cnt with guideLost := bump k.cnt.guideLost } } }
    (g.loop = .straddle → inner = .inside → drives v v) ∧
    (g.loop = .straddle → inner ≠ .inside → drives d (-d)) ∧
    (g.loop = .inside → drives (v + d) (v - d)) ∧
    (g.loop = .outside → drives (v - d) (v + d)) ∧
    (g.loop = .pending ∨ g.loop = .disabled → drives 0 0) ∧
    (g.loop = .lost → (k.dock = .follow → lost 2#8) ∧ (k.dock = .approach → lost 3#8))

/-- The station test, which only FOLLOW makes: where it holds the dock state is APPROACH with its timer
from 0 and the steering at the approach speed, and an established contact leads on to CONTACT (R133,
R134). -/
def Sys2Proof.Machine.StationIsTested : Prop :=
  ∀ s : State,
    let k := s.dkc
    let reached := k.station.loop = .inside ∨ s.stationLevel ≤ k.station.strength
    let x := formSteering { s with
      dkc := { k with
        dock := .approach
        approachT := s.dockTimer 0
        cnt := { k.cnt with approaches := bump k.cnt.approaches } } }
    (¬ (k.dock = .follow ∧ reached) → stationTest s = s) ∧
    (k.dock = .follow → reached →
      (x.dkc.dock = .approach → x.dkc.established = true →
        stationTest s = contactEntry .approach x) ∧
      (¬ (x.dkc.dock = .approach ∧ x.dkc.established = true) → stationTest s = x))

/-- The return entry, with its start of FOLLOW where the guide is straddled already, and its count where
a GUIDE or STATION slot is missing (R128 to R131). -/
def Sys2Proof.Machine.ReturnIsTried : Prop :=
  ∀ (r : ReturnReason) (s : State),
    let k := s.dkc
    let counted : DkcCounters :=
      match r with
      | .nav => { k.cnt with returnsNav := bump k.cnt.returnsNav }
      | .battery => { k.cnt with returnsBattery := bump k.cnt.returnsBattery }
      | .rain => { k.cnt with returnsRain := bump k.cnt.returnsRain }
      | .noReason => k.cnt
    let number : Byte :=
      match r with
      | .noReason => 0#8
      | .nav => 1#8
      | .battery => 2#8
      | .rain => 3#8
    let x := setFlag .returnStarted [number] { s with
      dkc := { k with
        dock := .returnSeek
        retry := 0
        reason := r
        batteryT := { k.batteryT with st := .stopped }
        rainT := { k.rainT with st := .stopped }
        cmdL := 0
        cmdR := 0
        cnt := counted } }
    (s.canReturn = true ↔
      (∃ i, s.slotKind i = .guide) ∧ ∃ i, s.slotKind i = .station) ∧
    (s.canReturn = false → tryReturn r s = { s with
      dkc := { k with cnt := { k.cnt with unavailable := bump k.cnt.unavailable } } }) ∧
    (s.canReturn = true → k.guide.loop ≠ .straddle → tryReturn r s = x) ∧
    (s.canReturn = true → k.guide.loop = .straddle →
      tryReturn r s = stationTest (formSteering { x with dkc := { x.dkc with dock := .follow } }))

/-- The entry to UNDOCKED: the dock command (0, 0), the three timers stopped, and the rain judgement,
which may lead to a return at once (R130, R139). -/
def Sys2Proof.Machine.UndockedIsEntered : Prop :=
  ∀ s : State,
    let k := s.dkc
    let j := k.rainT.judge (s.rainReturn && k.rain) s.rainPersistence
    let x : State := { s with
      dkc := { k with
        dock := .undocked
        cmdL := 0
        cmdR := 0
        approachT := { k.approachT with st := .stopped }
        relayT := { k.relayT with st := .stopped }
        motionT := { k.motionT with st := .stopped }
        rainT := j.1 } }
    (j.2 = false → enterUndocked s = x) ∧ (j.2 = true → enterUndocked s = tryReturn .rain x)

/-- A change of the rain condition: it is kept, and judged in UNDOCKED alone, where it may lead to a
return at once (R130). -/
def Sys2Proof.Machine.RainIsTaken : Prop :=
  ∀ (rain : Bool) (s : State),
    let k := s.dkc
    let j := k.rainT.judge (s.rainReturn && rain) s.rainPersistence
    let x (t : LimitTimer) : State := { s with dkc := { k with rain := rain, rainT := t } }
    (k.dock ≠ .undocked → takeRain rain s = x k.rainT) ∧
    (k.dock = .undocked → j.2 = false → takeRain rain s = x j.1) ∧
    (k.dock = .undocked → j.2 = true → takeRain rain s = tryReturn .rain (x j.1))

/-- What a response context does to the Dock Controller (R141): where one comes, its approach, relay and
motion timers that run are HELD with their elapsed times; at the end of the last one the HELD ones run on,
but for the approach timer in CONTACT (R133), the steering pair is formed again in FOLLOW and APPROACH, the
station test is made again in FOLLOW, and a relay command under way is posted again to a POWER node and
counted. -/
def Sys2Proof.Machine.ResponseReachesTheDock : Prop :=
  ∀ s : State,
    let k := s.dkc
    let held (t : Timer) : Timer := if t.st = .running then { t with st := .held } else t
    let goesOn (t : Timer) : Timer := if t.st = .held then { t with st := .running } else t
    let x : State := { s with
      dkc := { k with
        approachT := if k.dock = .contact then k.approachT else goesOn k.approachT
        relayT := goesOn k.relayT
        motionT := goesOn k.motionT } }
    let y : State :=
      if k.dock = .follow then stationTest (formSteering x)
      else if k.dock = .approach then formSteering x
      else x
    let opens := (k.dock = .departing ∧ k.phase = .waitOpen) ∨
      (k.dock = .backoff ∧ k.backoffRelay = true)
    let posts (close : Bool) : State :=
      let z := postRelay close y
      { z with dkc := { z.dkc with cnt := { z.dkc.cnt with relayReposts := bump z.dkc.cnt.relayReposts } } }
    dkcHold s = { s with
      dkc := { k with
        approachT := held k.approachT
        relayT := held k.relayT
        motionT := held k.motionT } } ∧
    (s.powerNode = none ∨ (k.dock ≠ .contact ∧ ¬ opens) → dkcResume s = y) ∧
    (s.powerNode ≠ none → k.dock = .contact → dkcResume s = posts true) ∧
    (s.powerNode ≠ none → opens → dkcResume s = posts false)

/-- The test of R37 at a change of the dock state: WIRE_LOST is raised where every perimeter is LOST, its
arm is set, the zone context is not frozen and the dock state is not DOCKED (R37, R42). -/
def Sys2Proof.Machine.WireLostIsTested : Prop :=
  ∀ s : State,
    let due :=
      s.zcu.frozen = false ∧ s.zcu.wireLostArm = true ∧ s.dkc.dock ≠ .docked ∧
        (∃ i, s.slotKind i = .perimeter) ∧
        ∀ i, s.slotKind i = .perimeter → s.zcu.loops.get i = .lost
    (due → wireLostTest s = raiseFixed .wireLost none { s with
      zcu := { s.zcu with
        wireLostArm := false
        cnt := { s.zcu.cnt with wireLost := bump s.zcu.cnt.wireLost } } }) ∧
    (¬ due → wireLostTest s = s)

/-! ### Zone context -/

/-- The lowest-numbered slot with a property, or none where no slot has it. -/
def Sys2Proof.Machine.IsLowest (p : Slot → Prop) (z : Option Slot) : Prop :=
  (∀ j, z = some j → p j ∧ ∀ k, k < j → ¬ p k) ∧ (z = none → ∀ j, ¬ p j)

/-- The active zone an update settles: from NONE the lowest PERIMETER slot that is IN; passage from
IN to OUT to the lowest IN slot of the passage mask; else it stays while it is IN, STRADDLE or OUT,
and otherwise passes to the lowest other PERIMETER slot that is IN (R31, R32, R33). -/
def Obligations.ActiveZoneSettles : Prop :=
  ∀ (s : State) (prior now : PerSlot LoopState),
    let z := s.settledZone prior now
    let isIn (j : Slot) : Prop := s.slotKind j = .perimeter ∧ now.get j = .inside
    (s.zcu.active = none → IsLowest isIn z) ∧
    (∀ j, z = some j → s.zcu.active ≠ some j → now.get j = .inside) ∧
    ∀ i, s.zcu.active = some i →
      let passes :=
        prior.get i = .inside ∧ now.get i = .outside ∧ ∃ j, isIn j ∧ s.passage i j = true
      let holds := now.get i = .inside ∨ now.get i = .straddle ∨ now.get i = .outside
      (passes → IsLowest (fun j => isIn j ∧ s.passage i j = true) z) ∧
      (¬ passes → holds → z = some i) ∧
      (¬ passes → ¬ holds → IsLowest (fun j => isIn j ∧ j ≠ i) z)

/-- What the counters of Table 2-4 count in an update that brings the loop states `now`, from `c` to `k`:
a change of the active zone, a passage, a PERIMETER_EXIT raised, one withheld for a passage slot, one
withheld by the station, each KEEPOUT_ENTRY and WIRE_LOST (R31 to R37, R44); an update raises no
OUTSIDE_LIMIT. -/
def Sys2Proof.Machine.UpdateIsCounted (s : State) (now : PerSlot LoopState) (c k : ZcuCounters) : Prop :=
  let prior := s.zcu.loops
  let a := s.settledZone prior now
  let near (j : Slot) : Prop := now.get j = .inside ∨ now.get j = .straddle
  let counts (happens : Prop) (before after : Nat) : Prop :=
    (happens → after = bump before) ∧ (¬ happens → after = before)
  let leaves (i : Slot) : Prop :=
    s.zcu.active = some i ∧ a = some i ∧ s.zcu.exitArm = true ∧ prior.get i = .inside ∧
      (now.get i = .straddle ∨ now.get i = .outside)
  let nextYard (i : Slot) : Prop := ∃ j, s.slotKind j = .perimeter ∧ s.passage i j = true ∧ near j
  let station :=
    (s.dkc.dock = .approach ∨ s.dkc.dock = .contact ∨ s.dkc.dock = .departing) ∧
      ∃ j, s.stationSlot = some j ∧ near j
  let enters (i : Slot) : Prop :=
    s.slotKind i = .keepout ∧ s.zcu.entryArm.get i = true ∧ prior.get i ≠ now.get i ∧ near i
  counts (a ≠ s.zcu.active) c.zoneChanges k.zoneChanges ∧
  counts (∃ i j, s.zcu.active = some i ∧ prior.get i = .inside ∧ now.get i = .outside ∧
    s.slotKind j = .perimeter ∧ now.get j = .inside ∧ s.passage i j = true) c.passages k.passages ∧
  counts (∃ i, leaves i ∧ ¬ nextYard i ∧ ¬ station) c.exits k.exits ∧
  counts (∃ i, leaves i ∧ nextYard i) c.exitsWithheld k.exitsWithheld ∧
  counts (∃ i, leaves i ∧ ¬ nextYard i ∧ station) c.exitsByStation k.exitsByStation ∧
  (∃ l : List Slot, l.Nodup ∧ (∀ i, i ∈ l ↔ enters i) ∧ k.keepouts = bumpBy l.length c.keepouts) ∧
  counts ((∃ i, s.slotKind i = .perimeter) ∧
    (∀ i, s.slotKind i = .perimeter → now.get i = .lost) ∧
    s.zcu.wireLostArm = true ∧ s.dkc.dock ≠ .docked) c.wireLost k.wireLost ∧
  k.outside = c.outside

/-- The zone context after stages 3 to 7 of an update (R30): what it takes over, the exit, entry and
wire-lost arms, the outside timer, the strengths and the counters (R31, R32, R34 to R39, R44). -/
def Sys2Proof.Machine.ZoneIsSettled (s : State) (m : PerSlot (PerCoil MirrorLane))
    (now : PerSlot LoopState) : Prop :=
  let prior := s.zcu.loops
  let a := s.settledZone prior now
  let z := s.zoneAfter m now
  let near (j : Slot) : Prop := now.get j = .inside ∨ now.get j = .straddle
  let allLost :=
    (∃ i, s.slotKind i = .perimeter) ∧ ∀ i, s.slotKind i = .perimeter → now.get i = .lost
  let stopped : Timer := { s.zcu.outTimer with st := .stopped }
  z.mirror = m ∧ z.loops = now ∧ z.active = a ∧ z.frozen = s.zcu.frozen ∧
  z.prox = slotStrength m a ∧ z.station = slotStrength m s.stationSlot ∧
  (a = none → z.exitArm = false ∧ z.outTimer = stopped) ∧
  (∀ i, a = some i → s.zcu.active ≠ some i → z.exitArm = true ∧ z.outTimer = stopped) ∧
  (∀ i, a = some i → s.zcu.active = some i →
    z.exitArm =
      (if now.get i = .inside then true
      else if prior.get i = .inside then false else s.zcu.exitArm) ∧
    z.outTimer =
      if now.get i ≠ .outside then stopped
      else if prior.get i = .outside ∨ s.outsideLimit = 0 then s.zcu.outTimer
      else ⟨.running, 0⟩) ∧
  (∀ i, s.slotKind i ≠ .keepout → z.entryArm.get i = s.zcu.entryArm.get i) ∧
  (∀ i, s.slotKind i = .keepout →
    (now.get i = .outside ∨ now.get i = .lost ∨ now.get i = .pending → z.entryArm.get i = true) ∧
    (near i → prior.get i ≠ now.get i → z.entryArm.get i = false) ∧
    (near i → prior.get i = now.get i → z.entryArm.get i = s.zcu.entryArm.get i)) ∧
  (¬ allLost → z.wireLostArm = true) ∧
  (allLost → s.dkc.dock ≠ .docked → z.wireLostArm = false) ∧
  (allLost → s.dkc.dock = .docked → z.wireLostArm = s.zcu.wireLostArm) ∧
  UpdateIsCounted s now s.zcu.cnt z.cnt

/-- What an update hands on when its triggers have been raised (R39 to R41, R70; log entries 7 and 49):
a changed active zone to the gate, which makes an evaluation, and its slope max to the Sense Pin Unit;
then the proximity strength to the gate, which makes an evaluation where that changes the proximity
percent; then the guide loop and, after it, the station loop to the Dock Controller. -/
def Sys2Proof.Machine.ZoneIsHandedOn : Prop :=
  (∀ before s : State,
    let seen : State := { s with mgt := { s.mgt with zone := s.zcu.active } }
    let told := if s.zcu.active = before.zcu.active then s else tiltTest (evaluate seen)
    let t : State := { told with mgt := { told.mgt with prox := s.zcu.prox } }
    (t.nearWirePercent t.selectedSource = t.mgt.pn → zoneToGate before s = t) ∧
    (t.nearWirePercent t.selectedSource ≠ t.mgt.pn → zoneToGate before s = evaluate t)) ∧
  ∀ (guide station : Bool) (s : State),
    let atGuide (x : State) : State := { x with
      dkc := { x.dkc with
        guide :=
          match x.guideSlot with
          | some i =>
            ⟨x.zcu.loops.get i, (x.zcu.mirror.get i).left.cls, (x.zcu.mirror.get i).right.cls⟩
          | none => ⟨.disabled, .pending, .pending⟩ } }
    let atStation (x : State) : State := { x with
      dkc := { x.dkc with
        station :=
          match x.stationSlot with
          | some i => ⟨x.zcu.loops.get i, x.zcu.station⟩
          | none => ⟨.disabled, 0⟩ } }
    let steered (x : State) : State :=
      let y := atGuide x
      dockHandOn x
        (if y.dkc.dock = .returnSeek then
          if y.dkc.guide.loop = .straddle then
            stationTest (formSteering { y with dkc := { y.dkc with dock := .follow } })
          else y
        else if y.dkc.dock = .follow ∨ y.dkc.dock = .approach then formSteering y
        else y)
    let g := if guide = true then steered s else s
    zoneToDock guide station s =
      if station = true then dockHandOn g (stationTest (atStation g)) else g

/-- The triggers of an update and the state they leave: each against what the gate has seen so far,
while no end of a context finds the outside timer HELD (R30, stages 5 and 6). -/
def Sys2Proof.Machine.triggersRaised (trigs : List (Trig × Option Nat)) (z : Zcu) (s : State) : State :=
  let r := raiseAll trigs { s with zcu := { z with outTimer := { z.outTimer with st := .stopped } } }
  { r with zcu := { r.zcu with outTimer := z.outTimer } }

/-- The table of lane classes (R17), the strength of a lane (R20), the table of loop states, which is
symmetrical in the two coils (R18), and the strength of a slot, in which a lane counts only where its class
is IN or OUT (R39). -/
def Sys2Proof.Machine.LanesAreClassed : Prop :=
  (∀ (s : State) (i : Slot) (c : Coil),
    let l := (s.wdc.lanes.get i).get c
    let silent := (s.wdc.coils.get c).silent
    let cls := s.laneClass i c
    (silent = true → cls = .noClass) ∧
    (∀ v, silent = false → l.verdict = some v → l.burstsSince ≤ s.lossLimit i →
      (v.kind = .lockedIn ∨ v.kind = .weakIn → cls = .inside) ∧
      (v.kind = .lockedOut ∨ v.kind = .weakOut → cls = .outside) ∧
      (v.kind = .absent → cls = .noClass)) ∧
    (∀ v, silent = false → l.verdict = some v → s.lossLimit i < l.burstsSince → cls = .noClass) ∧
    (silent = false → l.verdict = none →
      let waits := l.verdictSince = false ∧ l.silentSince = false ∧ l.burstsSince < s.lossLimit i
      (waits → cls = .pending) ∧ (¬ waits → cls = .noClass)) ∧
    (∀ v, l.verdict = some v → s.laneStrength i c = v.strength) ∧
    (l.verdict = none → s.laneStrength i c = 0)) ∧
  (∀ a b : LaneClass, loopOf a b = loopOf b a) ∧
  loopOf .pending .pending = .pending ∧ loopOf .pending .noClass = .pending ∧
  loopOf .inside .inside = .inside ∧ loopOf .outside .outside = .outside ∧
  loopOf .inside .outside = .straddle ∧ loopOf .noClass .noClass = .lost ∧
  (∀ b, b = .noClass ∨ b = .pending →
    loopOf .inside b = .inside ∧ loopOf .outside b = .outside) ∧
  ∀ m : PerSlot (PerCoil MirrorLane),
    let counts (x : MirrorLane) : Nat :=
      if x.cls = .inside ∨ x.cls = .outside then x.strength else 0
    slotStrength m none = 0 ∧
    ∀ i, slotStrength m (some i) = max (counts (m.get i).left) (counts (m.get i).right)

/-- An update of the Wire Decoder at the Zone Context Unit: nothing without a lane named in it, the
mirror alone during a freeze, and otherwise the loop states of the named slots, the settled zone
context, the triggers as separate arrivals, the hand-offs to the gate and the DKC, and then OUTSIDE_LIMIT
where the timer is HELD and no context is held any more (R19, R30, R38, R42; log entries 7 and 49).
Which lanes an update names is the model's reading: a publication of the class and strength shown before
is no change (log entry 30, DEDUCED). -/
def Sys2Proof.Machine.UpdateIsTaken (pub : Published) (s : State) : Prop :=
  let m := s.mirrored pub
  let named (i : Slot) : Prop := ∃ c, s.laneNamed pub i c = true
  (∀ i c, s.laneNamed pub i c = true ↔ s.enabled i = true ∧
    (s.laneClass i c ≠ ((s.zcu.mirror.get i).get c).cls ∨
      (pub.coil = c ∧ i ∈ pub.slots ∧
        s.laneStrength i c ≠ ((s.zcu.mirror.get i).get c).strength))) ∧
  (∀ i c, (m.get i).get c =
    if s.laneNamed pub i c = true then
      ⟨s.laneClass i c,
        if pub.coil = c ∧ i ∈ pub.slots then s.laneStrength i c
        else ((s.zcu.mirror.get i).get c).strength⟩
    else (s.zcu.mirror.get i).get c) ∧
  ((∀ i, ¬ named i) → zoneUpdate pub s = s) ∧
  ((∃ i, named i) →
    (s.zcu.frozen = true → zoneUpdate pub s = { s with zcu := { s.zcu with mirror := m } }) ∧
    (s.zcu.frozen = false → ∃ (now : PerSlot LoopState) (guide station : Bool),
      (∀ i, (¬ named i → now.get i = s.zcu.loops.get i) ∧
        (named i → now.get i = loopOf (m.get i).left.cls (m.get i).right.cls)) ∧
      (guide = true ↔ ∃ i, s.guideSlot = some i ∧
        ∃ c, ((m.get i).get c).cls ≠ ((s.zcu.mirror.get i).get c).cls) ∧
      (station = true ↔ slotStrength m s.stationSlot ≠ s.zcu.station ∨
        ∃ i, s.stationSlot = some i ∧
          ∃ c, ((m.get i).get c).cls ≠ ((s.zcu.mirror.get i).get c).cls) ∧
      ZoneIsSettled s m now ∧
      let v := zoneToDock guide station (zoneToGate s
        (triggersRaised (s.updateTriggers s.zcu.loops now) (s.zoneAfter m now) s))
      (v.outsideHeldDue = none → zoneUpdate pub s = v) ∧
      ∀ i, v.outsideHeldDue = some i → zoneUpdate pub s = outsideRaise i v))

/-- When an update raises PERIMETER_EXIT, KEEPOUT_ENTRY and WIRE_LOST, in which order, and the zone
context it leaves: the active zone, the arms, the outside timer, the strengths, and the counters of Table
2-4, among them that of an exit withheld, whose only effect it is (R30, R34 to R39, R44); and what an
update of the Wire Decoder does with them, from the lanes it names, by the tables of lane classes and loop
states and the strengths that count (R17, R18, R20, R39), to the triggers and the hand-offs (R19, R30,
R42). That a stopped outside timer keeps its elapsed time is the model's reading
(log entry 12, DEDUCED), and so is which lanes an update names (log entry 30, DEDUCED). -/
def Obligations.UpdateRaisesTheBoundaryTriggers : Prop :=
  (∀ (s : State) (m : PerSlot (PerCoil MirrorLane)) (now : PerSlot LoopState),
    let prior := s.zcu.loops
    let near (j : Slot) : Prop := now.get j = .inside ∨ now.get j = .straddle
    let place (e : Trig × Option Nat) : Nat := e.2.getD 4
    (∀ i, (Trig.perimeterExit, some i.val) ∈ s.updateTriggers prior now ↔
      s.zcu.active = some i ∧ s.settledZone prior now = some i ∧ s.zcu.exitArm = true ∧
        prior.get i = .inside ∧ (now.get i = .straddle ∨ now.get i = .outside) ∧
        (¬ ∃ j, s.slotKind j = .perimeter ∧ s.passage i j = true ∧ near j) ∧
        ¬ ((s.dkc.dock = .approach ∨ s.dkc.dock = .contact ∨ s.dkc.dock = .departing) ∧
          ∃ j, s.stationSlot = some j ∧ near j)) ∧
    (∀ i, (Trig.keepoutEntry, some i.val) ∈ s.updateTriggers prior now ↔
      s.slotKind i = .keepout ∧ s.zcu.entryArm.get i = true ∧ prior.get i ≠ now.get i ∧ near i) ∧
    ((Trig.wireLost, none) ∈ s.updateTriggers prior now ↔
      (∃ i, s.slotKind i = .perimeter) ∧
        (∀ i, s.slotKind i = .perimeter → now.get i = .lost) ∧
        s.zcu.wireLostArm = true ∧ s.dkc.dock ≠ .docked) ∧
    (∀ e ∈ s.updateTriggers prior now,
      (∃ i : Slot, e = (Trig.perimeterExit, some i.val) ∨ e = (Trig.keepoutEntry, some i.val)) ∨
        e = (Trig.wireLost, none)) ∧
    (s.updateTriggers prior now).Nodup ∧
    ((s.updateTriggers prior now).map place).Pairwise (· ≤ ·) ∧
    ZoneIsSettled s m now) ∧
  LanesAreClassed ∧ ZoneIsHandedOn ∧ ∀ (pub : Published) (s : State), UpdateIsTaken pub s

/-- When a HELD outside timer raises OUTSIDE_LIMIT, and what that leaves: no response context is held, the
zone context is not frozen and a slot is active, whose number the trigger carries; the timer goes SPENT, its
elapsed time kept (log entry 12, DEDUCED), and the trigger is counted (R38, R42, R44); and what the ZCU does
when it sees whether a context is held. -/
def Sys2Proof.Machine.HeldTimerRaises : Prop :=
  ∀ s : State,
    (∀ i, s.outsideHeldDue = some i ↔
      s.zcu.outTimer.st = .held ∧ s.zcu.active = some i ∧ s.zcu.frozen = false ∧
        s.rse.ctx1 = none ∧ s.rse.ctx2 = none ∧ s.rse.ctx3 = none) ∧
    (∀ i, outsideRaise i s = raiseFixed .outsideLimit (some i.val) { s with
      zcu := { s.zcu with
        outTimer := { s.zcu.outTimer with st := .spent }
        cnt := { s.zcu.cnt with outside := bump s.zcu.cnt.outside } } }) ∧
    (∀ i, s.outsideHeldDue = some i → outsideTest s = outsideRaise i s) ∧
    (s.outsideHeldDue = none → outsideTest s = s)

/-- At the outside limit OUTSIDE_LIMIT is raised with the active slot's number and the timer is
SPENT, or the timer is HELD while a response context exists (R38), and a HELD timer raises it once no context
is held any more (R38, R42); that a SPENT timer keeps its elapsed
time is the model's reading (log entry 12, DEDUCED). -/
def Obligations.OutsideTimerExpires : Prop :=
  HeldTimerRaises ∧
  ∀ (dt : Nat) (s : State) (i : Slot), s.resetHeld = false →
    let u := arrive dt s
    let timer (st : TimerState) : Timer := { u.zcu.outTimer with st := st }
    u.zcu.active = some i → u.zcu.outTimer.st = .running →
    u.outsideLimit ≤ u.zcu.outTimer.elapsed →
    (u.rse.ctx1 = none ∧ u.rse.ctx2 = none ∧ u.rse.ctx3 = none →
      exec (.outsideTimerExpiry dt) s =
        .next (raiseFixed .outsideLimit (some i.val) { u with
          zcu := { u.zcu with
            outTimer := timer .spent
            cnt := { u.zcu.cnt with outside := bump u.zcu.cnt.outside } } })) ∧
    (¬ (u.rse.ctx1 = none ∧ u.rse.ctx2 = none ∧ u.rse.ctx3 = none) →
      exec (.outsideTimerExpiry dt) s =
        .next { u with zcu := { u.zcu with outTimer := timer .held } })

/-! ### Sense pins -/

/-- What an event of the Sense Pin Unit leaves alone: the memory, the Wire Decoder, the Table Store,
the management queue, the Loopback Unit, the waiting commands and the other pins' levels. -/
def Sys2Proof.Machine.SenseFrame (u t : State) : Prop :=
  t.mem = u.mem ∧ t.wdc = u.wdc ∧ t.tbs = u.tbs ∧ t.mrh = u.mrh ∧ t.lbu = u.lbu ∧
    t.pending = u.pending ∧ t.resetHeld = u.resetHeld ∧ t.spu.settle = u.spu.settle

/-- Whether a pin unit of a LEVEL role has its debounced level in a state. -/
def Sys2Proof.Machine.State.somePin (s : State) (role : PinRole) (is : PinUnit → Prop) : Prop :=
  ∃ p, (s.spu.units.get p).cfg.mode = .level ∧ (s.spu.units.get p).cfg.role = role ∧
    is (s.spu.units.get p)

/-- The slope of R57, an axis that is not VALID having the angle 0. -/
def Sys2Proof.Machine.State.slopeNow (s : State) : Nat :=
  max s.spu.pitch.angle.natAbs s.spu.roll.angle.natAbs

/-- The slope band, 7 while an axis is PENDING or in FAULT (R57, R66). -/
def Sys2Proof.Machine.State.bandNow (s : State) : Nat :=
  let unknown (a : AxisState) : Prop := a = .pending ∨ a = .fault
  if unknown s.spu.pitch.st ∨ unknown s.spu.roll.st then 7 else min (s.slopeNow / 50) 7

/-- What the Sense Pin Unit hands on after an event that took it from `before` to `s`: the lift condition and
the slope band to the gate, which makes one evaluation where either changed (log entry 72), the rain condition
to the Dock Controller where it changed, and the test of the slope where that changed; and what these leave
alone (R54, R55, R57, R58, R70; log entry 7). -/
def Sys2Proof.Machine.SenseIsHandedOn : Prop :=
  (∀ s : State,
    (s.liftCond = true ↔ s.somePin .lift fun x => x.deb = some x.cfg.active ∨ x.deb = none) ∧
    (s.rainCond = true ↔ s.somePin .rain fun x => x.deb = some x.cfg.active)) ∧
  ∀ before s : State,
    let x := if s.liftCond ≠ before.liftCond ∨ s.bandNow ≠ before.bandNow then evaluate s else s
    let y := if s.rainCond = s.dkc.rain then x else dockHandOn x (takeRain s.rainCond x)
    let t := spuHandOff before s
    t = (if s.slopeNow = before.slopeNow then y else tiltTest y) ∧
    SenseFrame s t ∧ t.spu = { s.spu with tilt := t.spu.tilt }

/-- A change of a pin's raw level that no unit measures: the level the pin has already is no change, and with
the pin OFF or its unit not yet measuring the level alone is kept, with the hand-offs of an OFF pin that
measures finding nothing changed (R46; log entry 10). -/
def Sys2Proof.Machine.UnseenEdge : Prop :=
  ∀ (dt : Nat) (p : Pin) (l : Level) (s : State), s.resetHeld = false →
    let u := arrive dt s
    let x := u.spu.units.get p
    let v : State := { u with spu := { u.spu with levels := u.spu.levels.set p l } }
    (u.spu.levels.get p = l → exec (.pinEdge dt p l) s = .next u) ∧
    (u.spu.levels.get p ≠ l → x.measuring = false → exec (.pinEdge dt p l) s = .next v) ∧
    (u.spu.levels.get p ≠ l → x.measuring = true → x.cfg.mode = .off →
      exec (.pinEdge dt p l) s = .next (spuHandOff u v) ∧
      (u.rainCond = u.dkc.rain → spuHandOff u v = v))

/-- An event of a pin unit that changes nothing a role hands on ends in `v`, with no block but the Sense Pin
Unit changed from what `u` was; a rain condition that the Dock Controller has not taken yet is handed on with
it, as with every event of the Sense Pin Unit (R55). -/
def Sys2Proof.Machine.EndsQuietly (e : Host.Outcome State Fault Refusal) (u v : State) : Prop :=
  v = { u with spu := v.spu } ∧
  (u.rainCond = u.dkc.rain → e = .next v) ∧
  (u.rainCond ≠ u.dkc.rain → e = .next (dockHandOn v (takeRain u.rainCond v)))

/-- `u` with the level of a pin and its unit changed, and nothing else. -/
def Sys2Proof.Machine.State.pinNow (u : State) (p : Pin) (l : Level) (x : PinUnit) : State :=
  { u with spu := { u.spu with levels := u.spu.levels.set p l, units := u.spu.units.set p x } }

/-- A LEVEL pin: a raw edge stops the debounce timer or makes the new level the candidate with the full
debounce time before it; the expiry makes the candidate the debounced level and publishes it, hands the lift
condition, the rain condition and the slope on, and then raises the trigger of a role that became active:
LIFT, a hazard; BUMP_REAR; BUMP_FRONT, which is suppressed and counted in APPROACH, CONTACT and DOCKED (R47,
R53, R54; log entry 7). A raw edge, and an expiry of a pin whose role is neither LIFT nor RAIN before its
own trigger, leaves every other block as it was. With them, what the Sense Pin Unit hands on after an event
(R54, R55, R57, R70; log entry 72), and an edge of a pin that nothing measures (R46). -/
def Obligations.LevelPinIsDebounced : Prop :=
  SenseIsHandedOn ∧ UnseenEdge ∧
  ∀ (dt : Nat) (p : Pin) (s : State), s.resetHeld = false →
    let u := arrive dt s
    let x := u.spu.units.get p
    x.measuring = true → x.cfg.mode = .level →
    (∀ l, u.spu.levels.get p ≠ l → ∃ t,
      exec (.pinEdge dt p l) s = .next t ∧ SenseFrame u t ∧
      t.spu.levels = u.spu.levels.set p l ∧
      t.spu.units = u.spu.units.set p
        (if x.deb = some l then { x with debTimer := none }
        else { x with cand := l, debTimer := some 0 }) ∧
      EndsQuietly (exec (.pinEdge dt p l) s) u (u.pinNow p l
        (if x.deb = some l then { x with debTimer := none }
        else { x with cand := l, debTimer := some 0 }))) ∧
    (x.debTimer = some (ms x.cfg.param) →
      let role := x.cfg.role
      let units := u.spu.units.set p
        { x.publish (.lvl x.cand) with deb := some x.cand, debTimer := none }
      let v : State := { u with spu := { u.spu with units := units } }
      let w := spuHandOff u v
      let ends (t : State) : Prop := exec (.debounceExpiry dt p) s = .next t
      (∃ t, ends t ∧ SenseFrame u t ∧ t.spu.levels = u.spu.levels ∧ t.spu.units = units ∧
        (role = .lift → x.cand = x.cfg.active → t.rse.ctx3.isSome = true)) ∧
      (x.cand ≠ x.cfg.active ∨ (role ≠ .bumpFront ∧ role ≠ .bumpRear ∧ role ≠ .lift) → ends w) ∧
      (x.cand = x.cfg.active →
        (role = .lift → ends (raise .lift (some p.val) w)) ∧
        (role = .bumpRear → ends (raise .bumpRear (some p.val) w)) ∧
        (role = .bumpFront →
          (w.dkc.dock = .approach ∨ w.dkc.dock = .contact ∨ w.dkc.dock = .docked →
            ends { w with
              spu := { w.spu with bumpsSuppressed := bump w.spu.bumpsSuppressed } }) ∧
          (w.dkc.dock ≠ .approach → w.dkc.dock ≠ .contact → w.dkc.dock ≠ .docked →
            ends (raise .bumpFront (some p.val) w)))) ∧
      (role ≠ .lift → role ≠ .rain → (u.rainCond = u.dkc.rain → w = v) ∧
        (u.rainCond ≠ u.dkc.rain → w = dockHandOn v (takeRain u.rainCond v))))

/-- A result is published: it replaces the last one and is counted, and the ready flag is set; a GENERAL
pin whose ready flag was set already has its overrun flag set and its overrun counted, and no other
publication touches these (R51). -/
def Sys2Proof.Machine.ResultIsPublished : Prop :=
  ∀ (r : PinResult) (x : PinUnit),
    let y (overrun : Bool) (overruns : Nat) : PinUnit := { x with
      result := some r
      ready := true
      overrun := overrun
      sinceRestart := true
      results := bump x.results
      overruns := overruns }
    (x.cfg.role = .general → x.ready = true → x.publish r = y true (bump x.overruns)) ∧
    (x.cfg.role ≠ .general ∨ x.ready = false → x.publish r = y x.overrun x.overruns)

/-- An EDGE_COUNT pin counts its edges, saturating, and publishes the count of each window; a
PULSE_WIDTH pin notes a rising edge and publishes the length of a pulse whose start is noted (R48,
R49), and every other block stays as it was; and what the publication of a result does (R51). -/
def Obligations.CountAndPulsePins : Prop :=
  ResultIsPublished ∧
  ∀ (dt : Nat) (p : Pin) (s : State), s.resetHeld = false →
    let u := arrive dt s
    let x := u.spu.units.get p
    x.measuring = true →
    (x.cfg.mode = .edgeCount →
      (∀ l, u.spu.levels.get p ≠ l → ∃ t,
        exec (.pinEdge dt p l) s = .next t ∧ SenseFrame u t ∧
        t.spu.levels = u.spu.levels.set p l ∧
        t.spu.units = u.spu.units.set p { x with count := min (x.count + 1) 65535 } ∧
        EndsQuietly (exec (.pinEdge dt p l) s) u
          (u.pinNow p l { x with count := min (x.count + 1) 65535 })) ∧
      (ms x.cfg.param ≤ x.window →
        exec (.edgeWindowExpiry dt p) s = .next { u with
          spu := { u.spu with
            units := u.spu.units.set p
              { x.publish (.num x.count) with count := 0, window := 0 } } })) ∧
    (x.cfg.mode = .pulseWidth → ∀ l, u.spu.levels.get p ≠ l → ∃ t y,
      exec (.pinEdge dt p l) s = .next t ∧ SenseFrame u t ∧
      t.spu.levels = u.spu.levels.set p l ∧ t.spu.units = u.spu.units.set p y ∧
      y =
        (match l, x.pulse with
        | .high, _ => { x with pulse := some 0 }
        | .low, some d => { x.publish (.num (min d 65535)) with pulse := none }
        | .low, none => x) ∧
      EndsQuietly (exec (.pinEdge dt p l) s) u (u.pinNow p l y))

/-- A tilt pin at the end of a complete period and at its timeout, for either axis: a valid duty gives the
axis its angle and ends a fault; an invalid one, or the timeout, takes the axis to FAULT, counted, with
SENSE_FAULT, and changes nothing of the axis where it is in FAULT already; the other axis stays; and the
hand-offs of the Sense Pin Unit follow (R50, R56, R57; log entry 35). -/
def Sys2Proof.Machine.TiltPinServesItsAxis : Prop :=
  ∀ (dt : Nat) (p : Pin) (s : State), s.resetHeld = false →
    let u := arrive dt s
    let x := u.spu.units.get p
    let role := x.cfg.role
    let after (l : PerPin Level) (y : PinUnit) (a : Axis) : State := { u with
      spu := { u.spu with
        levels := l
        units := u.spu.units.set p y
        pitch := if role = .tiltPitch then a else u.spu.pitch
        roll := if role = .tiltRoll then a else u.spu.roll } }
    let mine : Axis := if role = .tiltPitch then u.spu.pitch else u.spu.roll
    let faulty (l : PerPin Level) (y : PinUnit) : State :=
      if x.fault = true then after l y mine
      else setFlag .senseFault [u8 p.val]
        (after l { y with fault := true, faults := bump y.faults } ⟨.fault, 0⟩)
    x.measuring = true → x.cfg.mode = .duty → role = .tiltPitch ∨ role = .tiltRoll →
    (∀ h d, u.spu.levels.get p = .low → x.high = some h → x.period = some d → 0 < d →
      let q := h * 1000 / d
      let y : PinUnit :=
        { ({ x with period := some 0, high := none } : PinUnit).publish (.num q) with dutyTimer := 0 }
      let l := u.spu.levels.set p .high
      (50 ≤ q → q ≤ 950 → exec (.pinEdge dt p .high) s = .next (spuHandOff u
        (after l { y with fault := false } ⟨.valid, (((q : Int) - 500) * 9).tdiv 5⟩))) ∧
      (q < 50 ∨ 950 < q → exec (.pinEdge dt p .high) s = .next (spuHandOff u (faulty l y)))) ∧
    (ms x.cfg.param ≤ x.dutyTimer →
      exec (.dutyTimeoutExpiry dt p) s = .next (spuHandOff u (faulty u.spu.levels
        (if x.fault = true then { x with dutyTimer := 0 }
        else { x with dutyTimer := 0, period := none, high := none }))))

/-- A DUTY pin: the rising edge that ends a complete period publishes the duty in permille and
restarts the timeout; any rising edge begins a period; a falling edge takes the high time; the duty
timeout makes a fault, counted once; and a tilt pin's duty is an angle of its axis, or makes the FAULT of that
axis, which a valid duty ends and another invalid one repeats without a count (R50, R56). An edge or a timeout
that changes no axis leaves every other block as it was. -/
def Obligations.DutyPinMeasuresPeriods : Prop :=
  TiltPinServesItsAxis ∧
  ∀ (dt : Nat) (p : Pin) (s : State), s.resetHeld = false →
    let u := arrive dt s
    let x := u.spu.units.get p
    x.measuring = true → x.cfg.mode = .duty →
    (u.spu.levels.get p = .high → ∃ t y,
      exec (.pinEdge dt p .low) s = .next t ∧ SenseFrame u t ∧
      t.spu.units = u.spu.units.set p y ∧
      y = (match x.period with | some d => { x with high := some d } | none => x) ∧
      EndsQuietly (exec (.pinEdge dt p .low) s) u (u.pinNow p .low y)) ∧
    (u.spu.levels.get p = .low → (x.period = none ∨ x.high = none) → ∃ t,
      exec (.pinEdge dt p .high) s = .next t ∧ SenseFrame u t ∧
      t.spu.units = u.spu.units.set p { x with period := some 0, high := none } ∧
      EndsQuietly (exec (.pinEdge dt p .high) s) u
        (u.pinNow p .high { x with period := some 0, high := none })) ∧
    (∀ h d, u.spu.levels.get p = .low → x.high = some h → x.period = some d → 0 < d →
      let q := h * 1000 / d
      let y : PinUnit :=
        { ({ x with period := some 0, high := none } : PinUnit).publish (.num q) with dutyTimer := 0 }
      (x.cfg.role = .general → ∃ t,
        exec (.pinEdge dt p .high) s = .next t ∧ SenseFrame u t ∧
        t.spu.units = u.spu.units.set p { y with fault := false } ∧
        EndsQuietly (exec (.pinEdge dt p .high) s) u (u.pinNow p .high { y with fault := false })) ∧
      (x.cfg.role = .tiltPitch → 50 ≤ q → q ≤ 950 → ∃ t,
        exec (.pinEdge dt p .high) s = .next t ∧ SenseFrame u t ∧
        t.spu.units = u.spu.units.set p { y with fault := false } ∧
        t.spu.pitch = ⟨.valid, (((q : Int) - 500) * 9).tdiv 5⟩ ∧
        -810 ≤ t.spu.pitch.angle ∧ t.spu.pitch.angle ≤ 810) ∧
      (x.cfg.role = .tiltRoll → (q < 50 ∨ 950 < q) → x.fault = false → ∃ t,
        exec (.pinEdge dt p .high) s = .next t ∧ SenseFrame u t ∧
        t.spu.units = u.spu.units.set p { y with fault := true, faults := bump y.faults } ∧
        t.spu.roll = ⟨.fault, 0⟩)) ∧
    (ms x.cfg.param ≤ x.dutyTimer → ∃ t y,
      exec (.dutyTimeoutExpiry dt p) s = .next t ∧ SenseFrame u t ∧
      t.spu.levels = u.spu.levels ∧
      t.spu.units = u.spu.units.set p y ∧
      y =
        (if x.fault then { x with dutyTimer := 0 }
        else { x with
          dutyTimer := 0
          period := none
          high := none
          fault := true
          faults := bump x.faults }) ∧
      (x.cfg.role ≠ .tiltPitch → x.cfg.role ≠ .tiltRoll →
        EndsQuietly (exec (.dutyTimeoutExpiry dt p) s) u
          { u with spu := { u.spu with units := u.spu.units.set p y } }) ∧
      (x.cfg.role = .tiltPitch → x.fault = false → t.spu.pitch = ⟨.fault, 0⟩))

/-- SENSE_READ answers with the pin's data as they stood before the read; the read consumes the
result of a GENERAL pin and clears nothing else (R51, R52); the twelve bytes are the mode, role and active
level, whether there is a result and the result, the three flags, and the axis state and angle of a tilt pin
(11 section 11.1; log entry 17). That the BAD_PARAM to a pin number outside 0..7 carries no data is the
model's choice (log entry 76, DESIGN CHOICE). -/
def Obligations.SenseReadConsumesAGeneralResult : Prop :=
  ∀ (dt : Nat) (s : State), s.resetHeld = false →
    let u := arrive dt s
    headIs 13 u = true →
    ((u.headParams = [] ∨ 8 ≤ byteAt u.headParams 0) →
      exec (.senseRead dt) s = .next (answer .badParam [] u)) ∧
    ∀ p : Pin, u.headParams ≠ [] → byteAt u.headParams 0 = p.val →
      let x := u.spu.units.get p
      exec (.senseRead dt) s = .next (answer .ok (u.pinData p)
        (if x.cfg.role = .general ∧ x.cfg.mode ≠ .off then
          { u with
            spu := { u.spu with
              units := u.spu.units.set p { x with ready := false, overrun := false } } }
        else u)) ∧
      (u.pinData p).take 3 =
        [u8 (u.pinCfg p).mode.num, u8 (u.pinCfg p).role.num, u8 (Level.num (u.pinCfg p).active)] ∧
      ((u.pinData p).drop 6).take 3 = [flagByte x.ready, flagByte x.overrun, flagByte x.fault] ∧
      let axis (a : Axis) : List Byte :=
        numberIn [.absent, .pending, .valid, .fault] a.st :: signedBytes a.angle
      let c := u.pinCfg p
      u.pinData p =
        [numberIn [.off, .level, .edgeCount, .pulseWidth, .duty] c.mode,
          numberIn [.general, .bumpFront, .bumpRear, .lift, .rain, .tiltPitch, .tiltRoll] c.role,
          numberIn [.high, .low] c.active] ++
        (match x.result with
        | none => [0#8, 0#8, 0#8]
        | some (.lvl .high) => [1#8, 0#8, 0#8]
        | some (.lvl .low) => [1#8, 0#8, 1#8]
        | some (.num n) => 1#8 :: twoBytes n) ++
        [yesByte x.ready, yesByte x.overrun, yesByte x.fault] ++
        (if c.mode = .duty ∧ c.role = .tiltPitch then axis u.spu.pitch
        else if c.mode = .duty ∧ c.role = .tiltRoll then axis u.spu.roll
        else [0#8, 0#8, 0#8])

/-- The tilt timer's table at a test of the over-slope condition, and its expiry, which raises
TILT_OVER once (R58); that a STOPPED or SPENT timer keeps its elapsed time is the model's reading (log
entry 12, DEDUCED). -/
def Obligations.TiltTimerJudgesTheSlope : Prop :=
  (∀ s : State,
    let timer (t : Timer) : State := { s with spu := { s.spu with tilt := t } }
    let steep := s.slopeMax < max s.spu.pitch.angle.natAbs s.spu.roll.angle.natAbs
    (steep → s.spu.tilt.st = .stopped → 0 < s.tiltPersistence →
      tiltTest s = timer ⟨.running, 0⟩) ∧
    (steep → s.spu.tilt.st = .stopped → s.tiltPersistence = 0 →
      tiltTest s = raiseFixed .tiltOver none (timer { s.spu.tilt with st := .spent })) ∧
    (steep → s.spu.tilt.st = .running ∨ s.spu.tilt.st = .spent → tiltTest s = s) ∧
    (¬ steep → s.spu.tilt.st = .running ∨ s.spu.tilt.st = .spent →
      tiltTest s = timer { s.spu.tilt with st := .stopped }) ∧
    (¬ steep → s.spu.tilt.st = .stopped → tiltTest s = s)) ∧
  ∀ (dt : Nat) (s : State), s.resetHeld = false →
    let u := arrive dt s
    u.spu.tilt.st = .running → u.tiltPersistence ≤ u.spu.tilt.elapsed →
    exec (.tiltTimerExpiry dt) s = .next (raiseFixed .tiltOver none
      { u with spu := { u.spu with tilt := { u.spu.tilt with st := .spent } } })

/-- The axes after every unit has begun again: PENDING where a pin works the role, else ABSENT, at the angle
0 (R56, R60). -/
def Sys2Proof.Machine.State.AxesBegin (s : State) : Prop :=
  let axis (role : PinRole) (a : Axis) : Prop :=
    let works := ∃ p, (s.spu.units.get p).cfg.mode = .duty ∧ (s.spu.units.get p).cfg.role = role
    (works → a = ⟨.pending, 0⟩) ∧ (¬ works → a = ⟨.absent, 0⟩)
  axis .tiltPitch s.spu.pitch ∧ axis .tiltRoll s.spu.roll

/-- When the STOP line is asserted: while RESET_N is, and while a level-3 context is held (the hazard reason),
the settle after a reset runs (the settle reason) or a D-link echo or wire pattern test runs (the test
reason); it is deasserted where none of these holds (R122, R167). -/
def Sys2Proof.Machine.StopLineIsDriven : Prop :=
  ∀ s : State,
    let reason := s.rse.stopHazard = true ∨ s.rse.stopSettle = true ∨ s.rse.stopTest = true
    (s.resetHeld = true ∨ reason → s.stopLine = true) ∧
    (s.resetHeld = false → ¬ reason → s.stopLine = false)

/-- At the end of the 50 ms settle every unit begins to measure in the mode of the ACTIVE bank, with
no result and clear flags and its counters kept, and the settle reason of the STOP line is cleared, which
then is asserted only for a hazard or a test; an axis whose role a pin works is PENDING and any other ABSENT,
and what changed is handed on (R46, R56, R122). With it, when the STOP line is asserted and when it is not
(R122, R167). -/
def Obligations.SettleEndsAndUnitsBegin : Prop :=
  StopLineIsDriven ∧
  ∀ (dt : Nat) (s : State), s.resetHeld = false →
    let u := arrive dt s
    u.spu.settle = some (ms 50) → ∃ t,
    exec (.settleEnd dt) s = .next t ∧ t.spu.settle = none ∧ t.rse.stopSettle = false ∧
    (t.stopLine = true ↔ t.rse.stopHazard = true ∨ t.rse.stopTest = true) ∧
    t.mem = u.mem ∧ t.wdc = u.wdc ∧ t.tbs = u.tbs ∧ t.mrh = u.mrh ∧ t.lbu = u.lbu ∧
    t.spu.levels = u.spu.levels ∧
    (∃ v : State, t = spuHandOff u v ∧ v = { u with
      spu := { u.spu with settle := none, units := t.spu.units, pitch := v.spu.pitch, roll := v.spu.roll }
      rse := { u.rse with stopSettle := false } } ∧ v.AxesBegin) ∧
    ∀ p,
      let x := u.spu.units.get p
      let y := t.spu.units.get p
      y.cfg = u.pinCfg p ∧ y.measuring = true ∧ y.result = none ∧ y.ready = false ∧
      y.overrun = false ∧ y.fault = false ∧ y.deb = none ∧ y.count = 0 ∧ y.window = 0 ∧
      y.pulse = none ∧ y.period = none ∧ y.high = none ∧ y.dutyTimer = 0 ∧
      y.results = x.results ∧ y.overruns = x.overruns ∧ y.faults = x.faults ∧
      (y.cfg.mode = .level → y.cand = u.spu.levels.get p ∧ y.debTimer = some 0)

/-! ### The Motion Gate -/

/-- The scaling of a wheel pair: unchanged if neither side overshoots its limit, else both sides by
the chosen side's limit over its speed, truncated toward zero; each output is within its own limit
and keeps its sign, and the chosen side's is exactly its limit; and the side that is chosen, the left one on
a tie (R71). -/
def Obligations.WheelPairIsScaled : Prop :=
  ∀ (f r : Nat) (vL vR : Int),
    let limit (v : Int) : Nat := if 0 ≤ v then f else r
    let out := scalePair f r vL vR
    let by' (v : Int) : Int × Int :=
      ((vL * (limit v : Int)).tdiv v.natAbs, (vR * (limit v : Int)).tdiv v.natAbs)
    (vL.natAbs ≤ limit vL → vR.natAbs ≤ limit vR → out = (vL, vR)) ∧
    (limit vL < vL.natAbs → vR.natAbs ≤ limit vR → out = by' vL) ∧
    (vL.natAbs ≤ limit vL → limit vR < vR.natAbs → out = by' vR) ∧
    (limit vL < vL.natAbs → limit vR < vR.natAbs →
      out = if limit vL * vR.natAbs ≤ limit vR * vL.natAbs then by' vL else by' vR) ∧
    -(r : Int) ≤ out.1 ∧ out.1 ≤ f ∧ -(r : Int) ≤ out.2 ∧ out.2 ≤ f ∧
    0 ≤ out.1 * vL ∧ 0 ≤ out.2 * vR ∧
    (out = by' vL → limit vL < vL.natAbs → out.1.natAbs = limit vL) ∧
    (out = by' vR → limit vR < vR.natAbs → out.2.natAbs = limit vR) ∧
    let chosen := chosenSide f r vL vR
    (vL.natAbs ≤ limit vL → vR.natAbs ≤ limit vR → chosen = none) ∧
    (limit vL < vL.natAbs → vR.natAbs ≤ limit vR → chosen = some .left) ∧
    (vL.natAbs ≤ limit vL → limit vR < vR.natAbs → chosen = some .right) ∧
    (limit vL < vL.natAbs → limit vR < vR.natAbs →
      chosen = some (if limit vL * vR.natAbs ≤ limit vR * vL.natAbs then .left else .right))

/-- A set-point is posted and kept as the last posted value of its address (R74). -/
def Sys2Proof.Machine.postKept (n : Node) (v : PostValue) (o : Origin) (s : State) : State :=
  onMgt (fun g => { g with posted := g.posted.set n v.speed }) (postSet n v o s)

/-- The same with the post counted. -/
def Sys2Proof.Machine.postCounted (n : Node) (v : PostValue) (o : Origin) (s : State) : State :=
  onMgt (fun g => { g with cnt := { g.cnt with posts := bump g.cnt.posts } }) (postKept n v o s)

/-- The post that the figures `m` of an evaluation ask of an address by the kind of node fitted there,
none where its value is the last posted one (R73, R74). -/
def Sys2Proof.Machine.State.duePost (s : State) (m : Mgt) (n : Node) : Option PostValue :=
  let due : Option PostValue :=
    match s.nodeKind n with
    | .wheelLeft => some (.wheel m.outL)
    | .wheelRight => some (.wheel m.outR)
    | .blade => some (.blade m.outBlade)
    | _ => none
  due.filter fun v => v.speed ≠ s.mgt.posted.get n

/-- The origin of the posts of a source (R74). -/
def Sys2Proof.Machine.originOf (x : Source) : Origin :=
  match x with
  | .nav => .nav
  | .dock => .dock
  | .resp1 => .resp1
  | .resp2 => .resp2
  | .resp3 => .resp3

/-- The figures of an evaluation, with nothing posted yet; a change of the selected source is counted (R61,
R80). -/
def Sys2Proof.Machine.State.figures (s : State) : Mgt :=
  let m := (evaluate s).mgt
  { m with
    posted := s.mgt.posted
    cnt := { s.mgt.cnt with
      sourceChanges :=
        if m.source = s.mgt.source then s.mgt.cnt.sourceChanges
        else bump s.mgt.cnt.sourceChanges } }

/-- The posts of an evaluation: the address in ascending order, each whose value due differs from the
last posted one, with the selected source as its origin, counted (R73, R74), and none during a D-link
echo (R76). -/
def Sys2Proof.Machine.EvaluationPosts : Prop :=
  ∀ s : State,
    let formed : State := { s with mgt := s.figures }
    let posted (x : State) (n : Node) : State :=
      match s.duePost s.figures n with
      | some v => postCounted n v (originOf s.figures.source) x
      | none => x
    (s.dEchoRunning = true → evaluate s = formed) ∧
    (s.dEchoRunning = false → evaluate s = [0, 1, 2, 3, 4, 5].foldl posted formed)

/-- The posts of an evaluation of a DRIVE channel reset: those of any evaluation, but each follows the zero of
its node. Where the queue holds that zero the set-point stands behind it, in the place of one that stands
there already, and where it does not the set-point is posted as R89 says (R73, R74, R77, R89; log entry 45,
DESIGN CHOICE). -/
def Sys2Proof.Machine.EvaluationFollowsTheZeros : Prop :=
  (∀ s : State,
    let posted (x : State) (n : Node) : State :=
      match s.duePost s.figures n with
      | some v =>
        let y := postBehind n v (originOf s.figures.source) x
        { y with
          mgt := { y.mgt with
            posted := y.mgt.posted.set n v.speed
            cnt := { y.mgt.cnt with posts := bump y.mgt.cnt.posts } } }
      | none => x
    evaluateBehind s = [0, 1, 2, 3, 4, 5].foldl posted { s with mgt := s.figures }) ∧
  ∀ (n : Node) (v : PostValue) (o : Origin) (s : State), v.coalesces v = true →
    let d := s.dlc
    let same (e : QEntry) : Prop := e.node = n ∧ e.val.coalesces v = true
    ((∃ e ∈ d.queue, same e) → (∀ e ∈ d.behind, ¬ same e) →
      postBehind n v o s =
        { s with dlc := { d with behind := d.behind ++ [⟨n, v, o, false, false⟩] } }) ∧
    ((∀ e ∈ d.queue, ¬ same e) ∨ (∃ e ∈ d.behind, same e) → postBehind n v o s = postSet n v o s)

/-- The figures of an evaluation: the source, the band, the two percents, the base limits of every
source and dock state, the effective limits, the output pair of every source, the side its scaling chose (log
entry 73) and the blade value, with the active zone and the strength that the gate has seen (R61, R62, R66,
R68, R69, R71, R72); and its posts: the address in ascending order, each whose value due differs from the
last posted one, a WHEEL_SET or BLADE_SET with the selected source as its origin, counted (R73, R74), and
none during a D-link echo (R76). -/
def Obligations.EvaluationFormsTheOutput : Prop :=
  EvaluationPosts ∧
  ∀ s : State,
    let m := (evaluate s).mgt
    let slope := max s.spu.pitch.angle.natAbs s.spu.roll.angle.natAbs
    let live (c : NavCmd) : Prop :=
      s.mgt.cmd = some c ∧ c.mode = .drive ∧ s.mgt.age.st = .running
    let base (f r : Nat) : Prop := m.fb = f ∧ m.rb = r
    let pair (l r : Int) : Prop :=
      (m.outL, m.outR) = scalePair m.feff m.reff l r ∧ m.chosen = chosenSide m.feff m.reff l r
    let dock := s.dkc.dock
    (s.rse.ctx3.isSome = true → m.source = .resp3) ∧
    (s.rse.ctx3 = none → s.rse.ctx2.isSome = true → m.source = .resp2) ∧
    (s.rse.ctx3 = none → s.rse.ctx2 = none → s.rse.ctx1.isSome = true → m.source = .resp1) ∧
    (s.ctxHeld = false →
      m.source = if dock = .undocked ∨ dock = .returnSeek then .nav else .dock) ∧
    m.band = (if s.tiltUnknown = true then 7 else min (slope / 50) 7) ∧
    m.ps = s.derateSpeed m.band ∧
    (∀ i, s.mgt.zone = some i → m.source ≠ .dock → 0 < s.nearLevel i →
      s.nearLevel i ≤ s.mgt.prox → m.pn = s.nearPercent i) ∧
    (∀ i, s.mgt.zone = some i → s.nearLevel i = 0 ∨ s.mgt.prox < s.nearLevel i → m.pn = 100) ∧
    (s.mgt.zone = none ∨ m.source = .dock → m.pn = 100) ∧
    (dock = .contact ∨ dock = .docked → base 0 0) ∧
    (dock ≠ .contact → dock ≠ .docked →
      (m.source ≠ .dock →
        (∀ i, s.mgt.zone = some i → base (s.zoneForward i) (s.zoneReverse i)) ∧
        (s.mgt.zone = none → base s.defaultForward s.defaultReverse)) ∧
      (m.source = .dock →
        (dock = .follow → base s.followSpeed s.turnDelta) ∧
        (dock = .approach → base s.approachSpeed s.turnDelta) ∧
        (dock = .departing ∨ dock = .backoff → base 0 s.departureSpeed) ∧
        (dock = .dockFault → base 0 0))) ∧
    m.feff = m.fb * m.ps * m.pn / 10000 ∧ m.reff = m.rb * m.ps * m.pn / 10000 ∧
    (m.source = .nav → ∀ c, live c → pair c.left c.right) ∧
    (m.source = .nav → (∀ c, ¬ live c) → m.outL = 0 ∧ m.outR = 0 ∧ m.chosen = none) ∧
    (m.source = .dock → pair s.dkc.cmdL s.dkc.cmdR) ∧
    (∀ c, m.source = .resp1 → s.rse.ctx1 = some c → pair c.left c.right) ∧
    (∀ c, m.source = .resp2 → s.rse.ctx2 = some c → pair c.left c.right) ∧
    (∀ c, m.source = .resp3 → s.rse.ctx3 = some c → pair c.left c.right) ∧
    (∀ c i, live c → s.mgt.zone = some i → dock = .undocked → s.liftCond = false →
      s.zoneBlade i = true → s.derateBlade m.band = true →
      (m.source = .nav ∨
        (m.source = .resp1 ∧ ∃ k, s.rse.ctx1 = some k ∧ k.bladeStop = false)) →
      m.outBlade = min c.blade (s.zoneBladeMax i)) ∧
    ((∀ c, ¬ live c) ∨ s.mgt.zone = none ∨ dock ≠ .undocked ∨ s.liftCond = true ∨
      (∃ i, s.mgt.zone = some i ∧ s.zoneBlade i = false) ∨
      s.derateBlade m.band = false ∨ m.source = .dock ∨ m.source = .resp2 ∨ m.source = .resp3 ∨
      (m.source = .resp1 ∧ ∃ k, s.rse.ctx1 = some k ∧ k.bladeStop = true) →
      m.outBlade = 0) ∧
    evaluate s = { s with dlc := (evaluate s).dlc, mgt := m } ∧
    m.cmd = s.mgt.cmd ∧ m.age = s.mgt.age ∧ m.zone = s.mgt.zone ∧ m.prox = s.mgt.prox

/-! ### The N-link -/

/-- A well-formed frame that reaches the framer in HUNT is received exactly as it was framed: no bit
of destination, source, kind, tag, payload or CRC is dropped (R156, 11 section 11.1). -/
def Obligations.FramerTakesTheWholeFrame : Prop :=
  ∀ (dt : Nat) (f : NFrame) (s : State), s.resetHeld = false →
    f.dst < 16 → f.src < 16 → f.payload.length ≤ 96 → (arrive dt s).nli.framer.st = .hunt →
    nFrameWf f.bytes = true ∧
    exec (.nLinkFrame dt f.bytes) s = .next (received f (setFramer .hunt [] (arrive dt s)))

/-- A frame whose CRC does not match, a truncated frame and a length above 96 are discarded, counted
and set LINK_ERROR with their cause (R156). -/
def Obligations.BadFramesAreDiscarded : Prop :=
  ∀ (dt : Nat) (s : State), s.resetHeld = false → (arrive dt s).nli.framer.st = .hunt →
    let u := setFramer .hunt [] (arrive dt s)
    (∀ (f : NFrame) (a b : Byte), f.payload.length ≤ 96 → [a, b] ≠ crcBytes f.body →
      exec (.nLinkFrame dt (0x7E#8 :: (f.body ++ [a, b]))) s =
        .next (setFlag .linkError [1#8] { u with
          nli := { u.nli with cnt := { u.nli.cnt with badCrc := bump u.nli.cnt.badCrc } } })) ∧
    (∀ bytes, truncationWf bytes = true →
      exec (.frameTruncation dt bytes) s =
        .next (setFlag .linkError [2#8] { u with
          nli := { u.nli with
            cnt := { u.nli.cnt with truncated := bump u.nli.cnt.truncated } } })) ∧
    (∀ bytes, overrunWf bytes = true →
      exec (.lengthOverrun dt bytes) s =
        .next (setFlag .linkError [0#8] { u with
          nli := { u.nli with
            cnt := { u.nli.cnt with lengthOverrun := bump u.nli.cnt.lengthOverrun } } }))

/-- A claimed MOTION frame: dropped as malformed or duplicate, or accepted as the latest command with
its fields in range, the age from 0 and the skipped and clamped counts, followed by an evaluation
(R63, R64). -/
def Obligations.MotionFrameIsJudged : Prop :=
  ∀ (p : List Byte) (s : State),
    let m := s.mgt
    let q := byteAt p 0
    let count (c : MgtCounters) : State := { s with mgt := { m with cnt := c } }
    let left := clampI (-2000) 2000 (sgn16 (wordAt p 2))
    let right := clampI (-2000) 2000 (sgn16 (wordAt p 4))
    let blade := min (wordAt p 6) 5000
    let changed (a b : Int) : Nat := if a = b then 0 else 1
    let clamps :=
      (if byteAt p 1 ≤ 1 then 0 else 1) + changed left (sgn16 (wordAt p 2)) +
        changed right (sgn16 (wordAt p 4)) + changed blade (wordAt p 6)
    let taken (skipped : Nat) : State := { s with
      mgt := { m with
        cmd := some ⟨q, if byteAt p 1 = 1 then .drive else .stop, left, right, blade⟩
        age := ⟨.running, 0⟩
        cnt := { m.cnt with
          accepted := bump m.cnt.accepted
          skipped := bumpBy skipped m.cnt.skipped
          clamped := bumpBy clamps m.cnt.clamped } } }
    (p.length ≠ 8 → motionFrame p s = count { m.cnt with malformed := bump m.cnt.malformed }) ∧
    (p.length = 8 →
      (∀ c, m.cmd = some c → c.seq = q →
        motionFrame p s = count { m.cnt with duplicate := bump m.cnt.duplicate }) ∧
      (m.cmd = none → motionFrame p s = evaluate (taken 0)) ∧
      (∀ c, m.cmd = some c → c.seq ≠ q → q = (c.seq + 1) % 256 →
        motionFrame p s = evaluate (taken 0)) ∧
      (∀ c, m.cmd = some c → c.seq ≠ q → q ≠ (c.seq + 1) % 256 →
        motionFrame p s = evaluate (taken ((q + 511 - c.seq) % 256))))

/-- A received frame: not claimed, echoed while an N-link echo runs, dispatched to the Motion Gate or
to the management queue, which holds four, or refused for its kind (R157, R158, R169). -/
def Obligations.ReceivedFrameIsDispatched : Prop :=
  ∀ (f : NFrame) (s : State),
    let u : State := { s with
      nli := { s.nli with cnt := { s.nli.cnt with received := bump s.nli.cnt.received } } }
    let count (c : NliCounters) : State := { u with nli := { u.nli with cnt := c } }
    let request := f.kind = kindMgmtReq ∨ f.kind = kindPass
    (f.dst ≠ 1 →
      received f s = count { u.nli.cnt with notClaimed := bump u.nli.cnt.notClaimed }) ∧
    (f.dst = 1 → s.nEchoing = true → s.echoedWaiting < 4 →
      received f s = pushAnswer ⟨.echoed, f⟩ { u with
        lbu := { u.lbu with record := { u.lbu.record with echoed := bump u.lbu.record.echoed } } }) ∧
    (f.dst = 1 → s.nEchoing = true → 4 ≤ s.echoedWaiting →
      received f s = { u with
        lbu := { u.lbu with
          record := { u.lbu.record with echoDropped := bump u.lbu.record.echoDropped } } }) ∧
    (f.dst = 1 → s.nEchoing = false →
      (f.kind = kindMotion → received f s = motionFrame f.payload u) ∧
      (request → s.mrh.queue.length < 4 →
        received f s = { u with
          mrh := { u.mrh with
            queue := u.mrh.queue ++ [⟨f.kind == kindPass, f.tag, f.src, f.payload⟩] } }) ∧
      (request → 4 ≤ s.mrh.queue.length →
        received f s = setFlag .linkError [4#8]
          (count { u.nli.cnt with queueFull := bump u.nli.cnt.queueFull })) ∧
      (f.kind ≠ kindMotion → ¬ request →
        received f s = setFlag .linkError [3#8]
          (count { u.nli.cnt with kindRefused := bump u.nli.cnt.kindRefused })))

/-- At the command age limit the NAV command goes stale: the timer EXPIRED, the command STOP, the
stale count, CMD_STALE with the sequence number, and an evaluation, which finds no command to follow
(R62, R65). -/
def Obligations.NavCommandGoesStale : Prop :=
  ∀ (dt : Nat) (s : State) (c : NavCmd), s.resetHeld = false →
    let u := arrive dt s
    u.mgt.cmd = some c → u.mgt.age.st = .running → u.ageLimit ≤ u.mgt.age.elapsed →
    exec (.ageTimerExpiry dt) s = .next (evaluate (setFlag .cmdStale [u8 c.seq] { u with
      mgt := { u.mgt with
        cmd := some { c with mode := .stop }
        age := { u.mgt.age with st := .expired }
        cnt := { u.mgt.cnt with stale := bump u.mgt.cnt.stale } } })) ∧
    ∀ t, exec (.ageTimerExpiry dt) s = .next t →
      t.mgt.cmd = some { c with mode := .stop } ∧
      (t.mgt.source = .nav → t.mgt.outL = 0 ∧ t.mgt.outR = 0 ∧ t.mgt.outBlade = 0)

/-- An owner sets an event flag: a set flag and its detail stay; a clear one is set with the detail,
its frame joins the event list with the mask member on, or the waiting frame takes the new detail in
place; the other flags and every block but the link interface stay (R161). -/
def Obligations.EventFlagIsSet : Prop :=
  ∀ (f : EventFlag) (d : List Byte) (s : State), s.nli.flags.length = 19 →
    let t := setFlag f d s
    let withFlag (n : Nli) : Nli := { n with flags := n.flags.set f.num (some d) }
    (s.flag f ≠ none → t = s) ∧
    (s.flag f = none → t.flag f = some d) ∧
    (∀ g, g ≠ f → t.flag g = s.flag g) ∧
    t = { s with nli := t.nli } ∧
    (s.flag f = none → s.reports f = false → t.nli = withFlag s.nli) ∧
    (s.flag f = none → s.reports f = true → (∀ e ∈ s.nli.events, e.1 ≠ f) →
      t = txBegin { s with
        nli := { withFlag s.nli with events := s.nli.events ++ [(f, d)] } }) ∧
    (s.flag f = none → s.reports f = true → (∃ e ∈ s.nli.events, e.1 = f) →
      t.nli = { withFlag s.nli with
        events := s.nli.events.map fun e => if e.1 = f then (f, d) else e
        cnt := { s.nli.cnt with eventReplaced := bump s.nli.cnt.eventReplaced } })

/-- Whether a node is the lowest-addressed one of a kind. -/
def Sys2Proof.Machine.State.lowestOf (s : State) (kind : NodeKind) (n : Node) : Prop :=
  s.nodeKind n = kind ∧ ∀ m, m < n → s.nodeKind m ≠ kind

/-- What the lowest-addressed node of a kind last reported, none without such a node or a STATUS of
it. -/
def Sys2Proof.Machine.State.reportOf (s : State) (kind : NodeKind) (r : Option Telem) : Prop :=
  (∀ n x, s.lowestOf kind n → s.dlc.recs.get n = some x → r = x.telem) ∧
    ((∀ n, s.lowestOf kind n → s.dlc.recs.get n = none) → r = none)

/-- A loop state as the TELEMETRY layout numbers it (11 section 11.1). -/
def Sys2Proof.Machine.loopNumber (l : LoopState) : Byte :=
  match l with
  | .disabled => 0#8
  | .pending => 1#8
  | .inside => 2#8
  | .outside => 3#8
  | .straddle => 4#8
  | .lost => 5#8

/-- The bytes of a dock state, in the order of Table 7-1. -/
def Sys2Proof.Machine.dockNumber (d : DockState) : Byte :=
  match d with
  | .undocked => 0#8
  | .returnSeek => 1#8
  | .follow => 2#8
  | .approach => 3#8
  | .contact => 4#8
  | .docked => 5#8
  | .departing => 6#8
  | .backoff => 7#8
  | .dockFault => 8#8

/-- The 39 bytes of a TELEMETRY frame, each from the block that owns it (R163, 11 section 11.1). -/
def Sys2Proof.Machine.TelemetryIsFormed : Prop :=
  ∀ (s : State) (left right blade leftSpeed rightSpeed : Int) (mv flags : Nat)
    (wl wr power : Option Telem),
    let posted (kind : NodeKind) (v : Int) : Prop :=
      (∀ n, s.lowestOf kind n → v = s.mgt.posted.get n) ∧
        ((∀ n, s.nodeKind n ≠ kind) → v = 0)
    let speed (r : Option Telem) (v : Int) : Prop :=
      (∀ x c, r = some (.wheel x c) → v = x) ∧ ((∀ x c, r ≠ some (.wheel x c)) → v = 0)
    posted .wheelLeft left → posted .wheelRight right → posted .blade blade →
    s.reportOf .wheelLeft wl → speed wl leftSpeed →
    s.reportOf .wheelRight wr → speed wr rightSpeed →
    s.reportOf .power power →
    (∀ v c d e b, power = some (.power v c d e b) → mv = v) →
    ((∀ v c d e b, power ≠ some (.power v c d e b)) → mv = 0) →
    s.nli.flags.length = 19 → flags < 2 ^ 19 →
    (∀ f : EventFlag, flags.testBit f.num = (s.flag f).isSome) →
    let level : Byte :=
      if s.rse.ctx3 ≠ none then 3#8 else if s.rse.ctx2 ≠ none then 2#8
      else if s.rse.ctx1 ≠ none then 1#8 else 0#8
    let zone : Nat := match s.zcu.active with | some i => s.zoneNumber i | none => 0
    s.telemetryPayload.length = 39 ∧
    s.telemetryPayload =
      signedBytes left ++ signedBytes right ++ signedBytes blade ++
      [u8 s.mgt.band, level] ++ twoBytes s.mgt.feff ++ twoBytes s.mgt.reff ++
      signedBytes leftSpeed ++ signedBytes rightSpeed ++ twoBytes mv ++
      [u8 zone, dockNumber s.dkc.dock, loopNumber (s.zcu.loops.get 0),
        loopNumber (s.zcu.loops.get 1), loopNumber (s.zcu.loops.get 2),
        loopNumber (s.zcu.loops.get 3)] ++
      twoBytes s.zcu.prox ++ twoBytes s.zcu.station ++ signedBytes s.spu.pitch.angle ++
      signedBytes s.spu.roll.angle ++
      twoBytes (max s.spu.pitch.angle.natAbs s.spu.roll.angle.natAbs) ++
      [yesByte s.stopLine, 0#8, u8 (flags / 65536), u8 (flags / 256), u8 flags]

/-- The transmitter begins the oldest answer, else the oldest event, else the telemetry frame; a
frame being sent stays; a frame's end is counted, steps its tag count or lets the head request leave,
and begins the next, and the end of the OK of an N-link echo's START_TEST lets that echo begin (R169); and
the telemetry timer at its interval restarts from 0 and puts a frame of the values as they stand, in 39
bytes, in the telemetry place (R158 to R161, R163). -/
def Obligations.TransmitterSendsInOrder : Prop :=
  TelemetryIsFormed ∧
  (∀ s : State, s.mrh.fullResetDue = false → s.resetHeld = false →
    let n := s.nli
    (n.sending ≠ none → txBegin s = s) ∧
    (n.sending = none →
      (∀ o rest, n.answers = o :: rest →
        txBegin s = { s with nli := { n with sending := some o, answers := rest } }) ∧
      (∀ f d rest, n.answers = [] → n.events = (f, d) :: rest →
        txBegin s = { s with
          nli := { n with
            sending := some ⟨.event, ⟨0, 1, kindEvent, u8 n.eventTag, eventPayload f d⟩⟩
            events := rest } }) ∧
      (∀ p, n.answers = [] → n.events = [] → n.telemetry = some p →
        txBegin s = { s with
          nli := { n with
            sending := some ⟨.telemetry, ⟨0, 1, kindTelemetry, u8 n.telemTag, p⟩⟩
            telemetry := none } }) ∧
      (n.answers = [] → n.events = [] → n.telemetry = none → txBegin s = s))) ∧
  (∀ (dt : Nat) (s : State) (o : OutFrame), s.resetHeld = false →
     let u := arrive dt s
     u.nli.sending = some o →
     let v : State := { u with
       nli := { u.nli with
         sending := none
         cnt := { u.nli.cnt with framesSent := bump u.nli.cnt.framesSent } } }
     (o.cls = .headAnswer .nothing →
       exec (.upstreamFrameSent dt) s = .next (txBegin { v with
         mrh := { v.mrh with queue := v.mrh.queue.tail, headDone := false } })) ∧
     (o.cls = .headAnswer .echoBegin →
       exec (.upstreamFrameSent dt) s = .next (txBegin { v with
         mrh := { v.mrh with queue := v.mrh.queue.tail, headDone := false }
         lbu := { v.lbu with beginDue := true } })) ∧
     (o.cls = .readAnswer ∨ o.cls = .echoed →
       exec (.upstreamFrameSent dt) s = .next (txBegin v)) ∧
     (o.cls = .event →
       exec (.upstreamFrameSent dt) s = .next (txBegin { v with
         nli := { v.nli with
           eventTag := (v.nli.eventTag + 1) % 256
           cnt := { v.nli.cnt with eventsSent := bump v.nli.cnt.eventsSent } } })) ∧
     (o.cls = .telemetry →
       exec (.upstreamFrameSent dt) s = .next (txBegin { v with
         nli := { v.nli with
           telemTag := (v.nli.telemTag + 1) % 256
           cnt := { v.nli.cnt with telemetrySent := bump v.nli.cnt.telemetrySent } } }))) ∧
  ∀ (dt : Nat) (s : State), s.resetHeld = false →
    let u := arrive dt s
    let n := u.nli
    n.telemT.st = .running → n.telemT.limit ≤ n.telemT.elapsed →
    exec (.telemetryTimerExpiry dt) s = .next (txBegin { u with
      nli := { n with
        telemetry := some u.telemetryPayload
        telemT := { n.telemT with elapsed := 0 }
        cnt := { n.cnt with
          telemetrySkipped :=
            if n.telemetry = none then n.cnt.telemetrySkipped else bump n.cnt.telemetrySkipped } } })

/-- What an answer is. The answer of the head request joins the answer list as a frame to its source from
the part, with its tag, of kind PASS_RESP for a PASS, with the response code and the data, and MGMT_RESP for
any other, with the request code as received before them; the head has been carried out and waits in the
queue for the end of its answer. The answer of the outstanding read goes to the source and with the tag that
were kept for it, and clears it (R101, R157 to R160, 11 section 11.1; log entries 18 and 25). -/
def Sys2Proof.Machine.AnswerIsFormed : Prop :=
  ∀ (after : AfterSent) (code : RespCode) (data : List Byte) (s : State),
    let waits (o : OutFrame) (m : Mrh) : State := txBegin { s with
      nli := { s.nli with answers := s.nli.answers ++ [o] }
      mrh := m }
    let said : List Byte := respNumber code :: data
    answer code data s = answerThen .nothing code data s ∧
    (s.mrh.queue = [] → answerThen after code data s = s) ∧
    (∀ q rest, s.mrh.queue = q :: rest →
      let m : Mrh := { s.mrh with headDone := true }
      (q.pass = true → answerThen after code data s =
        waits ⟨.headAnswer after, ⟨q.src, 1, 5#8, q.tag, said⟩⟩ m) ∧
      (q.pass = false → answerThen after code data s =
        waits ⟨.headAnswer after, ⟨q.src, 1, 4#8, q.tag, q.payload.headD 0#8 :: said⟩⟩ m)) ∧
    (s.mrh.outstanding = none → answerRead code data s = s) ∧
    ∀ tag src, s.mrh.outstanding = some (tag, src) → answerRead code data s =
      waits ⟨.readAnswer, ⟨src, 1, 5#8, tag, said⟩⟩ { s.mrh with outstanding := none }

/-- ACK_EVENTS clears the flags named and no other and answers with those still set, leaving the
event list; SET_REPORT_MASK replaces the mask and answers with it (R162); and what the answer of any request
is, as the other statements name it (R101, R157 to R160; log entries 18 and 25). That the BAD_PARAM to a
request without its three mask bytes carries no mask is the model's choice (log entry 76, DESIGN
CHOICE). -/
def Obligations.EventsAreAcknowledged : Prop :=
  AnswerIsFormed ∧
  ∀ (dt : Nat) (s : State), s.resetHeld = false →
    let u := arrive dt s
    let mask := maskNat u.headParams
    (headIs 3 u = true → 3 ≤ u.headParams.length → u.nli.flags.length = 19 → ∃ flags,
      exec (.ackEvents dt) s =
        .next (answer .ok (mask3 (setFlagsNum flags)) { u with nli := { u.nli with flags := flags } }) ∧
      flags.length = 19 ∧
      ∀ f : EventFlag, flags.getD f.num none = if mask.testBit f.num then none else u.flag f) ∧
    (headIs 4 u = true → 3 ≤ u.headParams.length → ∃ m : BitVec 19,
      exec (.setReportMask dt) s =
        .next (answer .ok (mask3 m.toNat) { u with nli := { u.nli with mask := m } }) ∧
      ∀ f : EventFlag, m.getLsbD f.num = mask.testBit f.num) ∧
    (headIs 3 u = true → u.headParams.length < 3 →
      exec (.ackEvents dt) s = .next (answer .badParam [] u)) ∧
    (headIs 4 u = true → u.headParams.length < 3 →
      exec (.setReportMask dt) s = .next (answer .badParam [] u))

/-! ### The drive link -/

/-- The choice of the next transaction when the link is free, in the steps of R93, and how it begins:
its request frame formed and sent, its value, kind and timeout kept (R85); the most overdue node has
the greatest exchange age that has reached the poll interval, the lowest address on a tie (R94); a
poll that falls due is a moment of that choice; and the bytes of a request frame (11 section 11.2). -/
def Obligations.NextTransactionIsChosen : Prop :=
  (∀ s : State,
    let d := s.dlc
    let first := d.queue ≠ [] ∧ (s.flushLimit = 0 ∨ d.flush < s.flushLimit)
    let begun (n : Node) (c : Carried) (x : Dlc) : State := { s with
      dlc := { x with
        tx := some ⟨n, s.nodeKind n, c, requestFrame n c, false, 0, s.responseTimeout, false⟩
        cnt := { x.cnt with framesSent := bump x.cnt.framesSent } } }
    (d.tx ≠ none ∨ s.dEchoRunning = true → arbitrate s = s) ∧
    (d.tx = none → s.dEchoRunning = false →
      (∀ e rest, d.queue = e :: rest → first ∨ s.mostOverdue = none →
        arbitrate s = begun e.node (.post e.val)
          { d with queue := { e with inFlight := true } :: rest, flush := d.flush + 1 }) ∧
      (∀ n, ¬ first → s.mostOverdue = some n →
        arbitrate s = begun n .poll
          { d with flush := 0, cnt := { d.cnt with polls := bump d.cnt.polls } }) ∧
      (∀ r, d.queue = [] → s.mostOverdue = none → d.read = some r →
        arbitrate s = begun r.node (.read r.param)
          { d with read := some { r with inFlight := true } }) ∧
      (d.queue = [] → s.mostOverdue = none → d.read = none → arbitrate s = s)) ∧
    (∀ n, s.mostOverdue = some n → ∃ a, s.pollDueAge n = some a ∧
      ∀ m b, s.pollDueAge m = some b → b < a ∨ (b = a ∧ n ≤ m)) ∧
    (s.mostOverdue = none → ∀ n, s.pollDueAge n = none) ∧
    ∀ n a, s.pollDueAge n = some a ↔
      ∃ r, d.recs.get n = some r ∧ r.age = a ∧ s.pollInterval ≤ a) ∧
  (∀ (dt : Nat) (n : Node) (s : State), s.resetHeld = false →
    exec (.pollDue dt n) s = .next
      (if ((arrive dt s).pollDueAge n).isSome then arbitrate (arrive dt s) else arrive dt s)) ∧
  ∀ n : Node,
    let frame (kind : Nat) (payload : List Byte) : List Byte :=
      let body := u8 (n.val + 1) :: u8 kind :: u8 payload.length :: payload
      body ++ crcBytes body
    (∀ v, requestFrame n (.post (.wheel v)) = frame 1 (be16i v)) ∧
    (∀ v, requestFrame n (.post (.blade v)) = frame 1 (be16i v)) ∧
    requestFrame n (.post (.relay false)) = frame 1 [0#8, 0#8] ∧
    requestFrame n (.post (.relay true)) = frame 1 [0#8, 1#8] ∧
    (∀ data, requestFrame n (.post (.param data)) = frame 3 data) ∧
    requestFrame n .poll = frame 2 [] ∧
    (∀ param, requestFrame n (.read param) = frame 4 param) ∧
    ∀ data, requestFrame n (.echo data) = frame 5 data

/-- A D-link frame built by the frame format is read back as it was built, and a frame that is no
valid answer to the transaction in flight is dropped and counted: it fails the frame check, comes
from another address or is of the wrong kind or length, or no transaction is in flight (R86, R88, R174). The
lengths are those of 11 section 11.2 by the kind of the node: a STATUS of 6 bytes from a POWER node and of 4
from any other, an ECHO of 8; that an ACK fits at any length and a PARAM_DATA from 1 byte on is log entry 16,
and that a frame with more bytes than its length byte accounts for fails the check is log entry 74 (DESIGN
CHOICE). -/
def Obligations.BadAnswersAreDropped : Prop :=
  (∀ (a k : Byte) (p : List Byte), p.length ≤ 255 →
    let body := a :: k :: u8 p.length :: p
    parseDLink (body ++ crcBytes body) = some (a.toNat, k.toNat, p) ∧
    ∀ x y, [x, y] ≠ crcBytes body → parseDLink (body ++ [x, y]) = none) ∧
  (∀ bytes : List Byte, bytes.length ≠ byteAt bytes 2 + 5 → parseDLink bytes = none) ∧
  (∀ (t : Transaction) (n : Nat),
    let status := if t.nodeKind = .power then 6 else 4
    (∀ v, t.carried = .post v → (∀ data, v ≠ .param data) → (t.lengthFits n = true ↔ n = status)) ∧
    (t.carried = .poll → (t.lengthFits n = true ↔ n = status)) ∧
    (∀ data, t.carried = .post (.param data) → t.lengthFits n = true) ∧
    (∀ data, t.carried = .read data → (t.lengthFits n = true ↔ 1 ≤ n)) ∧
    (∀ data, t.carried = .echo data → (t.lengthFits n = true ↔ n = 8))) ∧
  ∀ (dt : Nat) (bytes : List Byte) (s : State), s.resetHeld = false →
    let u := arrive dt s
    (∀ t, u.dlc.tx = some t →
      parseDLink bytes = none ∨
        (∃ a k p, parseDLink bytes = some (a, k, p) ∧
          (a ≠ t.node.val + 1 ∨ k ≠ t.carried.request + 128 ∨ t.lengthFits p.length = false))) →
    exec (.dLinkFrame dt bytes) s =
      .next { u with dlc := { u.dlc with cnt := { u.dlc.cnt with badAnswers := bump u.dlc.cnt.badAnswers } } }

/-- What follows when entries leave the drive post queue of `d` and `q` is left of it, which makes it `x`: an
empty queue returns the flush count to 0, the set-points behind zeros of a DRIVE channel reset that have left
join the tail in their order, and a held relay command joins it where no RELAY entry is left (R90, R92). That
the queue counts as empty before any of them joins is the model's choice (log entry 75, DESIGN CHOICE), and
so is what stands behind a zero (log entry 45, DESIGN CHOICE). -/
def Sys2Proof.Machine.LeavesQueue (d : Dlc) (q : List QEntry) (x : Dlc) : Prop :=
  let waits (e : QEntry) : Bool := q.any fun y => y.node == e.node && y.val.coalesces e.val
  let joined := q ++ d.behind.filter fun e => !waits e
  let left : Dlc := { d with
    queue := joined
    behind := d.behind.filter waits
    flush := if q = [] then 0 else d.flush }
  (d.relayHeld = none ∨ (∃ e ∈ q, e.val.isRelay = true) → x = left) ∧
  ∀ n c, d.relayHeld = some (n, c) → (∀ e ∈ q, e.val.isRelay = false) →
    (∀ e ∈ d.behind, e.val.isRelay = false) →
    x = { left with queue := joined ++ [⟨n, .relay c, .dock, false, false⟩], relayHeld := none }

/-- What becomes of the queue at a valid answer: an entry in flight at its head leaves, or stays unsent;
where no entry is in flight, because the hazard discard removed the one that was served, nothing is
removed or counted (R90, R92, R98). -/
def Sys2Proof.Machine.HeadIsAnswered : Prop :=
  (∀ d : Dlc, d.queue = [] ∨ (∃ e rest, d.queue = e :: rest ∧ e.inFlight = false) →
    d.answered = d) ∧
  ∀ (d : Dlc) (e : QEntry) (rest : List QEntry), d.queue = e :: rest → e.inFlight = true →
    (e.resend = true →
      d.answered = { d with queue := { e with inFlight := false, resend := false } :: rest }) ∧
    (e.resend = false → LeavesQueue d rest d.answered)

/-- The contact report of a power STATUS: the counts, saturating at 15; an establishment, which leads
from APPROACH to CONTACT and from UNDOCKED with the wheels still to a start-up CONTACT; and a loss, which
leads from CONTACT back to where its origin says and from DOCKED to UNDOCKED with DOCK_LOST, each with
RELAY OPEN posted (R127, R134, R135, R137, R139). -/
def Sys2Proof.Machine.ContactIsTaken : Prop :=
  ∀ s : State,
    let k := s.dkc
    let still := ∀ n, (s.nodeKind n).isWheel = true → s.mgt.posted.get n = 0
    let more (n : Nat) : Nat := min (n + 1) 15
    let x (made : Bool) : State := { s with
      dkc := { k with present := more k.present, absent := 0, established := made } }
    let y (kept : Bool) : State := { s with
      dkc := { k with absent := more k.absent, present := 0, established := kept } }
    (k.established = true ∨ more k.present < s.contactDebounce → takeContact true s = x k.established) ∧
    (k.established = false → s.contactDebounce ≤ more k.present →
      (k.dock = .approach → takeContact true s = contactEntry .approach (x true)) ∧
      (k.dock = .undocked → still →
        takeContact true s = contactEntry .start { x true with
          dkc := { (x true).dkc with
            retry := 0
            batteryT := { k.batteryT with st := .stopped }
            rainT := { k.rainT with st := .stopped } } }) ∧
      (k.dock = .undocked → ¬ still → takeContact true s = x true) ∧
      (k.dock ≠ .approach → k.dock ≠ .undocked → takeContact true s = x true)) ∧
    (k.established = false ∨ more k.absent < s.contactDebounce →
      takeContact false s = y k.established) ∧
    (k.established = true → s.contactDebounce ≤ more k.absent →
      (k.dock = .contact →
        let z := postRelay false { y false with
          dkc := { (y false).dkc with relayT := { k.relayT with st := .stopped } } }
        (k.origin = .start → takeContact false s = enterUndocked z) ∧
        (k.origin = .approach → takeContact false s = formSteering { z with
          dkc := { z.dkc with
            dock := .approach
            approachT := s.dockTimer k.approachT.elapsed } })) ∧
      (k.dock = .docked →
        let z := postRelay false (y false)
        takeContact false s = enterUndocked (setFlag .dockLost [] { z with
          dkc := { z.dkc with cnt := { k.cnt with dockLost := bump k.cnt.dockLost } } })) ∧
      (k.dock ≠ .contact → k.dock ≠ .docked → takeContact false s = y false))

/-- The relay report of a power STATUS: closed in CONTACT it leads to DOCKED with DOCKED_EVENT, open in
DEPARTING it begins the reverse, and any other report changes nothing (R135, R138). -/
def Sys2Proof.Machine.RelayIsTaken : Prop :=
  ∀ s : State,
    let k := s.dkc
    let v : Int := s.departureSpeed
    (k.dock = .contact → takeRelay true s = setFlag .dockedEvent [u8 k.retry] { s with
      dkc := { k with
        dock := .docked
        relayT := { k.relayT with st := .stopped }
        approachT := { k.approachT with st := .stopped }
        cmdL := 0
        cmdR := 0
        cnt := { k.cnt with docks := bump k.cnt.docks } } }) ∧
    (k.dock = .departing → k.phase = .waitOpen → takeRelay false s = { s with
      dkc := { k with
        relayT := { k.relayT with st := .stopped }
        phase := .reversing
        motionT := s.dockTimer 0
        cmdL := -v
        cmdR := -v } }) ∧
    (k.dock ≠ .contact → takeRelay true s = s) ∧
    (¬ (k.dock = .departing ∧ k.phase = .waitOpen) → takeRelay false s = s)

/-- The battery report of a power STATUS: the low-battery condition is judged in UNDOCKED alone, and may
lead to a return at once (R129). -/
def Sys2Proof.Machine.BatteryIsTaken : Prop :=
  ∀ (mv : Nat) (low : Bool) (s : State),
    let k := s.dkc
    (low = true ↔
      0 < s.returnThreshold ∧ mv < s.returnThreshold ∧
        ∃ n r, s.powerNode = some n ∧ s.dlc.recs.get n = some r ∧ r.st = .responsive) →
    let j := k.batteryT.judge low s.returnPersistence
    let x : State := { s with dkc := { k with batteryT := j.1 } }
    (k.dock ≠ .undocked → takeBattery mv s = s) ∧
    (k.dock = .undocked → j.2 = false → takeBattery mv s = x) ∧
    (k.dock = .undocked → j.2 = true → takeBattery mv s = tryReturn .battery x)

/-- The button count of a power STATUS: presses count and set STATION_REQUEST in DOCKED alone, and the
first count reported gives none (R127, R137). -/
def Sys2Proof.Machine.ButtonIsTaken : Prop :=
  ∀ (count : Nat) (s : State), count < 256 →
    let k := s.dkc
    let x : State := { s with dkc := { k with button := some count } }
    (k.button = none → takeButton count s = x) ∧
    ∀ seen, k.button = some seen → seen < 256 →
      (seen = count ∨ k.dock ≠ .docked → takeButton count s = x) ∧
      (seen ≠ count → k.dock = .docked →
        let presses := (count + 256 - seen) % 256
        takeButton count s = setFlag .stationRequest [u8 presses] { x with
          dkc := { x.dkc with
            cnt := { k.cnt with stationRequests := bumpBy presses k.cnt.stationRequests } } })

/-- A STATUS that is taken in: each value brought to the nearest bound of its range, the telemetry, and
the judgement of the slip, stall and jam timers, which may raise their triggers at once (R95 to R97); a
power STATUS goes to the Dock Controller as a whole record, contact, relay, battery and button count in
this order (R127; log entry 48). That a STATUS which raises both SLIP and STALL raises SLIP first is the
model's choice (log entry 77, DESIGN CHOICE). -/
def Sys2Proof.Machine.StatusIsTakenIn : Prop :=
  ∀ (n : Node) (kind : NodeKind) (p : List Byte) (s : State) (r : NodeRec),
    s.dlc.recs.get n = some r →
    let put (x : NodeRec) : State := { s with dlc := { s.dlc with recs := s.dlc.recs.set n (some x) } }
    let count (x : State) (c : DlcCounters) : State := { x with dlc := { x.dlc with cnt := c } }
    let addr := n.val + 1
    let speed : Int := max (-2000) (min (sgn16 (wordAt p 0)) 2000)
    let current := min (wordAt p 2) 30000
    (∀ slips stalls : Bool, kind = .wheelLeft ∨ kind = .wheelRight →
      (slips = true ↔ ∃ v, r.lastAck = some (.wheel v) ∧ 0 < s.slipTolerance ∧
        s.slipMinimum ≤ v.natAbs ∧ s.slipTolerance < (v - speed).natAbs) →
      (stalls = true ↔ 0 < s.stallCurrent ∧ s.stallCurrent ≤ current) →
      let a := r.slip.judge slips s.slipTime
      let b := r.stall.judge stalls s.stallTime
      let x := put { r with telem := some (.wheel speed current), slip := a.1, stall := b.1 }
      let y :=
        if a.2 = true then
          raise .slip (some addr) (setFlag .slipSeen [u8 addr]
            (count x { x.dlc.cnt with slips := bump x.dlc.cnt.slips }))
        else x
      takeStatus n kind p s =
        if b.2 = true then
          raise .stall (some addr) (count y { y.dlc.cnt with stalls := bump y.dlc.cnt.stalls })
        else y) ∧
    (∀ jams : Bool, kind = .blade →
      (jams = true ↔ 0 < s.jamCurrent ∧ s.jamCurrent ≤ current) →
      let a := r.jam.judge jams s.jamTime
      let x := put { r with telem := some (.blade (min (wordAt p 0) 5000) current), jam := a.1 }
      takeStatus n kind p s =
        if a.2 = true then
          raise .bladeJam (some addr) (count x { x.dlc.cnt with jams := bump x.dlc.cnt.jams })
        else x) ∧
    (kind = .power →
      let contact := byteAt p 2 % 2 == 1
      let closed := byteAt p 2 / 2 % 2 == 1
      let mv := wordAt p 0
      let x := put { r with
        telem := some (.power mv contact closed (min (wordAt p 3) 30000) (byteAt p 5)) }
      takeStatus n kind p s = dockHandOn x
        (takeButton (byteAt p 5) (takeBattery mv (takeRelay closed (takeContact contact x)))))

/-- What a valid answer does to its node before its transaction ends: it is counted, the node is
RESPONSIVE with exchange age 0, the value a SET carried is the last acknowledged one, a different one
stopping the slip timer, and the STATUS of a SET or POLL is taken in (R86, R95, R96). -/
def Sys2Proof.Machine.AnswerIsTaken : Prop :=
  ∀ (t : Transaction) (p : List Byte) (s : State) (r : NodeRec),
    t.renewed = false → s.dlc.recs.get t.node = some r →
    let x (y : NodeRec) : State := { s with
      dlc := { s.dlc with
        recs := s.dlc.recs.set t.node (some y)
        cnt := { s.dlc.cnt with
          answers := bump s.dlc.cnt.answers
          nodesRecovered :=
            if r.st = .unresponsive then bump s.dlc.cnt.nodesRecovered
            else s.dlc.cnt.nodesRecovered } } }
    let back : NodeRec := { r with st := .responsive, age := 0 }
    (∀ data, t.carried = .post (.param data) → takeAnswer t p s = x back) ∧
    (∀ v, t.carried = .post v → (∀ data, v ≠ .param data) →
      takeAnswer t p s = takeStatus t.node t.nodeKind p (x { back with
        lastAck := some v
        slip := if r.lastAck = some v then r.slip else { r.slip with st := .stopped } })) ∧
    (t.carried = .poll → takeAnswer t p s = takeStatus t.node t.nodeKind p (x back)) ∧
    (∀ data, t.carried = .read data ∨ t.carried = .echo data → takeAnswer t p s = x back)

/-- A relay command is posted: without a POWER node no post is made; it joins the tail, or waits in the
holding place while a RELAY entry is in the queue, where it supersedes one that waits (R90, R135). -/
def Sys2Proof.Machine.RelayIsPosted : Prop :=
  ∀ (close : Bool) (s : State),
    let d := s.dlc
    let queued := ∃ e ∈ d.queue, e.val.isRelay = true
    (s.powerNode = none ↔ ∀ n, s.nodeKind n ≠ .power) ∧
    (s.powerNode = none → postRelay close s = s) ∧
    ∀ n, s.powerNode = some n →
      let entry : QEntry := ⟨n, .relay close, .dock, false, false⟩
      s.nodeKind n = .power ∧
      (queued → d.relayHeld = none →
        postRelay close s = { s with dlc := { d with relayHeld := some (n, close) } }) ∧
      (queued → d.relayHeld ≠ none → postRelay close s = { s with
        dlc := { d with
          relayHeld := some (n, close)
          cnt := { d.cnt with relaySuperseded := bump d.cnt.relaySuperseded } } }) ∧
      (¬ queued → d.queue ≠ [] →
        postRelay close s = { s with dlc := { d with queue := d.queue ++ [entry] } }) ∧
      (d.queue = [] → postRelay close s = arbitrate { s with dlc := { d with queue := [entry] } })

/-- A valid answer ends the transaction: it is taken in, by `takeAnswer`, then the served entry leaves
the queue or stays unsent if it was replaced meanwhile (and where the hazard discard has removed it,
nothing leaves and nothing is counted, R98), the read is answered with the data, or the test frame is
judged, no transaction is in flight any more, and the DLC arbitrates, or a D-link echo goes on
(R86, R90, R92, R101, R170; log entries 29, 36, 41 and 42). It is counted and makes its node RESPONSIVE
with exchange age 0, the value a SET carried becomes the last acknowledged, and the STATUS of a SET or
POLL is taken in: the telemetry, the slip, stall and jam timers, and a power STATUS at the Dock
Controller (R95 to R97, R127, R129, R134, R135, R137, R138; log entries 3, 12 and 48). Where a swap
changed the node's kind meanwhile it is counted alone, and a read whose address a swap made NONE is
answered NO_NODE (R103). -/
def Obligations.ValidAnswerEndsTheTransaction : Prop :=
  HeadIsAnswered ∧ AnswerIsTaken ∧ StatusIsTakenIn ∧ TimerIsJudged ∧ ContactIsTaken ∧ RelayIsTaken ∧
  BatteryIsTaken ∧ ButtonIsTaken ∧
  ∀ (dt : Nat) (bytes p : List Byte) (s : State) (t : Transaction), s.resetHeld = false →
    let u := arrive dt s
    let w := takeAnswer t p u
    let ends (v : State) : Prop := exec (.dLinkFrame dt bytes) s = .next v
    let free (x : State) : State := { x with dlc := { x.dlc with tx := none } }
    u.dlc.tx = some t → parseDLink bytes = some (t.node.val + 1, t.carried.request + 128, p) →
    t.lengthFits p.length = true →
    (∀ v, t.carried = .post v → ends (arbitrate (free { w with dlc := w.dlc.answered })) ∧
      (w.dlc.served = none → ends (arbitrate (free w)))) ∧
    (t.carried = .poll → ends (arbitrate (free w))) ∧
    (∀ q, t.carried = .read q →
      let x : State := { w with dlc := { w.dlc with read := none } }
      (u.dlc.read = none → ends (arbitrate (free w))) ∧
      (∀ r, u.dlc.read = some r → r.gone = false →
        ends (arbitrate (free (answerRead .ok (p.take 95) x)))) ∧
      (∀ r, u.dlc.read = some r → r.gone = true →
        ends (arbitrate (free (answerRead .noNode [] { x with
          dlc := { x.dlc with
            cnt := { x.dlc.cnt with passRefused := bump x.dlc.cnt.passRefused } } }))))) ∧
    (∀ sent, t.carried = .echo sent →
      let r := u.lbu.record
      ends (echoNext { free w with
        lbu := { u.lbu with
          record :=
            if p = sent then { r with matched := bump r.matched }
            else { r with mismatched := bump r.mismatched } } })) ∧
    (t.renewed = true → w = { u with
      dlc := { u.dlc with cnt := { u.dlc.cnt with answers := bump u.dlc.cnt.answers } } }) ∧
    ∀ r, u.dlc.recs.get t.node = some r → t.renewed = false →
      w.dlc.tx = u.dlc.tx ∧ w.dlc.read = u.dlc.read ∧ w.lbu = u.lbu ∧ ∃ v, ends v ∧
      v.dlc.cnt.answers = bump u.dlc.cnt.answers ∧
      v.dlc.cnt.nodesRecovered =
        (if r.st = .unresponsive then bump u.dlc.cnt.nodesRecovered
        else u.dlc.cnt.nodesRecovered) ∧
      (∃ x, v.dlc.recs.get t.node = some x ∧ x.st = .responsive ∧ x.age = 0 ∧
        x.lastAck =
          (match t.carried with
          | .post (.param _) => r.lastAck
          | .post val => some val
          | _ => r.lastAck)) ∧
      (∀ n, n ≠ t.node → v.dlc.recs.get n = u.dlc.recs.get n) ∧
      v.mem = u.mem ∧ v.wdc = u.wdc ∧ v.spu = u.spu ∧ v.tbs = u.tbs

/-- What becomes of the queue at a second timeout: an entry in flight at its head is removed and counted,
whether or not it is marked resend; where no entry is in flight, because the hazard discard removed the one
that was served, nothing is removed and removed-on-loss does not count (R87, R90, R92, R98). -/
def Sys2Proof.Machine.HeadIsRemoved : Prop :=
  (∀ d : Dlc, d.queue = [] ∨ (∃ e rest, d.queue = e :: rest ∧ e.inFlight = false) → d.failed = d) ∧
  ∀ (d : Dlc) (e : QEntry) (rest : List QEntry), d.queue = e :: rest → e.inFlight = true →
    LeavesQueue { d with cnt := { d.cnt with removedOnLoss := bump d.cnt.removedOnLoss } } rest d.failed

/-- The response timer's first expiry sends the request again with the current value of its entry,
whose resend mark stays (log entry 15). A second one ends the transaction: the exchange age returns to
0, a node that was not UNRESPONSIVE becomes so, its served entry leaves the queue (and where the hazard
discard has removed it, nothing leaves and removed-on-loss does not count, R98), its read is answered
NODE_TIMEOUT or, where a swap left its address without a node, NO_NODE (R103; log entry 41), no
transaction is in flight any more, and the DLC arbitrates; the loss of a wheel or blade node raises
NODE_LOST, in an order with that arbitration which is free (log entry 8), and that of the POWER node
sets NODE_LOST_EVENT, after the answer of its read (log entry 66). Where a swap changed the node's kind
meanwhile its record takes nothing (R103; log entry 58). That a lost node's stopped timers keep their
elapsed time is the model's reading (log entry 12, DEDUCED). The timeout of an ECHO is not retried and
goes to the test (R87, R170). -/
def Obligations.ResponseTimerExpires : Prop :=
  HeadIsRemoved ∧
  ∀ (dt : Nat) (s : State) (t : Transaction), s.resetHeld = false →
    let u := arrive dt s
    let c := u.dlc.cnt
    let n := t.node
    let ends (v : State) : Prop := exec (.responseTimeout dt) s = .next v
    let free (x : State) : State := { x with dlc := { x.dlc with tx := none } }
    u.dlc.tx = some t → t.timeout ≤ t.elapsed →
    (∀ sent, t.carried = .echo sent →
      let r := u.lbu.record
      ends (echoNext { u with
        dlc := { u.dlc with
          recs := u.dlc.recs.set n ((u.dlc.recs.get n).map fun r => { r with age := 0 })
          tx := none
          cnt := { c with timeouts := bump c.timeouts } }
        lbu := { u.lbu with record := { r with timeouts := bump r.timeouts } } })) ∧
    ((∀ sent, t.carried ≠ .echo sent) → t.second = false →
      let again : Carried :=
        match t.carried, u.dlc.queue with
        | .post v, e :: _ => .post (if e.inFlight then e.val else v)
        | x, _ => x
      ends { u with
        dlc := { u.dlc with
          tx := some { t with
            carried := again
            frame := requestFrame n again
            second := true
            elapsed := 0 }
          cnt := { c with
            timeouts := bump c.timeouts
            retries := bump c.retries
            framesSent := bump c.framesSent } } }) ∧
    ((∀ sent, t.carried ≠ .echo sent) → t.second = true →
      let lost := t.renewed = false ∧ u.nodeState n ≠ some .unresponsive
      let silent (r : NodeRec) : NodeRec :=
        if r.st = .unresponsive then { r with age := 0 }
        else { r with
          st := .unresponsive
          age := 0
          slip := { r.slip with st := .stopped }
          stall := { r.stall with st := .stopped }
          jam := { r.jam with st := .stopped } }
      ∃ x w : State,
      x = { u with
        dlc := { u.dlc with
          recs := if t.renewed = true then u.dlc.recs
            else u.dlc.recs.set n ((u.dlc.recs.get n).map silent)
          cnt := { c with
            timeouts := bump c.timeouts
            nodesLost := x.dlc.cnt.nodesLost } } } ∧
      (lost → x.dlc.cnt.nodesLost = bump c.nodesLost) ∧
      (¬ lost → x.dlc.cnt.nodesLost = c.nodesLost) ∧
      (∀ v, t.carried = .post v → w = free { x with dlc := x.dlc.failed } ∧
        (u.dlc.served = none → w = free x ∧ w.dlc.queue = u.dlc.queue ∧
          w.dlc.cnt.removedOnLoss = c.removedOnLoss)) ∧
      (t.carried = .poll → w = free x) ∧
      (∀ q, t.carried = .read q →
        let y : State := { x with dlc := { x.dlc with read := none } }
        (u.dlc.read = none → w = free x) ∧
        (∀ r, u.dlc.read = some r → r.gone = false →
          w = free (answerRead .nodeTimeout [] y)) ∧
        (∀ r, u.dlc.read = some r → r.gone = true →
          w = free (answerRead .noNode [] { y with
            dlc := { y.dlc with
              cnt := { y.dlc.cnt with passRefused := bump y.dlc.cnt.passRefused } } }))) ∧
      w.dlc.tx = none ∧
      (¬ lost → ends (arbitrate w)) ∧
      (lost → t.nodeKind = .power →
        ends (arbitrate (powerSilent (setFlag .nodeLostEvent [u8 (n.val + 1)] w)))) ∧
      (lost → t.nodeKind ≠ .power →
        let w' : State := { w with freeCount := w.freeCount + 1 }
        ends (arbitrate (raise .nodeLost (some (n.val + 1)) w')) ∨
          ends (raise .nodeLost (some (n.val + 1)) (arbitrate w'))) ∧
      (lost → t.nodeKind ≠ .power → ∀ v, ends v → v.rse.ctx3.isSome = true) ∧
      (lost → t.nodeKind = .power → u.nli.flags.length = 19 →
        ∀ v, ends v → v.flag .nodeLostEvent ≠ none))

/-- A WHEEL_SET or BLADE_SET is posted: it replaces the waiting entry of the same kind for the same
node in place, marked resend if that one is in flight, or joins the tail (R89); where a set-point of the node
stands behind a zero of a DRIVE channel reset, it replaces that one and the zero still goes out, which is the
model's choice between R77 and R89 (log entry 45, DESIGN CHOICE); and a relay command is posted to the POWER
node (R90, R135). -/
def Obligations.SetPointIsPosted : Prop :=
  RelayIsPosted ∧
  ∀ (n : Node) (v : PostValue) (o : Origin) (s : State),
    v.coalesces v = true →
    let d := s.dlc
    let same (e : QEntry) : Prop := e.node = n ∧ e.val.coalesces v = true
    let entry : QEntry := ⟨n, v, o, false, false⟩
    let t := postSet n v o s
    let counted := { d.cnt with coalesce := bump d.cnt.coalesce }
    let replaces (l q : List QEntry) : Prop := q.length = l.length ∧
      ∀ (i : Nat) (e : QEntry), l[i]? = some e →
        (¬ same e → q[i]? = some e) ∧
        (same e → q[i]? = some (⟨n, v, o, e.inFlight, e.inFlight⟩ : QEntry))
    ((∃ e ∈ d.behind, same e) → ∃ q : List QEntry,
      t = { s with dlc := { d with behind := q, cnt := counted } } ∧ replaces d.behind q) ∧
    ((∀ e ∈ d.behind, ¬ same e) →
      ((∃ e ∈ d.queue, same e) → ∃ q : List QEntry,
        t = { s with dlc := { d with queue := q, cnt := counted } } ∧ replaces d.queue q) ∧
      ((∀ e ∈ d.queue, ¬ same e) → d.queue ≠ [] →
        t = { s with dlc := { d with queue := d.queue ++ [entry] } }) ∧
      (d.queue = [] → t = arbitrate { s with dlc := { d with queue := [entry] } }))

/-- The hazard discard removes every entry whose origin is not RESP3, those behind the zeros of a DRIVE
channel reset among them (log entry 45), and empties the relay holding place; each entry removed is counted,
POST_DISCARD is set if one of them was a nonzero set-point, an emptied queue returns the flush count to 0, and
the transaction in flight goes on (R98). -/
def Obligations.HazardDiscardsThePosts : Prop :=
  ∀ s : State,
    let d := s.dlc
    let kept := d.queue.filter fun e => e.origin == .resp3
    let keptBehind := d.behind.filter fun e => e.origin == .resp3
    let removed := d.queue.length - kept.length + (d.behind.length - keptBehind.length)
    let moving := ∃ e ∈ d.queue ++ d.behind, e.origin ≠ .resp3 ∧
      match e.val with
      | .wheel v => v ≠ 0
      | .blade v => v ≠ 0
      | _ => False
    ∃ x : Dlc,
      LeavesQueue { d with
        behind := keptBehind
        relayHeld := none
        cnt := { d.cnt with discards := bumpBy removed d.cnt.discards } } kept x ∧
      (moving → hazardDiscard s = setFlag .postDiscard [u8 removed] { s with dlc := x }) ∧
      (¬ moving → hazardDiscard s = { s with dlc := x })

/-- A slip, stall or jam timer reaches its time: it is SPENT and counted, and SLIP, STALL or
BLADE_JAM is raised with the node's address; each SLIP sets SLIP_SEEN (R96, R97); that a SPENT timer keeps
its elapsed time is the model's reading (log entry 12, DEDUCED). -/
def Obligations.NodeTimersRaiseTheirTriggers : Prop :=
  ∀ (dt : Nat) (n : Node) (s : State) (r : NodeRec), s.resetHeld = false →
    let u := arrive dt s
    let c := u.dlc.cnt
    let with' (x : NodeRec) (k : DlcCounters) : State :=
      { u with dlc := { u.dlc with recs := u.dlc.recs.set n (some x), cnt := k } }
    let addr := n.val + 1
    u.dlc.recs.get n = some r →
    (r.slip.st = .running → r.slip.limit ≤ r.slip.elapsed →
      exec (.slipTimerExpiry dt n) s = .next (raise .slip (some addr)
        (setFlag .slipSeen [u8 addr]
          (with' { r with slip := { r.slip with st := .spent } } { c with slips := bump c.slips })))) ∧
    (r.stall.st = .running → r.stall.limit ≤ r.stall.elapsed →
      exec (.stallTimerExpiry dt n) s = .next (raise .stall (some addr)
        (with' { r with stall := { r.stall with st := .spent } } { c with stalls := bump c.stalls }))) ∧
    (r.jam.st = .running → r.jam.limit ≤ r.jam.elapsed →
      exec (.jamTimerExpiry dt n) s = .next (raise .bladeJam (some addr)
        (with' { r with jam := { r.jam with st := .spent } } { c with jams := bump c.jams })))

/-- The pass-through requests in the order of their checks: no byte at all, no fitted node, no operation
or too few bytes, a D-link echo; a write refused under a hazard or by the queue, or posted and answered at
once; a read refused or held as the outstanding one (R91, R99, R100, R101, R159). The command that carries
out a request that names neither operation is either of the two, and the place of the too short one in
that order is the model's reading (log entry 19, DEDUCED); that a write without data is long enough is
its choice (log entry 69). -/
def Obligations.PassThroughIsJudged : Prop :=
  ∀ (dt : Nat) (s : State) (q : Req) (rest : List Req), s.resetHeld = false →
    let u := arrive dt s
    let p := q.payload
    let c := u.dlc.cnt
    let refused (code : RespCode) : State := answer code [] { u with
      dlc := { u.dlc with cnt := { c with passRefused := bump c.passRefused } } }
    let refusal (code : RespCode) : Prop :=
      (byteAt p 1 ≠ 1 → exec (.passWrite dt) s = .next (refused code)) ∧
        (byteAt p 1 ≠ 0 → exec (.passRead dt) s = .next (refused code))
    u.mrh.queue = q :: rest → q.pass = true → u.mrh.headDone = false → u.mrh.fullResetDue = false →
    (p = [] → refusal .badParam) ∧
    (∀ dest, p ≠ [] → nodeOfNat? (byteAt p 0) = dest →
      (dest = none ∨ ∃ n, dest = some n ∧ u.nodeKind n = .noNode) → refusal .noNode) ∧
    ∀ n, p ≠ [] → nodeOfNat? (byteAt p 0) = some n → u.nodeKind n ≠ .noNode →
      (p.length < 3 ∨ 1 < byteAt p 1 → refusal .badParam) ∧
      (3 ≤ p.length → byteAt p 1 ≤ 1 → u.dEchoRunning = true → refusal .busy) ∧
      (3 ≤ p.length → byteAt p 1 = 0 →
        (u.dEchoRunning = false → u.rse.ctx3.isSome = true →
          exec (.passWrite dt) s = .next (refused .refusedState)) ∧
        (u.dEchoRunning = false → u.rse.ctx3 = none →
          (12 ≤ u.dlc.queue.length ∨ 10 ≤ (u.dlc.queue.filter fun e => e.val.isPass).length) →
          exec (.passWrite dt) s = .next (refused .retry)) ∧
        (u.dEchoRunning = false → u.rse.ctx3 = none → u.dlc.queue.length < 12 →
          (u.dlc.queue.filter fun e => e.val.isPass).length < 10 →
          exec (.passWrite dt) s = .next (answer .ok []
            (joinTail ⟨n, .param (p.drop 2), .pass, false, false⟩ { u with
              dlc := { u.dlc with cnt := { c with passWrites := bump c.passWrites } } })))) ∧
      (3 ≤ p.length → byteAt p 1 = 1 → u.dEchoRunning = false →
        (u.dlc.read ≠ none → exec (.passRead dt) s = .next (refused .busy)) ∧
        (u.dlc.read = none → u.dlc.queue ≠ [] → exec (.passRead dt) s = .next (refused .retry)) ∧
        (u.dlc.read = none → u.dlc.queue = [] →
          exec (.passRead dt) s = .next (arbitrate { u with
            mrh := { u.mrh with queue := rest, outstanding := some (q.tag, q.src) }
            dlc := { u.dlc with
              read := some ⟨n, [p.getD 2 0#8], false, false⟩
              cnt := { c with passReads := bump c.passReads } } })))

/-! ### Responses -/

/-- A level-3 trigger: with no level-3 context it makes the hazard entry, which discards every other
context, leaves the built-in context resting on HOLD, asserts the STOP line, leaves only entries of origin
RESP3 in the queue and behind its zeros (log entry 45), and posts a zero of that origin to every wheel and
blade node, each counted, whatever was posted last (R75), after which the evaluation posts nothing; under
one it joins the hazard set and nothing else (R105, R108, R118). -/
def Obligations.HazardIsEntered : Prop :=
  ∀ (t : Trig) (d : Option Nat) (s : State), t.tabled = false →
    let v := raiseFixed t d s
    let received := s.rse.cnt.received.modify t.num bump
    (s.rse.ctx3 = none →
      v.rse.ctx1 = none ∧ v.rse.ctx2 = none ∧
      (∃ c, v.rse.ctx3 = some c ∧ c.trigger = t ∧ c.detail = d ∧ c.seq = none ∧
        c.remaining = none ∧ c.bladeStop = true ∧ c.left = 0 ∧ c.right = 0 ∧
        c.hazards = HazardSet.none.add t) ∧
      v.rse.stopHazard = true ∧ v.stopLine = true ∧
      v.rse.cnt = { s.rse.cnt with
        received := received
        created3 := bump s.rse.cnt.created3
        discarded :=
          bumpBy ((if s.rse.ctx1.isSome then 1 else 0) + (if s.rse.ctx2.isSome then 1 else 0))
            s.rse.cnt.discarded } ∧
      v.mgt.source = .resp3 ∧ v.mgt.outL = 0 ∧ v.mgt.outR = 0 ∧ v.mgt.outBlade = 0 ∧
      (∀ e ∈ v.dlc.queue ++ v.dlc.behind, e.origin = .resp3) ∧ v.dlc.relayHeld = none ∧
      (let w := hazardDiscard (setFlag .hazard [u8 t.num, u8 (d.getD 0)] s)
       let stilled (x : State) (n : Node) : State :=
         match s.stillAt n with
         | some zero => postSet n zero .resp3 x
         | none => x
       v.dlc = ([0, 1, 2, 3, 4, 5].foldl stilled w).dlc ∧ v.nli = w.nli ∧
       v.mgt.cnt.posts =
         ([0, 1, 2, 3, 4, 5].filter fun n => (s.stillAt n).isSome).foldl (fun c _ => bump c)
           s.mgt.cnt.posts) ∧
      (∀ n zero, s.stillAt n = some zero → v.mgt.posted.get n = 0 ∧
        ∃ e ∈ v.dlc.queue ++ v.dlc.behind, e.node = n ∧ e.val = zero ∧ e.origin = .resp3) ∧
      (s.dlc.behind = [] → v.dlc.behind = [] ∧ ∀ n zero, s.stillAt n = some zero →
        ∃ e ∈ v.dlc.queue, e.node = n ∧ e.val = zero ∧ e.origin = .resp3) ∧
      (s.nli.flags.length = 19 → v.flag .hazard ≠ none) ∧
      v = { s with dlc := v.dlc, mgt := v.mgt, rse := v.rse, nli := v.nli, dkc := v.dkc } ∧
      v.dkc.dock = s.dkc.dock) ∧
    (∀ c, s.rse.ctx3 = some c →
      v = { s with
        rse := { s.rse with
          ctx3 := some { c with hazards := c.hazards.add t }
          cnt := { s.rse.cnt with received := received, joined := bump s.rse.cnt.joined } } })

/-- The step a context goes on to by the three rules of R110. -/
def Sys2Proof.Machine.NextStepIsChosen : Prop :=
  ∀ (s : State) (q i rep : Nat),
    let a := s.repeatStart q
    let b := s.repeatEnd q
    let block := i = b ∧ a ≤ b ∧ b < s.stepCount q
    let onward := if i + 1 < s.stepCount q then some (i + 1, rep) else none
    (block → s.repeatCount q = 0 → s.nextStep q i rep = some (a, rep)) ∧
    (block → s.repeatCount q ≠ 0 → 1 < rep → s.nextStep q i rep = some (a, rep - 1)) ∧
    (block → s.repeatCount q ≠ 0 → rep ≤ 1 → s.nextStep q i rep = onward) ∧
    (¬ block → s.nextStep q i rep = onward)

/-- What the entry to each kind of step does: a step with time and HOLD are rested on, a DRIVE or WAIT
without time and BLADE_STOP are passed, and END ends the context (R109, R110). -/
def Sys2Proof.Machine.StepsAreEntered : Prop :=
  ∀ (s : State) (q fuel j : Nat) (c : Ctx),
    let x : Ctx := { c with step := j, entered := true }
    let result := s.enterStep q (fuel + 1) c j
    let passes (y : Ctx) : Prop :=
      (∀ k rep, s.nextStep q j y.repeats = some (k, rep) →
        result = s.enterStep q fuel { y with repeats := rep } k) ∧
      (s.nextStep q j y.repeats = none → result = none)
    (s.stepAt q j = .finish → result = none) ∧
    (∀ l r d, s.stepAt q j = .drive l r d → 0 < d →
      result = some { x with left := l, right := r, remaining := some d }) ∧
    (∀ l r, s.stepAt q j = .drive l r 0 →
      passes { x with left := l, right := r, remaining := none }) ∧
    (∀ d, s.stepAt q j = .wait d → 0 < d →
      result = some { x with left := 0, right := 0, remaining := some d }) ∧
    (s.stepAt q j = .wait 0 → passes { x with left := 0, right := 0, remaining := none }) ∧
    (s.stepAt q j = .bladeStop → passes { x with bladeStop := true }) ∧
    (s.stepAt q j = .hold → result = some { x with left := 0, right := 0, remaining := none })

/-- The level-2 context becomes what it goes on as; where it ends, a SUSPENDED level-1 context
resumes, counted, and one that was created SUSPENDED enters its step 0 (R113). -/
def Sys2Proof.Machine.Level2GoesOn : Prop :=
  ∀ s : State,
    let r := s.rse
    let resumed := { r.cnt with resumed := bump r.cnt.resumed }
    (∀ c, putCtx2 (some c) s = { s with rse := { r with ctx2 := some c } }) ∧
    (r.ctx1 = none → putCtx2 none s = { s with rse := { r with ctx2 := none } }) ∧
    ∀ x, r.ctx1 = some x →
      (x.entered = true →
        putCtx2 none s = { s with rse := { r with ctx2 := none, cnt := resumed } }) ∧
      ∀ q, x.entered = false → x.seq = some q →
        putCtx2 none s = { s with
          rse := { r with ctx1 := s.enterStep q stepFuel x 0, ctx2 := none, cnt := resumed } }

/-- What is handed on after an event that changed the running context (R114, R141; log entries 7, 8 and
47): the gate is told in every case; the DKC's timers are held where a context has come, and the last
context's end is told to the DKC, and OUTSIDE_LIMIT raised where it waited. -/
def Sys2Proof.Machine.ResponseIsHandedOn : Prop :=
  ∀ s : State,
    let t := evaluate s
    (s.ctxHeld = true → rseHandOff true s = t ∧ rseHandOff false s = dkcHold t) ∧
    (s.ctxHeld = false → rseHandOff false s = t ∧
      (t.outsideHeldDue = none → rseHandOff true s = dkcEvent dkcResume t) ∧
      ∀ i, t.outsideHeldDue = some i →
        let d : State := { t with freeCount := t.freeCount + 1 }
        let v := dkcEvent dkcResume d
        rseHandOff true s = dkcHold (dkcEvent dkcResume (outsideRaise i d)) ∨
          (v.outsideHeldDue = some i ∧ rseHandOff true s = outsideRaise i v) ∨
          (v.outsideHeldDue = none ∧ rseHandOff true s = v))

/-- A tabled trigger: its level by the trigger map; unmapped, under a hazard or docked it is ignored and
counted; at level 1 its context waits SUSPENDED under a level-2 context, and otherwise replaces or
creates; at level 2 it replaces or creates, and preempts a level-1 context; each creation is counted and
sets its response event (R105, R113, R115, R116, R117, R119, R123). -/
def Sys2Proof.Machine.TabledTriggerIsTaken : Prop :=
  ∀ (t : Trig) (d : Option Nat) (s : State), t.tabled = true →
    let r := s.rse
    let k : RseCounters := { r.cnt with received := r.cnt.received.modify t.num bump }
    let ignored (x : RseCounters) : State := { s with rse := { r with cnt := x } }
    let docked := s.dkc.dock = .contact ∨ s.dkc.dock = .docked
    let level := s.trigLevel t
    let q := s.trigSeq t
    let fresh : Ctx :=
      { trigger := t, detail := d, hazards := HazardSet.none, seq := some q, step := 0
        remaining := none, repeats := s.repeatCount q, bladeStop := false, left := 0, right := 0
        entered := false }
    let waiting : Ctx :=
      match s.stepAt q 0 with
      | .drive a b n => { fresh with left := a, right := b, remaining := some n }
      | .wait n => { fresh with remaining := some n }
      | .hold => fresh
      | _ => { fresh with remaining := some 0 }
    let flag : EventFlag :=
      if t = .perimeterExit ∨ t = .keepoutEntry then .boundaryResponse else .obstacleResponse
    let event (x : State) : State := setFlag flag [u8 t.num, u8 (d.getD 0)] x
    let held := r.ctx1.isSome || r.ctx2.isSome
    let replaced (old : Option Ctx) : Nat := if old = none then k.replaced else bump k.replaced
    (level = 0 → raise t d s = ignored { k with unmapped := bump k.unmapped }) ∧
    (level ≠ 0 → r.ctx3 ≠ none → raise t d s = ignored { k with underHazard := bump k.underHazard }) ∧
    (level ≠ 0 → r.ctx3 = none → docked → raise t d s = ignored { k with docked := bump k.docked }) ∧
    (r.ctx3 = none → ¬ docked →
      (level = 1 → r.ctx2 ≠ none → raise t d s = event { s with
        rse := { r with
          ctx1 := some waiting
          cnt := { k with created1 := bump k.created1, replaced := replaced r.ctx1 } } }) ∧
      (level = 1 → r.ctx2 = none → raise t d s = rseHandOff held (event { s with
        rse := { r with
          ctx1 := s.enterStep q stepFuel fresh 0
          cnt := { k with created1 := bump k.created1, replaced := replaced r.ctx1 } } })) ∧
      (2 ≤ level → raise t d s = rseHandOff held (putCtx2 (s.enterStep q stepFuel fresh 0)
        (event { s with
          rse := { r with
            cnt := { k with
              created2 := bump k.created2
              replaced := replaced r.ctx2
              suspended :=
                if r.ctx2 = none ∧ r.ctx1 ≠ none then bump k.suspended else k.suspended } } }))))

/-- How a context is created and goes on: a tabled trigger against the contexts held, the entry to each
kind of step, the step gone on to, the end of the level-2 context, and what is handed on; and the expiry
of the running context's step timer, which goes on to the next step or ends the context (R105, R109 to
R117, R119, R123). -/
def Obligations.RunningContextAdvances : Prop :=
  NextStepIsChosen ∧ StepsAreEntered ∧ Level2GoesOn ∧ ResponseIsHandedOn ∧ TabledTriggerIsTaken ∧
  ∀ (dt : Nat) (s : State) (c : Ctx) (q : Nat), s.resetHeld = false →
    let u := arrive dt s
    let ends (v : State) : Prop := exec (.stepTimerExpiry dt) s = .next v
    u.rse.ctx3 = none → c.seq = some q → c.remaining = some 0 →
    (∀ k rep, u.nextStep q c.step c.repeats = some (k, rep) →
      let next := u.enterStep q stepFuel { c with repeats := rep } k
      (u.rse.ctx2 = some c → ends (rseHandOff true (putCtx2 next u))) ∧
      (u.rse.ctx2 = none → u.rse.ctx1 = some c →
        ends (rseHandOff true { u with rse := { u.rse with ctx1 := next } })) ∧
      ∀ l r d, u.stepAt q k = .drive l r d → 0 < d →
        let c' : Ctx := { c with
          repeats := rep
          step := k
          entered := true
          left := l
          right := r
          remaining := some d }
        (u.rse.ctx2 = some c → ends (evaluate { u with rse := { u.rse with ctx2 := some c' } })) ∧
        (u.rse.ctx2 = none → u.rse.ctx1 = some c →
          ends (evaluate { u with rse := { u.rse with ctx1 := some c' } }))) ∧
    (u.nextStep q c.step c.repeats = none →
      (u.rse.ctx2 = some c → ends (rseHandOff true (putCtx2 none u))) ∧
      (u.rse.ctx2 = none → u.rse.ctx1 = some c →
        ends (rseHandOff true { u with rse := { u.rse with ctx1 := none } }) ∧
        ∃ v, ends v ∧ v.rse.ctx1 = none ∧ v.rse.ctx2 = none) ∧
      ∀ x, u.rse.ctx2 = some c → u.rse.ctx1 = some x → x.entered = true →
        ends (evaluate { u with
          rse := { u.rse with
            ctx2 := none
            cnt := { u.rse.cnt with resumed := bump u.rse.cnt.resumed } } }))

/-- What each of the five conditions of Table 6-6 holds for: a working LIFT pin that is active or UNSET
(R54); a slope above the slope max, of the active zone or the default where it is NONE (R40, R57, R58); an
enabled PERIMETER slot exists and every one is LOST (R37); a wheel or blade node is UNRESPONSIVE (R84); and
the active slot is OUT with the outside limit above 0 (R38, R121). -/
def Sys2Proof.Machine.ConditionsBlock : Prop :=
  ∀ s : State,
    (s.liftCond = true ↔ s.somePin .lift fun x => x.deb = some x.cfg.active ∨ x.deb = none) ∧
    (∀ i, s.zcu.active = some i → (s.overSlope = true ↔ s.zoneSlopeMax i < s.slopeNow)) ∧
    (s.zcu.active = none → (s.overSlope = true ↔ s.defaultSlopeMax < s.slopeNow)) ∧
    (s.wireLostCond = true ↔
      (∃ i, s.slotKind i = .perimeter) ∧
        ∀ i, s.slotKind i = .perimeter → s.zcu.loops.get i = .lost) ∧
    (s.driveNodeLost = true ↔ ∃ n r,
      (s.nodeKind n = .wheelLeft ∨ s.nodeKind n = .wheelRight ∨ s.nodeKind n = .blade) ∧
        s.dlc.recs.get n = some r ∧ r.st = .unresponsive) ∧
    (s.outsideCond = true ↔
      0 < s.outsideLimit ∧ ∃ i, s.zcu.active = some i ∧ s.zcu.loops.get i = .outside)

/-- CANCEL_RESPONSE and CLEAR_HAZARD: what is removed, what resumes, what is handed on and what is
answered. A cancel of level 1 under a level-2 context removes the SUSPENDED context alone; one of the only
context ends it, with the hand-offs of that end; and one of level 2 lets a SUSPENDED level-1 context
resume, counted: with the step and the remaining time it holds, or, created SUSPENDED, at its step 0, by
which it may end (R113, R114, R120). The blocking conditions, each of which is written out (R37, R38, R54,
R58, R84), refuse a clear; with no hazard to clear the
answer is REFUSED_STATE with the condition byte 0, and an accepted clear is answered OK with no byte
(R121; log entry 17). What the hand-offs are is stated once, in `ResponseIsHandedOn` (log entries 7, 8
and 47). -/
def Obligations.ResponsesAreCancelledAndCleared : Prop :=
  ResponseIsHandedOn ∧ ConditionsBlock ∧
  ∀ (dt : Nat) (s : State), s.resetHeld = false →
    let u := arrive dt s
    let r := u.rse
    let level := byteAt u.headParams 0
    let cancelled := { r.cnt with cancels := bump r.cnt.cancels }
    let resumed := { cancelled with resumed := bump r.cnt.resumed }
    (headIs 11 u = true →
      (level = 1 → r.ctx1 = none → exec (.cancelResponse dt) s = .next (answer .refusedState [] u)) ∧
      (level = 2 → r.ctx2 = none → exec (.cancelResponse dt) s = .next (answer .refusedState [] u)) ∧
      (level ≠ 1 → level ≠ 2 → exec (.cancelResponse dt) s = .next (answer .badParam [] u)) ∧
      (level = 1 → r.ctx1 ≠ none → r.ctx2 ≠ none →
        exec (.cancelResponse dt) s = .next (answer .ok [] { u with
          rse := { r with ctx1 := none, cnt := cancelled } })) ∧
      (level = 1 → r.ctx1 ≠ none → r.ctx2 = none →
        exec (.cancelResponse dt) s = .next (answer .ok [] (rseHandOff true { u with
          rse := { r with ctx1 := none, cnt := cancelled } }))) ∧
      (level = 2 → r.ctx2 ≠ none →
        (r.ctx1 = none →
          exec (.cancelResponse dt) s = .next (answer .ok [] (rseHandOff true { u with
            rse := { r with ctx2 := none, cnt := cancelled } }))) ∧
        ∀ x, r.ctx1 = some x →
          (x.entered = true →
            exec (.cancelResponse dt) s = .next (answer .ok [] (evaluate { u with
              rse := { r with ctx2 := none, cnt := resumed } }))) ∧
          (∀ q, x.entered = false → x.seq = some q →
            exec (.cancelResponse dt) s = .next (answer .ok [] (rseHandOff true { u with
              rse := { r with
                ctx1 := u.enterStep q stepFuel x 0
                ctx2 := none
                cnt := resumed } }))) ∧
          (x.entered = false → x.seq = none →
            exec (.cancelResponse dt) s = .next (answer .ok [] (evaluate { u with
              rse := { r with ctx2 := none, cnt := resumed } }))))) ∧
    (headIs 12 u = true →
      let blocked := [u.liftCond, u.overSlope, u.wireLostCond, u.driveNodeLost, u.outsideCond]
      (r.ctx3 = none → exec (.clearHazard dt) s = .next (answer .refusedState [0#8] u)) ∧
      (r.ctx3 ≠ none → true ∈ blocked →
        exec (.clearHazard dt) s = .next (answer .refusedState [maskByte blocked] { u with
          rse := { r with cnt := { r.cnt with clearsRefused := bump r.cnt.clearsRefused } } })) ∧
      (r.ctx3 ≠ none → true ∉ blocked →
        exec (.clearHazard dt) s = .next (answer .ok [] (rseHandOff true { u with
          rse := { r with
            ctx3 := none
            stopHazard := false
            cnt := { r.cnt with clearsAccepted := bump r.cnt.clearsAccepted } } }))))

/-! ### The Dock Controller -/

/-- The timer expiries of the Dock Controller: a battery or rain return where both slots exist, else only
the count; a failed approach; the relay timeout in CONTACT, which posts RELAY OPEN, and in DEPARTING; and
the end of BACKOFF, which leads to FOLLOW again or, with the retries spent, to DOCK_FAULT, and of the
reverse (R129, R130, R131, R134, R135, R136, R138); and the steps that these and the hand-offs lead to: the
judgement of its timers, the steering pair, the station test, the return entry, the entry to UNDOCKED, the
rain judgement, and the test of WIRE_LOST at a change of the dock state (R37, R130, R132, R133, R139; log
entries 7 and 12); and what the coming and the end of a response context do to it (R141). -/
def Obligations.DockTimersExpire : Prop :=
  SteeringIsFormed ∧ StationIsTested ∧ ReturnIsTried ∧ UndockedIsEntered ∧ RainIsTaken ∧
  WireLostIsTested ∧ ResponseReachesTheDock ∧
  ∀ (dt : Nat) (s : State), s.resetHeld = false → (arrive dt s).nli.flags.length = 19 →
    let u := arrive dt s
    let k := u.dkc
    let v : Int := u.departureSpeed
    let frame (t : State) : Prop :=
      t.mem = u.mem ∧ t.wdc = u.wdc ∧ t.spu = u.spu ∧ t.tbs = u.tbs ∧ t.mrh = u.mrh ∧
        t.lbu = u.lbu ∧ t.pending = u.pending
    let started (t : State) (r : ReturnReason) (k' : Dkc) : Prop :=
      t = dockHandOn u (tryReturn r { u with dkc := k' }) ∧ t.dkc.dock ≠ .undocked ∧ t.dkc.reason = r ∧ t.dkc.retry = 0 ∧ t.dkc.batteryT.st ≠ .running ∧
        t.dkc.rainT.st ≠ .running ∧ t.flag .returnStarted ≠ none ∧ frame t
    let reversing (t : State) (mark : Bool) : Prop :=
      t.dkc.dock = .backoff ∧ t.dkc.backoffRelay = mark ∧ t.dkc.cmdL = -v ∧ t.dkc.cmdR = -v ∧
        t.dkc.motionT.elapsed = 0 ∧ t.dkc.cnt.backoffs = bump k.cnt.backoffs ∧ frame t
    let fault (t : State) (cause : Byte) : Prop :=
      t = dockHandOn u (setFlag .dockFaultEvent [cause] { u with
        dkc := { k with
          dock := .dockFault
          relayT := { k.relayT with st := .stopped }
          motionT := { k.motionT with st := .stopped }
          cmdL := 0
          cmdR := 0
          cnt := { k.cnt with dockFaults := bump k.cnt.dockFaults } } }) ∧
        t.dkc.dock = .dockFault ∧ t.dkc.cmdL = 0 ∧ t.dkc.cmdR = 0 ∧
        t.dkc.cnt.dockFaults = bump k.cnt.dockFaults ∧ t.flag .dockFaultEvent ≠ none ∧
        (u.flag .dockFaultEvent = none → t.flag .dockFaultEvent = some [cause]) ∧ frame t
    let retriesSpent : Byte := 0#8
    let relayStuck : Byte := 1#8
    (k.dock = .undocked → k.batteryT.st = .running → k.batteryT.limit ≤ k.batteryT.elapsed →
      (u.canReturn = true → ∃ t, exec (.batteryTimerExpiry dt) s = .next t ∧
        started t .battery { k with batteryT := { k.batteryT with st := .spent } } ∧ t.dkc.cnt.returnsBattery = bump k.cnt.returnsBattery) ∧
      (u.canReturn = false → exec (.batteryTimerExpiry dt) s = .next { u with
        dkc := { k with
          batteryT := { k.batteryT with st := .spent }
          cnt := { k.cnt with unavailable := bump k.cnt.unavailable } } })) ∧
    (k.dock = .undocked → k.rainT.st = .running → k.rainT.limit ≤ k.rainT.elapsed →
      (u.canReturn = true → ∃ t, exec (.rainTimerExpiry dt) s = .next t ∧
        started t .rain { k with rainT := { k.rainT with st := .spent } } ∧ t.dkc.cnt.returnsRain = bump k.cnt.returnsRain) ∧
      (u.canReturn = false → exec (.rainTimerExpiry dt) s = .next { u with
        dkc := { k with
          rainT := { k.rainT with st := .spent }
          cnt := { k.cnt with unavailable := bump k.cnt.unavailable } } })) ∧
    (k.dock = .approach → k.approachT.st = .running → u.approachTimeout ≤ k.approachT.elapsed →
      ∃ t, exec (.approachTimerExpiry dt) s = .next t ∧ reversing t false ∧
        t = dockHandOn u { u with
          dkc := { k with
            dock := .backoff
            backoffRelay := false
            approachT := { k.approachT with st := .stopped }
            relayT := { k.relayT with st := .stopped }
            motionT := u.dockTimer 0
            cmdL := -v
            cmdR := -v
            cnt := { k.cnt with
              backoffs := bump k.cnt.backoffs
              approachTimeouts := bump k.cnt.approachTimeouts } } } ∧
        t.dkc.approachT.st = .stopped ∧
        t.dkc.cnt.approachTimeouts = bump k.cnt.approachTimeouts) ∧
    (k.dock = .contact → k.relayT.st = .running → u.relayTimeout ≤ k.relayT.elapsed →
      ∃ t, exec (.relayTimerExpiry dt) s = .next t ∧ reversing t true ∧
        t = dockHandOn u { postRelay false u with
          dkc := { k with
            dock := .backoff
            backoffRelay := true
            approachT := { k.approachT with st := .stopped }
            relayT := { k.relayT with st := .stopped }
            motionT := u.dockTimer 0
            cmdL := -v
            cmdR := -v
            cnt := { k.cnt with
              backoffs := bump k.cnt.backoffs
              relayTimeouts := bump k.cnt.relayTimeouts } } }) ∧
    (k.dock = .departing → k.relayT.st = .running → u.relayTimeout ≤ k.relayT.elapsed →
      ∃ t, exec (.relayTimerExpiry dt) s = .next t ∧ fault t relayStuck ∧ t.dkc.relayT.st = .stopped) ∧
    (k.dock = .backoff → k.motionT.st = .running → u.departureTime ≤ k.motionT.elapsed →
      (u.canReturn = true → k.retry < u.stationRetries → ∃ t,
        exec (.motionTimerExpiry dt) s = .next t ∧
        t = dockHandOn u (stationTest (formSteering { u with
          dkc := { k with
            dock := .follow
            retry := k.retry + 1
            motionT := { k.motionT with st := .stopped }
            cnt := { k.cnt with retries := bump k.cnt.retries } } })) ∧
        t.dkc.retry = k.retry + 1 ∧
        t.dkc.cnt.retries = bump k.cnt.retries ∧ frame t ∧
        (t.dkc.dock = .follow ∨ t.dkc.dock = .returnSeek ∨ t.dkc.dock = .approach ∨
          t.dkc.dock = .contact)) ∧
      (u.canReturn = false ∨ u.stationRetries ≤ k.retry → ∃ t,
        exec (.motionTimerExpiry dt) s = .next t ∧ fault t retriesSpent ∧
        t.dkc.motionT.st = .stopped)) ∧
    (k.dock = .departing → k.motionT.st = .running → u.departureTime ≤ k.motionT.elapsed → ∃ t,
      exec (.motionTimerExpiry dt) s = .next t ∧ t = dockHandOn u (enterUndocked u) ∧ frame t ∧
        t.dkc.motionT.st = .stopped ∧
        (u.rainReturn = false ∨ k.rain = false →
          t.dkc.dock = .undocked ∧ t.dkc.cmdL = 0 ∧ t.dkc.cmdR = 0))

/-- RETURN, CANCEL_RETURN and UNDOCK: the dock states in which each is carried out, what it changes and
hands on, with the return entry that RETURN makes and the RELAY OPEN that UNDOCK and a cancel in CONTACT post,
and what it answers (R128, R131, R138, R140). -/
def Obligations.DockRequestsAreAnswered : Prop :=
  ReturnIsTried ∧
  ∀ (dt : Nat) (s : State), s.resetHeld = false → (arrive dt s).nli.flags.length = 19 →
    let u := arrive dt s
    let k := u.dkc
    (headIs 8 u = true →
      (k.dock = .undocked → u.canReturn = true → ∃ v,
        exec (.returnHome dt) s = .next (answer .ok [] v) ∧
        v = dockHandOn u (tryReturn .nav u) ∧ v.dkc.dock ≠ .undocked ∧
        v.dkc.reason = .nav ∧ v.dkc.retry = 0 ∧
        v.dkc.cnt.returnsNav = bump k.cnt.returnsNav ∧ v.flag .returnStarted ≠ none ∧
        (u.flag .returnStarted = none → v.flag .returnStarted = some [1#8])) ∧
      (k.dock = .undocked → u.canReturn = false →
        exec (.returnHome dt) s = .next (answer .refusedState [] { u with
          dkc := { k with cnt := { k.cnt with unavailable := bump k.cnt.unavailable } } })) ∧
      (k.dock ≠ .undocked → exec (.returnHome dt) s = .next (answer .refusedState [] u))) ∧
    (headIs 9 u = true →
      (k.dock = .undocked ∨ k.dock = .docked ∨ k.dock = .departing →
        exec (.cancelReturn dt) s = .next (answer .refusedState [] u)) ∧
      (k.dock ≠ .undocked → k.dock ≠ .docked → k.dock ≠ .departing → ∃ v,
        let c : State := { u with
          dkc := { k with cnt := { k.cnt with cancels := bump k.cnt.cancels } } }
        exec (.cancelReturn dt) s = .next (answer .ok [] v) ∧
        v = dockHandOn u (enterUndocked (if k.dock = .contact then postRelay false c else c)) ∧
        v.dkc.cnt.cancels = bump k.cnt.cancels ∧
        (u.rainReturn = false ∨ k.rain = false → v.dkc.dock = .undocked ∧ v.dkc.cmdL = 0 ∧
          v.dkc.cmdR = 0 ∧ v.dkc.retry = k.retry ∧ v.dkc.reason = k.reason))) ∧
    (headIs 10 u = true →
      (k.dock ≠ .docked → exec (.undock dt) s = .next (answer .refusedState [] u)) ∧
      (k.dock = .docked → ∃ v,
        exec (.undock dt) s = .next (answer .ok [] v) ∧ v.dkc.dock = .departing ∧
        v = dockHandOn u { postRelay false u with
          dkc := { k with
            dock := .departing
            phase := .waitOpen
            relayT := u.dockTimer 0
            cnt := { k.cnt with departures := bump k.cnt.departures } } }))

/-! ### The Table Store -/

/-- A GENERAL table in range: `b` its bytes and `w` its two-byte fields by offset (R45, R83, R145). -/
def Sys2Proof.Machine.GeneralInRange (b w : Nat → Nat) : Prop :=
  (b 0 = 16 ∨ b 0 = 32 ∨ b 0 = 64) ∧ b 1 ≤ 15 ∧ 5 ≤ b 6 ∧ b 6 ≤ 200 ∧ 1 ≤ b 7 ∧ b 7 ≤ 20 ∧
  b 36 ≤ 1 ∧ 1 ≤ b 37 ∧ b 37 ≤ 15 ∧ (w 48 = 0 ∨ 10 ≤ w 48 ∧ w 48 ≤ 10000) ∧
  (∀ f ∈ ([(2, 5, 1000), (4, 20, 2000), (8, 0, 2000), (10, 0, 2000), (12, 0, 5000), (14, 0, 30000),
      (16, 0, 30000), (18, 0, 5000), (20, 0, 5000), (22, 0, 2000), (24, 0, 1000), (26, 0, 450),
      (28, 0, 5000), (30, 0, 10000), (34, 0, 60000), (38, 0, 60000), (40, 100, 5000),
      (42, 0, 1000), (44, 0, 10000), (46, 0, 60000)] : List (Nat × Nat × Nat)),
    f.2.1 ≤ w f.1 ∧ w f.1 ≤ f.2.2) ∧
  (∀ a, a < 6 → b (50 + a) ≤ 4) ∧
  (let fitted (k : Nat) : Nat := ((List.range 6).filter fun a => b (50 + a) == k).length
   fitted 1 ≤ 2 ∧ fitted 2 ≤ 2 ∧ fitted 3 ≤ 1 ∧ fitted 4 ≤ 1) ∧
  ∀ p, p < 8 →
    let mode (q : Nat) : Nat := b (64 + 6 * q)
    let role (q : Nat) : Nat := b (65 + 6 * q)
    mode p ≤ 4 ∧ role p ≤ 6 ∧ b (66 + 6 * p) ≤ 1 ∧
    (1 ≤ role p → role p ≤ 4 → mode p = 0 ∨ mode p = 1) ∧
    (5 ≤ role p → (mode p = 0 ∨ mode p = 4) ∧
      ∀ q, q < p → mode p = 4 → role q = role p → mode q ≠ 4) ∧
    (mode p = 1 → 1 ≤ w (68 + 6 * p) ∧ w (68 + 6 * p) ≤ 255) ∧
    (mode p = 2 → 10 ≤ w (68 + 6 * p) ∧ w (68 + 6 * p) ≤ 10000) ∧
    (mode p = 4 → 10 ≤ w (68 + 6 * p) ∧ w (68 + 6 * p) ≤ 1000)

/-- A CODES table in range: K_max, K_min, P_need and T_pass; the other fields fit their bits (R9). -/
def Sys2Proof.Machine.CodesInRange (w : Nat → Nat) : Prop :=
  ∀ i, i < 8 →
    let kMin := bitsAt 0 6 (w (16 * i + 8))
    let kMax := bitsAt 8 6 (w (16 * i + 8))
    let pNeed := bitsAt 12 4 (w (16 * i + 10))
    1 ≤ kMin ∧ kMin ≤ kMax ∧ kMax ≤ 63 ∧ 1 ≤ pNeed ∧ pNeed ≤ kMax ∧
      1 ≤ bitsAt 0 11 (w (16 * i + 10))

/-- A ZONES table in range, each slot by its kind (R28; log entry 37). -/
def Sys2Proof.Machine.ZonesInRange (b w : Nat → Nat) : Prop :=
  ∀ i, i < 4 →
    let o := 32 * i
    b o ≤ 4 ∧ b (o + 1) ≤ 7 ∧ 1 ≤ b (o + 2) ∧ b (o + 2) ≤ 15 ∧ 1 ≤ b (o + 3) ∧
    (b o = 1 → w (o + 4) ≤ 2000 ∧ w (o + 6) ≤ 1000 ∧ w (o + 10) ≤ 5000 ∧ w (o + 12) ≤ 450 ∧
      w (o + 14) ≤ 2047 ∧ b (o + 16) ≤ 100 ∧ bitsAt i 1 (b (o + 17)) = 0) ∧
    (b o = 3 → w (o + 4) ≤ 2000 ∧ w (o + 6) ≤ 1000 ∧ b (o + 8) ≤ 1) ∧
    (b o = 4 → w (o + 4) ≤ 2000 ∧ w (o + 6) ≤ 2047 ∧ 1 ≤ b (o + 8) ∧ b (o + 8) ≤ 120 ∧
      b (o + 9) ≤ 3)

/-- A RESPONSES table in range: the trigger map, and each sequence with the steps of its step count,
its repeat count at 1 where no repeat block is in effect or where the block would repeat without end
(R106, R107). -/
def Sys2Proof.Machine.ResponsesInRange (b w : Nat → Nat) : Prop :=
  (∀ t, t < 7 → b (2 * t) ≤ 2 ∧ b (2 * t + 1) ≤ 15) ∧
  ∀ q, q < 16 →
    let o := 32 + 68 * q
    let step (j : Nat) : Nat := o + 4 + 8 * j
    let speed (off : Nat) : Prop := -2000 ≤ sgn16 (w off) ∧ sgn16 (w off) ≤ 2000
    1 ≤ b o ∧ b o ≤ 8 ∧ b (o + 1) ≤ 7 ∧ b (o + 2) ≤ 7 ∧
    (∀ j, j < b o → b (step j) ≤ 4 ∧
      (b (step j) = 1 → speed (step j + 2) ∧ speed (step j + 4) ∧ w (step j + 6) ≤ 10000) ∧
      (b (step j) = 2 → w (step j + 6) ≤ 10000)) ∧
    (b (o + 2) < b (o + 1) ∨ b o ≤ b (o + 2) → b (o + 3) = 1) ∧
    (b (o + 3) = 0 → ∃ j, b (o + 1) ≤ j ∧ j ≤ b (o + 2) ∧
      (b (step j) = 0 ∨ b (step j) = 4 ∨
        ((b (step j) = 1 ∨ b (step j) = 2) ∧ 0 < w (step j + 6))))

/-- Every table of the STAGED bank by its own rules (R9, R28, R45, R67, R83, R106, R107, R145). -/
def Sys2Proof.Machine.State.stagedInRange (s : State) (t : Table) : Prop :=
  let b (off : Nat) : Nat := (s.tableByte .staged t off).toNat
  let w (off : Nat) : Nat := s.tableWord .staged t off
  match t with
  | .general => GeneralInRange b w
  | .codes => CodesInRange w
  | .profiles => ∀ i, i < 64 → b i ≤ 32
  | .zones => ZonesInRange b w
  | .derate => ∀ i, i < 8 → b (2 * i) ≤ 100 ∧ b (2 * i + 1) ≤ 1
  | .responses => ResponsesInRange b w

/-- A field of a table under validation: the `bits` bits from bit `low` on of the number in `bytes` bytes at
`off`, most significant byte first, and the value that validation gives it. -/
structure Sys2Proof.Machine.TableField where
  off : Nat
  bytes : Nat
  low : Nat
  bits : Nat
  value : Nat

/-- A field of one byte. -/
def Sys2Proof.Machine.TableField.byte (off value : Nat) : TableField := ⟨off, 1, 0, 8, value⟩

/-- A field of two bytes. -/
def Sys2Proof.Machine.TableField.word (off value : Nat) : TableField := ⟨off, 2, 0, 16, value⟩

/-- What a field holds in a table's bytes. -/
def Sys2Proof.Machine.TableField.inBytes (f : TableField) (b : Nat → Nat) : Nat :=
  bitsAt f.low f.bits (if f.bytes = 2 then 256 * b f.off + b (f.off + 1) else b f.off)

/-- Whether bit `k` of the byte at `i` belongs to a field. -/
def Sys2Proof.Machine.TableField.covers (f : TableField) (i k : Nat) : Prop :=
  ∃ p, p < f.bytes ∧ i = f.off + p ∧ f.low ≤ 8 * (f.bytes - 1 - p) + k ∧
    8 * (f.bytes - 1 - p) + k < f.low + f.bits

/-- A table is validated by its fields: each takes its value, the clamp count is the number of those whose
value differs from what was written, and no other bit of the table changes. -/
def Sys2Proof.Machine.FieldsAreValidated (l : List TableField) (size : Nat) (b b' : Nat → Nat) (n : Nat) :
    Prop :=
  (∀ f ∈ l, f.inBytes b' = f.value) ∧ n = (l.filter fun f => f.inBytes b != f.value).length ∧
  ∀ i k, i < size → k < 8 → (∀ f ∈ l, ¬ f.covers i k) → (b' i).testBit k = (b i).testBit k

/-- The nearest number of a range. -/
def Sys2Proof.Machine.nearest (lo hi n : Nat) : Nat := max lo (min n hi)

/-- The number of a named value; one that names none takes the default, numbered 0. -/
def Sys2Proof.Machine.orDefault (last n : Nat) : Nat := if n ≤ last then n else 0

/-- The scalar parameters of GENERAL: each that is in range stands, and any other takes the nearest bound; the
code length takes the nearest of its three values, the larger where it is midway, the telemetry interval may
be 0, and a rain-return flag that names neither value becomes off (R145, Table 8-2). -/
def Sys2Proof.Machine.scalarFields (b w : Nat → Nat) : List TableField :=
  [.byte 0 (if b 0 ≤ 23 then 16 else if b 0 ≤ 47 then 32 else 64), .byte 1 (nearest 0 15 (b 1)),
    .byte 6 (nearest 5 200 (b 6)), .byte 7 (nearest 1 20 (b 7)), .byte 36 (orDefault 1 (b 36)),
    .byte 37 (nearest 1 15 (b 37)), .word 48 (if w 48 = 0 then 0 else nearest 10 10000 (w 48))] ++
  ([(2, 5, 1000), (4, 20, 2000), (8, 0, 2000), (10, 0, 2000), (12, 0, 5000), (14, 0, 30000),
    (16, 0, 30000), (18, 0, 5000), (20, 0, 5000), (22, 0, 2000), (24, 0, 1000), (26, 0, 450),
    (28, 0, 5000), (30, 0, 10000), (34, 0, 60000), (38, 0, 60000), (40, 100, 5000), (42, 0, 1000),
    (44, 0, 10000), (46, 0, 60000)] : List (Nat × Nat × Nat)).map
    fun f => .word f.1 (nearest f.2.1 f.2.2 (w f.1))

/-- The fields of a sense pin of GENERAL, the lower-numbered ones validated in `b'`: a role or an active level
that names none takes its default, GENERAL or HIGH; a mode that names none, that the role does not allow, or
that would make a second working pin of a tilt role becomes OFF; and the parameter is brought into the range
of the mode (R45). -/
def Sys2Proof.Machine.pinFields (b w b' : Nat → Nat) (p : Nat) : List TableField :=
  let mode := b (64 + 6 * p)
  let role := orDefault 6 (b (65 + 6 * p))
  let allowed := mode ≤ 4 ∧ (1 ≤ role → role ≤ 4 → mode ≤ 1) ∧ (5 ≤ role → mode = 0 ∨ mode = 4) ∧
    (5 ≤ role → ∀ q, q < p → ¬ (b' (64 + 6 * q) = 4 ∧ b' (65 + 6 * q) = role))
  let kept := b' (64 + 6 * p)
  let param (lo hi : Nat) : List TableField := [.word (68 + 6 * p) (nearest lo hi (w (68 + 6 * p)))]
  [.byte (65 + 6 * p) role, .byte (66 + 6 * p) (orDefault 1 (b (66 + 6 * p))),
    .byte (64 + 6 * p) (if allowed then mode else 0)] ++
  (if kept = 1 then param 1 255 else if kept = 2 then param 10 10000
    else if kept = 4 then param 10 1000 else [])

/-- The kind of an address of the node table, the lower addresses validated in `b'`: a kind that names none,
or that would fit one wheel side more than twice or a blade or power node more than once, becomes NONE
(R83). -/
def Sys2Proof.Machine.nodeField (b b' : Nat → Nat) (a : Nat) : TableField :=
  let k := b (50 + a)
  let fitted := ((List.range a).filter fun m => b' (50 + m) == k).length
  .byte (50 + a) (if 4 < k ∨ (1 ≤ k ∧ k ≤ 2 ∧ 2 ≤ fitted) ∨ (3 ≤ k ∧ 1 ≤ fitted) then 0 else k)

/-- The fields of a code: K_max, then K_min below it, P_need and T_pass (R9). -/
def Sys2Proof.Machine.codeFields (w : Nat → Nat) (i : Nat) : List TableField :=
  let x := w (16 * i + 8)
  let y := w (16 * i + 10)
  let kMax := nearest 1 63 (bitsAt 8 6 x)
  [⟨16 * i + 8, 2, 8, 6, kMax⟩, ⟨16 * i + 8, 2, 0, 6, nearest 1 kMax (bitsAt 0 6 x)⟩,
    ⟨16 * i + 10, 2, 12, 4, min (nearest 1 15 (bitsAt 12 4 y)) kMax⟩,
    ⟨16 * i + 10, 2, 0, 11, nearest 1 2047 (bitsAt 0 11 y)⟩]

/-- The fields of a zone slot by its kind: a kind or a guide's inside side that names none becomes DISABLED or
LEFT_INSIDE, a slot's own member of its passage mask is cleared, and every number is brought into its range
(R28). -/
def Sys2Proof.Machine.slotFields (b w : Nat → Nat) (i : Nat) : List TableField :=
  let o := 32 * i
  let byte (off lo hi : Nat) : TableField := .byte (o + off) (nearest lo hi (b (o + off)))
  let word (off hi : Nat) : TableField := .word (o + off) (nearest 0 hi (w (o + off)))
  [.byte o (orDefault 4 (b o)), byte 1 0 7, byte 2 1 15, byte 3 1 255] ++
  match b o with
  | 1 => [word 4 2000, word 6 1000, word 10 5000, word 12 450, word 14 2047, byte 16 0 100,
    ⟨o + 17, 1, i, 1, 0⟩]
  | 3 => [word 4 2000, word 6 1000, .byte (o + 8) (orDefault 1 (b (o + 8)))]
  | 4 => [word 4 2000, word 6 2047, byte 8 1 120, byte 9 0 3]
  | _ => []

/-- A signed number of two bytes brought into -2000..2000. -/
def Sys2Proof.Machine.speedField (w : Nat → Nat) (off : Nat) : TableField :=
  .word off (max (-2000) (min (sgn16 (w off)) 2000) % 65536).toNat

/-- The fields of a sequence, its steps validated in `b'`: the step count, the two ends of the repeat block,
each step that the count takes in, by its kind, and the repeat count, which becomes 1 where no block is in
effect, or where the block would repeat without end and take no time (R107). -/
def Sys2Proof.Machine.sequenceFields (b w b' w' : Nat → Nat) (q : Nat) : List TableField :=
  let o := 32 + 68 * q
  let at' (j : Nat) : Nat := o + 4 + 8 * j
  let count := nearest 1 8 (b o)
  let first := nearest 0 7 (b (o + 1))
  let last := nearest 0 7 (b (o + 2))
  let time (j : Nat) : TableField := .word (at' j + 6) (nearest 0 10000 (w (at' j + 6)))
  let rests (j : Nat) : Prop := b' (at' j) = 0 ∨ b' (at' j) = 4 ∨
    ((b' (at' j) = 1 ∨ b' (at' j) = 2) ∧ 0 < w' (at' j + 6))
  let endless := b (o + 3) = 0 ∧ ∀ j, j < 8 → first ≤ j → j ≤ last → ¬ rests j
  [.byte o count, .byte (o + 1) first, .byte (o + 2) last,
    .byte (o + 3) (if last < first ∨ count ≤ last ∨ endless then 1 else b (o + 3))] ++
  (List.range count).flatMap fun j =>
    .byte (at' j) (orDefault 4 (b (at' j))) ::
      match b (at' j) with
      | 1 => [speedField w (at' j + 2), speedField w (at' j + 4), time j]
      | 2 => [time j]
      | _ => []

/-- What the validation of a table makes of its bytes `b`, field by field, and the clamp count: a field in
range is kept, one out of range goes to its nearest bound or its named default, and each such change counts
(R9, R28, R45, R67, R83, R106, R107, R145, R147). -/
def Sys2Proof.Machine.TableIsValidated (t : Table) (b b' : Nat → Nat) (n : Nat) : Prop :=
  let w (off : Nat) : Nat := 256 * b off + b (off + 1)
  let w' (off : Nat) : Nat := 256 * b' off + b' (off + 1)
  let fields : List TableField :=
    match t with
    | .general => scalarFields b w ++ (List.range 8).flatMap (pinFields b w b') ++
      (List.range 6).map (nodeField b b')
    | .codes => (List.range 8).flatMap (codeFields w)
    | .profiles => (List.range 64).map fun i => .byte i (nearest 0 32 (b i))
    | .zones => (List.range 4).flatMap (slotFields b w)
    | .derate => (List.range 8).flatMap fun i =>
      [.byte (2 * i) (nearest 0 100 (b (2 * i))), .byte (2 * i + 1) (orDefault 1 (b (2 * i + 1)))]
    | .responses => ((List.range 7).flatMap fun i =>
      [.byte (2 * i) (nearest 0 2 (b (2 * i))), .byte (2 * i + 1) (nearest 0 15 (b (2 * i + 1)))]) ++
      (List.range 16).flatMap (sequenceFields b w b' w')
  FieldsAreValidated fields t.size b b' n

/-- WRITE_TABLE: the checks in their order; an accepted segment writes its bytes into the STAGED table and
nowhere else; a load that ends short is INCOMPLETE; a complete one is validated over the bytes written, by
the field rules of its table, field by field, and then marked and answered with its clamp count, the number
of the fields that this changed, and its values are in range (R9, R28, R45, R67, R83, R106, R107, R144 to
R147). That an answer gives the bytes received in two bytes for every table is the model's choice (log entry
61, DESIGN CHOICE), and so is that BUSY and BAD_PARAM carry no number (log entry 76, DESIGN CHOICE). -/
def Obligations.SegmentIsLoaded : Prop :=
  ∀ (dt : Nat) (s : State), s.resetHeld = false →
    let u := arrive dt s
    let p := u.headParams
    let data := p.drop 4
    let off := wordAt p 2
    let got := off + data.length
    let begins := byteAt p 1 = 0 ∨ byteAt p 1 = 3
    let ends := byteAt p 1 = 2 ∨ byteAt p 1 = 3
    let named := Table.ofNat? (byteAt p 0) ≠ none ∧ byteAt p 1 ≤ 3 ∧ 1 ≤ data.length ∧ data.length ≤ 64
    let refused (b : PerSix StagedTable) : State := answer .badParam [] { u with
      tbs := { u.tbs with
        staged := b
        cnt := { u.tbs.cnt with segmentsRefused := bump u.tbs.cnt.segmentsRefused } } }
    headIs 5 u = true →
    (u.tbs.swapPending = true → exec (.writeTable dt) s = .next (answer .busy [] u)) ∧
    (u.tbs.swapPending = false → ¬ named →
      exec (.writeTable dt) s = .next (refused u.tbs.staged)) ∧
    ∀ t, u.tbs.swapPending = false → named → Table.ofNat? (byteAt p 0) = some t →
      let fits :=
        (begins → off = 0) ∧ (¬ begins → (u.staged t).load = some off) ∧ got ≤ t.size ∧
          (ends ∨ data.length % 16 = 0)
      (¬ fits →
        exec (.writeTable dt) s =
          .next (refused (u.tbs.staged.set t.ix { u.staged t with load := none }))) ∧
      (fits →
        let written := Memory.writeBytes u.mem (u.tableAddr .staged t off) data
        let checked := checkTable t ⟨written, u.tableAddr .staged t 0, 0⟩
        let k := u.tbs.cnt
        let staged (x : StagedTable) : PerSix StagedTable := u.tbs.staged.set t.ix x
        ∃ v code d,
        exec (.writeTable dt) s = .next (answer code d v) ∧
        v = { u with mem := v.mem, tbs := v.tbs } ∧
        (∀ i, Memory.read written (u.tableAddr .staged t i) =
          if off ≤ i ∧ i < got then data.getD (i - off) 0#8 else u.tableByte .staged t i) ∧
        (∀ b tab i, i < tab.size → b = .active ∨ tab ≠ t →
          v.tableByte b tab i = u.tableByte b tab i) ∧
        (¬ (ends ∧ got = t.size) → v.mem = written) ∧
        (¬ ends → code = .ok ∧ d = be16 got ∧ v.tbs = { u.tbs with
          staged := staged { u.staged t with
            mark := if begins then false else (u.staged t).mark
            load := some got } }) ∧
        (ends → got ≠ t.size → code = .incomplete ∧ d = be16 got ∧ v.tbs = { u.tbs with
          staged := staged { u.staged t with
            mark := if begins then false else (u.staged t).mark
            load := none }
          cnt := { k with loadsIncomplete := bump k.loadsIncomplete } }) ∧
        (ends → got = t.size →
          code = .ok ∧ d = be16 checked.n ∧ v.mem = checked.mem ∧ v.tbs = { u.tbs with
            staged := staged ⟨true, none, checked.n⟩
            cnt := { k with loadsCompleted := bump k.loadsCompleted } } ∧
          v.stagedInRange t ∧
          TableIsValidated t (fun i => (Memory.read written (u.tableAddr .staged t i)).toNat)
            (fun i => (v.tableByte .staged t i).toNat) checked.n))

/-- READ_TABLE answers with the bytes of the table as the bank stores them, and changes nothing;
parameters out of their sets or ranges are answered BAD_PARAM (R148), without data, which is the model's
choice (log entry 76, DESIGN CHOICE). -/
def Obligations.TableIsRead : Prop :=
  ∀ (dt : Nat) (s : State), s.resetHeld = false →
    let u := arrive dt s
    let p := u.headParams
    let off := wordAt p 2
    let n := byteAt p 4
    headIs 6 u = true →
    (∀ b t, (b = .active ∧ byteAt p 0 = 0) ∨ (b = .staged ∧ byteAt p 0 = 1) →
      Table.ofNat? (byteAt p 1) = some t → 5 ≤ p.length → 1 ≤ n → n ≤ 64 → off + n ≤ t.size →
      exec (.readTable dt) s =
        .next (answer .ok ((List.range n).map fun i => u.tableByte b t (off + i)) u)) ∧
    ((1 < byteAt p 0 ∨ Table.ofNat? (byteAt p 1) = none ∨ p.length < 5 ∨ n = 0 ∨ 64 < n ∨
        ∃ t, Table.ofNat? (byteAt p 1) = some t ∧ t.size < off + n) →
      exec (.readTable dt) s = .next (answer .badParam [] u))

/-- The cross-table validation of the new ACTIVE bank: a slot stays enabled exactly while its code is
enabled, no lower-numbered slot that stays enabled names the same code, and, for a GUIDE or STATION
slot, none has its kind; a refused slot's kind is rewritten to DISABLED; every PERIMETER slot's passage
mask keeps of its four members those that are enabled PERIMETER slots; and no other byte changes (R29,
R175). -/
def Sys2Proof.Machine.SlotsAreValidated : Prop :=
  ∀ s : State,
    let v := crossValidate s
    let byte (x : State) (i : Slot) (off : Nat) : Byte := x.tableByte .active .zones (32 * i.val + off)
    v = { s with mem := v.mem } ∧
    (∀ b tab off, off < tab.size →
      (b = .active → tab = .zones → off % 32 ≠ 0 ∧ off % 32 ≠ 17) →
      v.tableByte b tab off = s.tableByte b tab off) ∧
    (∀ i, v.enabled i = true ↔
      s.enabled i = true ∧ s.codeEnabled (s.slotCode i) = true ∧
        ∀ j, j < i → v.enabled j = true →
          s.slotCode j ≠ s.slotCode i ∧
            (s.slotKind i = .guide ∨ s.slotKind i = .station → s.slotKind j ≠ s.slotKind i)) ∧
    (∀ i, byte v i 0 =
      if s.enabled i = true ∧ v.enabled i = false then 0#8 else byte s i 0) ∧
    (∀ i, v.slotKind i ≠ .perimeter → byte v i 17 = byte s i 17) ∧
    ∀ i, v.slotKind i = .perimeter →
      (∀ j, v.passage i j = true ↔ s.passage i j = true ∧ v.slotKind j = .perimeter) ∧
      bitsAt 4 4 (byte v i 17).toNat = bitsAt 4 4 (byte s i 17).toNat

/-- The Drive Link Controller takes a new node table (R103): a record is kept where the kind is unchanged,
begun afresh where a node of another kind is fitted and dropped where none is; every entry, those behind the
zeros of a DRIVE channel reset among them (log entry 45), and held relay command for an address whose kind
changed is removed, each counted; the transaction in flight is marked; a pending read to an address that is
NONE now is answered NO_NODE, and one in flight is marked to be. Where the address of the POWER node
changed, the Dock Controller begins its contact afresh (R127; log entries 27 and 41). -/
def Sys2Proof.Machine.DlcTakesTheBank : Prop :=
  ∀ (before : PerSix NodeKind) (powerBefore : Option Node) (s : State),
    let d := s.dlc
    let stays (n : Node) : Prop := before.get n = s.nodeKind n
    let kept := d.queue.filter fun e => before.get e.node == s.nodeKind e.node
    let keptBehind := d.behind.filter fun e => before.get e.node == s.nodeKind e.node
    ∃ (x : Dlc) (held : Option (Node × Bool)) (gone : Nat) (w : State),
      (∀ n c, d.relayHeld = some (n, c) →
        (stays n → held = d.relayHeld ∧ gone = 0) ∧ (¬ stays n → held = none ∧ gone = 1)) ∧
      (d.relayHeld = none → held = none ∧ gone = 0) ∧
      (∀ n,
        (stays n → x.recs.get n = d.recs.get n) ∧
        (¬ stays n → s.nodeKind n = .noNode → x.recs.get n = none) ∧
        (¬ stays n → s.nodeKind n ≠ .noNode → x.recs.get n = some
          ⟨.unknown, none, s.pollInterval, none, ⟨.stopped, 0, 0⟩, ⟨.stopped, 0, 0⟩,
            ⟨.stopped, 0, 0⟩⟩)) ∧
      LeavesQueue { d with
        recs := x.recs
        tx := x.tx
        behind := keptBehind
        relayHeld := held
        cnt := { d.cnt with
          discards := bumpBy
            (d.queue.length - kept.length + (d.behind.length - keptBehind.length) + gone)
            d.cnt.discards } } kept x ∧
      (d.tx = none → x.tx = none) ∧
      (∀ t, d.tx = some t →
        (stays t.node → x.tx = some t) ∧ (¬ stays t.node → x.tx = some { t with renewed := true })) ∧
      (∀ r, d.read = some r → s.nodeKind r.node = .noNode →
        (r.inFlight = true → w = { s with dlc := { x with read := some { r with gone := true } } }) ∧
        (r.inFlight = false → w = answerRead .noNode [] { s with
          dlc := { x with
            read := none
            cnt := { x.cnt with passRefused := bump x.cnt.passRefused } } })) ∧
      (d.read = none ∨ (∃ r, d.read = some r ∧ s.nodeKind r.node ≠ .noNode) →
        w = { s with dlc := { x with read := d.read } }) ∧
      (s.powerNode = powerBefore → dlcSwap before powerBefore s = w) ∧
      (s.powerNode ≠ powerBefore → dlcSwap before powerBefore s = { w with
        dkc := { w.dkc with
          present := 0
          absent := 0
          established := false
          batteryT := { w.dkc.batteryT with st := .stopped } } })

/-- The Motion Gate takes the new bank (R65, R82): a command whose age has passed the new limit goes
stale, an address newly fitted with a wheel or blade kind is posted a zero, counted, one that left those
kinds is forgotten, and then the gate makes its evaluation, whose posts follow the zeros of a DRIVE channel
reset where these brought the swap (R77; log entry 45). -/
def Sys2Proof.Machine.GateTakesTheBank : Prop :=
  ∀ (before : PerSix NodeKind) (s : State),
    let m := s.mgt
    let origin (x : State) : Origin := x.mgt.source.origin
    let posted (x : State) (n : Node) (v : Int) : PerSix Int := x.mgt.posted.set n v
    let fitted (x : State) (n : Node) : State :=
      if s.nodeKind n = before.get n then x
      else
        match s.stillAt n with
        | some zero =>
          let y := postSet n zero (origin x) x
          { y with
            mgt := { y.mgt with
              posted := posted y n 0
              cnt := { y.mgt.cnt with posts := bump y.mgt.cnt.posts } } }
        | none => { x with mgt := { x.mgt with posted := posted x n 0 } }
    ∃ x : State,
      (∀ c, m.cmd = some c → m.age.st = .running → s.ageLimit ≤ m.age.elapsed →
        x = setFlag .cmdStale [u8 c.seq] { s with
          mgt := { m with
            cmd := some { c with mode := .stop }
            age := { m.age with st := .expired }
            cnt := { m.cnt with stale := bump m.cnt.stale } } }) ∧
      (m.cmd = none ∨ m.age.st ≠ .running ∨ m.age.elapsed < s.ageLimit → x = s) ∧
      gateSwap false before s = evaluate ([0, 1, 2, 3, 4, 5].foldl fitted x) ∧
      gateSwap true before s = evaluateBehind ([0, 1, 2, 3, 4, 5].foldl fitted x)

/-- Stage 5 of a swap: the lanes and coils begin again and the ring is empty (R25); every enabled slot
is PENDING, no zone is active and the gate sees none (R43); a pin unit whose configuration changed begins
again, and its axis with it, unless the settle runs (R46; log entry 24); the drive link, the gate and the
Dock Controller take the bank; the telemetry timer begins again (R163); and the Sense Pin Unit hands on
the rain condition and tests the slope (R54, R58; log entries 7 and 44). The gate makes the one evaluation of
R82 and none of its own for the lift and the slope (log entry 72, DESIGN CHOICE), and the rain timer is judged
only where the rain condition changed, not where the rain-return flag did (log entry 68, DEDUCED). -/
def Sys2Proof.Machine.BankIsHandedOn : Prop :=
  ∀ (behind : Bool) (before : PerSix NodeKind) (powerBefore : Option Node) (s : State),
    let changed (p : Pin) : Prop := (s.spu.units.get p).cfg ≠ s.pinCfg p
    ∃ (x z g r : State),
      x = { s with wdc := x.wdc, zcu := x.zcu, mgt := { s.mgt with zone := none, prox := 0 }
                   spu := x.spu } ∧
      (∀ i c, (x.wdc.lanes.get i).get c = ⟨none, none, 0, false, false⟩) ∧
      (∀ c, x.wdc.coils.get c = { s.wdc.coils.get c with
        expect := none, silent := false, timer := ⟨.running, 0⟩ }) ∧
      x.wdc.ring = [] ∧ x.wdc.inCorr = none ∧ x.wdc.malformed = s.wdc.malformed ∧
      (∀ i, x.zcu.loops.get i = (if s.enabled i = true then .pending else .disabled) ∧
        (∀ c, (x.zcu.mirror.get i).get c = ⟨.pending, 0⟩) ∧
        x.zcu.entryArm.get i = (s.slotKind i == .keepout)) ∧
      x.zcu.active = none ∧ x.zcu.exitArm = false ∧ x.zcu.wireLostArm = true ∧
      x.zcu.outTimer = ⟨.stopped, 0⟩ ∧ x.zcu.prox = 0 ∧ x.zcu.station = 0 ∧
      x.zcu.frozen = false ∧ x.zcu.cnt = s.zcu.cnt ∧
      (s.spu.settle ≠ none → x.spu = s.spu) ∧
      (s.spu.settle = none →
        x.spu = { s.spu with units := x.spu.units, pitch := x.spu.pitch, roll := x.spu.roll } ∧
        (∀ p, ¬ changed p → x.spu.units.get p = s.spu.units.get p) ∧
        (∀ p, changed p →
          let y := x.spu.units.get p
          let u := s.spu.units.get p
          y.cfg = s.pinCfg p ∧ y.measuring = true ∧ y.result = none ∧ y.ready = false ∧
          y.overrun = false ∧ y.fault = false ∧ y.deb = none ∧ y.count = 0 ∧ y.window = 0 ∧
          y.pulse = none ∧ y.period = none ∧ y.high = none ∧ y.dutyTimer = 0 ∧
          y.results = u.results ∧ y.overruns = u.overruns ∧ y.faults = u.faults ∧
          y.debTimer = (if y.cfg.mode = .level then some 0 else none) ∧
          y.cand = s.spu.levels.get p) ∧
        (∀ p, (x.spu.units.get p).tilts .tiltPitch = true → changed p →
          (∀ q, q < p → (x.spu.units.get q).tilts .tiltPitch = false) →
          x.spu.pitch = ⟨.pending, 0⟩) ∧
        (∀ p, (x.spu.units.get p).tilts .tiltRoll = true → changed p →
          (∀ q, q < p → (x.spu.units.get q).tilts .tiltRoll = false) →
          x.spu.roll = ⟨.pending, 0⟩) ∧
        (∀ p, (x.spu.units.get p).tilts .tiltPitch = true → ¬ changed p →
          (∀ q, q < p → (x.spu.units.get q).tilts .tiltPitch = false) → x.spu.pitch = s.spu.pitch) ∧
        (∀ p, (x.spu.units.get p).tilts .tiltRoll = true → ¬ changed p →
          (∀ q, q < p → (x.spu.units.get q).tilts .tiltRoll = false) → x.spu.roll = s.spu.roll) ∧
        ((∀ p, (x.spu.units.get p).tilts .tiltPitch = false) → x.spu.pitch = ⟨.absent, 0⟩) ∧
        ((∀ p, (x.spu.units.get p).tilts .tiltRoll = false) → x.spu.roll = ⟨.absent, 0⟩)) ∧
      z = zoneToDock true true (gateSwap behind before (dlcSwap before powerBefore x)) ∧
      g = (if z.rainCond = z.dkc.rain then z else dockHandOn z (takeRain z.rainCond z)) ∧
      r = tiltTest g ∧
      handBank behind before powerBefore s =
        (let w :=
          if r.spu.tilt.st = .running ∧ r.tiltPersistence ≤ r.spu.tilt.elapsed then
            raiseFixed .tiltOver none { r with
              spu := { r.spu with tilt := { r.spu.tilt with st := .spent } } }
          else r
         { w with
          nli := { w.nli with
            telemT :=
              if w.telemetryInterval = 0 then ⟨.stopped, 0, 0⟩
              else ⟨.running, 0, w.telemetryInterval⟩ } })

/-- Whether a pending swap may be taken: every last posted value is 0, no response context is held, the dock
state is UNDOCKED, DOCKED or DOCK_FAULT, and no test runs (R78, R150). -/
def Sys2Proof.Machine.State.swapMayGo (s : State) : Prop :=
  (∀ n, (s.nodeKind n).isWheel = true ∨ s.nodeKind n = .blade → s.mgt.posted.get n = 0) ∧
    (s.rse.ctx1 = none ∧ s.rse.ctx2 = none ∧ s.rse.ctx3 = none) ∧
    (s.dkc.dock = .undocked ∨ s.dkc.dock = .docked ∨ s.dkc.dock = .dockFault) ∧
    s.testRunning = false

/-- The stages of a swap that leads from `s` to `v`, with the banks exchanged in `x` (R29, R151); `behind`
where the zeros of a DRIVE channel reset brought it, so that the posts of the gate follow them (R77; log
entry 45). -/
def Sys2Proof.Machine.SwapRuns (behind : Bool) (s x v : State) : Prop :=
  let b := s.tbs
  let copy (off : Nat) : Byte × Byte := b.slotCopy.get ⟨off / 32 % 4, by omega⟩
  let disabled := (slots.filter fun i => x.enabled i && !(crossValidate x).enabled i).length
  (∀ tab off, off < tab.size →
    x.tableByte .active tab off = s.tableByte .staged tab off ∧
    x.tableByte .staged tab off =
      if tab = .zones ∧ off % 32 = 0 then (copy off).1
      else if tab = .zones ∧ off % 32 = 17 then (copy off).2
      else s.tableByte .active tab off) ∧
  x.tbs = { b with
    activeHigh := !b.activeHigh
    staged := PerSix.all ⟨true, none, 0⟩
    slotCopy := PerSlot.of x.slotBytes
    swapPending := false
    swapT := { b.swapT with st := .stopped }
    cnt := { b.cnt with swapsTaken := bump b.cnt.swapsTaken } } ∧
  x = { s with mem := x.mem, tbs := x.tbs } ∧
  v = arbitrate (setFlag .swapDone [u8 disabled]
    (handBank behind (PerSix.of s.nodeKind) s.powerNode (crossValidate x))) ∧
  v.mem = (crossValidate x).mem ∧ v.tbs = x.tbs ∧
  (s.nli.flags.length = 19 →
    v.flag .swapDone ≠ none ∧
    (s.flag .swapDone = none → v.flag .swapDone = some [u8 disabled])) ∧
  v.zcu.active = none ∧ v.wdc.ring = [] ∧ v.wdc.inCorr = none

/-- SWAP_TABLES is refused, incomplete or accepted, and accepted with a swap timeout of 0 it leaves the
swap timer as after reset (log entries 31 and 62). A pending swap is taken at the first moment at which the
safe point holds and no test runs: whatever the next command is, the swap comes before it and before the
command's `dt` passes, so that the command meets the part after the swap and none meets a swap that is due;
SWAP_TAKE is that alone, and no expiry of the swap timer follows (R150; log entry 79). The swap puts the slots
of the outgoing table back from the slot copy, exchanges the banks, validates the slots of the new ACTIVE
bank and hands it to every block, SWAP_DONE tells how many slots that disabled, and the drive link
arbitrates; and where the swap timer reaches its limit first, the swap is dropped (R25, R29, R43, R46, R82,
R103, R149 to R152, R163). The one safe point that is found within a step is that of the zeros of a DRIVE
channel reset (R154), which ChannelIsReset states; that another which would hold only within one step takes no
swap is the model's choice (log entry 78, DESIGN CHOICE), and so is that BUSY and ACCEPTED carry no set of
tables (log entry 76, DESIGN CHOICE). -/
def Obligations.BanksAreSwapped : Prop :=
  SlotsAreValidated ∧ DlcTakesTheBank ∧ GateTakesTheBank ∧ BankIsHandedOn ∧
  ∀ (dt : Nat) (s : State), s.resetHeld = false →
    let u := arrive dt s
    let b := u.tbs
    let tables : List Table := [.general, .codes, .profiles, .zones, .derate, .responses]
    (headIs 7 u = true →
      (b.swapPending = true → exec (.swapTables dt) s = .next (answer .busy [] u)) ∧
      (b.swapPending = false → (∃ t, (u.staged t).mark = false) →
        exec (.swapTables dt) s =
          .next (answer .incomplete [maskByte (tables.map fun t => !(u.staged t).mark)] { u with
            tbs := { b with cnt := { b.cnt with swapsRefused := bump b.cnt.swapsRefused } } })) ∧
      (b.swapPending = false → (∀ t, (u.staged t).mark = true) →
        exec (.swapTables dt) s = .next (answer .accepted [] { u with
          tbs := { b with
            swapPending := true
            swapT :=
              if u.swapTimeout = 0 then ⟨.stopped, 0, 0⟩ else ⟨.running, 0, u.swapTimeout⟩ } }))) ∧
    (s.tbs.swapPending = true → s.swapMayGo → ∃ x v : State,
      SwapRuns false s x v ∧ u = advance dt v ∧ exec (.swapTake dt) s = .next (advance dt v) ∧
      ∀ c, exec c s = exec c v) ∧
    (¬ (s.tbs.swapPending = true ∧ s.swapMayGo) →
      u = advance dt s ∧ exec (.swapTake dt) s = .next u) ∧
    ¬ (b.swapPending = true ∧ u.swapMayGo) ∧
    (b.swapPending = true → b.swapT.st = .running → b.swapT.limit ≤ b.swapT.elapsed →
      exec (.swapTimerExpiry dt) s =
        .next (setFlag .swapTimeout
          [maskByte [!u.postedZero, u.ctxHeld, !u.dkc.dock.safe, u.testRunning]] { u with
          tbs := { b with
            swapPending := false
            swapT := { b.swapT with st := .stopped }
            cnt := { b.cnt with swapsTimedOut := bump b.cnt.swapsTimedOut } } }))

/-! ### Requests that read, tests and channel resets -/

/-- The ZONE, SENSE and GATE sections (R44, R59, R79; log entries 17, 43, 55, 56, 65 and 73). -/
def Sys2Proof.Machine.MotionSections : Prop :=
  ∀ s : State,
    let slopeNow := max s.spu.pitch.angle.natAbs s.spu.roll.angle.natAbs
    let axis (a : Axis) : List Byte :=
      signedBytes a.angle ++ [numberIn [.absent, .pending, .valid, .fault] a.st]
    let m := s.mgt
    let mapped (n : Node) : Bool := (s.stillAt n).isSome
    s.zoneSection =
      ([0, 1, 2, 3] : List Slot).flatMap (fun i =>
        [loopNumber (s.zcu.loops.get i), u8 (if s.enabled i = true then s.zoneNumber i else 0)]) ++
      orNamed (s.zcu.active.map Fin.val) ++
      [u8 (match s.zcu.active with | some i => s.zoneNumber i | none => 0)] ++
      twoBytes s.zcu.prox ++ twoBytes s.zcu.station ++
      timerIn [.stopped, .running, .paused, .held, .spent] s.zcu.outTimer.st s.zcu.outTimer.elapsed ++
      [yesByte s.zcu.frozen] ∧
    s.senseSection =
      axis s.spu.pitch ++ axis s.spu.roll ++ twoBytes slopeNow ++
      [yesByte s.tiltUnknown, yesByte (decide (s.slopeMax < slopeNow))] ++
      timerIn [.stopped, .running, .spent] s.spu.tilt.st s.spu.tilt.elapsed ++
      [yesByte s.liftCond, yesByte s.rainCond] ++
      ([0, 1, 2, 3, 4, 5, 6, 7] : List Pin).map (fun p =>
        let x := s.spu.units.get p
        yesByte (decide (x.cfg.mode = .level ∧
          (x.cfg.role = .bumpFront ∨ x.cfg.role = .bumpRear ∨ x.cfg.role = .lift ∨
            x.cfg.role = .rain) ∧ x.deb = some x.cfg.active))) ∧
    s.gateSection =
      [numberIn [.nav, .dock, .resp1, .resp2, .resp3] m.source] ++
      (match m.cmd with
      | some c =>
        [0#8, u8 c.seq, numberIn [.stop, .drive] c.mode] ++ signedBytes c.left ++
          signedBytes c.right ++ twoBytes c.blade
      | none => [1#8, 0#8, 0#8, 0#8, 0#8, 0#8, 0#8, 0#8, 0#8]) ++
      timerIn [.stopped, .running, .expired] m.age.st m.age.elapsed ++
      [yesByte (decide (m.age.st = .expired)), u8 m.band, u8 m.ps, u8 m.pn] ++
      twoBytes m.fb ++ twoBytes m.rb ++ twoBytes m.feff ++ twoBytes m.reff ++
      signedBytes m.outL ++ signedBytes m.outR ++ signedBytes m.outBlade ++
      ([0, 1, 2, 3, 4, 5] : List Node).flatMap (fun n =>
        signedBytes (if mapped n = true then m.posted.get n else 0)) ++
      [yesByte s.dEchoRunning,
        yesByte (decide (∀ n : Node, mapped n = true → m.posted.get n = 0))]

/-- The DRIVE section and the NODE section of a fitted node (R84, R102; log entries 17, 42, 53, 65 and
70). -/
def Sys2Proof.Machine.DriveSections : Prop :=
  (∀ s : State,
    let d := s.dlc
    let queued (is : PostValue → Bool) : Byte := u8 (d.queue.filter fun e => is e.val).length
    s.driveSection =
      [u8 d.queue.length,
        queued fun | .wheel _ => true | _ => false,
        queued fun | .blade _ => true | _ => false,
        queued fun | .relay _ => true | _ => false,
        queued fun | .param _ => true | _ => false,
        yesByte d.relayHeld.isSome] ++
      twoBytes (min d.flush 65535) ++
      (match d.tx with
      | some t =>
        [1#8, u8 (t.node.val + 1),
          (match t.carried with
          | .post (.param _) => 3#8
          | .post _ => 1#8
          | .poll => 2#8
          | .read _ => 4#8
          | .echo _ => 5#8),
          yesByte t.second]
      | none => [0#8, 0#8, 0#8, 0#8]) ++
      [yesByte (match d.read with | some r => !r.inFlight | none => false)]) ∧
  ∀ (kind : NodeKind) (r : NodeRec),
    let spent (t : LimitTimer) : List Byte := timerIn [.stopped, .running, .spent] t.st t.elapsed
    nodeBytes kind r =
      [numberIn [.unknown, .responsive, .unresponsive] r.st] ++
      orNamed16 (r.lastAck.map fun v =>
        match v with
        | .wheel x => x
        | .blade x => x
        | .relay close => if close = true then 1 else 0
        | .param _ => 0) ++
      twoBytes (r.age / 1000) ++
      (match r.telem with
      | some (.wheel v c) => signedBytes v ++ twoBytes c
      | some (.blade v c) => twoBytes v ++ twoBytes c
      | some (.power mv contact closed charge button) =>
        twoBytes mv ++ [yesByte contact, yesByte closed] ++ twoBytes charge ++ [u8 button]
      | none => if kind = .power then [0#8, 0#8, 0#8, 0#8, 0#8, 0#8, 0#8] else [0#8, 0#8, 0#8, 0#8]) ++
      (match kind with
      | .wheelLeft => spent r.slip ++ spent r.stall
      | .wheelRight => spent r.slip ++ spent r.stall
      | .blade => spent r.jam
      | _ => [])

/-- The RESPONSE and DOCK sections (R124, R142; log entries 17, 51 and 60). -/
def Sys2Proof.Machine.ConductSections : Prop :=
  ∀ s : State,
    let r := s.rse
    let k := s.dkc
    let held (t : Timer) : List Byte := timerIn [.stopped, .running, .held] t.st t.elapsed
    let spent (t : LimitTimer) : List Byte := timerIn [.stopped, .running, .spent] t.st t.elapsed
    let set5 (a b c d e : Bool) : Byte :=
      u8 ((if a = true then 1 else 0) + (if b = true then 2 else 0) + (if c = true then 4 else 0) +
        (if d = true then 8 else 0) + (if e = true then 16 else 0))
    let level : Option Nat :=
      if r.ctx3 ≠ none then some 3 else if r.ctx2 ≠ none then some 2
      else if r.ctx1 ≠ none then some 1 else none
    let context (n : Nat) (c : Option Ctx) : List Byte :=
      match c with
      | some c =>
        let h := c.hazards
        [u8 n, yesByte (decide (level ≠ some n)),
          numberIn [.perimeterExit, .keepoutEntry, .bumpFront, .bumpRear, .stall, .slip, .bladeJam,
            .lift, .tiltOver, .wireLost, .nodeLost, .outsideLimit] c.trigger] ++
        orNamed c.detail ++
        [set5 h.lift h.tiltOver h.wireLost h.nodeLost h.outsideLimit] ++ orNamed c.seq ++
        [u8 c.step] ++ orNamed16 (c.remaining.map fun us => ((us / 1000 : Nat) : Int)) ++
        [u8 c.repeats, yesByte c.bladeStop] ++ signedBytes c.left ++ signedBytes c.right
      | none => List.replicate 18 0#8
    s.responseSection =
      orNamed level ++ context 1 r.ctx1 ++ context 2 r.ctx2 ++ context 3 r.ctx3 ++
      [yesByte s.liftCond, yesByte s.overSlope, yesByte s.wireLostCond, yesByte s.driveNodeLost,
        yesByte s.outsideCond, yesByte s.stopLine, yesByte r.stopHazard, yesByte r.stopSettle,
        yesByte r.stopTest, dockNumber k.dock] ∧
    s.dockSection =
      [dockNumber k.dock, numberIn [.waitOpen, .reversing] k.phase,
        numberIn [.approach, .start] k.origin, u8 k.retry,
        numberIn [.noReason, .nav, .battery, .rain] k.reason] ++
      (let e := k.approachT.elapsed / 1000
       [numberIn [.stopped, .running, .held] k.approachT.st, u8 (e / 16777216), u8 (e / 65536),
         u8 (e / 256), u8 e]) ++
      held k.relayT ++ held k.motionT ++ spent k.batteryT ++ spent k.rainT ++
      [u8 k.present, u8 k.absent, yesByte k.established] ++ orNamed k.button ++
      signedBytes k.cmdL ++ signedBytes k.cmdR

/-- The STORE and LINK sections (R155, R164; log entries 17, 52, 61 and 63). -/
def Sys2Proof.Machine.LinkSections : Prop :=
  ∀ s : State,
    let b := s.tbs
    let n := s.nli
    s.storeSection =
      ([.general, .codes, .profiles, .zones, .derate, .responses] : List Table).flatMap (fun t =>
        let x := s.staged t
        [yesByte x.mark, yesByte x.load.isSome] ++ twoBytes (x.load.getD 0) ++ twoBytes x.clamps) ++
      [yesByte b.swapPending] ++
      timerIn [.stopped, .running, .spent] b.swapT.st b.swapT.elapsed ++
      [yesByte s.postedZero, yesByte s.ctxHeld, dockNumber s.dkc.dock, yesByte s.testRunning] ∧
    s.linkSection =
      ([(.boundaryResponse, 2), (.obstacleResponse, 2), (.hazard, 2), (.cmdStale, 1), (.slipSeen, 1),
        (.senseFault, 1), (.sampleOverrun, 1), (.postDiscard, 1), (.nodeLostEvent, 1),
        (.returnStarted, 1), (.guideLost, 1), (.dockedEvent, 1), (.dockFaultEvent, 1), (.dockLost, 0),
        (.stationRequest, 1), (.swapDone, 1), (.swapTimeout, 1), (.testDone, 2), (.linkError, 1)] :
          List (EventFlag × Nat)).flatMap (fun e =>
        match s.flag e.1 with
        | some d => 1#8 :: (d ++ List.replicate (e.2 - d.length) 0#8)
        | none => List.replicate (e.2 + 1) 0#8) ++
      [u8 (n.mask.toNat / 65536), u8 (n.mask.toNat / 256), u8 n.mask.toNat,
        u8 s.mrh.queue.length, yesByte s.mrh.outstanding.isSome, u8 n.answers.length,
        u8 n.events.length, yesByte s.stopLine,
        (match s.nRate with | .mbit1 => 1#8 | .mbit2 => 2#8 | .mbit4 => 4#8 | .mbit8 => 8#8),
        (match s.dRate with | .mbit1 => 1#8 | .mbit2 => 2#8)]

/-- A verdict record of eight bytes with an age, FF throughout when absent (11 section 11.1). -/
def Sys2Proof.Machine.verdictRecord (v : Option Verdict) (age : Nat) : List Byte :=
  match v with
  | some v =>
    [numberIn [.lockedIn, .lockedOut, .weakIn, .weakOut, .absent] v.kind, u8 v.periods] ++
      twoBytes v.strength ++ [u8 v.consecutive, u8 v.mismatches, u8 v.endSeq, u8 age]
  | none => List.replicate 8 0xFF#8

/-- The data of READ_VERDICT and the record of TEST_RESULT, byte by byte (R14, R21, R173, 11 section 11.1; log
entries 17 and 65). -/
def Sys2Proof.Machine.LaneAndTestRecords : Prop :=
  (∀ (s : State) (i : Slot) (c : Coil),
    let l := (s.wdc.lanes.get i).get c
    let x := s.wdc.coils.get c
    s.laneData i c =
      [yesByte (s.enabled i), yesByte x.silent,
        (if s.enabled i = true then numberIn [.pending, .inside, .outside, .noClass] (s.laneClass i c)
        else 4#8),
        yesByte l.verdict.isSome] ++
      verdictRecord l.verdict l.burstsSince ++
      (match l.window with
      | some w => [1#8, u8 w.k, u8 w.passes]
      | none => [0#8, 0#8, 0#8]) ++
      orNamed x.expect) ∧
  ∀ s : State,
    let b := s.lbu
    let r := b.record
    s.testData =
      [numberIn [.noTest, .nLinkEcho, .dLinkEcho, .wirePattern] b.kind,
        numberIn [.noStatus, .running, .completed, .aborted] b.status] ++
      (match b.params with
      | .absent => []
      | .nLinkEcho seconds => [u8 seconds] ++ twoBytes r.echoed ++ twoBytes r.echoDropped
      | .dLinkEcho node frames =>
        [u8 (node.val + 1), u8 frames] ++ twoBytes r.sent ++ twoBytes r.matched ++
          twoBytes r.mismatched ++ twoBytes r.timeouts
      | .wirePattern slot coil negative amplitude noise bursts =>
        [u8 slot.val, numberIn [.left, .right] coil, if negative = true then 0xFF#8 else 1#8] ++
          twoBytes amplitude ++ twoBytes noise ++ [u8 bursts] ++ twoBytes r.placed ++
          twoBytes r.lockedIn ++ twoBytes r.lockedOut ++ twoBytes r.weakIn ++ twoBytes r.weakOut ++
          twoBytes r.absent ++ verdictRecord r.last 0)

/-- The counters that READ_COUNTERS gives of each block, as Table 0-1 numbers the blocks and in the order of
the block's own table, a counter kept per coil or per pin once for each (R22, R44, R59, R80, R102, R124, R142,
R155, R164; log entry 17); the MRH and the LBU keep none. -/
def Sys2Proof.Machine.CounterLists : Prop :=
  ∀ s : State,
    let w := s.wdc
    let coils (f : CoilUnit → Nat) : List Nat := [f w.coils.left, f w.coils.right]
    let pins' (f : PinUnit → Nat) : List Nat :=
      ([0, 1, 2, 3, 4, 5, 6, 7] : List Pin).map fun p => f (s.spu.units.get p)
    let n := s.nli.cnt
    let b := s.tbs.cnt
    let z := s.zcu.cnt
    let g := s.mgt.cnt
    let d := s.dlc.cnt
    let r := s.rse.cnt
    let k := s.dkc.cnt
    s.counters 0 = some [n.received, n.lengthOverrun, n.badCrc, n.truncated, n.notClaimed,
      n.kindRefused, n.queueFull, n.unknownRequest, n.framesSent, n.eventsSent, n.eventReplaced,
      n.telemetrySent, n.telemetrySkipped] ∧
    s.counters 2 = some [b.segmentsRefused, b.loadsCompleted, b.loadsIncomplete, b.swapsRefused,
      b.swapsTaken, b.swapsTimedOut] ∧
    s.counters 3 = some (coils (·.accepted) ++ [w.malformed] ++ coils (·.duplicate) ++
      coils (·.missing) ++ coils (·.overrun) ++ coils (·.aborted) ++ coils (·.silences) ++
      coils (·.testDropped)) ∧
    s.counters 4 = some [z.zoneChanges, z.passages, z.exits, z.exitsWithheld, z.exitsByStation,
      z.keepouts, z.wireLost, z.outside] ∧
    s.counters 5 = some (pins' (·.results) ++ pins' (·.overruns) ++ pins' (·.faults) ++
      [s.spu.bumpsSuppressed]) ∧
    s.counters 6 = some [g.accepted, g.duplicate, g.skipped, g.clamped, g.malformed, g.stale,
      g.sourceChanges, g.posts] ∧
    s.counters 7 = some [d.framesSent, d.answers, d.timeouts, d.retries, d.badAnswers, d.nodesLost,
      d.nodesRecovered, d.removedOnLoss, d.coalesce, d.relaySuperseded, d.discards, d.polls,
      d.slips, d.stalls, d.jams, d.passWrites, d.passReads, d.passRefused] ∧
    s.counters 8 = some (r.received ++ [r.unmapped, r.underHazard, r.docked, r.created1, r.created2,
      r.created3, r.replaced, r.suspended, r.resumed, r.discarded, r.joined, r.cancels,
      r.clearsAccepted, r.clearsRefused]) ∧
    s.counters 9 = some [k.returnsNav, k.returnsBattery, k.returnsRain, k.unavailable, k.guideLost,
      k.approaches, k.approachTimeouts, k.contacts, k.relayTimeouts, k.docks, k.backoffs, k.retries,
      k.dockFaults, k.dockLost, k.stationRequests, k.departures, k.cancels, k.relayReposts]

/-- READ_STATUS, READ_VERDICT, READ_COUNTERS and TEST_RESULT answer with the section, the lane's data,
the block's counters and the test's record, each formed from the state, and change nothing else, with
the bytes of every section, lane, counter list and test record written out; and a request that names none is
counted and answered BAD_PARAM, one without a request code among them (R14, R21, R159, R164, R173; log entries
17 and 18). That a closed relay is 1 in the NODE section is log entry 70 (DEDUCED), that no field of the
GATE section gives the side chosen by R71 is log entry 73 (DESIGN CHOICE), and that the BAD_PARAM of
READ_STATUS, READ_VERDICT and READ_COUNTERS carries no data is log entry 76 (DESIGN CHOICE). -/
def Obligations.RequestsThatReadChangeNothing : Prop :=
  MotionSections ∧ DriveSections ∧ ConductSections ∧ LinkSections ∧ LaneAndTestRecords ∧ CounterLists ∧
  ∀ (dt : Nat) (s : State), s.resetHeld = false →
    let u := arrive dt s
    let p := u.headParams
    (headIs 0 u = true →
      let told (k : Nat) (d : List Byte) : Prop :=
        byteAt p 0 = k → exec (.readStatus dt) s = .next (answer .ok d u)
      (p ≠ [] →
        told 0 u.zoneSection ∧ told 1 u.senseSection ∧ told 2 u.gateSection ∧
        told 3 u.driveSection ∧ told 5 u.responseSection ∧ told 6 u.dockSection ∧
        told 7 u.storeSection ∧ told 8 u.linkSection ∧
        (∀ n r, nodeOfNat? (byteAt p 1) = some n → u.dlc.recs.get n = some r →
          told 4 (nodeBytes (u.nodeKind n) r) ∧
          (nodeBytes (u.nodeKind n) r).head? = some (u8 r.st.num)) ∧
        (∀ n, byteAt p 0 = 4 → nodeOfNat? (byteAt p 1) = n →
          (n = none ∨ ∃ a, n = some a ∧ u.dlc.recs.get a = none) →
          exec (.readStatus dt) s = .next (answer .badParam [] u))) ∧
      (p = [] ∨ 8 < byteAt p 0 → exec (.readStatus dt) s = .next (answer .badParam [] u))) ∧
    (headIs 1 u = true →
      (∀ (i : Slot) (c : Coil), 2 ≤ p.length → byteAt p 0 = i.val → byteAt p 1 = Coil.num c →
        let d := u.laneData i c
        exec (.readVerdict dt) s = .next (answer .ok d u) ∧ d.length = 17 ∧
        d.take 4 =
          [flagByte (u.enabled i), flagByte (u.wdc.coils.get c).silent, u8 (u.reportedClass i c),
            flagByte ((u.wdc.lanes.get i).get c).verdict.isSome] ∧
        (((u.wdc.lanes.get i).get c).verdict = none →
          (d.drop 4).take 8 = List.replicate 8 0xFF#8) ∧
        ∀ v, ((u.wdc.lanes.get i).get c).verdict = some v →
          (d.drop 4).take 8 =
            [u8 v.kind.num, u8 v.periods] ++ be16 v.strength ++
              [u8 v.consecutive, u8 v.mismatches, u8 v.endSeq,
                u8 ((u.wdc.lanes.get i).get c).burstsSince]) ∧
      (p.length < 2 ∨ 3 < byteAt p 0 ∨ 1 < byteAt p 1 →
        exec (.readVerdict dt) s = .next (answer .badParam [] u))) ∧
    (headIs 2 u = true →
      (∀ l, p ≠ [] → u.counters (byteAt p 0) = some l →
        exec (.readCounters dt) s = .next (answer .ok (l.flatMap be16) u)) ∧
      (p = [] ∨ byteAt p 0 = 1 ∨ 9 < byteAt p 0 →
        exec (.readCounters dt) s = .next (answer .badParam [] u))) ∧
    (∀ k, u.counters k = none ↔ k = 1 ∨ 9 < k) ∧
    (headIs 15 u = true →
      exec (.testResult dt) s = .next (answer .ok u.testData u) ∧
      u.testData.take 2 = [u8 u.lbu.kind.num, u8 u.lbu.status.num]) ∧
    ∀ q rest, u.mrh.queue = q :: rest → q.pass = false → u.mrh.headDone = false →
      u.mrh.fullResetDue = false → q.payload = [] ∨ 17 < byteAt q.payload 0 →
      exec (.unknownRequest dt) s = .next (answer .badParam [] { u with
        nli := { u.nli with
          cnt := { u.nli.cnt with unknownRequest := bump u.nli.cnt.unknownRequest } } })

/-- The output of the generator with stage n at bit n - 1: the exclusive-or of stages 14 and 15 (R171). -/
def Sys2Proof.Machine.lfsrOut (g : BitVec 15) : Nat :=
  (g.toNat / 2 ^ 13 + g.toNat / 2 ^ 14) % 2

/-- The generator one step on: every stage passes its value up, and the output enters stage 1 (R171). -/
def Sys2Proof.Machine.lfsrNext (g : BitVec 15) : BitVec 15 :=
  BitVec.ofNat 15 (2 * g.toNat + lfsrOut g)

/-- The generator after a number of steps. -/
def Sys2Proof.Machine.lfsrAfter (k : Nat) (g : BitVec 15) : BitVec 15 := Nat.repeat lfsrNext k g

/-- The byte that eight steps of the generator give, the first output its most significant bit (R170). -/
def Sys2Proof.Machine.lfsrByte (g : BitVec 15) : Byte :=
  BitVec.ofNat 8 (([0, 1, 2, 3, 4, 5, 6, 7].map fun k =>
    lfsrOut (lfsrAfter k g) * 2 ^ (7 - k)).sum)

/-- The eight bytes of an ECHO request: its number, then seven bytes of the generator, eight steps for
each (R170). -/
def Sys2Proof.Machine.echoRequest (number : Nat) (g : BitVec 15) : List Byte :=
  u8 number :: [0, 1, 2, 3, 4, 5, 6].map fun k => lfsrByte (lfsrAfter (8 * k) g)

/-- START_TEST: the checks in their order, and what an accepted test of each kind starts with: the
record cleared, the generator all ones, the status RUNNING, its parameters as given, and for the two
tests that reach the motors or the wire the test reason of the STOP line; a wire pattern test freezes
the zone context, takes its coil into test and places its first burst if the ring has room (R42, R122,
R168, R171). The coil that enters test has its bursts dropped from the ring, and a burst of it in
correlation discarded, so that the correlator goes on with the other coil's; its lanes restart, it is not
SILENT, its silence timer stands, and its expectation and its counters are kept; then the update goes to
the frozen Zone Context Unit (R7, R19, R26, R42). That the stopped silence timer keeps its elapsed time is
the model's reading (log entry 12, DEDUCED). -/
def Obligations.TestIsStarted : Prop :=
  ∀ (dt : Nat) (s : State), s.resetHeld = false →
    let u := arrive dt s
    let p := u.headParams
    let ready :=
      (∀ n, (u.nodeKind n).isWheel = true ∨ u.nodeKind n = .blade → u.mgt.posted.get n = 0) ∧
        (u.rse.ctx1 = none ∧ u.rse.ctx2 = none ∧ u.rse.ctx3 = none) ∧
        (u.dkc.dock = .undocked ∨ u.dkc.dock = .docked)
    let started (k : TestKind) (q : TestParams) (left : Nat) : Lbu :=
      ⟨k, .running, q, false, false, left, 0, TestRecord.zero, BitVec.allOnes 15⟩
    let code (c : RespCode) : Prop := exec (.startTest dt) s = .next (answer c [] u)
    headIs 14 u = true →
    (u.testRunning = true → code .busy) ∧
    (u.testRunning = false → byteAt p 0 = 0 ∨ 3 < byteAt p 0 → code .badParam) ∧
    (u.testRunning = false → byteAt p 0 = 1 →
      (p.length < 2 ∨ byteAt p 1 = 0 ∨ 60 < byteAt p 1 → code .badParam) ∧
      (2 ≤ p.length → 1 ≤ byteAt p 1 → byteAt p 1 ≤ 60 →
        (¬ ready → code .refusedState) ∧
        (ready → exec (.startTest dt) s = .next (answerThen .echoBegin .ok [] { u with
          lbu := started .nLinkEcho (.nLinkEcho (byteAt p 1)) 0 })))) ∧
    (u.testRunning = false → byteAt p 0 = 2 →
      p.length < 3 ∨ byteAt p 1 = 0 ∨ 6 < byteAt p 1 ∨ byteAt p 2 = 0 → code .badParam) ∧
    (∀ n, u.testRunning = false → byteAt p 0 = 2 → 3 ≤ p.length → 1 ≤ byteAt p 2 →
      nodeOfNat? (byteAt p 1) = some n →
      (u.nodeKind n = .noNode → code .noNode) ∧
      (u.nodeKind n ≠ .noNode → ¬ ready → code .refusedState) ∧
      (u.nodeKind n ≠ .noNode → ready → u.dlc.queue ≠ [] → code .retry) ∧
      (u.nodeKind n ≠ .noNode → ready → u.dlc.queue = [] →
        exec (.startTest dt) s = .next (answer .ok [] { u with
          lbu := started .dLinkEcho (.dLinkEcho n (byteAt p 2)) (byteAt p 2)
          rse := { u.rse with stopTest := true } }))) ∧
    (u.testRunning = false → byteAt p 0 = 3 →
      p.length < 9 ∨ 3 < byteAt p 1 ∨ 1 < byteAt p 2 ∨ (byteAt p 3 ≠ 1 ∧ byteAt p 3 ≠ 255) ∨
        2047 < wordAt p 4 ∨ 1023 < wordAt p 6 ∨ byteAt p 8 = 0 → code .badParam) ∧
    (∀ (i : Slot) (c : Coil), u.testRunning = false → byteAt p 0 = 3 → 9 ≤ p.length →
      byteAt p 1 = i.val → byteAt p 2 = Coil.num c → (byteAt p 3 = 1 ∨ byteAt p 3 = 255) →
      wordAt p 4 ≤ 2047 → wordAt p 6 ≤ 1023 → 1 ≤ byteAt p 8 →
      let negative := byteAt p 3 == 255
      let first := started .wirePattern
        (.wirePattern i c negative (wordAt p 4) (wordAt p 6) (byteAt p 8)) (byteAt p 8)
      let frozen : Zcu := { u.zcu with
        frozen := true
        outTimer :=
          if u.zcu.outTimer.st = .running then { u.zcu.outTimer with st := .paused }
          else u.zcu.outTimer }
      let k := u.wdc.coils.get c
      let w := zoneUpdate Published.none (correlatorTake { u with
        lbu := first
        rse := { u.rse with stopTest := true }
        zcu := frozen
        wdc := { u.wdc with
          coils := u.wdc.coils.set c { k with
            silent := false, timer := { k.timer with st := .stopped } }
          lanes := u.wdc.lanes.map fun l => l.set c ⟨none, none, 0, false, false⟩
          ring := u.wdc.ring.filter fun e => e.coil != c
          inCorr := u.wdc.inCorr.filter fun e => e.coil != c } })
      (u.enabled i = false → code .badParam) ∧
      (u.enabled i = true → ¬ ready → code .refusedState) ∧
      (u.enabled i = true → ready →
        w.lbu = first ∧ w.zcu = { frozen with mirror := w.zcu.mirror } ∧
        (∀ e ∈ w.wdc.ring, e.coil ≠ c) ∧ (∀ e, w.wdc.inCorr = some e → e.coil ≠ c) ∧
        (∀ j, (w.wdc.lanes.get j).get c = ⟨none, none, 0, false, false⟩ ∧
          (u.enabled j = true → 0 < u.lossLimit j →
            ((w.zcu.mirror.get j).get c).cls = .pending)) ∧
        w.wdc.coils.get c = { k with silent := false, timer := { k.timer with st := .stopped } } ∧
        (4 ≤ w.wdc.ring.length → exec (.startTest dt) s = .next (answer .ok [] w)) ∧
        (w.wdc.ring.length < 4 →
          exec (.startTest dt) s = .next (answer .ok [] (placeBurst w)) ∧
          (placeBurst w).lbu = { first with
            left := byteAt p 8 - 1
            gen := lfsrAfter u.codeLength (BitVec.allOnes 15)
            record := { TestRecord.zero with placed := 1 } }) ∧
        ∃ v, exec (.startTest dt) s = .next (answer .ok [] v) ∧ v.lbu.status = .running ∧
        v.lbu.kind = .wirePattern ∧ v.rse.stopTest = true ∧ v.zcu.frozen = true ∧
        v.zcu.loops = u.zcu.loops ∧ v.zcu.active = u.zcu.active ∧
        (v.wdc.coils.get c).timer.st = .stopped ∧ (v.wdc.coils.get c).silent = false ∧
        v.mem = u.mem ∧ v.mgt = u.mgt ∧ v.dlc = u.dlc ∧ v.dkc = u.dkc))

/-- A D-link echo goes on from the end of one test frame: the next ECHO is sent, of eight bytes, its
number first; after the last the test is COMPLETED, the link goes back to the DLC, which arbitrates, and
the gate then makes its evaluation (R76, R170), in this order, which is the model's choice (log entry 80,
DESIGN CHOICE). -/
def Sys2Proof.Machine.DLinkEchoGoesOn : Prop :=
  ∀ (s : State) (n : Node) (frames : Nat), s.lbu.params = .dLinkEcho n frames →
    let l := s.lbu
    (0 < l.left →
      let bytes := echoRequest (frames + 1 - l.left) l.gen
      echoNext s = { s with
        dlc := { s.dlc with
          tx := some ⟨n, s.nodeKind n, .echo bytes, requestFrame n (.echo bytes), false, 0,
            s.responseTimeout, false⟩
          cnt := { s.dlc.cnt with framesSent := bump s.dlc.cnt.framesSent } }
        lbu := { l with
          left := l.left - 1
          gen := lfsrAfter 56 l.gen
          record := { l.record with sent := bump l.record.sent } } }) ∧
    (l.left = 0 →
      echoNext s = evaluate (arbitrate (testEnded (u8 l.kind.num) 2#8 .completed s)))

/-- The recomputation that ends a freeze: every enabled slot's loop state from the mirror, against the
states held throughout, through the settling, the triggers and the hand-offs of an update; a PAUSED
outside timer that the settling leaves as it was runs on, and a HELD one raises OUTSIDE_LIMIT if no
context is held (R38, R42; log entries 7, 12 and 49). -/
def Sys2Proof.Machine.ZoneIsRecomputed : Prop :=
  ∀ s : State,
    let f : State := { s with zcu := { s.zcu with frozen := false } }
    ∃ now : PerSlot LoopState,
      (∀ i, now.get i =
        if s.enabled i = true then
          loopOf (s.zcu.mirror.get i).left.cls (s.zcu.mirror.get i).right.cls
        else .disabled) ∧
      let z := f.zoneAfter s.zcu.mirror now
      let timer : Timer :=
        if z.outTimer.st = .paused then { z.outTimer with st := .running } else z.outTimer
      let r := zoneToDock s.guideSlot.isSome s.stationSlot.isSome (zoneToGate f
        (triggersRaised (f.updateTriggers s.zcu.loops now) { z with outTimer := timer } f))
      ZoneIsSettled f s.zcu.mirror now ∧
      (r.outsideHeldDue = none → zoneRecompute s = r) ∧
      ∀ i, r.outsideHeldDue = some i → zoneRecompute s = outsideRaise i r

/-- The end of a wire pattern test: the coil's synthesized bursts go and the coil restarts, the freeze
ends with the recomputation, and the test is COMPLETED with TEST_DONE (R23, R26, R42, R172; log entry
54). -/
def Sys2Proof.Machine.PatternIsDone : Prop :=
  ∀ (c : Coil) (s : State),
    let x := s.wdc.coils.get c
    let restarted : State := { s with
      wdc := { s.wdc with
        coils := s.wdc.coils.set c { x with
          expect := none, silent := false, timer := ⟨.running, 0⟩ }
        lanes := s.wdc.lanes.map fun l => l.set c ⟨none, none, 0, false, false⟩
        ring := s.wdc.ring.filter fun e => e.coil != c
        inCorr := s.wdc.inCorr.filter fun e => e.coil != c } }
    let v := patternDone c s
    v = testEnded (u8 s.lbu.kind.num) 2#8 .completed
      (zoneRecompute (zoneUpdate Published.none restarted)) ∧
    v.wdc = restarted.wdc ∧ v.lbu.status = .completed ∧ v.lbu.record = s.lbu.record ∧
    v.rse.stopTest = false ∧ v.zcu.frozen = false ∧
    (s.nli.flags.length = 19 → s.flag .testDone = none →
      v.flag .testDone = some [u8 s.lbu.kind.num, 2#8]) ∧
    ∀ i, v.zcu.loops.get i =
      if s.enabled i = true then
        loopOf (v.zcu.mirror.get i).left.cls (v.zcu.mirror.get i).right.cls
      else .disabled

/-- The commands inside a running test: the N-link echo begins and ends; the D-link echo takes the free link
with its first ECHO, a frame number and seven bytes of the generator, and goes on from frame to frame; the
next synthesized burst joins the ring, each sample the chip at the amplitude with the noise added by the
sign the generator gives, brought into range; the end of a correlation records the tested lane's verdict
and, after the last synthesized burst, ends the wire pattern test with the restart of its coil and the
recomputation of the zone context (R26, R42, R169 to R172), by the tables of lane classes and loop states
and the strengths that count (R17, R18, R20, R39). -/
def Obligations.TestsRun : Prop :=
  DLinkEchoGoesOn ∧ LanesAreClassed ∧ ZoneIsRecomputed ∧ PatternIsDone ∧
  ∀ (dt : Nat) (s : State), s.resetHeld = false →
    let u := arrive dt s
    let l := u.lbu
    l.status = .running →
    (l.kind = .nLinkEcho → l.beginDue = true →
      exec (.nLinkEchoBegin dt) s = .next { u with
        lbu := { l with begun := true, beginDue := false, echoTime := 0 } }) ∧
    (∀ sec, l.kind = .nLinkEcho → l.begun = true → l.params = .nLinkEcho sec →
      ms (1000 * sec) ≤ l.echoTime →
      exec (.nLinkEchoEnd dt) s = .next (setFlag .testDone [1#8, 2#8] { u with
        lbu := { l with status := .completed, begun := false, beginDue := false }
        rse := { u.rse with stopTest := false } })) ∧
    (∀ n frames, l.kind = .dLinkEcho → l.begun = false → l.params = .dLinkEcho n frames →
      u.dlc.tx = none →
      let bytes := echoRequest (frames + 1 - l.left) l.gen
      exec (.dLinkEchoTakeLink dt) s = .next { u with
        dlc := { u.dlc with
          tx := some ⟨n, u.nodeKind n, .echo bytes, requestFrame n (.echo bytes), false, 0,
            u.responseTimeout, false⟩
          cnt := { u.dlc.cnt with framesSent := bump u.dlc.cnt.framesSent } }
        lbu := { l with
          begun := true
          left := l.left - 1
          gen := lfsrAfter 56 l.gen
          record := { l.record with sent := bump l.record.sent } } }) ∧
    ∀ i c neg amplitude noise bursts,
      l.params = .wirePattern i c neg amplitude noise bursts →
      (0 < l.left → (∀ e ∈ u.wdc.ring, e.coil ≠ c) → u.wdc.ring.length < 4 → ∃ v samples,
        exec (.patternBurstPlace dt) s =
          .next (zoneUpdate Published.none (correlatorTake v)) ∧
        v = { u with wdc := v.wdc, lbu := v.lbu } ∧
        v.wdc.ring = u.wdc.ring ++ [⟨c, l.record.placed % 256, samples, none⟩] ∧
        v.wdc.coils = u.wdc.coils ∧ v.wdc.inCorr = u.wdc.inCorr ∧
        (∀ j k, (v.wdc.lanes.get j).get k =
          let x := (u.wdc.lanes.get j).get k
          if k = c then { x with burstsSince := min (x.burstsSince + 1) 255 } else x) ∧
        v.lbu = { l with
          left := l.left - 1
          gen := lfsrAfter u.codeLength l.gen
          record := { l.record with placed := bump l.record.placed } } ∧
        samples.length = u.codeLength ∧
        ∀ k, k < u.codeLength →
          let level : Int := (if neg = true then -(amplitude : Int) else amplitude)
          let n : Int := if lfsrOut (lfsrAfter k l.gen) = 1 then noise else -(noise : Int)
          samples[k]? = some
            (max (-2048) (min (level * u.chip (u.slotCode i) k + n) 2047))) ∧
      ∀ e, u.wdc.inCorr = some e →
        let lane := (u.wdc.lanes.get i).get c
        let found : Option Verdict :=
          if e.coil = c ∧ u.enabled i = true then (u.stepLane i e lane).2 else none
        let last := e.coil = c ∧ l.left = 0 ∧ ∀ x ∈ u.wdc.ring, x.coil ≠ c
        ∃ v record,
        v = { u with
          wdc := { u.wdc with lanes := v.wdc.lanes, inCorr := none }
          lbu := { l with record := record } } ∧
        (∀ j k, (v.wdc.lanes.get j).get k =
          if k = e.coil ∧ u.enabled j = true then (u.stepLane j e ((u.wdc.lanes.get j).get k)).1
          else (u.wdc.lanes.get j).get k) ∧
        (found = none → record = l.record) ∧
        (∀ w, found = some w →
          let one (kind : VerdictKind) (n : Nat) : Nat := if w.kind = kind then bump n else n
          record = { l.record with
            last := some w
            lockedIn := one .lockedIn l.record.lockedIn
            lockedOut := one .lockedOut l.record.lockedOut
            weakIn := one .weakIn l.record.weakIn
            weakOut := one .weakOut l.record.weakOut
            absent := one .absent l.record.absent }) ∧
        (last → exec (.correlationEnd dt) s =
          .next (correlatorTake (patternDone c (zoneUpdate (u.publishedBy e) v)))) ∧
        (¬ last → exec (.correlationEnd dt) s =
          .next (correlatorTake (zoneUpdate (u.publishedBy e) v)))

/-- The zero post of an address in a DRIVE channel reset of `u`: kept, and not counted (R77). -/
def Sys2Proof.Machine.stilled (u z : State) (n : Node) : State :=
  match u.stillAt n with
  | some zero => postKept n zero u.mgt.source.origin z
  | none => z

/-- The Drive Link Controller as a DRIVE channel reset leaves it: nothing waits or is in flight, the
counters are 0, and every fitted node's record is new and due for a poll (R104). -/
def Sys2Proof.Machine.State.DriveIsCleared (u : State) (d : Dlc) : Prop :=
  d.queue = [] ∧ d.behind = [] ∧ d.relayHeld = none ∧ d.flush = 0 ∧ d.tx = none ∧ d.read = none ∧
    d.cnt = ⟨0, 0, 0, 0, 0, 0, 0, 0, 0, 0, 0, 0, 0, 0, 0, 0, 0, 0⟩ ∧
    (∀ n, u.nodeKind n = .noNode → d.recs.get n = none) ∧
    ∀ n, u.nodeKind n ≠ .noNode → d.recs.get n = some
      ⟨.unknown, none, u.pollInterval, none, ⟨.stopped, 0, 0⟩, ⟨.stopped, 0, 0⟩, ⟨.stopped, 0, 0⟩⟩

/-- Whether the zeros of a DRIVE channel reset bring a pending swap of `u`: no response context is held, the
dock state is a safe one, and no test runs but the D-link echo that the reset ends (R150, R154, R170). -/
def Sys2Proof.Machine.State.resetSwaps (u : State) : Prop :=
  u.tbs.swapPending = true ∧
    (u.rse.ctx1 = none ∧ u.rse.ctx2 = none ∧ u.rse.ctx3 = none) ∧
    (u.dkc.dock = .undocked ∨ u.dkc.dock = .docked ∨ u.dkc.dock = .dockFault) ∧
    (u.testRunning = false ∨ u.dEchoRunning = true)

/-- What a DRIVE channel reset does before its own OK: a D-link echo ends, a pending read is answered
NODE_TIMEOUT, the DLC and the contact begin afresh, the battery timer stopped with its elapsed time kept
(log entry 12, DEDUCED), and the zeros are posted in ascending order of the addresses, each an entry of the
queue that goes out to its node. Posted-zero then holds, and a pending swap whose safe point this is is taken
(R78, R150, R154). The gate then makes its evaluation, whose posts, in ascending order too and counted, follow
the zeros: each stands behind the zero of its node, and takes its place at the tail once that has left, and so
does each post of the swap (R77, R104, R127, R165, R170; log entries 45, 57 and 64; log entry 45 is a DESIGN
CHOICE). -/
def Sys2Proof.Machine.DriveIsStilled (u v : State) : Prop :=
  ∃ w x y z : State, ∃ d : Dlc,
    (u.dEchoRunning = true → w = testEnded 2#8 3#8 .aborted u) ∧
    (u.dEchoRunning = false → w = u) ∧
    x = (if u.dlc.read = none then w else answerRead .nodeTimeout [] w) ∧
    u.DriveIsCleared d ∧
    z = [0, 1, 2, 3, 4, 5].foldl (stilled u) { x with
      dlc := d
      dkc := { x.dkc with
        present := 0
        absent := 0
        established := false
        batteryT := { x.dkc.batteryT with st := .stopped } } } ∧
    (∀ n, (z.nodeKind n).isWheel = true ∨ z.nodeKind n = .blade → z.mgt.posted.get n = 0) ∧
    (∀ n zero, u.stillAt n = some zero → ∃ e ∈ z.dlc.queue,
      e.node = n ∧ e.val = zero ∧ e.origin = u.mgt.source.origin) ∧
    (u.resetSwaps → ∃ banks, SwapRuns true z banks y) ∧ (¬ u.resetSwaps → y = z) ∧
    v = arbitrate (evaluateBehind y) ∧
    (¬ u.resetSwaps →
      (let m := z.figures
       let due : List (Node × PostValue) :=
         [0, 1, 2, 3, 4, 5].filterMap fun n => (z.duePost m n).map fun p => (n, p)
       v = arbitrate { z with
         dlc := { z.dlc with
           behind := due.map fun e => ⟨e.1, e.2, originOf m.source, false, false⟩ }
         mgt := { m with
           posted := due.foldl (fun l e => l.set e.1 e.2.speed) m.posted
           cnt := { m.cnt with posts := due.foldl (fun k _ => bump k) m.cnt.posts } } }) ∧
      ∀ n zero, u.stillAt n = some zero → ∃ e ∈ v.dlc.queue,
        e.node = n ∧ e.val = zero ∧ e.origin = u.mgt.source.origin)

/-- What a WIRE channel reset does before its own OK: the lanes, the coils with their counters, the ring and
the correlator begin afresh; the zone context begins afresh under the tables in force, its mirror, arms,
timer, strengths and counters with it; the new values are handed on, so that the gate sees no active zone
and a proximity strength of 0 and the Dock Controller the guide and station loops as they now stand; and a
wire pattern test ends as aborted, after the hand-offs (R23, R24, R39 to R43, R172; log entries 7, 49 and
54). The gate has seen the active zone until then, as `State.zoneLegal` has it. -/
def Sys2Proof.Machine.WireIsReset (u v : State) : Prop :=
  ∃ x w : State,
    x = { u with wdc := x.wdc, zcu := x.zcu } ∧
    (∀ i c, (x.wdc.lanes.get i).get c = ⟨none, none, 0, false, false⟩) ∧
    (∀ c, x.wdc.coils.get c = ⟨none, false, ⟨.running, 0⟩, 0, 0, 0, 0, 0, 0, 0⟩) ∧
    x.wdc.malformed = 0 ∧ x.wdc.ring = [] ∧ x.wdc.inCorr = none ∧
    (∀ i, x.zcu.loops.get i = (if u.enabled i = true then .pending else .disabled) ∧
      (∀ c, (x.zcu.mirror.get i).get c = ⟨.pending, 0⟩) ∧
      x.zcu.entryArm.get i = (u.slotKind i == .keepout)) ∧
    x.zcu.active = none ∧ x.zcu.exitArm = false ∧ x.zcu.wireLostArm = true ∧
    x.zcu.outTimer = ⟨.stopped, 0⟩ ∧ x.zcu.prox = 0 ∧ x.zcu.station = 0 ∧ x.zcu.frozen = false ∧
    x.zcu.cnt = ⟨0, 0, 0, 0, 0, 0, 0, 0⟩ ∧
    w = zoneToDock true true (zoneToGate u x) ∧
    (u.wireTest = none → v = w) ∧
    (u.wireTest ≠ none → v = testEnded (u8 w.lbu.kind.num) 3#8 .aborted w) ∧
    v.wdc = x.wdc ∧ v.zcu = x.zcu ∧ (u.mgt.zone = u.zcu.active → v.mgt.zone = none) ∧
    v.mgt.prox = 0 ∧
    (u.guideSlot ≠ none → v.dkc.guide = ⟨.pending, .pending, .pending⟩) ∧
    (u.guideSlot = none → v.dkc.guide = ⟨.disabled, .pending, .pending⟩) ∧
    (u.stationSlot ≠ none → v.dkc.station = ⟨.pending, 0⟩) ∧
    (u.stationSlot = none → v.dkc.station = ⟨.disabled, 0⟩)

/-- CHANNEL_RESET: WIRE, DRIVE and SENSE each reset their block and leave the tables, the response contexts
and their counters, the NAV command with its age, and the management queue as they were; only a WIRE reset
whose loss of the active zone makes the default slope max count can raise TILT_OVER, where the tilt
persistence is 0, which is the model's reading of R40 and R58 beside R43 and R125 (log entry 71, DEDUCED),
and the end of a wire pattern test clears the test reason of the STOP line. A DRIVE reset ends a D-link echo
as aborted, answers a pending read NODE_TIMEOUT before its own OK, clears the queue, records and counters,
each record due for a poll, and posts a zero of the selected source to every wheel and blade node in
ascending order, uncounted, before the one evaluation, whose posts follow those zeros in the queue (log
entries 45, 57 and 64; log entry 45 is a DESIGN CHOICE); the posted-zero indication that the zeros bring
reaches the Table Store before that evaluation, so that a pending swap for which the rest of the safe point
holds is taken there, with all that a swap changes (R78, R150, R154); the battery timer, stopped with the
contact, keeps its elapsed time (log entry 12, DEDUCED). A SENSE reset during the settle waits for its end
(log entry 23), and its hand-offs are those of one event (R54, R55, R57; log entry 72). Any other channel is
answered BAD_PARAM (R24, R43, R46, R60, R77, R104, R125, R144, R150, R154, R165, R170, R172). -/
def Obligations.ChannelIsReset : Prop :=
  EvaluationFollowsTheZeros ∧
  ∀ (dt : Nat) (s : State), s.resetHeld = false →
    let u := arrive dt s
    let p := u.headParams
    let kept (v : State) : Prop :=
      v.mem = u.mem ∧ v.tbs = u.tbs ∧ v.mgt.cmd = u.mgt.cmd ∧ v.mgt.age = u.mgt.age ∧
        v.mrh.queue = u.mrh.queue
    let contexts (v : State) : Prop :=
      v.rse.ctx1 = u.rse.ctx1 ∧ v.rse.ctx2 = u.rse.ctx2 ∧ v.rse.ctx3 = u.rse.ctx3 ∧
        v.rse.cnt = u.rse.cnt ∧ v.rse.stopHazard = u.rse.stopHazard ∧
        v.rse.stopSettle = u.rse.stopSettle
    let slope := max u.spu.pitch.angle.natAbs u.spu.roll.angle.natAbs
    let tilts :=
      u.zcu.active ≠ none ∧ u.defaultSlopeMax < slope ∧ u.tiltPersistence = 0 ∧
        u.spu.tilt.st ≠ .running ∧ u.spu.tilt.st ≠ .spent
    headIs 16 u = true →
    (p = [] ∨ 2 < byteAt p 0 → exec (.channelReset dt) s = .next (answer .badParam [] u)) ∧
    (p ≠ [] → byteAt p 0 = 0 → ∃ v,
      exec (.channelReset dt) s = .next (answer .ok [] v) ∧ kept v ∧
      (¬ tilts → contexts v) ∧ (tilts → v.rse.ctx3.isSome = true) ∧
      v.rse.stopTest = (if u.wireTest = none then u.rse.stopTest else false) ∧
      v.spu.units = u.spu.units ∧ WireIsReset u v ∧
      (u.wireTest ≠ none → v.lbu.status = .aborted) ∧ (u.wireTest = none → v.lbu = u.lbu)) ∧
    (p ≠ [] → byteAt p 0 = 1 → ∃ v,
      exec (.channelReset dt) s = .next (answer .ok [] v) ∧ DriveIsStilled u v ∧
      v.mrh.queue = u.mrh.queue ∧
      (u.dEchoRunning = true → v.lbu.status = .aborted ∧ v.rse.stopTest = false) ∧
      (u.dEchoRunning = false → v.lbu = u.lbu ∧ v.rse.stopTest = u.rse.stopTest) ∧
      (u.resetSwaps →
        v.tbs.swapPending = false ∧ v.tbs.cnt.swapsTaken = bump u.tbs.cnt.swapsTaken ∧
        v.tbs.activeHigh = !u.tbs.activeHigh) ∧
      (¬ u.resetSwaps →
        kept v ∧ contexts v ∧ v.wdc = u.wdc ∧ v.spu = u.spu ∧ v.zcu = u.zcu ∧
        v.dlc.relayHeld = none ∧ v.dlc.read = none ∧
        (∀ n, u.nodeKind n = .noNode → v.dlc.recs.get n = none) ∧
        (∀ n, u.nodeKind n ≠ .noNode → ∃ r, v.dlc.recs.get n = some r ∧ r.st = .unknown ∧
          r.lastAck = none ∧ r.telem = none))) ∧
    (p ≠ [] → byteAt p 0 = 2 → ∃ v,
      exec (.channelReset dt) s = .next (answer .ok [] v) ∧ kept v ∧ v.rse = u.rse ∧
      v.wdc = u.wdc ∧ v.zcu = u.zcu ∧ v.lbu = u.lbu ∧ v.dkc.dock = u.dkc.dock ∧
      v.spu.levels = u.spu.levels ∧ v.spu.settle = u.spu.settle ∧
      v.spu.tilt = ⟨.stopped, 0⟩ ∧ v.spu.bumpsSuppressed = 0 ∧
      (∃ w : State, v = spuHandOff u w ∧ w = { u with
        spu := { u.spu with
          units := v.spu.units
          tilt := ⟨.stopped, 0⟩
          bumpsSuppressed := 0
          pitch := w.spu.pitch
          roll := w.spu.roll } } ∧ w.AxesBegin) ∧
      ∀ x,
        let y := v.spu.units.get x
        y.result = none ∧ y.ready = false ∧ y.fault = false ∧ y.results = 0 ∧ y.overruns = 0 ∧
          y.faults = 0 ∧
        (u.spu.settle = none → y.cfg = u.pinCfg x ∧ y.measuring = true) ∧
        (u.spu.settle ≠ none → y.cfg = (u.spu.units.get x).cfg ∧ y.measuring = false))

/-! ### What every step keeps -/

/-- Every step keeps the memory of the table store in its canonical form: equal banks are equal data
(log entry 6). -/
def Obligations.MemoryStaysCanonical : Prop := StepKeeps State.memLegal

/-- Every step keeps the sample ring at four bursts at most, no two with the same coil and sequence
number (R6). -/
def Obligations.RingStaysLegal : Prop := StepKeeps State.ringLegal

/-- Every step keeps the active zone NONE or an enabled PERIMETER slot that is IN, STRADDLE or OUT
(R31), and the active zone and proximity strength that the Motion Gate sees those of the Zone Context
Unit (R39, R40). -/
def Obligations.ActiveZoneStaysLegal : Prop := StepKeeps State.zoneLegal

/-- Every step keeps a level-3 context alone, at rest on HOLD, with the STOP line asserted by it; and
while one is held the gate's output is zero and no entry of the queue or behind its zeros (log entry 45)
carries a nonzero set-point (R72, R75, R98, R108, R112, R122). -/
def Obligations.HazardStaysStill : Prop :=
  StepKeeps fun s => s.responsesLegal ∧ s.hazardStill

/-- Every step keeps the gate's output within the effective limits of its evaluation, and the last
posted values equal to it unless a D-link echo holds the posting (R71, R74, R76). -/
def Obligations.OutputStaysWithinLimits : Prop :=
  StepKeeps fun s => s.outputLegal ∧ s.postsLegal

/-- Every step keeps at most one RELAY entry, ten PASS_WRITE entries and one set-point of a kind for a
node in the drive post queue, with only its head in flight (R89 to R92); and at most one set-point of a kind
for a node behind the zeros of a DRIVE channel reset, each behind a set-point of its node that is in the queue
(log entry 45, DESIGN CHOICE). -/
def Obligations.DriveQueueStaysLegal : Prop := StepKeeps State.driveQueueLegal

/-- Every step keeps the management queue at four entries at most, one event frame for a flag at
most, four echoed frames at most, and the tag counts in their range (R158, R160, R161, R163, R169). -/
def Obligations.LinkStaysLegal : Prop := StepKeeps State.linkLegal

/-- The part right after reset, with any commands waiting, has every property that the steps keep. -/
def Obligations.ResetHasEveryProperty : Prop :=
  ∀ (l : List Instr) (k : Nat) (levels : PerPin Level) (n : NRate) (d : DRate),
    let t := State.afterReset l k levels n d
    t.memLegal ∧ t.ringLegal ∧ t.zoneLegal ∧ t.responsesLegal ∧ t.hazardStill ∧ t.outputLegal ∧
      t.postsLegal ∧ t.driveQueueLegal ∧ t.linkLegal
end

