-- ==== Sys2Proof/Laws/Cells.lean ====
section
/-! SUPPORT. Reading a member of a fixed collection after writing, mapping or building it. -/

namespace Sys2Proof.Machine

/-! ### PerCoil -/

@[simp] theorem PerCoil.get_set {α : Type} (p : PerCoil α) (i : Coil) (v : α) : (p.set i v).get i = v := by
  cases i <;> rfl

theorem PerCoil.get_set_ne {α : Type} (p : PerCoil α) {i j : Coil} (v : α) (h : j ≠ i) :
    (p.set i v).get j = p.get j := by
  cases i <;> cases j <;> first | rfl | exact absurd rfl h

/-- A member after one member is written. -/
theorem PerCoil.get_set_ite {α : Type} (p : PerCoil α) (i j : Coil) (v : α) :
    (p.set i v).get j = if j = i then v else p.get j := by
  split
  · next h => rw [h, PerCoil.get_set]
  · next h => exact PerCoil.get_set_ne p v h

@[simp] theorem PerCoil.set_set {α : Type} (p : PerCoil α) (i : Coil) (v w : α) :
    (p.set i v).set i w = p.set i w := by
  cases i <;> rfl

@[simp] theorem PerCoil.set_get {α : Type} (p : PerCoil α) (i : Coil) : p.set i (p.get i) = p := by
  cases i <;> rfl

@[simp] theorem PerCoil.get_all {α : Type} (v : α) (i : Coil) : (PerCoil.all v).get i = v := by
  cases i <;> rfl

@[simp] theorem PerCoil.get_map {α β : Type} (f : α → β) (p : PerCoil α) (i : Coil) :
    (p.map f).get i = f (p.get i) := by
  cases i <;> rfl

/-- Two collections with the same members are equal. -/
theorem PerCoil.ext_get {α : Type} {p q : PerCoil α} (h : ∀ i, p.get i = q.get i) : p = q := by
  cases p
  cases q
  simp only [PerCoil.mk.injEq]
  exact ⟨h .left, h .right⟩

/-! ### PerSlot -/

@[simp] theorem PerSlot.get_set {α : Type} (p : PerSlot α) (i : Slot) (v : α) : (p.set i v).get i = v := by
  fin_cases i <;> rfl

theorem PerSlot.get_set_ne {α : Type} (p : PerSlot α) {i j : Slot} (v : α) (h : j ≠ i) :
    (p.set i v).get j = p.get j := by
  fin_cases i <;> fin_cases j <;> first | rfl | exact absurd rfl h

/-- A member after one member is written. -/
theorem PerSlot.get_set_ite {α : Type} (p : PerSlot α) (i j : Slot) (v : α) :
    (p.set i v).get j = if j = i then v else p.get j := by
  split
  · next h => rw [h, PerSlot.get_set]
  · next h => exact PerSlot.get_set_ne p v h

@[simp] theorem PerSlot.set_set {α : Type} (p : PerSlot α) (i : Slot) (v w : α) :
    (p.set i v).set i w = p.set i w := by
  fin_cases i <;> rfl

@[simp] theorem PerSlot.set_get {α : Type} (p : PerSlot α) (i : Slot) : p.set i (p.get i) = p := by
  fin_cases i <;> rfl

@[simp] theorem PerSlot.get_all {α : Type} (v : α) (i : Slot) : (PerSlot.all v).get i = v := by
  fin_cases i <;> rfl

@[simp] theorem PerSlot.get_map {α β : Type} (f : α → β) (p : PerSlot α) (i : Slot) :
    (p.map f).get i = f (p.get i) := by
  fin_cases i <;> rfl

@[simp] theorem PerSlot.get_of {α : Type} (f : Slot → α) (i : Slot) : (PerSlot.of f).get i = f i := by
  fin_cases i <;> rfl

/-- Two collections with the same members are equal. -/
theorem PerSlot.ext_get {α : Type} {p q : PerSlot α} (h : ∀ i, p.get i = q.get i) : p = q := by
  cases p
  cases q
  simp only [PerSlot.mk.injEq]
  exact ⟨h 0, h 1, h 2, h 3⟩

/-! ### PerSix -/

@[simp] theorem PerSix.get_set {α : Type} (p : PerSix α) (i : Fin 6) (v : α) : (p.set i v).get i = v := by
  fin_cases i <;> rfl

theorem PerSix.get_set_ne {α : Type} (p : PerSix α) {i j : Fin 6} (v : α) (h : j ≠ i) :
    (p.set i v).get j = p.get j := by
  fin_cases i <;> fin_cases j <;> first | rfl | exact absurd rfl h

/-- A member after one member is written. -/
theorem PerSix.get_set_ite {α : Type} (p : PerSix α) (i j : Fin 6) (v : α) :
    (p.set i v).get j = if j = i then v else p.get j := by
  split
  · next h => rw [h, PerSix.get_set]
  · next h => exact PerSix.get_set_ne p v h

@[simp] theorem PerSix.set_set {α : Type} (p : PerSix α) (i : Fin 6) (v w : α) :
    (p.set i v).set i w = p.set i w := by
  fin_cases i <;> rfl

@[simp] theorem PerSix.set_get {α : Type} (p : PerSix α) (i : Fin 6) : p.set i (p.get i) = p := by
  fin_cases i <;> rfl

@[simp] theorem PerSix.get_all {α : Type} (v : α) (i : Fin 6) : (PerSix.all v).get i = v := by
  fin_cases i <;> rfl

@[simp] theorem PerSix.get_map {α β : Type} (f : α → β) (p : PerSix α) (i : Fin 6) :
    (p.map f).get i = f (p.get i) := by
  fin_cases i <;> rfl

@[simp] theorem PerSix.get_of {α : Type} (f : Fin 6 → α) (i : Fin 6) : (PerSix.of f).get i = f i := by
  fin_cases i <;> rfl

/-- Two collections with the same members are equal. -/
theorem PerSix.ext_get {α : Type} {p q : PerSix α} (h : ∀ i, p.get i = q.get i) : p = q := by
  cases p
  cases q
  simp only [PerSix.mk.injEq]
  exact ⟨h 0, h 1, h 2, h 3, h 4, h 5⟩

/-! ### PerPin -/

@[simp] theorem PerPin.get_set {α : Type} (p : PerPin α) (i : Pin) (v : α) : (p.set i v).get i = v := by
  fin_cases i <;> rfl

theorem PerPin.get_set_ne {α : Type} (p : PerPin α) {i j : Pin} (v : α) (h : j ≠ i) :
    (p.set i v).get j = p.get j := by
  fin_cases i <;> fin_cases j <;> first | rfl | exact absurd rfl h

/-- A member after one member is written. -/
theorem PerPin.get_set_ite {α : Type} (p : PerPin α) (i j : Pin) (v : α) :
    (p.set i v).get j = if j = i then v else p.get j := by
  split
  · next h => rw [h, PerPin.get_set]
  · next h => exact PerPin.get_set_ne p v h

@[simp] theorem PerPin.set_set {α : Type} (p : PerPin α) (i : Pin) (v w : α) :
    (p.set i v).set i w = p.set i w := by
  fin_cases i <;> rfl

@[simp] theorem PerPin.set_get {α : Type} (p : PerPin α) (i : Pin) : p.set i (p.get i) = p := by
  fin_cases i <;> rfl

@[simp] theorem PerPin.get_all {α : Type} (v : α) (i : Pin) : (PerPin.all v).get i = v := by
  fin_cases i <;> rfl

@[simp] theorem PerPin.get_map {α β : Type} (f : α → β) (p : PerPin α) (i : Pin) :
    (p.map f).get i = f (p.get i) := by
  fin_cases i <;> rfl

@[simp] theorem PerPin.get_of {α : Type} (f : Pin → α) (i : Pin) : (PerPin.of f).get i = f i := by
  fin_cases i <;> rfl

/-- Two collections with the same members are equal. -/
theorem PerPin.ext_get {α : Type} {p q : PerPin α} (h : ∀ i, p.get i = q.get i) : p = q := by
  cases p
  cases q
  simp only [PerPin.mk.injEq]
  exact ⟨h 0, h 1, h 2, h 3, h 4, h 5, h 6, h 7⟩

/-! ### The lists of members -/

@[simp] theorem mem_slots (i : Slot) : i ∈ slots := by fin_cases i <;> decide
@[simp] theorem mem_nodes (n : Node) : n ∈ nodes := by fin_cases n <;> decide
@[simp] theorem mem_pins (p : Pin) : p ∈ pins := by fin_cases p <;> decide
@[simp] theorem mem_coils (c : Coil) : c ∈ coils := by cases c <;> decide

end Sys2Proof.Machine
end

