-- ==== Sys2Proof/Laws/State.lean ====
section
/-! SUPPORT. One lemma per field per update of a block, each true by definition, so that no proof
unfolds a record update. -/

namespace Sys2Proof.Machine

/-! ### onWdc -/

@[simp] theorem onWdc_pending (f : Wdc → Wdc) (s : State) : (onWdc f s).pending = s.pending := rfl
@[simp] theorem onWdc_freeCount (f : Wdc → Wdc) (s : State) : (onWdc f s).freeCount = s.freeCount := rfl
@[simp] theorem onWdc_resetHeld (f : Wdc → Wdc) (s : State) : (onWdc f s).resetHeld = s.resetHeld := rfl
@[simp] theorem onWdc_nRate (f : Wdc → Wdc) (s : State) : (onWdc f s).nRate = s.nRate := rfl
@[simp] theorem onWdc_dRate (f : Wdc → Wdc) (s : State) : (onWdc f s).dRate = s.dRate := rfl
@[simp] theorem onWdc_mem (f : Wdc → Wdc) (s : State) : (onWdc f s).mem = s.mem := rfl
@[simp] theorem onWdc_wdc (f : Wdc → Wdc) (s : State) : (onWdc f s).wdc = f s.wdc := rfl
@[simp] theorem onWdc_zcu (f : Wdc → Wdc) (s : State) : (onWdc f s).zcu = s.zcu := rfl
@[simp] theorem onWdc_spu (f : Wdc → Wdc) (s : State) : (onWdc f s).spu = s.spu := rfl
@[simp] theorem onWdc_mgt (f : Wdc → Wdc) (s : State) : (onWdc f s).mgt = s.mgt := rfl
@[simp] theorem onWdc_dlc (f : Wdc → Wdc) (s : State) : (onWdc f s).dlc = s.dlc := rfl
@[simp] theorem onWdc_rse (f : Wdc → Wdc) (s : State) : (onWdc f s).rse = s.rse := rfl
@[simp] theorem onWdc_dkc (f : Wdc → Wdc) (s : State) : (onWdc f s).dkc = s.dkc := rfl
@[simp] theorem onWdc_tbs (f : Wdc → Wdc) (s : State) : (onWdc f s).tbs = s.tbs := rfl
@[simp] theorem onWdc_nli (f : Wdc → Wdc) (s : State) : (onWdc f s).nli = s.nli := rfl
@[simp] theorem onWdc_mrh (f : Wdc → Wdc) (s : State) : (onWdc f s).mrh = s.mrh := rfl
@[simp] theorem onWdc_lbu (f : Wdc → Wdc) (s : State) : (onWdc f s).lbu = s.lbu := rfl

/-! ### onZcu -/

@[simp] theorem onZcu_pending (f : Zcu → Zcu) (s : State) : (onZcu f s).pending = s.pending := rfl
@[simp] theorem onZcu_freeCount (f : Zcu → Zcu) (s : State) : (onZcu f s).freeCount = s.freeCount := rfl
@[simp] theorem onZcu_resetHeld (f : Zcu → Zcu) (s : State) : (onZcu f s).resetHeld = s.resetHeld := rfl
@[simp] theorem onZcu_nRate (f : Zcu → Zcu) (s : State) : (onZcu f s).nRate = s.nRate := rfl
@[simp] theorem onZcu_dRate (f : Zcu → Zcu) (s : State) : (onZcu f s).dRate = s.dRate := rfl
@[simp] theorem onZcu_mem (f : Zcu → Zcu) (s : State) : (onZcu f s).mem = s.mem := rfl
@[simp] theorem onZcu_wdc (f : Zcu → Zcu) (s : State) : (onZcu f s).wdc = s.wdc := rfl
@[simp] theorem onZcu_zcu (f : Zcu → Zcu) (s : State) : (onZcu f s).zcu = f s.zcu := rfl
@[simp] theorem onZcu_spu (f : Zcu → Zcu) (s : State) : (onZcu f s).spu = s.spu := rfl
@[simp] theorem onZcu_mgt (f : Zcu → Zcu) (s : State) : (onZcu f s).mgt = s.mgt := rfl
@[simp] theorem onZcu_dlc (f : Zcu → Zcu) (s : State) : (onZcu f s).dlc = s.dlc := rfl
@[simp] theorem onZcu_rse (f : Zcu → Zcu) (s : State) : (onZcu f s).rse = s.rse := rfl
@[simp] theorem onZcu_dkc (f : Zcu → Zcu) (s : State) : (onZcu f s).dkc = s.dkc := rfl
@[simp] theorem onZcu_tbs (f : Zcu → Zcu) (s : State) : (onZcu f s).tbs = s.tbs := rfl
@[simp] theorem onZcu_nli (f : Zcu → Zcu) (s : State) : (onZcu f s).nli = s.nli := rfl
@[simp] theorem onZcu_mrh (f : Zcu → Zcu) (s : State) : (onZcu f s).mrh = s.mrh := rfl
@[simp] theorem onZcu_lbu (f : Zcu → Zcu) (s : State) : (onZcu f s).lbu = s.lbu := rfl

/-! ### onSpu -/

@[simp] theorem onSpu_pending (f : Spu → Spu) (s : State) : (onSpu f s).pending = s.pending := rfl
@[simp] theorem onSpu_freeCount (f : Spu → Spu) (s : State) : (onSpu f s).freeCount = s.freeCount := rfl
@[simp] theorem onSpu_resetHeld (f : Spu → Spu) (s : State) : (onSpu f s).resetHeld = s.resetHeld := rfl
@[simp] theorem onSpu_nRate (f : Spu → Spu) (s : State) : (onSpu f s).nRate = s.nRate := rfl
@[simp] theorem onSpu_dRate (f : Spu → Spu) (s : State) : (onSpu f s).dRate = s.dRate := rfl
@[simp] theorem onSpu_mem (f : Spu → Spu) (s : State) : (onSpu f s).mem = s.mem := rfl
@[simp] theorem onSpu_wdc (f : Spu → Spu) (s : State) : (onSpu f s).wdc = s.wdc := rfl
@[simp] theorem onSpu_zcu (f : Spu → Spu) (s : State) : (onSpu f s).zcu = s.zcu := rfl
@[simp] theorem onSpu_spu (f : Spu → Spu) (s : State) : (onSpu f s).spu = f s.spu := rfl
@[simp] theorem onSpu_mgt (f : Spu → Spu) (s : State) : (onSpu f s).mgt = s.mgt := rfl
@[simp] theorem onSpu_dlc (f : Spu → Spu) (s : State) : (onSpu f s).dlc = s.dlc := rfl
@[simp] theorem onSpu_rse (f : Spu → Spu) (s : State) : (onSpu f s).rse = s.rse := rfl
@[simp] theorem onSpu_dkc (f : Spu → Spu) (s : State) : (onSpu f s).dkc = s.dkc := rfl
@[simp] theorem onSpu_tbs (f : Spu → Spu) (s : State) : (onSpu f s).tbs = s.tbs := rfl
@[simp] theorem onSpu_nli (f : Spu → Spu) (s : State) : (onSpu f s).nli = s.nli := rfl
@[simp] theorem onSpu_mrh (f : Spu → Spu) (s : State) : (onSpu f s).mrh = s.mrh := rfl
@[simp] theorem onSpu_lbu (f : Spu → Spu) (s : State) : (onSpu f s).lbu = s.lbu := rfl

/-! ### onMgt -/

@[simp] theorem onMgt_pending (f : Mgt → Mgt) (s : State) : (onMgt f s).pending = s.pending := rfl
@[simp] theorem onMgt_freeCount (f : Mgt → Mgt) (s : State) : (onMgt f s).freeCount = s.freeCount := rfl
@[simp] theorem onMgt_resetHeld (f : Mgt → Mgt) (s : State) : (onMgt f s).resetHeld = s.resetHeld := rfl
@[simp] theorem onMgt_nRate (f : Mgt → Mgt) (s : State) : (onMgt f s).nRate = s.nRate := rfl
@[simp] theorem onMgt_dRate (f : Mgt → Mgt) (s : State) : (onMgt f s).dRate = s.dRate := rfl
@[simp] theorem onMgt_mem (f : Mgt → Mgt) (s : State) : (onMgt f s).mem = s.mem := rfl
@[simp] theorem onMgt_wdc (f : Mgt → Mgt) (s : State) : (onMgt f s).wdc = s.wdc := rfl
@[simp] theorem onMgt_zcu (f : Mgt → Mgt) (s : State) : (onMgt f s).zcu = s.zcu := rfl
@[simp] theorem onMgt_spu (f : Mgt → Mgt) (s : State) : (onMgt f s).spu = s.spu := rfl
@[simp] theorem onMgt_mgt (f : Mgt → Mgt) (s : State) : (onMgt f s).mgt = f s.mgt := rfl
@[simp] theorem onMgt_dlc (f : Mgt → Mgt) (s : State) : (onMgt f s).dlc = s.dlc := rfl
@[simp] theorem onMgt_rse (f : Mgt → Mgt) (s : State) : (onMgt f s).rse = s.rse := rfl
@[simp] theorem onMgt_dkc (f : Mgt → Mgt) (s : State) : (onMgt f s).dkc = s.dkc := rfl
@[simp] theorem onMgt_tbs (f : Mgt → Mgt) (s : State) : (onMgt f s).tbs = s.tbs := rfl
@[simp] theorem onMgt_nli (f : Mgt → Mgt) (s : State) : (onMgt f s).nli = s.nli := rfl
@[simp] theorem onMgt_mrh (f : Mgt → Mgt) (s : State) : (onMgt f s).mrh = s.mrh := rfl
@[simp] theorem onMgt_lbu (f : Mgt → Mgt) (s : State) : (onMgt f s).lbu = s.lbu := rfl

/-! ### onDlc -/

@[simp] theorem onDlc_pending (f : Dlc → Dlc) (s : State) : (onDlc f s).pending = s.pending := rfl
@[simp] theorem onDlc_freeCount (f : Dlc → Dlc) (s : State) : (onDlc f s).freeCount = s.freeCount := rfl
@[simp] theorem onDlc_resetHeld (f : Dlc → Dlc) (s : State) : (onDlc f s).resetHeld = s.resetHeld := rfl
@[simp] theorem onDlc_nRate (f : Dlc → Dlc) (s : State) : (onDlc f s).nRate = s.nRate := rfl
@[simp] theorem onDlc_dRate (f : Dlc → Dlc) (s : State) : (onDlc f s).dRate = s.dRate := rfl
@[simp] theorem onDlc_mem (f : Dlc → Dlc) (s : State) : (onDlc f s).mem = s.mem := rfl
@[simp] theorem onDlc_wdc (f : Dlc → Dlc) (s : State) : (onDlc f s).wdc = s.wdc := rfl
@[simp] theorem onDlc_zcu (f : Dlc → Dlc) (s : State) : (onDlc f s).zcu = s.zcu := rfl
@[simp] theorem onDlc_spu (f : Dlc → Dlc) (s : State) : (onDlc f s).spu = s.spu := rfl
@[simp] theorem onDlc_mgt (f : Dlc → Dlc) (s : State) : (onDlc f s).mgt = s.mgt := rfl
@[simp] theorem onDlc_dlc (f : Dlc → Dlc) (s : State) : (onDlc f s).dlc = f s.dlc := rfl
@[simp] theorem onDlc_rse (f : Dlc → Dlc) (s : State) : (onDlc f s).rse = s.rse := rfl
@[simp] theorem onDlc_dkc (f : Dlc → Dlc) (s : State) : (onDlc f s).dkc = s.dkc := rfl
@[simp] theorem onDlc_tbs (f : Dlc → Dlc) (s : State) : (onDlc f s).tbs = s.tbs := rfl
@[simp] theorem onDlc_nli (f : Dlc → Dlc) (s : State) : (onDlc f s).nli = s.nli := rfl
@[simp] theorem onDlc_mrh (f : Dlc → Dlc) (s : State) : (onDlc f s).mrh = s.mrh := rfl
@[simp] theorem onDlc_lbu (f : Dlc → Dlc) (s : State) : (onDlc f s).lbu = s.lbu := rfl

/-! ### onRse -/

@[simp] theorem onRse_pending (f : Rse → Rse) (s : State) : (onRse f s).pending = s.pending := rfl
@[simp] theorem onRse_freeCount (f : Rse → Rse) (s : State) : (onRse f s).freeCount = s.freeCount := rfl
@[simp] theorem onRse_resetHeld (f : Rse → Rse) (s : State) : (onRse f s).resetHeld = s.resetHeld := rfl
@[simp] theorem onRse_nRate (f : Rse → Rse) (s : State) : (onRse f s).nRate = s.nRate := rfl
@[simp] theorem onRse_dRate (f : Rse → Rse) (s : State) : (onRse f s).dRate = s.dRate := rfl
@[simp] theorem onRse_mem (f : Rse → Rse) (s : State) : (onRse f s).mem = s.mem := rfl
@[simp] theorem onRse_wdc (f : Rse → Rse) (s : State) : (onRse f s).wdc = s.wdc := rfl
@[simp] theorem onRse_zcu (f : Rse → Rse) (s : State) : (onRse f s).zcu = s.zcu := rfl
@[simp] theorem onRse_spu (f : Rse → Rse) (s : State) : (onRse f s).spu = s.spu := rfl
@[simp] theorem onRse_mgt (f : Rse → Rse) (s : State) : (onRse f s).mgt = s.mgt := rfl
@[simp] theorem onRse_dlc (f : Rse → Rse) (s : State) : (onRse f s).dlc = s.dlc := rfl
@[simp] theorem onRse_rse (f : Rse → Rse) (s : State) : (onRse f s).rse = f s.rse := rfl
@[simp] theorem onRse_dkc (f : Rse → Rse) (s : State) : (onRse f s).dkc = s.dkc := rfl
@[simp] theorem onRse_tbs (f : Rse → Rse) (s : State) : (onRse f s).tbs = s.tbs := rfl
@[simp] theorem onRse_nli (f : Rse → Rse) (s : State) : (onRse f s).nli = s.nli := rfl
@[simp] theorem onRse_mrh (f : Rse → Rse) (s : State) : (onRse f s).mrh = s.mrh := rfl
@[simp] theorem onRse_lbu (f : Rse → Rse) (s : State) : (onRse f s).lbu = s.lbu := rfl

/-! ### onDkc -/

@[simp] theorem onDkc_pending (f : Dkc → Dkc) (s : State) : (onDkc f s).pending = s.pending := rfl
@[simp] theorem onDkc_freeCount (f : Dkc → Dkc) (s : State) : (onDkc f s).freeCount = s.freeCount := rfl
@[simp] theorem onDkc_resetHeld (f : Dkc → Dkc) (s : State) : (onDkc f s).resetHeld = s.resetHeld := rfl
@[simp] theorem onDkc_nRate (f : Dkc → Dkc) (s : State) : (onDkc f s).nRate = s.nRate := rfl
@[simp] theorem onDkc_dRate (f : Dkc → Dkc) (s : State) : (onDkc f s).dRate = s.dRate := rfl
@[simp] theorem onDkc_mem (f : Dkc → Dkc) (s : State) : (onDkc f s).mem = s.mem := rfl
@[simp] theorem onDkc_wdc (f : Dkc → Dkc) (s : State) : (onDkc f s).wdc = s.wdc := rfl
@[simp] theorem onDkc_zcu (f : Dkc → Dkc) (s : State) : (onDkc f s).zcu = s.zcu := rfl
@[simp] theorem onDkc_spu (f : Dkc → Dkc) (s : State) : (onDkc f s).spu = s.spu := rfl
@[simp] theorem onDkc_mgt (f : Dkc → Dkc) (s : State) : (onDkc f s).mgt = s.mgt := rfl
@[simp] theorem onDkc_dlc (f : Dkc → Dkc) (s : State) : (onDkc f s).dlc = s.dlc := rfl
@[simp] theorem onDkc_rse (f : Dkc → Dkc) (s : State) : (onDkc f s).rse = s.rse := rfl
@[simp] theorem onDkc_dkc (f : Dkc → Dkc) (s : State) : (onDkc f s).dkc = f s.dkc := rfl
@[simp] theorem onDkc_tbs (f : Dkc → Dkc) (s : State) : (onDkc f s).tbs = s.tbs := rfl
@[simp] theorem onDkc_nli (f : Dkc → Dkc) (s : State) : (onDkc f s).nli = s.nli := rfl
@[simp] theorem onDkc_mrh (f : Dkc → Dkc) (s : State) : (onDkc f s).mrh = s.mrh := rfl
@[simp] theorem onDkc_lbu (f : Dkc → Dkc) (s : State) : (onDkc f s).lbu = s.lbu := rfl

/-! ### onTbs -/

@[simp] theorem onTbs_pending (f : Tbs → Tbs) (s : State) : (onTbs f s).pending = s.pending := rfl
@[simp] theorem onTbs_freeCount (f : Tbs → Tbs) (s : State) : (onTbs f s).freeCount = s.freeCount := rfl
@[simp] theorem onTbs_resetHeld (f : Tbs → Tbs) (s : State) : (onTbs f s).resetHeld = s.resetHeld := rfl
@[simp] theorem onTbs_nRate (f : Tbs → Tbs) (s : State) : (onTbs f s).nRate = s.nRate := rfl
@[simp] theorem onTbs_dRate (f : Tbs → Tbs) (s : State) : (onTbs f s).dRate = s.dRate := rfl
@[simp] theorem onTbs_mem (f : Tbs → Tbs) (s : State) : (onTbs f s).mem = s.mem := rfl
@[simp] theorem onTbs_wdc (f : Tbs → Tbs) (s : State) : (onTbs f s).wdc = s.wdc := rfl
@[simp] theorem onTbs_zcu (f : Tbs → Tbs) (s : State) : (onTbs f s).zcu = s.zcu := rfl
@[simp] theorem onTbs_spu (f : Tbs → Tbs) (s : State) : (onTbs f s).spu = s.spu := rfl
@[simp] theorem onTbs_mgt (f : Tbs → Tbs) (s : State) : (onTbs f s).mgt = s.mgt := rfl
@[simp] theorem onTbs_dlc (f : Tbs → Tbs) (s : State) : (onTbs f s).dlc = s.dlc := rfl
@[simp] theorem onTbs_rse (f : Tbs → Tbs) (s : State) : (onTbs f s).rse = s.rse := rfl
@[simp] theorem onTbs_dkc (f : Tbs → Tbs) (s : State) : (onTbs f s).dkc = s.dkc := rfl
@[simp] theorem onTbs_tbs (f : Tbs → Tbs) (s : State) : (onTbs f s).tbs = f s.tbs := rfl
@[simp] theorem onTbs_nli (f : Tbs → Tbs) (s : State) : (onTbs f s).nli = s.nli := rfl
@[simp] theorem onTbs_mrh (f : Tbs → Tbs) (s : State) : (onTbs f s).mrh = s.mrh := rfl
@[simp] theorem onTbs_lbu (f : Tbs → Tbs) (s : State) : (onTbs f s).lbu = s.lbu := rfl

/-! ### onNli -/

@[simp] theorem onNli_pending (f : Nli → Nli) (s : State) : (onNli f s).pending = s.pending := rfl
@[simp] theorem onNli_freeCount (f : Nli → Nli) (s : State) : (onNli f s).freeCount = s.freeCount := rfl
@[simp] theorem onNli_resetHeld (f : Nli → Nli) (s : State) : (onNli f s).resetHeld = s.resetHeld := rfl
@[simp] theorem onNli_nRate (f : Nli → Nli) (s : State) : (onNli f s).nRate = s.nRate := rfl
@[simp] theorem onNli_dRate (f : Nli → Nli) (s : State) : (onNli f s).dRate = s.dRate := rfl
@[simp] theorem onNli_mem (f : Nli → Nli) (s : State) : (onNli f s).mem = s.mem := rfl
@[simp] theorem onNli_wdc (f : Nli → Nli) (s : State) : (onNli f s).wdc = s.wdc := rfl
@[simp] theorem onNli_zcu (f : Nli → Nli) (s : State) : (onNli f s).zcu = s.zcu := rfl
@[simp] theorem onNli_spu (f : Nli → Nli) (s : State) : (onNli f s).spu = s.spu := rfl
@[simp] theorem onNli_mgt (f : Nli → Nli) (s : State) : (onNli f s).mgt = s.mgt := rfl
@[simp] theorem onNli_dlc (f : Nli → Nli) (s : State) : (onNli f s).dlc = s.dlc := rfl
@[simp] theorem onNli_rse (f : Nli → Nli) (s : State) : (onNli f s).rse = s.rse := rfl
@[simp] theorem onNli_dkc (f : Nli → Nli) (s : State) : (onNli f s).dkc = s.dkc := rfl
@[simp] theorem onNli_tbs (f : Nli → Nli) (s : State) : (onNli f s).tbs = s.tbs := rfl
@[simp] theorem onNli_nli (f : Nli → Nli) (s : State) : (onNli f s).nli = f s.nli := rfl
@[simp] theorem onNli_mrh (f : Nli → Nli) (s : State) : (onNli f s).mrh = s.mrh := rfl
@[simp] theorem onNli_lbu (f : Nli → Nli) (s : State) : (onNli f s).lbu = s.lbu := rfl

/-! ### onMrh -/

@[simp] theorem onMrh_pending (f : Mrh → Mrh) (s : State) : (onMrh f s).pending = s.pending := rfl
@[simp] theorem onMrh_freeCount (f : Mrh → Mrh) (s : State) : (onMrh f s).freeCount = s.freeCount := rfl
@[simp] theorem onMrh_resetHeld (f : Mrh → Mrh) (s : State) : (onMrh f s).resetHeld = s.resetHeld := rfl
@[simp] theorem onMrh_nRate (f : Mrh → Mrh) (s : State) : (onMrh f s).nRate = s.nRate := rfl
@[simp] theorem onMrh_dRate (f : Mrh → Mrh) (s : State) : (onMrh f s).dRate = s.dRate := rfl
@[simp] theorem onMrh_mem (f : Mrh → Mrh) (s : State) : (onMrh f s).mem = s.mem := rfl
@[simp] theorem onMrh_wdc (f : Mrh → Mrh) (s : State) : (onMrh f s).wdc = s.wdc := rfl
@[simp] theorem onMrh_zcu (f : Mrh → Mrh) (s : State) : (onMrh f s).zcu = s.zcu := rfl
@[simp] theorem onMrh_spu (f : Mrh → Mrh) (s : State) : (onMrh f s).spu = s.spu := rfl
@[simp] theorem onMrh_mgt (f : Mrh → Mrh) (s : State) : (onMrh f s).mgt = s.mgt := rfl
@[simp] theorem onMrh_dlc (f : Mrh → Mrh) (s : State) : (onMrh f s).dlc = s.dlc := rfl
@[simp] theorem onMrh_rse (f : Mrh → Mrh) (s : State) : (onMrh f s).rse = s.rse := rfl
@[simp] theorem onMrh_dkc (f : Mrh → Mrh) (s : State) : (onMrh f s).dkc = s.dkc := rfl
@[simp] theorem onMrh_tbs (f : Mrh → Mrh) (s : State) : (onMrh f s).tbs = s.tbs := rfl
@[simp] theorem onMrh_nli (f : Mrh → Mrh) (s : State) : (onMrh f s).nli = s.nli := rfl
@[simp] theorem onMrh_mrh (f : Mrh → Mrh) (s : State) : (onMrh f s).mrh = f s.mrh := rfl
@[simp] theorem onMrh_lbu (f : Mrh → Mrh) (s : State) : (onMrh f s).lbu = s.lbu := rfl

/-! ### onLbu -/

@[simp] theorem onLbu_pending (f : Lbu → Lbu) (s : State) : (onLbu f s).pending = s.pending := rfl
@[simp] theorem onLbu_freeCount (f : Lbu → Lbu) (s : State) : (onLbu f s).freeCount = s.freeCount := rfl
@[simp] theorem onLbu_resetHeld (f : Lbu → Lbu) (s : State) : (onLbu f s).resetHeld = s.resetHeld := rfl
@[simp] theorem onLbu_nRate (f : Lbu → Lbu) (s : State) : (onLbu f s).nRate = s.nRate := rfl
@[simp] theorem onLbu_dRate (f : Lbu → Lbu) (s : State) : (onLbu f s).dRate = s.dRate := rfl
@[simp] theorem onLbu_mem (f : Lbu → Lbu) (s : State) : (onLbu f s).mem = s.mem := rfl
@[simp] theorem onLbu_wdc (f : Lbu → Lbu) (s : State) : (onLbu f s).wdc = s.wdc := rfl
@[simp] theorem onLbu_zcu (f : Lbu → Lbu) (s : State) : (onLbu f s).zcu = s.zcu := rfl
@[simp] theorem onLbu_spu (f : Lbu → Lbu) (s : State) : (onLbu f s).spu = s.spu := rfl
@[simp] theorem onLbu_mgt (f : Lbu → Lbu) (s : State) : (onLbu f s).mgt = s.mgt := rfl
@[simp] theorem onLbu_dlc (f : Lbu → Lbu) (s : State) : (onLbu f s).dlc = s.dlc := rfl
@[simp] theorem onLbu_rse (f : Lbu → Lbu) (s : State) : (onLbu f s).rse = s.rse := rfl
@[simp] theorem onLbu_dkc (f : Lbu → Lbu) (s : State) : (onLbu f s).dkc = s.dkc := rfl
@[simp] theorem onLbu_tbs (f : Lbu → Lbu) (s : State) : (onLbu f s).tbs = s.tbs := rfl
@[simp] theorem onLbu_nli (f : Lbu → Lbu) (s : State) : (onLbu f s).nli = s.nli := rfl
@[simp] theorem onLbu_mrh (f : Lbu → Lbu) (s : State) : (onLbu f s).mrh = s.mrh := rfl
@[simp] theorem onLbu_lbu (f : Lbu → Lbu) (s : State) : (onLbu f s).lbu = f s.lbu := rfl

/-! ### Counters -/

@[simp] theorem countZcu_pending (f : ZcuCounters → ZcuCounters) (s : State) :
    (countZcu f s).pending = s.pending := rfl
@[simp] theorem countZcu_freeCount (f : ZcuCounters → ZcuCounters) (s : State) :
    (countZcu f s).freeCount = s.freeCount := rfl
@[simp] theorem countZcu_resetHeld (f : ZcuCounters → ZcuCounters) (s : State) :
    (countZcu f s).resetHeld = s.resetHeld := rfl
@[simp] theorem countZcu_nRate (f : ZcuCounters → ZcuCounters) (s : State) :
    (countZcu f s).nRate = s.nRate := rfl
@[simp] theorem countZcu_dRate (f : ZcuCounters → ZcuCounters) (s : State) :
    (countZcu f s).dRate = s.dRate := rfl
@[simp] theorem countZcu_mem (f : ZcuCounters → ZcuCounters) (s : State) :
    (countZcu f s).mem = s.mem := rfl
@[simp] theorem countZcu_wdc (f : ZcuCounters → ZcuCounters) (s : State) :
    (countZcu f s).wdc = s.wdc := rfl
@[simp] theorem countZcu_zcu (f : ZcuCounters → ZcuCounters) (s : State) :
    (countZcu f s).zcu = { s.zcu with cnt := f s.zcu.cnt } := rfl
@[simp] theorem countZcu_spu (f : ZcuCounters → ZcuCounters) (s : State) :
    (countZcu f s).spu = s.spu := rfl
@[simp] theorem countZcu_mgt (f : ZcuCounters → ZcuCounters) (s : State) :
    (countZcu f s).mgt = s.mgt := rfl
@[simp] theorem countZcu_dlc (f : ZcuCounters → ZcuCounters) (s : State) :
    (countZcu f s).dlc = s.dlc := rfl
@[simp] theorem countZcu_rse (f : ZcuCounters → ZcuCounters) (s : State) :
    (countZcu f s).rse = s.rse := rfl
@[simp] theorem countZcu_dkc (f : ZcuCounters → ZcuCounters) (s : State) :
    (countZcu f s).dkc = s.dkc := rfl
@[simp] theorem countZcu_tbs (f : ZcuCounters → ZcuCounters) (s : State) :
    (countZcu f s).tbs = s.tbs := rfl
@[simp] theorem countZcu_nli (f : ZcuCounters → ZcuCounters) (s : State) :
    (countZcu f s).nli = s.nli := rfl
@[simp] theorem countZcu_mrh (f : ZcuCounters → ZcuCounters) (s : State) :
    (countZcu f s).mrh = s.mrh := rfl
@[simp] theorem countZcu_lbu (f : ZcuCounters → ZcuCounters) (s : State) :
    (countZcu f s).lbu = s.lbu := rfl

@[simp] theorem countMgt_pending (f : MgtCounters → MgtCounters) (s : State) :
    (countMgt f s).pending = s.pending := rfl
@[simp] theorem countMgt_freeCount (f : MgtCounters → MgtCounters) (s : State) :
    (countMgt f s).freeCount = s.freeCount := rfl
@[simp] theorem countMgt_resetHeld (f : MgtCounters → MgtCounters) (s : State) :
    (countMgt f s).resetHeld = s.resetHeld := rfl
@[simp] theorem countMgt_nRate (f : MgtCounters → MgtCounters) (s : State) :
    (countMgt f s).nRate = s.nRate := rfl
@[simp] theorem countMgt_dRate (f : MgtCounters → MgtCounters) (s : State) :
    (countMgt f s).dRate = s.dRate := rfl
@[simp] theorem countMgt_mem (f : MgtCounters → MgtCounters) (s : State) :
    (countMgt f s).mem = s.mem := rfl
@[simp] theorem countMgt_wdc (f : MgtCounters → MgtCounters) (s : State) :
    (countMgt f s).wdc = s.wdc := rfl
@[simp] theorem countMgt_zcu (f : MgtCounters → MgtCounters) (s : State) :
    (countMgt f s).zcu = s.zcu := rfl
@[simp] theorem countMgt_spu (f : MgtCounters → MgtCounters) (s : State) :
    (countMgt f s).spu = s.spu := rfl
@[simp] theorem countMgt_mgt (f : MgtCounters → MgtCounters) (s : State) :
    (countMgt f s).mgt = { s.mgt with cnt := f s.mgt.cnt } := rfl
@[simp] theorem countMgt_dlc (f : MgtCounters → MgtCounters) (s : State) :
    (countMgt f s).dlc = s.dlc := rfl
@[simp] theorem countMgt_rse (f : MgtCounters → MgtCounters) (s : State) :
    (countMgt f s).rse = s.rse := rfl
@[simp] theorem countMgt_dkc (f : MgtCounters → MgtCounters) (s : State) :
    (countMgt f s).dkc = s.dkc := rfl
@[simp] theorem countMgt_tbs (f : MgtCounters → MgtCounters) (s : State) :
    (countMgt f s).tbs = s.tbs := rfl
@[simp] theorem countMgt_nli (f : MgtCounters → MgtCounters) (s : State) :
    (countMgt f s).nli = s.nli := rfl
@[simp] theorem countMgt_mrh (f : MgtCounters → MgtCounters) (s : State) :
    (countMgt f s).mrh = s.mrh := rfl
@[simp] theorem countMgt_lbu (f : MgtCounters → MgtCounters) (s : State) :
    (countMgt f s).lbu = s.lbu := rfl

@[simp] theorem countDlc_pending (f : DlcCounters → DlcCounters) (s : State) :
    (countDlc f s).pending = s.pending := rfl
@[simp] theorem countDlc_freeCount (f : DlcCounters → DlcCounters) (s : State) :
    (countDlc f s).freeCount = s.freeCount := rfl
@[simp] theorem countDlc_resetHeld (f : DlcCounters → DlcCounters) (s : State) :
    (countDlc f s).resetHeld = s.resetHeld := rfl
@[simp] theorem countDlc_nRate (f : DlcCounters → DlcCounters) (s : State) :
    (countDlc f s).nRate = s.nRate := rfl
@[simp] theorem countDlc_dRate (f : DlcCounters → DlcCounters) (s : State) :
    (countDlc f s).dRate = s.dRate := rfl
@[simp] theorem countDlc_mem (f : DlcCounters → DlcCounters) (s : State) :
    (countDlc f s).mem = s.mem := rfl
@[simp] theorem countDlc_wdc (f : DlcCounters → DlcCounters) (s : State) :
    (countDlc f s).wdc = s.wdc := rfl
@[simp] theorem countDlc_zcu (f : DlcCounters → DlcCounters) (s : State) :
    (countDlc f s).zcu = s.zcu := rfl
@[simp] theorem countDlc_spu (f : DlcCounters → DlcCounters) (s : State) :
    (countDlc f s).spu = s.spu := rfl
@[simp] theorem countDlc_mgt (f : DlcCounters → DlcCounters) (s : State) :
    (countDlc f s).mgt = s.mgt := rfl
@[simp] theorem countDlc_dlc (f : DlcCounters → DlcCounters) (s : State) :
    (countDlc f s).dlc = { s.dlc with cnt := f s.dlc.cnt } := rfl
@[simp] theorem countDlc_rse (f : DlcCounters → DlcCounters) (s : State) :
    (countDlc f s).rse = s.rse := rfl
@[simp] theorem countDlc_dkc (f : DlcCounters → DlcCounters) (s : State) :
    (countDlc f s).dkc = s.dkc := rfl
@[simp] theorem countDlc_tbs (f : DlcCounters → DlcCounters) (s : State) :
    (countDlc f s).tbs = s.tbs := rfl
@[simp] theorem countDlc_nli (f : DlcCounters → DlcCounters) (s : State) :
    (countDlc f s).nli = s.nli := rfl
@[simp] theorem countDlc_mrh (f : DlcCounters → DlcCounters) (s : State) :
    (countDlc f s).mrh = s.mrh := rfl
@[simp] theorem countDlc_lbu (f : DlcCounters → DlcCounters) (s : State) :
    (countDlc f s).lbu = s.lbu := rfl

@[simp] theorem countRse_pending (f : RseCounters → RseCounters) (s : State) :
    (countRse f s).pending = s.pending := rfl
@[simp] theorem countRse_freeCount (f : RseCounters → RseCounters) (s : State) :
    (countRse f s).freeCount = s.freeCount := rfl
@[simp] theorem countRse_resetHeld (f : RseCounters → RseCounters) (s : State) :
    (countRse f s).resetHeld = s.resetHeld := rfl
@[simp] theorem countRse_nRate (f : RseCounters → RseCounters) (s : State) :
    (countRse f s).nRate = s.nRate := rfl
@[simp] theorem countRse_dRate (f : RseCounters → RseCounters) (s : State) :
    (countRse f s).dRate = s.dRate := rfl
@[simp] theorem countRse_mem (f : RseCounters → RseCounters) (s : State) :
    (countRse f s).mem = s.mem := rfl
@[simp] theorem countRse_wdc (f : RseCounters → RseCounters) (s : State) :
    (countRse f s).wdc = s.wdc := rfl
@[simp] theorem countRse_zcu (f : RseCounters → RseCounters) (s : State) :
    (countRse f s).zcu = s.zcu := rfl
@[simp] theorem countRse_spu (f : RseCounters → RseCounters) (s : State) :
    (countRse f s).spu = s.spu := rfl
@[simp] theorem countRse_mgt (f : RseCounters → RseCounters) (s : State) :
    (countRse f s).mgt = s.mgt := rfl
@[simp] theorem countRse_dlc (f : RseCounters → RseCounters) (s : State) :
    (countRse f s).dlc = s.dlc := rfl
@[simp] theorem countRse_rse (f : RseCounters → RseCounters) (s : State) :
    (countRse f s).rse = { s.rse with cnt := f s.rse.cnt } := rfl
@[simp] theorem countRse_dkc (f : RseCounters → RseCounters) (s : State) :
    (countRse f s).dkc = s.dkc := rfl
@[simp] theorem countRse_tbs (f : RseCounters → RseCounters) (s : State) :
    (countRse f s).tbs = s.tbs := rfl
@[simp] theorem countRse_nli (f : RseCounters → RseCounters) (s : State) :
    (countRse f s).nli = s.nli := rfl
@[simp] theorem countRse_mrh (f : RseCounters → RseCounters) (s : State) :
    (countRse f s).mrh = s.mrh := rfl
@[simp] theorem countRse_lbu (f : RseCounters → RseCounters) (s : State) :
    (countRse f s).lbu = s.lbu := rfl

@[simp] theorem countDkc_pending (f : DkcCounters → DkcCounters) (s : State) :
    (countDkc f s).pending = s.pending := rfl
@[simp] theorem countDkc_freeCount (f : DkcCounters → DkcCounters) (s : State) :
    (countDkc f s).freeCount = s.freeCount := rfl
@[simp] theorem countDkc_resetHeld (f : DkcCounters → DkcCounters) (s : State) :
    (countDkc f s).resetHeld = s.resetHeld := rfl
@[simp] theorem countDkc_nRate (f : DkcCounters → DkcCounters) (s : State) :
    (countDkc f s).nRate = s.nRate := rfl
@[simp] theorem countDkc_dRate (f : DkcCounters → DkcCounters) (s : State) :
    (countDkc f s).dRate = s.dRate := rfl
@[simp] theorem countDkc_mem (f : DkcCounters → DkcCounters) (s : State) :
    (countDkc f s).mem = s.mem := rfl
@[simp] theorem countDkc_wdc (f : DkcCounters → DkcCounters) (s : State) :
    (countDkc f s).wdc = s.wdc := rfl
@[simp] theorem countDkc_zcu (f : DkcCounters → DkcCounters) (s : State) :
    (countDkc f s).zcu = s.zcu := rfl
@[simp] theorem countDkc_spu (f : DkcCounters → DkcCounters) (s : State) :
    (countDkc f s).spu = s.spu := rfl
@[simp] theorem countDkc_mgt (f : DkcCounters → DkcCounters) (s : State) :
    (countDkc f s).mgt = s.mgt := rfl
@[simp] theorem countDkc_dlc (f : DkcCounters → DkcCounters) (s : State) :
    (countDkc f s).dlc = s.dlc := rfl
@[simp] theorem countDkc_rse (f : DkcCounters → DkcCounters) (s : State) :
    (countDkc f s).rse = s.rse := rfl
@[simp] theorem countDkc_dkc (f : DkcCounters → DkcCounters) (s : State) :
    (countDkc f s).dkc = { s.dkc with cnt := f s.dkc.cnt } := rfl
@[simp] theorem countDkc_tbs (f : DkcCounters → DkcCounters) (s : State) :
    (countDkc f s).tbs = s.tbs := rfl
@[simp] theorem countDkc_nli (f : DkcCounters → DkcCounters) (s : State) :
    (countDkc f s).nli = s.nli := rfl
@[simp] theorem countDkc_mrh (f : DkcCounters → DkcCounters) (s : State) :
    (countDkc f s).mrh = s.mrh := rfl
@[simp] theorem countDkc_lbu (f : DkcCounters → DkcCounters) (s : State) :
    (countDkc f s).lbu = s.lbu := rfl

@[simp] theorem countTbs_pending (f : TbsCounters → TbsCounters) (s : State) :
    (countTbs f s).pending = s.pending := rfl
@[simp] theorem countTbs_freeCount (f : TbsCounters → TbsCounters) (s : State) :
    (countTbs f s).freeCount = s.freeCount := rfl
@[simp] theorem countTbs_resetHeld (f : TbsCounters → TbsCounters) (s : State) :
    (countTbs f s).resetHeld = s.resetHeld := rfl
@[simp] theorem countTbs_nRate (f : TbsCounters → TbsCounters) (s : State) :
    (countTbs f s).nRate = s.nRate := rfl
@[simp] theorem countTbs_dRate (f : TbsCounters → TbsCounters) (s : State) :
    (countTbs f s).dRate = s.dRate := rfl
@[simp] theorem countTbs_mem (f : TbsCounters → TbsCounters) (s : State) :
    (countTbs f s).mem = s.mem := rfl
@[simp] theorem countTbs_wdc (f : TbsCounters → TbsCounters) (s : State) :
    (countTbs f s).wdc = s.wdc := rfl
@[simp] theorem countTbs_zcu (f : TbsCounters → TbsCounters) (s : State) :
    (countTbs f s).zcu = s.zcu := rfl
@[simp] theorem countTbs_spu (f : TbsCounters → TbsCounters) (s : State) :
    (countTbs f s).spu = s.spu := rfl
@[simp] theorem countTbs_mgt (f : TbsCounters → TbsCounters) (s : State) :
    (countTbs f s).mgt = s.mgt := rfl
@[simp] theorem countTbs_dlc (f : TbsCounters → TbsCounters) (s : State) :
    (countTbs f s).dlc = s.dlc := rfl
@[simp] theorem countTbs_rse (f : TbsCounters → TbsCounters) (s : State) :
    (countTbs f s).rse = s.rse := rfl
@[simp] theorem countTbs_dkc (f : TbsCounters → TbsCounters) (s : State) :
    (countTbs f s).dkc = s.dkc := rfl
@[simp] theorem countTbs_tbs (f : TbsCounters → TbsCounters) (s : State) :
    (countTbs f s).tbs = { s.tbs with cnt := f s.tbs.cnt } := rfl
@[simp] theorem countTbs_nli (f : TbsCounters → TbsCounters) (s : State) :
    (countTbs f s).nli = s.nli := rfl
@[simp] theorem countTbs_mrh (f : TbsCounters → TbsCounters) (s : State) :
    (countTbs f s).mrh = s.mrh := rfl
@[simp] theorem countTbs_lbu (f : TbsCounters → TbsCounters) (s : State) :
    (countTbs f s).lbu = s.lbu := rfl

@[simp] theorem countNli_pending (f : NliCounters → NliCounters) (s : State) :
    (countNli f s).pending = s.pending := rfl
@[simp] theorem countNli_freeCount (f : NliCounters → NliCounters) (s : State) :
    (countNli f s).freeCount = s.freeCount := rfl
@[simp] theorem countNli_resetHeld (f : NliCounters → NliCounters) (s : State) :
    (countNli f s).resetHeld = s.resetHeld := rfl
@[simp] theorem countNli_nRate (f : NliCounters → NliCounters) (s : State) :
    (countNli f s).nRate = s.nRate := rfl
@[simp] theorem countNli_dRate (f : NliCounters → NliCounters) (s : State) :
    (countNli f s).dRate = s.dRate := rfl
@[simp] theorem countNli_mem (f : NliCounters → NliCounters) (s : State) :
    (countNli f s).mem = s.mem := rfl
@[simp] theorem countNli_wdc (f : NliCounters → NliCounters) (s : State) :
    (countNli f s).wdc = s.wdc := rfl
@[simp] theorem countNli_zcu (f : NliCounters → NliCounters) (s : State) :
    (countNli f s).zcu = s.zcu := rfl
@[simp] theorem countNli_spu (f : NliCounters → NliCounters) (s : State) :
    (countNli f s).spu = s.spu := rfl
@[simp] theorem countNli_mgt (f : NliCounters → NliCounters) (s : State) :
    (countNli f s).mgt = s.mgt := rfl
@[simp] theorem countNli_dlc (f : NliCounters → NliCounters) (s : State) :
    (countNli f s).dlc = s.dlc := rfl
@[simp] theorem countNli_rse (f : NliCounters → NliCounters) (s : State) :
    (countNli f s).rse = s.rse := rfl
@[simp] theorem countNli_dkc (f : NliCounters → NliCounters) (s : State) :
    (countNli f s).dkc = s.dkc := rfl
@[simp] theorem countNli_tbs (f : NliCounters → NliCounters) (s : State) :
    (countNli f s).tbs = s.tbs := rfl
@[simp] theorem countNli_nli (f : NliCounters → NliCounters) (s : State) :
    (countNli f s).nli = { s.nli with cnt := f s.nli.cnt } := rfl
@[simp] theorem countNli_mrh (f : NliCounters → NliCounters) (s : State) :
    (countNli f s).mrh = s.mrh := rfl
@[simp] theorem countNli_lbu (f : NliCounters → NliCounters) (s : State) :
    (countNli f s).lbu = s.lbu := rfl

end Sys2Proof.Machine
end

