-- ==== Sys2Proof/Laws/FramesDrive.lean ====
section
/-! SUPPORT. What each operation leaves as it was: the flags, the answers, the drive post queue, the gate and the hazard entry. -/

namespace Sys2Proof.Machine

/-- A fold of operations that each leave a part of the state as it was leaves it as it was. -/
theorem foldl_keeps {α β : Type} (f : State → β → State) (p : State → α)
    (h : ∀ s b, p (f s b) = p s) : ∀ (l : List β) (s : State), p (l.foldl f s) = p s
  | [], _ => rfl
  | b :: l, s => (foldl_keeps f p h l (f s b)).trans (h s b)

/-! ### Flags -/

@[simp] theorem txBegin_frame (s : State) :
    (txBegin s).pending = s.pending ∧ (txBegin s).freeCount = s.freeCount ∧
    (txBegin s).resetHeld = s.resetHeld ∧ (txBegin s).nRate = s.nRate ∧
    (txBegin s).dRate = s.dRate ∧ (txBegin s).mem = s.mem ∧ (txBegin s).wdc = s.wdc ∧
    (txBegin s).zcu = s.zcu ∧ (txBegin s).spu = s.spu ∧ (txBegin s).mgt = s.mgt ∧
    (txBegin s).dlc = s.dlc ∧ (txBegin s).rse = s.rse ∧ (txBegin s).dkc = s.dkc ∧
    (txBegin s).tbs = s.tbs ∧ (txBegin s).mrh = s.mrh ∧ (txBegin s).lbu = s.lbu := by
  unfold txBegin; (repeat' split) <;> simp

@[simp] theorem pushAnswer_frame (o : OutFrame) (s : State) :
    (pushAnswer o s).pending = s.pending ∧ (pushAnswer o s).freeCount = s.freeCount ∧
    (pushAnswer o s).resetHeld = s.resetHeld ∧ (pushAnswer o s).nRate = s.nRate ∧
    (pushAnswer o s).dRate = s.dRate ∧ (pushAnswer o s).mem = s.mem ∧
    (pushAnswer o s).wdc = s.wdc ∧ (pushAnswer o s).zcu = s.zcu ∧ (pushAnswer o s).spu = s.spu ∧
    (pushAnswer o s).mgt = s.mgt ∧ (pushAnswer o s).dlc = s.dlc ∧ (pushAnswer o s).rse = s.rse ∧
    (pushAnswer o s).dkc = s.dkc ∧ (pushAnswer o s).tbs = s.tbs ∧ (pushAnswer o s).mrh = s.mrh ∧
    (pushAnswer o s).lbu = s.lbu := by
  simp [pushAnswer]

@[simp] theorem setFlag_frame (f : EventFlag) (d : List Byte) (s : State) :
    (setFlag f d s).pending = s.pending ∧ (setFlag f d s).freeCount = s.freeCount ∧
    (setFlag f d s).resetHeld = s.resetHeld ∧ (setFlag f d s).nRate = s.nRate ∧
    (setFlag f d s).dRate = s.dRate ∧ (setFlag f d s).mem = s.mem ∧ (setFlag f d s).wdc = s.wdc ∧
    (setFlag f d s).zcu = s.zcu ∧ (setFlag f d s).spu = s.spu ∧ (setFlag f d s).mgt = s.mgt ∧
    (setFlag f d s).dlc = s.dlc ∧ (setFlag f d s).rse = s.rse ∧ (setFlag f d s).dkc = s.dkc ∧
    (setFlag f d s).tbs = s.tbs ∧ (setFlag f d s).mrh = s.mrh ∧ (setFlag f d s).lbu = s.lbu := by
  unfold setFlag; dsimp only; (repeat' split) <;> simp


/-! ### Ops -/

@[simp] theorem drawn_frame (s : State) :
    (drawn s).pending = s.pending ∧ (drawn s).resetHeld = s.resetHeld ∧
    (drawn s).nRate = s.nRate ∧ (drawn s).dRate = s.dRate ∧ (drawn s).mem = s.mem ∧
    (drawn s).wdc = s.wdc ∧ (drawn s).zcu = s.zcu ∧ (drawn s).spu = s.spu ∧
    (drawn s).mgt = s.mgt ∧ (drawn s).dlc = s.dlc ∧ (drawn s).rse = s.rse ∧
    (drawn s).dkc = s.dkc ∧ (drawn s).tbs = s.tbs ∧ (drawn s).nli = s.nli ∧
    (drawn s).mrh = s.mrh ∧ (drawn s).lbu = s.lbu := by
  simp [drawn]

@[simp] theorem answerThen_frame (after : AfterSent) (code : RespCode) (data : List Byte) (s : State) :
    (answerThen after code data s).pending = s.pending ∧
    (answerThen after code data s).freeCount = s.freeCount ∧
    (answerThen after code data s).resetHeld = s.resetHeld ∧
    (answerThen after code data s).nRate = s.nRate ∧
    (answerThen after code data s).dRate = s.dRate ∧ (answerThen after code data s).mem = s.mem ∧
    (answerThen after code data s).wdc = s.wdc ∧ (answerThen after code data s).zcu = s.zcu ∧
    (answerThen after code data s).spu = s.spu ∧ (answerThen after code data s).mgt = s.mgt ∧
    (answerThen after code data s).dlc = s.dlc ∧ (answerThen after code data s).rse = s.rse ∧
    (answerThen after code data s).dkc = s.dkc ∧ (answerThen after code data s).tbs = s.tbs ∧
    (answerThen after code data s).lbu = s.lbu := by
  unfold answerThen; split <;> simp

@[simp] theorem answer_frame (code : RespCode) (data : List Byte) (s : State) :
    (answer code data s).pending = s.pending ∧ (answer code data s).freeCount = s.freeCount ∧
    (answer code data s).resetHeld = s.resetHeld ∧ (answer code data s).nRate = s.nRate ∧
    (answer code data s).dRate = s.dRate ∧ (answer code data s).mem = s.mem ∧
    (answer code data s).wdc = s.wdc ∧ (answer code data s).zcu = s.zcu ∧
    (answer code data s).spu = s.spu ∧ (answer code data s).mgt = s.mgt ∧
    (answer code data s).dlc = s.dlc ∧ (answer code data s).rse = s.rse ∧
    (answer code data s).dkc = s.dkc ∧ (answer code data s).tbs = s.tbs ∧
    (answer code data s).lbu = s.lbu := by
  simp [answer]

@[simp] theorem answerRead_frame (code : RespCode) (data : List Byte) (s : State) :
    (answerRead code data s).pending = s.pending ∧
    (answerRead code data s).freeCount = s.freeCount ∧
    (answerRead code data s).resetHeld = s.resetHeld ∧ (answerRead code data s).nRate = s.nRate ∧
    (answerRead code data s).dRate = s.dRate ∧ (answerRead code data s).mem = s.mem ∧
    (answerRead code data s).wdc = s.wdc ∧ (answerRead code data s).zcu = s.zcu ∧
    (answerRead code data s).spu = s.spu ∧ (answerRead code data s).mgt = s.mgt ∧
    (answerRead code data s).dlc = s.dlc ∧ (answerRead code data s).rse = s.rse ∧
    (answerRead code data s).dkc = s.dkc ∧ (answerRead code data s).tbs = s.tbs ∧
    (answerRead code data s).lbu = s.lbu := by
  unfold answerRead; split <;> simp


/-! ### Post -/

@[simp] theorem beginTx_frame (n : Node) (c : Carried) (s : State) :
    (beginTx n c s).pending = s.pending ∧ (beginTx n c s).freeCount = s.freeCount ∧
    (beginTx n c s).resetHeld = s.resetHeld ∧ (beginTx n c s).nRate = s.nRate ∧
    (beginTx n c s).dRate = s.dRate ∧ (beginTx n c s).mem = s.mem ∧ (beginTx n c s).wdc = s.wdc ∧
    (beginTx n c s).zcu = s.zcu ∧ (beginTx n c s).spu = s.spu ∧ (beginTx n c s).mgt = s.mgt ∧
    (beginTx n c s).rse = s.rse ∧ (beginTx n c s).dkc = s.dkc ∧ (beginTx n c s).tbs = s.tbs ∧
    (beginTx n c s).nli = s.nli ∧ (beginTx n c s).mrh = s.mrh ∧ (beginTx n c s).lbu = s.lbu := by
  simp [beginTx]

@[simp] theorem sendHead_frame (s : State) :
    (sendHead s).pending = s.pending ∧ (sendHead s).freeCount = s.freeCount ∧
    (sendHead s).resetHeld = s.resetHeld ∧ (sendHead s).nRate = s.nRate ∧
    (sendHead s).dRate = s.dRate ∧ (sendHead s).mem = s.mem ∧ (sendHead s).wdc = s.wdc ∧
    (sendHead s).zcu = s.zcu ∧ (sendHead s).spu = s.spu ∧ (sendHead s).mgt = s.mgt ∧
    (sendHead s).rse = s.rse ∧ (sendHead s).dkc = s.dkc ∧ (sendHead s).tbs = s.tbs ∧
    (sendHead s).nli = s.nli ∧ (sendHead s).mrh = s.mrh ∧ (sendHead s).lbu = s.lbu := by
  unfold sendHead; split <;> simp

@[simp] theorem sendPoll_frame (n : Node) (s : State) :
    (sendPoll n s).pending = s.pending ∧ (sendPoll n s).freeCount = s.freeCount ∧
    (sendPoll n s).resetHeld = s.resetHeld ∧ (sendPoll n s).nRate = s.nRate ∧
    (sendPoll n s).dRate = s.dRate ∧ (sendPoll n s).mem = s.mem ∧ (sendPoll n s).wdc = s.wdc ∧
    (sendPoll n s).zcu = s.zcu ∧ (sendPoll n s).spu = s.spu ∧ (sendPoll n s).mgt = s.mgt ∧
    (sendPoll n s).rse = s.rse ∧ (sendPoll n s).dkc = s.dkc ∧ (sendPoll n s).tbs = s.tbs ∧
    (sendPoll n s).nli = s.nli ∧ (sendPoll n s).mrh = s.mrh ∧ (sendPoll n s).lbu = s.lbu := by
  simp [sendPoll]

@[simp] theorem sendRead_frame (s : State) :
    (sendRead s).pending = s.pending ∧ (sendRead s).freeCount = s.freeCount ∧
    (sendRead s).resetHeld = s.resetHeld ∧ (sendRead s).nRate = s.nRate ∧
    (sendRead s).dRate = s.dRate ∧ (sendRead s).mem = s.mem ∧ (sendRead s).wdc = s.wdc ∧
    (sendRead s).zcu = s.zcu ∧ (sendRead s).spu = s.spu ∧ (sendRead s).mgt = s.mgt ∧
    (sendRead s).rse = s.rse ∧ (sendRead s).dkc = s.dkc ∧ (sendRead s).tbs = s.tbs ∧
    (sendRead s).nli = s.nli ∧ (sendRead s).mrh = s.mrh ∧ (sendRead s).lbu = s.lbu := by
  unfold sendRead; split <;> simp

@[simp] theorem arbitrate_frame (s : State) :
    (arbitrate s).pending = s.pending ∧ (arbitrate s).freeCount = s.freeCount ∧
    (arbitrate s).resetHeld = s.resetHeld ∧ (arbitrate s).nRate = s.nRate ∧
    (arbitrate s).dRate = s.dRate ∧ (arbitrate s).mem = s.mem ∧ (arbitrate s).wdc = s.wdc ∧
    (arbitrate s).zcu = s.zcu ∧ (arbitrate s).spu = s.spu ∧ (arbitrate s).mgt = s.mgt ∧
    (arbitrate s).rse = s.rse ∧ (arbitrate s).dkc = s.dkc ∧ (arbitrate s).tbs = s.tbs ∧
    (arbitrate s).nli = s.nli ∧ (arbitrate s).mrh = s.mrh ∧ (arbitrate s).lbu = s.lbu := by
  unfold arbitrate; (repeat' split) <;> simp

@[simp] theorem joinTail_frame (e : QEntry) (s : State) :
    (joinTail e s).pending = s.pending ∧ (joinTail e s).freeCount = s.freeCount ∧
    (joinTail e s).resetHeld = s.resetHeld ∧ (joinTail e s).nRate = s.nRate ∧
    (joinTail e s).dRate = s.dRate ∧ (joinTail e s).mem = s.mem ∧ (joinTail e s).wdc = s.wdc ∧
    (joinTail e s).zcu = s.zcu ∧ (joinTail e s).spu = s.spu ∧ (joinTail e s).mgt = s.mgt ∧
    (joinTail e s).rse = s.rse ∧ (joinTail e s).dkc = s.dkc ∧ (joinTail e s).tbs = s.tbs ∧
    (joinTail e s).nli = s.nli ∧ (joinTail e s).mrh = s.mrh ∧ (joinTail e s).lbu = s.lbu := by
  unfold joinTail; split <;> simp

@[simp] theorem postSet_frame (n : Node) (v : PostValue) (o : Origin) (s : State) :
    (postSet n v o s).pending = s.pending ∧ (postSet n v o s).freeCount = s.freeCount ∧
    (postSet n v o s).resetHeld = s.resetHeld ∧ (postSet n v o s).nRate = s.nRate ∧
    (postSet n v o s).dRate = s.dRate ∧ (postSet n v o s).mem = s.mem ∧
    (postSet n v o s).wdc = s.wdc ∧ (postSet n v o s).zcu = s.zcu ∧
    (postSet n v o s).spu = s.spu ∧ (postSet n v o s).mgt = s.mgt ∧
    (postSet n v o s).rse = s.rse ∧ (postSet n v o s).dkc = s.dkc ∧
    (postSet n v o s).tbs = s.tbs ∧ (postSet n v o s).nli = s.nli ∧
    (postSet n v o s).mrh = s.mrh ∧ (postSet n v o s).lbu = s.lbu := by
  unfold postSet; (repeat' split) <;> simp

@[simp] theorem postBehind_frame (n : Node) (v : PostValue) (o : Origin) (s : State) :
    (postBehind n v o s).pending = s.pending ∧ (postBehind n v o s).freeCount = s.freeCount ∧
    (postBehind n v o s).resetHeld = s.resetHeld ∧ (postBehind n v o s).nRate = s.nRate ∧
    (postBehind n v o s).dRate = s.dRate ∧ (postBehind n v o s).mem = s.mem ∧
    (postBehind n v o s).wdc = s.wdc ∧ (postBehind n v o s).zcu = s.zcu ∧
    (postBehind n v o s).spu = s.spu ∧ (postBehind n v o s).mgt = s.mgt ∧
    (postBehind n v o s).rse = s.rse ∧ (postBehind n v o s).dkc = s.dkc ∧
    (postBehind n v o s).tbs = s.tbs ∧ (postBehind n v o s).nli = s.nli ∧
    (postBehind n v o s).mrh = s.mrh ∧ (postBehind n v o s).lbu = s.lbu := by
  unfold postBehind; split <;> simp

@[simp] theorem postRelay_frame (close : Bool) (s : State) :
    (postRelay close s).pending = s.pending ∧ (postRelay close s).freeCount = s.freeCount ∧
    (postRelay close s).resetHeld = s.resetHeld ∧ (postRelay close s).nRate = s.nRate ∧
    (postRelay close s).dRate = s.dRate ∧ (postRelay close s).mem = s.mem ∧
    (postRelay close s).wdc = s.wdc ∧ (postRelay close s).zcu = s.zcu ∧
    (postRelay close s).spu = s.spu ∧ (postRelay close s).mgt = s.mgt ∧
    (postRelay close s).rse = s.rse ∧ (postRelay close s).dkc = s.dkc ∧
    (postRelay close s).tbs = s.tbs ∧ (postRelay close s).nli = s.nli ∧
    (postRelay close s).mrh = s.mrh ∧ (postRelay close s).lbu = s.lbu := by
  unfold postRelay; (repeat' split) <;> simp

@[simp] theorem hazardDiscard_frame (s : State) :
    (hazardDiscard s).pending = s.pending ∧ (hazardDiscard s).freeCount = s.freeCount ∧
    (hazardDiscard s).resetHeld = s.resetHeld ∧ (hazardDiscard s).nRate = s.nRate ∧
    (hazardDiscard s).dRate = s.dRate ∧ (hazardDiscard s).mem = s.mem ∧
    (hazardDiscard s).wdc = s.wdc ∧ (hazardDiscard s).zcu = s.zcu ∧
    (hazardDiscard s).spu = s.spu ∧ (hazardDiscard s).mgt = s.mgt ∧
    (hazardDiscard s).rse = s.rse ∧ (hazardDiscard s).dkc = s.dkc ∧
    (hazardDiscard s).tbs = s.tbs ∧ (hazardDiscard s).mrh = s.mrh ∧
    (hazardDiscard s).lbu = s.lbu := by
  unfold hazardDiscard; dsimp only; (repeat' split) <;> simp


/-! ### Gate -/

@[simp] theorem recordPost_frame (n : Node) (v : PostValue) (s : State) :
    (recordPost n v s).pending = s.pending ∧ (recordPost n v s).freeCount = s.freeCount ∧
    (recordPost n v s).resetHeld = s.resetHeld ∧ (recordPost n v s).nRate = s.nRate ∧
    (recordPost n v s).dRate = s.dRate ∧ (recordPost n v s).mem = s.mem ∧
    (recordPost n v s).wdc = s.wdc ∧ (recordPost n v s).zcu = s.zcu ∧
    (recordPost n v s).spu = s.spu ∧ (recordPost n v s).dlc = s.dlc ∧
    (recordPost n v s).rse = s.rse ∧ (recordPost n v s).dkc = s.dkc ∧
    (recordPost n v s).tbs = s.tbs ∧ (recordPost n v s).nli = s.nli ∧
    (recordPost n v s).mrh = s.mrh ∧ (recordPost n v s).lbu = s.lbu := by
  simp [recordPost]

@[simp] theorem gatePost_frame (n : Node) (v : PostValue) (o : Origin) (s : State) :
    (gatePost n v o s).pending = s.pending ∧ (gatePost n v o s).freeCount = s.freeCount ∧
    (gatePost n v o s).resetHeld = s.resetHeld ∧ (gatePost n v o s).nRate = s.nRate ∧
    (gatePost n v o s).dRate = s.dRate ∧ (gatePost n v o s).mem = s.mem ∧
    (gatePost n v o s).wdc = s.wdc ∧ (gatePost n v o s).zcu = s.zcu ∧
    (gatePost n v o s).spu = s.spu ∧ (gatePost n v o s).rse = s.rse ∧
    (gatePost n v o s).dkc = s.dkc ∧ (gatePost n v o s).tbs = s.tbs ∧
    (gatePost n v o s).nli = s.nli ∧ (gatePost n v o s).mrh = s.mrh ∧
    (gatePost n v o s).lbu = s.lbu := by
  simp [gatePost]

@[simp] theorem postIfDue_frame (s : State) (n : Node) :
    (postIfDue s n).pending = s.pending ∧ (postIfDue s n).freeCount = s.freeCount ∧
    (postIfDue s n).resetHeld = s.resetHeld ∧ (postIfDue s n).nRate = s.nRate ∧
    (postIfDue s n).dRate = s.dRate ∧ (postIfDue s n).mem = s.mem ∧ (postIfDue s n).wdc = s.wdc ∧
    (postIfDue s n).zcu = s.zcu ∧ (postIfDue s n).spu = s.spu ∧ (postIfDue s n).rse = s.rse ∧
    (postIfDue s n).dkc = s.dkc ∧ (postIfDue s n).tbs = s.tbs ∧ (postIfDue s n).nli = s.nli ∧
    (postIfDue s n).mrh = s.mrh ∧ (postIfDue s n).lbu = s.lbu := by
  unfold postIfDue; (repeat' split) <;> simp

@[simp] theorem postDue_frame (s : State) :
    (postDue s).pending = s.pending ∧ (postDue s).freeCount = s.freeCount ∧
    (postDue s).resetHeld = s.resetHeld ∧ (postDue s).nRate = s.nRate ∧
    (postDue s).dRate = s.dRate ∧ (postDue s).mem = s.mem ∧ (postDue s).wdc = s.wdc ∧
    (postDue s).zcu = s.zcu ∧ (postDue s).spu = s.spu ∧ (postDue s).rse = s.rse ∧
    (postDue s).dkc = s.dkc ∧ (postDue s).tbs = s.tbs ∧ (postDue s).nli = s.nli ∧
    (postDue s).mrh = s.mrh ∧ (postDue s).lbu = s.lbu := by
  simp only [postDue, nodes]
  split <;> simp

@[simp] theorem evaluate_frame (s : State) :
    (evaluate s).pending = s.pending ∧ (evaluate s).freeCount = s.freeCount ∧
    (evaluate s).resetHeld = s.resetHeld ∧ (evaluate s).nRate = s.nRate ∧
    (evaluate s).dRate = s.dRate ∧ (evaluate s).mem = s.mem ∧ (evaluate s).wdc = s.wdc ∧
    (evaluate s).zcu = s.zcu ∧ (evaluate s).spu = s.spu ∧ (evaluate s).rse = s.rse ∧
    (evaluate s).dkc = s.dkc ∧ (evaluate s).tbs = s.tbs ∧ (evaluate s).nli = s.nli ∧
    (evaluate s).mrh = s.mrh ∧ (evaluate s).lbu = s.lbu := by
  simp [evaluate]

@[simp] theorem postBehindIfDue_frame (s : State) (n : Node) :
    (postBehindIfDue s n).pending = s.pending ∧ (postBehindIfDue s n).freeCount = s.freeCount ∧
    (postBehindIfDue s n).resetHeld = s.resetHeld ∧ (postBehindIfDue s n).nRate = s.nRate ∧
    (postBehindIfDue s n).dRate = s.dRate ∧ (postBehindIfDue s n).mem = s.mem ∧
    (postBehindIfDue s n).wdc = s.wdc ∧ (postBehindIfDue s n).zcu = s.zcu ∧
    (postBehindIfDue s n).spu = s.spu ∧ (postBehindIfDue s n).rse = s.rse ∧
    (postBehindIfDue s n).dkc = s.dkc ∧ (postBehindIfDue s n).tbs = s.tbs ∧
    (postBehindIfDue s n).nli = s.nli ∧ (postBehindIfDue s n).mrh = s.mrh ∧
    (postBehindIfDue s n).lbu = s.lbu := by
  unfold postBehindIfDue; (repeat' split) <;> simp

@[simp] theorem evaluateBehind_frame (s : State) :
    (evaluateBehind s).pending = s.pending ∧ (evaluateBehind s).freeCount = s.freeCount ∧
    (evaluateBehind s).resetHeld = s.resetHeld ∧ (evaluateBehind s).nRate = s.nRate ∧
    (evaluateBehind s).dRate = s.dRate ∧ (evaluateBehind s).mem = s.mem ∧
    (evaluateBehind s).wdc = s.wdc ∧ (evaluateBehind s).zcu = s.zcu ∧
    (evaluateBehind s).spu = s.spu ∧ (evaluateBehind s).rse = s.rse ∧
    (evaluateBehind s).dkc = s.dkc ∧ (evaluateBehind s).tbs = s.tbs ∧
    (evaluateBehind s).nli = s.nli ∧ (evaluateBehind s).mrh = s.mrh ∧
    (evaluateBehind s).lbu = s.lbu := by
  simp [evaluateBehind, nodes]

@[simp] theorem evaluateAs_frame (behind : Bool) (s : State) :
    (evaluateAs behind s).pending = s.pending ∧ (evaluateAs behind s).freeCount = s.freeCount ∧
    (evaluateAs behind s).resetHeld = s.resetHeld ∧ (evaluateAs behind s).nRate = s.nRate ∧
    (evaluateAs behind s).dRate = s.dRate ∧ (evaluateAs behind s).mem = s.mem ∧
    (evaluateAs behind s).wdc = s.wdc ∧ (evaluateAs behind s).zcu = s.zcu ∧
    (evaluateAs behind s).spu = s.spu ∧ (evaluateAs behind s).rse = s.rse ∧
    (evaluateAs behind s).dkc = s.dkc ∧ (evaluateAs behind s).tbs = s.tbs ∧
    (evaluateAs behind s).nli = s.nli ∧ (evaluateAs behind s).mrh = s.mrh ∧
    (evaluateAs behind s).lbu = s.lbu := by
  cases behind <;> simp [evaluateAs]

@[simp] theorem hazardZeroPosts_frame (s : State) :
    (hazardZeroPosts s).pending = s.pending ∧ (hazardZeroPosts s).freeCount = s.freeCount ∧
    (hazardZeroPosts s).resetHeld = s.resetHeld ∧ (hazardZeroPosts s).nRate = s.nRate ∧
    (hazardZeroPosts s).dRate = s.dRate ∧ (hazardZeroPosts s).mem = s.mem ∧
    (hazardZeroPosts s).wdc = s.wdc ∧ (hazardZeroPosts s).zcu = s.zcu ∧
    (hazardZeroPosts s).spu = s.spu ∧ (hazardZeroPosts s).rse = s.rse ∧
    (hazardZeroPosts s).dkc = s.dkc ∧ (hazardZeroPosts s).tbs = s.tbs ∧
    (hazardZeroPosts s).nli = s.nli ∧ (hazardZeroPosts s).mrh = s.mrh ∧
    (hazardZeroPosts s).lbu = s.lbu := by
  unfold hazardZeroPosts
  repeat' apply And.intro
  all_goals
    apply foldl_keeps
    intro s n
    (repeat' split) <;> simp

@[simp] theorem gateHazard_frame (s : State) :
    (gateHazard s).pending = s.pending ∧ (gateHazard s).freeCount = s.freeCount ∧
    (gateHazard s).resetHeld = s.resetHeld ∧ (gateHazard s).nRate = s.nRate ∧
    (gateHazard s).dRate = s.dRate ∧ (gateHazard s).mem = s.mem ∧ (gateHazard s).wdc = s.wdc ∧
    (gateHazard s).zcu = s.zcu ∧ (gateHazard s).spu = s.spu ∧ (gateHazard s).rse = s.rse ∧
    (gateHazard s).dkc = s.dkc ∧ (gateHazard s).tbs = s.tbs ∧ (gateHazard s).nli = s.nli ∧
    (gateHazard s).mrh = s.mrh ∧ (gateHazard s).lbu = s.lbu := by
  simp [gateHazard]

@[simp] theorem resetZeroPosts_frame (s : State) :
    (resetZeroPosts s).pending = s.pending ∧ (resetZeroPosts s).freeCount = s.freeCount ∧
    (resetZeroPosts s).resetHeld = s.resetHeld ∧ (resetZeroPosts s).nRate = s.nRate ∧
    (resetZeroPosts s).dRate = s.dRate ∧ (resetZeroPosts s).mem = s.mem ∧
    (resetZeroPosts s).wdc = s.wdc ∧ (resetZeroPosts s).zcu = s.zcu ∧
    (resetZeroPosts s).spu = s.spu ∧ (resetZeroPosts s).rse = s.rse ∧
    (resetZeroPosts s).dkc = s.dkc ∧ (resetZeroPosts s).tbs = s.tbs ∧
    (resetZeroPosts s).nli = s.nli ∧ (resetZeroPosts s).mrh = s.mrh ∧
    (resetZeroPosts s).lbu = s.lbu := by
  unfold resetZeroPosts
  repeat' apply And.intro
  all_goals
    apply foldl_keeps
    intro s n
    (repeat' split) <;> simp

@[simp] theorem swapZeroPosts_frame (before : PerSix NodeKind) (s : State) :
    (swapZeroPosts before s).pending = s.pending ∧
    (swapZeroPosts before s).freeCount = s.freeCount ∧
    (swapZeroPosts before s).resetHeld = s.resetHeld ∧ (swapZeroPosts before s).nRate = s.nRate ∧
    (swapZeroPosts before s).dRate = s.dRate ∧ (swapZeroPosts before s).mem = s.mem ∧
    (swapZeroPosts before s).wdc = s.wdc ∧ (swapZeroPosts before s).zcu = s.zcu ∧
    (swapZeroPosts before s).spu = s.spu ∧ (swapZeroPosts before s).rse = s.rse ∧
    (swapZeroPosts before s).dkc = s.dkc ∧ (swapZeroPosts before s).tbs = s.tbs ∧
    (swapZeroPosts before s).nli = s.nli ∧ (swapZeroPosts before s).mrh = s.mrh ∧
    (swapZeroPosts before s).lbu = s.lbu := by
  unfold swapZeroPosts
  repeat' apply And.intro
  all_goals
    apply foldl_keeps
    intro s n
    (repeat' split) <;> simp


/-! ### Hazard -/

@[simp] theorem arrived_frame (t : Trig) (s : State) :
    (arrived t s).pending = s.pending ∧ (arrived t s).freeCount = s.freeCount ∧
    (arrived t s).resetHeld = s.resetHeld ∧ (arrived t s).nRate = s.nRate ∧
    (arrived t s).dRate = s.dRate ∧ (arrived t s).mem = s.mem ∧ (arrived t s).wdc = s.wdc ∧
    (arrived t s).zcu = s.zcu ∧ (arrived t s).spu = s.spu ∧ (arrived t s).mgt = s.mgt ∧
    (arrived t s).dlc = s.dlc ∧ (arrived t s).dkc = s.dkc ∧ (arrived t s).tbs = s.tbs ∧
    (arrived t s).nli = s.nli ∧ (arrived t s).mrh = s.mrh ∧ (arrived t s).lbu = s.lbu := by
  simp [arrived]

@[simp] theorem dkcHold_frame (s : State) :
    (dkcHold s).pending = s.pending ∧ (dkcHold s).freeCount = s.freeCount ∧
    (dkcHold s).resetHeld = s.resetHeld ∧ (dkcHold s).nRate = s.nRate ∧
    (dkcHold s).dRate = s.dRate ∧ (dkcHold s).mem = s.mem ∧ (dkcHold s).wdc = s.wdc ∧
    (dkcHold s).zcu = s.zcu ∧ (dkcHold s).spu = s.spu ∧ (dkcHold s).mgt = s.mgt ∧
    (dkcHold s).dlc = s.dlc ∧ (dkcHold s).rse = s.rse ∧ (dkcHold s).tbs = s.tbs ∧
    (dkcHold s).nli = s.nli ∧ (dkcHold s).mrh = s.mrh ∧ (dkcHold s).lbu = s.lbu := by
  simp [dkcHold]

@[simp] theorem hazardCreate_frame (t : Trig) (d : Option Nat) (s : State) :
    (hazardCreate t d s).pending = s.pending ∧ (hazardCreate t d s).freeCount = s.freeCount ∧
    (hazardCreate t d s).resetHeld = s.resetHeld ∧ (hazardCreate t d s).nRate = s.nRate ∧
    (hazardCreate t d s).dRate = s.dRate ∧ (hazardCreate t d s).mem = s.mem ∧
    (hazardCreate t d s).wdc = s.wdc ∧ (hazardCreate t d s).zcu = s.zcu ∧
    (hazardCreate t d s).spu = s.spu ∧ (hazardCreate t d s).mgt = s.mgt ∧
    (hazardCreate t d s).dlc = s.dlc ∧ (hazardCreate t d s).dkc = s.dkc ∧
    (hazardCreate t d s).tbs = s.tbs ∧ (hazardCreate t d s).nli = s.nli ∧
    (hazardCreate t d s).mrh = s.mrh ∧ (hazardCreate t d s).lbu = s.lbu := by
  simp [hazardCreate]

@[simp] theorem hazardEntry_frame (t : Trig) (d : Option Nat) (s : State) :
    (hazardEntry t d s).pending = s.pending ∧ (hazardEntry t d s).freeCount = s.freeCount ∧
    (hazardEntry t d s).resetHeld = s.resetHeld ∧ (hazardEntry t d s).nRate = s.nRate ∧
    (hazardEntry t d s).dRate = s.dRate ∧ (hazardEntry t d s).mem = s.mem ∧
    (hazardEntry t d s).wdc = s.wdc ∧ (hazardEntry t d s).zcu = s.zcu ∧
    (hazardEntry t d s).spu = s.spu ∧ (hazardEntry t d s).tbs = s.tbs ∧
    (hazardEntry t d s).mrh = s.mrh ∧ (hazardEntry t d s).lbu = s.lbu := by
  simp [hazardEntry]

@[simp] theorem hazardJoin_frame (t : Trig) (c : Ctx) (s : State) :
    (hazardJoin t c s).pending = s.pending ∧ (hazardJoin t c s).freeCount = s.freeCount ∧
    (hazardJoin t c s).resetHeld = s.resetHeld ∧ (hazardJoin t c s).nRate = s.nRate ∧
    (hazardJoin t c s).dRate = s.dRate ∧ (hazardJoin t c s).mem = s.mem ∧
    (hazardJoin t c s).wdc = s.wdc ∧ (hazardJoin t c s).zcu = s.zcu ∧
    (hazardJoin t c s).spu = s.spu ∧ (hazardJoin t c s).mgt = s.mgt ∧
    (hazardJoin t c s).dlc = s.dlc ∧ (hazardJoin t c s).dkc = s.dkc ∧
    (hazardJoin t c s).tbs = s.tbs ∧ (hazardJoin t c s).nli = s.nli ∧
    (hazardJoin t c s).mrh = s.mrh ∧ (hazardJoin t c s).lbu = s.lbu := by
  simp [hazardJoin]

@[simp] theorem raiseFixed_frame (t : Trig) (d : Option Nat) (s : State) :
    (raiseFixed t d s).pending = s.pending ∧ (raiseFixed t d s).freeCount = s.freeCount ∧
    (raiseFixed t d s).resetHeld = s.resetHeld ∧ (raiseFixed t d s).nRate = s.nRate ∧
    (raiseFixed t d s).dRate = s.dRate ∧ (raiseFixed t d s).mem = s.mem ∧
    (raiseFixed t d s).wdc = s.wdc ∧ (raiseFixed t d s).zcu = s.zcu ∧
    (raiseFixed t d s).spu = s.spu ∧ (raiseFixed t d s).tbs = s.tbs ∧
    (raiseFixed t d s).mrh = s.mrh ∧ (raiseFixed t d s).lbu = s.lbu := by
  unfold raiseFixed; split <;> simp

@[simp] theorem wireLostTaken_frame (s : State) :
    (wireLostTaken s).pending = s.pending ∧ (wireLostTaken s).freeCount = s.freeCount ∧
    (wireLostTaken s).resetHeld = s.resetHeld ∧ (wireLostTaken s).nRate = s.nRate ∧
    (wireLostTaken s).dRate = s.dRate ∧ (wireLostTaken s).mem = s.mem ∧
    (wireLostTaken s).wdc = s.wdc ∧ (wireLostTaken s).spu = s.spu ∧
    (wireLostTaken s).mgt = s.mgt ∧ (wireLostTaken s).dlc = s.dlc ∧
    (wireLostTaken s).rse = s.rse ∧ (wireLostTaken s).dkc = s.dkc ∧
    (wireLostTaken s).tbs = s.tbs ∧ (wireLostTaken s).nli = s.nli ∧
    (wireLostTaken s).mrh = s.mrh ∧ (wireLostTaken s).lbu = s.lbu := by
  simp [wireLostTaken]

@[simp] theorem wireLostTest_frame (s : State) :
    (wireLostTest s).pending = s.pending ∧ (wireLostTest s).freeCount = s.freeCount ∧
    (wireLostTest s).resetHeld = s.resetHeld ∧ (wireLostTest s).nRate = s.nRate ∧
    (wireLostTest s).dRate = s.dRate ∧ (wireLostTest s).mem = s.mem ∧
    (wireLostTest s).wdc = s.wdc ∧ (wireLostTest s).spu = s.spu ∧ (wireLostTest s).tbs = s.tbs ∧
    (wireLostTest s).mrh = s.mrh ∧ (wireLostTest s).lbu = s.lbu := by
  unfold wireLostTest; split <;> simp

@[simp] theorem outsideRaise_frame (i : Slot) (s : State) :
    (outsideRaise i s).pending = s.pending ∧ (outsideRaise i s).freeCount = s.freeCount ∧
    (outsideRaise i s).resetHeld = s.resetHeld ∧ (outsideRaise i s).nRate = s.nRate ∧
    (outsideRaise i s).dRate = s.dRate ∧ (outsideRaise i s).mem = s.mem ∧
    (outsideRaise i s).wdc = s.wdc ∧ (outsideRaise i s).spu = s.spu ∧
    (outsideRaise i s).tbs = s.tbs ∧ (outsideRaise i s).mrh = s.mrh ∧
    (outsideRaise i s).lbu = s.lbu := by
  simp [outsideRaise]

@[simp] theorem outsideTest_frame (s : State) :
    (outsideTest s).pending = s.pending ∧ (outsideTest s).freeCount = s.freeCount ∧
    (outsideTest s).resetHeld = s.resetHeld ∧ (outsideTest s).nRate = s.nRate ∧
    (outsideTest s).dRate = s.dRate ∧ (outsideTest s).mem = s.mem ∧
    (outsideTest s).wdc = s.wdc ∧ (outsideTest s).spu = s.spu ∧
    (outsideTest s).tbs = s.tbs ∧ (outsideTest s).mrh = s.mrh ∧
    (outsideTest s).lbu = s.lbu := by
  unfold outsideTest; split <;> simp

end Sys2Proof.Machine
end

