-- ==== Sys2Proof/Laws/FramesDock.lean ====
section
/-! SUPPORT. What each operation leaves as it was: the Dock Controller, the Response Engine and the Sense Pin Unit. -/

namespace Sys2Proof.Machine

/-! ### Dock -/

@[simp] theorem setDock_frame (d : DockState) (s : State) :
    (setDock d s).pending = s.pending ∧ (setDock d s).freeCount = s.freeCount ∧
    (setDock d s).resetHeld = s.resetHeld ∧ (setDock d s).nRate = s.nRate ∧
    (setDock d s).dRate = s.dRate ∧ (setDock d s).mem = s.mem ∧ (setDock d s).wdc = s.wdc ∧
    (setDock d s).zcu = s.zcu ∧ (setDock d s).spu = s.spu ∧ (setDock d s).mgt = s.mgt ∧
    (setDock d s).dlc = s.dlc ∧ (setDock d s).rse = s.rse ∧ (setDock d s).tbs = s.tbs ∧
    (setDock d s).nli = s.nli ∧ (setDock d s).mrh = s.mrh ∧ (setDock d s).lbu = s.lbu := by
  simp [setDock]

@[simp] theorem setCmd_frame (l r : Int) (s : State) :
    (setCmd l r s).pending = s.pending ∧ (setCmd l r s).freeCount = s.freeCount ∧
    (setCmd l r s).resetHeld = s.resetHeld ∧ (setCmd l r s).nRate = s.nRate ∧
    (setCmd l r s).dRate = s.dRate ∧ (setCmd l r s).mem = s.mem ∧ (setCmd l r s).wdc = s.wdc ∧
    (setCmd l r s).zcu = s.zcu ∧ (setCmd l r s).spu = s.spu ∧ (setCmd l r s).mgt = s.mgt ∧
    (setCmd l r s).dlc = s.dlc ∧ (setCmd l r s).rse = s.rse ∧ (setCmd l r s).tbs = s.tbs ∧
    (setCmd l r s).nli = s.nli ∧ (setCmd l r s).mrh = s.mrh ∧ (setCmd l r s).lbu = s.lbu := by
  simp [setCmd]

@[simp] theorem reverseCmd_frame (s : State) :
    (reverseCmd s).pending = s.pending ∧ (reverseCmd s).freeCount = s.freeCount ∧
    (reverseCmd s).resetHeld = s.resetHeld ∧ (reverseCmd s).nRate = s.nRate ∧
    (reverseCmd s).dRate = s.dRate ∧ (reverseCmd s).mem = s.mem ∧ (reverseCmd s).wdc = s.wdc ∧
    (reverseCmd s).zcu = s.zcu ∧ (reverseCmd s).spu = s.spu ∧ (reverseCmd s).mgt = s.mgt ∧
    (reverseCmd s).dlc = s.dlc ∧ (reverseCmd s).rse = s.rse ∧ (reverseCmd s).tbs = s.tbs ∧
    (reverseCmd s).nli = s.nli ∧ (reverseCmd s).mrh = s.mrh ∧ (reverseCmd s).lbu = s.lbu := by
  simp [reverseCmd]

@[simp] theorem guideLostFall_frame (s : State) :
    (guideLostFall s).pending = s.pending ∧ (guideLostFall s).freeCount = s.freeCount ∧
    (guideLostFall s).resetHeld = s.resetHeld ∧ (guideLostFall s).nRate = s.nRate ∧
    (guideLostFall s).dRate = s.dRate ∧ (guideLostFall s).mem = s.mem ∧
    (guideLostFall s).wdc = s.wdc ∧ (guideLostFall s).zcu = s.zcu ∧
    (guideLostFall s).spu = s.spu ∧ (guideLostFall s).mgt = s.mgt ∧
    (guideLostFall s).dlc = s.dlc ∧ (guideLostFall s).rse = s.rse ∧
    (guideLostFall s).tbs = s.tbs ∧ (guideLostFall s).mrh = s.mrh ∧
    (guideLostFall s).lbu = s.lbu := by
  simp [guideLostFall]

@[simp] theorem formSteering_frame (s : State) :
    (formSteering s).pending = s.pending ∧ (formSteering s).freeCount = s.freeCount ∧
    (formSteering s).resetHeld = s.resetHeld ∧ (formSteering s).nRate = s.nRate ∧
    (formSteering s).dRate = s.dRate ∧ (formSteering s).mem = s.mem ∧
    (formSteering s).wdc = s.wdc ∧ (formSteering s).zcu = s.zcu ∧ (formSteering s).spu = s.spu ∧
    (formSteering s).mgt = s.mgt ∧ (formSteering s).dlc = s.dlc ∧ (formSteering s).rse = s.rse ∧
    (formSteering s).tbs = s.tbs ∧ (formSteering s).mrh = s.mrh ∧
    (formSteering s).lbu = s.lbu := by
  unfold formSteering; split <;> simp

@[simp] theorem enterContact_frame (origin : ContactOrigin) (s : State) :
    (enterContact origin s).pending = s.pending ∧
    (enterContact origin s).freeCount = s.freeCount ∧
    (enterContact origin s).resetHeld = s.resetHeld ∧ (enterContact origin s).nRate = s.nRate ∧
    (enterContact origin s).dRate = s.dRate ∧ (enterContact origin s).mem = s.mem ∧
    (enterContact origin s).wdc = s.wdc ∧ (enterContact origin s).zcu = s.zcu ∧
    (enterContact origin s).spu = s.spu ∧ (enterContact origin s).mgt = s.mgt ∧
    (enterContact origin s).rse = s.rse ∧ (enterContact origin s).tbs = s.tbs ∧
    (enterContact origin s).nli = s.nli ∧ (enterContact origin s).mrh = s.mrh ∧
    (enterContact origin s).lbu = s.lbu := by
  simp [enterContact]

@[simp] theorem enterApproach_frame (s : State) :
    (enterApproach s).pending = s.pending ∧ (enterApproach s).freeCount = s.freeCount ∧
    (enterApproach s).resetHeld = s.resetHeld ∧ (enterApproach s).nRate = s.nRate ∧
    (enterApproach s).dRate = s.dRate ∧ (enterApproach s).mem = s.mem ∧
    (enterApproach s).wdc = s.wdc ∧ (enterApproach s).zcu = s.zcu ∧
    (enterApproach s).spu = s.spu ∧ (enterApproach s).mgt = s.mgt ∧
    (enterApproach s).rse = s.rse ∧ (enterApproach s).tbs = s.tbs ∧
    (enterApproach s).mrh = s.mrh ∧ (enterApproach s).lbu = s.lbu := by
  unfold enterApproach; dsimp only; (repeat' split) <;> simp

@[simp] theorem stationTest_frame (s : State) :
    (stationTest s).pending = s.pending ∧ (stationTest s).freeCount = s.freeCount ∧
    (stationTest s).resetHeld = s.resetHeld ∧ (stationTest s).nRate = s.nRate ∧
    (stationTest s).dRate = s.dRate ∧ (stationTest s).mem = s.mem ∧ (stationTest s).wdc = s.wdc ∧
    (stationTest s).zcu = s.zcu ∧ (stationTest s).spu = s.spu ∧ (stationTest s).mgt = s.mgt ∧
    (stationTest s).rse = s.rse ∧ (stationTest s).tbs = s.tbs ∧ (stationTest s).mrh = s.mrh ∧
    (stationTest s).lbu = s.lbu := by
  unfold stationTest; split <;> simp

@[simp] theorem enterFollow_frame (s : State) :
    (enterFollow s).pending = s.pending ∧ (enterFollow s).freeCount = s.freeCount ∧
    (enterFollow s).resetHeld = s.resetHeld ∧ (enterFollow s).nRate = s.nRate ∧
    (enterFollow s).dRate = s.dRate ∧ (enterFollow s).mem = s.mem ∧ (enterFollow s).wdc = s.wdc ∧
    (enterFollow s).zcu = s.zcu ∧ (enterFollow s).spu = s.spu ∧ (enterFollow s).mgt = s.mgt ∧
    (enterFollow s).rse = s.rse ∧ (enterFollow s).tbs = s.tbs ∧ (enterFollow s).mrh = s.mrh ∧
    (enterFollow s).lbu = s.lbu := by
  simp [enterFollow]

@[simp] theorem seekTest_frame (s : State) :
    (seekTest s).pending = s.pending ∧ (seekTest s).freeCount = s.freeCount ∧
    (seekTest s).resetHeld = s.resetHeld ∧ (seekTest s).nRate = s.nRate ∧
    (seekTest s).dRate = s.dRate ∧ (seekTest s).mem = s.mem ∧ (seekTest s).wdc = s.wdc ∧
    (seekTest s).zcu = s.zcu ∧ (seekTest s).spu = s.spu ∧ (seekTest s).mgt = s.mgt ∧
    (seekTest s).rse = s.rse ∧ (seekTest s).tbs = s.tbs ∧ (seekTest s).mrh = s.mrh ∧
    (seekTest s).lbu = s.lbu := by
  unfold seekTest; split <;> simp

@[simp] theorem returnEntry_frame (reason : ReturnReason) (s : State) :
    (returnEntry reason s).pending = s.pending ∧ (returnEntry reason s).freeCount = s.freeCount ∧
    (returnEntry reason s).resetHeld = s.resetHeld ∧ (returnEntry reason s).nRate = s.nRate ∧
    (returnEntry reason s).dRate = s.dRate ∧ (returnEntry reason s).mem = s.mem ∧
    (returnEntry reason s).wdc = s.wdc ∧ (returnEntry reason s).zcu = s.zcu ∧
    (returnEntry reason s).spu = s.spu ∧ (returnEntry reason s).mgt = s.mgt ∧
    (returnEntry reason s).rse = s.rse ∧ (returnEntry reason s).tbs = s.tbs ∧
    (returnEntry reason s).mrh = s.mrh ∧ (returnEntry reason s).lbu = s.lbu := by
  simp [returnEntry]

@[simp] theorem tryReturn_frame (reason : ReturnReason) (s : State) :
    (tryReturn reason s).pending = s.pending ∧ (tryReturn reason s).freeCount = s.freeCount ∧
    (tryReturn reason s).resetHeld = s.resetHeld ∧ (tryReturn reason s).nRate = s.nRate ∧
    (tryReturn reason s).dRate = s.dRate ∧ (tryReturn reason s).mem = s.mem ∧
    (tryReturn reason s).wdc = s.wdc ∧ (tryReturn reason s).zcu = s.zcu ∧
    (tryReturn reason s).spu = s.spu ∧ (tryReturn reason s).mgt = s.mgt ∧
    (tryReturn reason s).rse = s.rse ∧ (tryReturn reason s).tbs = s.tbs ∧
    (tryReturn reason s).mrh = s.mrh ∧ (tryReturn reason s).lbu = s.lbu := by
  unfold tryReturn; split <;> simp

@[simp] theorem rainJudge_frame (s : State) :
    (rainJudge s).pending = s.pending ∧ (rainJudge s).freeCount = s.freeCount ∧
    (rainJudge s).resetHeld = s.resetHeld ∧ (rainJudge s).nRate = s.nRate ∧
    (rainJudge s).dRate = s.dRate ∧ (rainJudge s).mem = s.mem ∧ (rainJudge s).wdc = s.wdc ∧
    (rainJudge s).zcu = s.zcu ∧ (rainJudge s).spu = s.spu ∧ (rainJudge s).mgt = s.mgt ∧
    (rainJudge s).rse = s.rse ∧ (rainJudge s).tbs = s.tbs ∧ (rainJudge s).mrh = s.mrh ∧
    (rainJudge s).lbu = s.lbu := by
  unfold rainJudge; dsimp only; (repeat' split) <;> simp

@[simp] theorem enterUndocked_frame (s : State) :
    (enterUndocked s).pending = s.pending ∧ (enterUndocked s).freeCount = s.freeCount ∧
    (enterUndocked s).resetHeld = s.resetHeld ∧ (enterUndocked s).nRate = s.nRate ∧
    (enterUndocked s).dRate = s.dRate ∧ (enterUndocked s).mem = s.mem ∧
    (enterUndocked s).wdc = s.wdc ∧ (enterUndocked s).zcu = s.zcu ∧
    (enterUndocked s).spu = s.spu ∧ (enterUndocked s).mgt = s.mgt ∧
    (enterUndocked s).rse = s.rse ∧ (enterUndocked s).tbs = s.tbs ∧
    (enterUndocked s).mrh = s.mrh ∧ (enterUndocked s).lbu = s.lbu := by
  simp [enterUndocked]

@[simp] theorem enterBackoff_frame (mark : Bool) (s : State) :
    (enterBackoff mark s).pending = s.pending ∧ (enterBackoff mark s).freeCount = s.freeCount ∧
    (enterBackoff mark s).resetHeld = s.resetHeld ∧ (enterBackoff mark s).nRate = s.nRate ∧
    (enterBackoff mark s).dRate = s.dRate ∧ (enterBackoff mark s).mem = s.mem ∧
    (enterBackoff mark s).wdc = s.wdc ∧ (enterBackoff mark s).zcu = s.zcu ∧
    (enterBackoff mark s).spu = s.spu ∧ (enterBackoff mark s).mgt = s.mgt ∧
    (enterBackoff mark s).dlc = s.dlc ∧ (enterBackoff mark s).rse = s.rse ∧
    (enterBackoff mark s).tbs = s.tbs ∧ (enterBackoff mark s).nli = s.nli ∧
    (enterBackoff mark s).mrh = s.mrh ∧ (enterBackoff mark s).lbu = s.lbu := by
  simp [enterBackoff]

@[simp] theorem enterDockFault_frame (cause : DockFaultCause) (s : State) :
    (enterDockFault cause s).pending = s.pending ∧
    (enterDockFault cause s).freeCount = s.freeCount ∧
    (enterDockFault cause s).resetHeld = s.resetHeld ∧ (enterDockFault cause s).nRate = s.nRate ∧
    (enterDockFault cause s).dRate = s.dRate ∧ (enterDockFault cause s).mem = s.mem ∧
    (enterDockFault cause s).wdc = s.wdc ∧ (enterDockFault cause s).zcu = s.zcu ∧
    (enterDockFault cause s).spu = s.spu ∧ (enterDockFault cause s).mgt = s.mgt ∧
    (enterDockFault cause s).dlc = s.dlc ∧ (enterDockFault cause s).rse = s.rse ∧
    (enterDockFault cause s).tbs = s.tbs ∧ (enterDockFault cause s).mrh = s.mrh ∧
    (enterDockFault cause s).lbu = s.lbu := by
  simp [enterDockFault]

@[simp] theorem enterDocked_frame (s : State) :
    (enterDocked s).pending = s.pending ∧ (enterDocked s).freeCount = s.freeCount ∧
    (enterDocked s).resetHeld = s.resetHeld ∧ (enterDocked s).nRate = s.nRate ∧
    (enterDocked s).dRate = s.dRate ∧ (enterDocked s).mem = s.mem ∧ (enterDocked s).wdc = s.wdc ∧
    (enterDocked s).zcu = s.zcu ∧ (enterDocked s).spu = s.spu ∧ (enterDocked s).mgt = s.mgt ∧
    (enterDocked s).dlc = s.dlc ∧ (enterDocked s).rse = s.rse ∧ (enterDocked s).tbs = s.tbs ∧
    (enterDocked s).mrh = s.mrh ∧ (enterDocked s).lbu = s.lbu := by
  simp [enterDocked]

@[simp] theorem startContact_frame (s : State) :
    (startContact s).pending = s.pending ∧ (startContact s).freeCount = s.freeCount ∧
    (startContact s).resetHeld = s.resetHeld ∧ (startContact s).nRate = s.nRate ∧
    (startContact s).dRate = s.dRate ∧ (startContact s).mem = s.mem ∧
    (startContact s).wdc = s.wdc ∧ (startContact s).zcu = s.zcu ∧ (startContact s).spu = s.spu ∧
    (startContact s).mgt = s.mgt ∧ (startContact s).rse = s.rse ∧ (startContact s).tbs = s.tbs ∧
    (startContact s).nli = s.nli ∧ (startContact s).mrh = s.mrh ∧
    (startContact s).lbu = s.lbu := by
  simp [startContact]

@[simp] theorem contactEstablished_frame (s : State) :
    (contactEstablished s).pending = s.pending ∧ (contactEstablished s).freeCount = s.freeCount ∧
    (contactEstablished s).resetHeld = s.resetHeld ∧ (contactEstablished s).nRate = s.nRate ∧
    (contactEstablished s).dRate = s.dRate ∧ (contactEstablished s).mem = s.mem ∧
    (contactEstablished s).wdc = s.wdc ∧ (contactEstablished s).zcu = s.zcu ∧
    (contactEstablished s).spu = s.spu ∧ (contactEstablished s).mgt = s.mgt ∧
    (contactEstablished s).rse = s.rse ∧ (contactEstablished s).tbs = s.tbs ∧
    (contactEstablished s).nli = s.nli ∧ (contactEstablished s).mrh = s.mrh ∧
    (contactEstablished s).lbu = s.lbu := by
  unfold contactEstablished; (repeat' split) <;> simp

@[simp] theorem contactLostInContact_frame (s : State) :
    (contactLostInContact s).pending = s.pending ∧
    (contactLostInContact s).freeCount = s.freeCount ∧
    (contactLostInContact s).resetHeld = s.resetHeld ∧ (contactLostInContact s).nRate = s.nRate ∧
    (contactLostInContact s).dRate = s.dRate ∧ (contactLostInContact s).mem = s.mem ∧
    (contactLostInContact s).wdc = s.wdc ∧ (contactLostInContact s).zcu = s.zcu ∧
    (contactLostInContact s).spu = s.spu ∧ (contactLostInContact s).mgt = s.mgt ∧
    (contactLostInContact s).rse = s.rse ∧ (contactLostInContact s).tbs = s.tbs ∧
    (contactLostInContact s).mrh = s.mrh ∧ (contactLostInContact s).lbu = s.lbu := by
  unfold contactLostInContact; dsimp only; (repeat' split) <;> simp

@[simp] theorem contactLostInDocked_frame (s : State) :
    (contactLostInDocked s).pending = s.pending ∧
    (contactLostInDocked s).freeCount = s.freeCount ∧
    (contactLostInDocked s).resetHeld = s.resetHeld ∧ (contactLostInDocked s).nRate = s.nRate ∧
    (contactLostInDocked s).dRate = s.dRate ∧ (contactLostInDocked s).mem = s.mem ∧
    (contactLostInDocked s).wdc = s.wdc ∧ (contactLostInDocked s).zcu = s.zcu ∧
    (contactLostInDocked s).spu = s.spu ∧ (contactLostInDocked s).mgt = s.mgt ∧
    (contactLostInDocked s).rse = s.rse ∧ (contactLostInDocked s).tbs = s.tbs ∧
    (contactLostInDocked s).mrh = s.mrh ∧ (contactLostInDocked s).lbu = s.lbu := by
  simp [contactLostInDocked]

@[simp] theorem contactLost_frame (s : State) :
    (contactLost s).pending = s.pending ∧ (contactLost s).freeCount = s.freeCount ∧
    (contactLost s).resetHeld = s.resetHeld ∧ (contactLost s).nRate = s.nRate ∧
    (contactLost s).dRate = s.dRate ∧ (contactLost s).mem = s.mem ∧ (contactLost s).wdc = s.wdc ∧
    (contactLost s).zcu = s.zcu ∧ (contactLost s).spu = s.spu ∧ (contactLost s).mgt = s.mgt ∧
    (contactLost s).rse = s.rse ∧ (contactLost s).tbs = s.tbs ∧ (contactLost s).mrh = s.mrh ∧
    (contactLost s).lbu = s.lbu := by
  unfold contactLost; split <;> simp

@[simp] theorem takeContact_frame (present : Bool) (s : State) :
    (takeContact present s).pending = s.pending ∧
    (takeContact present s).freeCount = s.freeCount ∧
    (takeContact present s).resetHeld = s.resetHeld ∧ (takeContact present s).nRate = s.nRate ∧
    (takeContact present s).dRate = s.dRate ∧ (takeContact present s).mem = s.mem ∧
    (takeContact present s).wdc = s.wdc ∧ (takeContact present s).zcu = s.zcu ∧
    (takeContact present s).spu = s.spu ∧ (takeContact present s).mgt = s.mgt ∧
    (takeContact present s).rse = s.rse ∧ (takeContact present s).tbs = s.tbs ∧
    (takeContact present s).mrh = s.mrh ∧ (takeContact present s).lbu = s.lbu := by
  unfold takeContact; dsimp only; (repeat' split) <;> simp

@[simp] theorem beginReverse_frame (s : State) :
    (beginReverse s).pending = s.pending ∧ (beginReverse s).freeCount = s.freeCount ∧
    (beginReverse s).resetHeld = s.resetHeld ∧ (beginReverse s).nRate = s.nRate ∧
    (beginReverse s).dRate = s.dRate ∧ (beginReverse s).mem = s.mem ∧
    (beginReverse s).wdc = s.wdc ∧ (beginReverse s).zcu = s.zcu ∧ (beginReverse s).spu = s.spu ∧
    (beginReverse s).mgt = s.mgt ∧ (beginReverse s).dlc = s.dlc ∧ (beginReverse s).rse = s.rse ∧
    (beginReverse s).tbs = s.tbs ∧ (beginReverse s).nli = s.nli ∧ (beginReverse s).mrh = s.mrh ∧
    (beginReverse s).lbu = s.lbu := by
  simp [beginReverse]

@[simp] theorem takeRelay_frame (closed : Bool) (s : State) :
    (takeRelay closed s).pending = s.pending ∧ (takeRelay closed s).freeCount = s.freeCount ∧
    (takeRelay closed s).resetHeld = s.resetHeld ∧ (takeRelay closed s).nRate = s.nRate ∧
    (takeRelay closed s).dRate = s.dRate ∧ (takeRelay closed s).mem = s.mem ∧
    (takeRelay closed s).wdc = s.wdc ∧ (takeRelay closed s).zcu = s.zcu ∧
    (takeRelay closed s).spu = s.spu ∧ (takeRelay closed s).mgt = s.mgt ∧
    (takeRelay closed s).dlc = s.dlc ∧ (takeRelay closed s).rse = s.rse ∧
    (takeRelay closed s).tbs = s.tbs ∧ (takeRelay closed s).mrh = s.mrh ∧
    (takeRelay closed s).lbu = s.lbu := by
  unfold takeRelay; (repeat' split) <;> simp

@[simp] theorem takeBattery_frame (mv : Nat) (s : State) :
    (takeBattery mv s).pending = s.pending ∧ (takeBattery mv s).freeCount = s.freeCount ∧
    (takeBattery mv s).resetHeld = s.resetHeld ∧ (takeBattery mv s).nRate = s.nRate ∧
    (takeBattery mv s).dRate = s.dRate ∧ (takeBattery mv s).mem = s.mem ∧
    (takeBattery mv s).wdc = s.wdc ∧ (takeBattery mv s).zcu = s.zcu ∧
    (takeBattery mv s).spu = s.spu ∧ (takeBattery mv s).mgt = s.mgt ∧
    (takeBattery mv s).rse = s.rse ∧ (takeBattery mv s).tbs = s.tbs ∧
    (takeBattery mv s).mrh = s.mrh ∧ (takeBattery mv s).lbu = s.lbu := by
  unfold takeBattery; dsimp only; (repeat' split) <;> simp

@[simp] theorem takeButton_frame (count : Nat) (s : State) :
    (takeButton count s).pending = s.pending ∧ (takeButton count s).freeCount = s.freeCount ∧
    (takeButton count s).resetHeld = s.resetHeld ∧ (takeButton count s).nRate = s.nRate ∧
    (takeButton count s).dRate = s.dRate ∧ (takeButton count s).mem = s.mem ∧
    (takeButton count s).wdc = s.wdc ∧ (takeButton count s).zcu = s.zcu ∧
    (takeButton count s).spu = s.spu ∧ (takeButton count s).mgt = s.mgt ∧
    (takeButton count s).dlc = s.dlc ∧ (takeButton count s).rse = s.rse ∧
    (takeButton count s).tbs = s.tbs ∧ (takeButton count s).mrh = s.mrh ∧
    (takeButton count s).lbu = s.lbu := by
  unfold takeButton; dsimp only; (repeat' split) <;> simp

@[simp] theorem takePower_frame (contact closed : Bool) (mv button : Nat) (s : State) :
    (takePower contact closed mv button s).pending = s.pending ∧
    (takePower contact closed mv button s).freeCount = s.freeCount ∧
    (takePower contact closed mv button s).resetHeld = s.resetHeld ∧
    (takePower contact closed mv button s).nRate = s.nRate ∧
    (takePower contact closed mv button s).dRate = s.dRate ∧
    (takePower contact closed mv button s).mem = s.mem ∧
    (takePower contact closed mv button s).wdc = s.wdc ∧
    (takePower contact closed mv button s).zcu = s.zcu ∧
    (takePower contact closed mv button s).spu = s.spu ∧
    (takePower contact closed mv button s).mgt = s.mgt ∧
    (takePower contact closed mv button s).rse = s.rse ∧
    (takePower contact closed mv button s).tbs = s.tbs ∧
    (takePower contact closed mv button s).mrh = s.mrh ∧
    (takePower contact closed mv button s).lbu = s.lbu := by
  simp [takePower]

@[simp] theorem powerSilent_frame (s : State) :
    (powerSilent s).pending = s.pending ∧ (powerSilent s).freeCount = s.freeCount ∧
    (powerSilent s).resetHeld = s.resetHeld ∧ (powerSilent s).nRate = s.nRate ∧
    (powerSilent s).dRate = s.dRate ∧ (powerSilent s).mem = s.mem ∧ (powerSilent s).wdc = s.wdc ∧
    (powerSilent s).zcu = s.zcu ∧ (powerSilent s).spu = s.spu ∧ (powerSilent s).mgt = s.mgt ∧
    (powerSilent s).dlc = s.dlc ∧ (powerSilent s).rse = s.rse ∧ (powerSilent s).tbs = s.tbs ∧
    (powerSilent s).nli = s.nli ∧ (powerSilent s).mrh = s.mrh ∧ (powerSilent s).lbu = s.lbu := by
  simp [powerSilent]

@[simp] theorem takeGuide_frame (g : GuideSeen) (s : State) :
    (takeGuide g s).pending = s.pending ∧ (takeGuide g s).freeCount = s.freeCount ∧
    (takeGuide g s).resetHeld = s.resetHeld ∧ (takeGuide g s).nRate = s.nRate ∧
    (takeGuide g s).dRate = s.dRate ∧ (takeGuide g s).mem = s.mem ∧ (takeGuide g s).wdc = s.wdc ∧
    (takeGuide g s).zcu = s.zcu ∧ (takeGuide g s).spu = s.spu ∧ (takeGuide g s).mgt = s.mgt ∧
    (takeGuide g s).rse = s.rse ∧ (takeGuide g s).tbs = s.tbs ∧ (takeGuide g s).mrh = s.mrh ∧
    (takeGuide g s).lbu = s.lbu := by
  unfold takeGuide; dsimp only; (repeat' split) <;> simp

@[simp] theorem takeStation_frame (v : StationSeen) (s : State) :
    (takeStation v s).pending = s.pending ∧ (takeStation v s).freeCount = s.freeCount ∧
    (takeStation v s).resetHeld = s.resetHeld ∧ (takeStation v s).nRate = s.nRate ∧
    (takeStation v s).dRate = s.dRate ∧ (takeStation v s).mem = s.mem ∧
    (takeStation v s).wdc = s.wdc ∧ (takeStation v s).zcu = s.zcu ∧
    (takeStation v s).spu = s.spu ∧ (takeStation v s).mgt = s.mgt ∧
    (takeStation v s).rse = s.rse ∧ (takeStation v s).tbs = s.tbs ∧
    (takeStation v s).mrh = s.mrh ∧ (takeStation v s).lbu = s.lbu := by
  simp [takeStation]

@[simp] theorem takeRain_frame (rain : Bool) (s : State) :
    (takeRain rain s).pending = s.pending ∧ (takeRain rain s).freeCount = s.freeCount ∧
    (takeRain rain s).resetHeld = s.resetHeld ∧ (takeRain rain s).nRate = s.nRate ∧
    (takeRain rain s).dRate = s.dRate ∧ (takeRain rain s).mem = s.mem ∧
    (takeRain rain s).wdc = s.wdc ∧ (takeRain rain s).zcu = s.zcu ∧
    (takeRain rain s).spu = s.spu ∧ (takeRain rain s).mgt = s.mgt ∧
    (takeRain rain s).rse = s.rse ∧ (takeRain rain s).tbs = s.tbs ∧
    (takeRain rain s).mrh = s.mrh ∧ (takeRain rain s).lbu = s.lbu := by
  unfold takeRain; dsimp only; (repeat' split) <;> simp

@[simp] theorem approachExpired_frame (s : State) :
    (approachExpired s).pending = s.pending ∧ (approachExpired s).freeCount = s.freeCount ∧
    (approachExpired s).resetHeld = s.resetHeld ∧ (approachExpired s).nRate = s.nRate ∧
    (approachExpired s).dRate = s.dRate ∧ (approachExpired s).mem = s.mem ∧
    (approachExpired s).wdc = s.wdc ∧ (approachExpired s).zcu = s.zcu ∧
    (approachExpired s).spu = s.spu ∧ (approachExpired s).mgt = s.mgt ∧
    (approachExpired s).dlc = s.dlc ∧ (approachExpired s).rse = s.rse ∧
    (approachExpired s).tbs = s.tbs ∧ (approachExpired s).nli = s.nli ∧
    (approachExpired s).mrh = s.mrh ∧ (approachExpired s).lbu = s.lbu := by
  simp [approachExpired]

@[simp] theorem relayExpired_frame (s : State) :
    (relayExpired s).pending = s.pending ∧ (relayExpired s).freeCount = s.freeCount ∧
    (relayExpired s).resetHeld = s.resetHeld ∧ (relayExpired s).nRate = s.nRate ∧
    (relayExpired s).dRate = s.dRate ∧ (relayExpired s).mem = s.mem ∧
    (relayExpired s).wdc = s.wdc ∧ (relayExpired s).zcu = s.zcu ∧ (relayExpired s).spu = s.spu ∧
    (relayExpired s).mgt = s.mgt ∧ (relayExpired s).rse = s.rse ∧ (relayExpired s).tbs = s.tbs ∧
    (relayExpired s).mrh = s.mrh ∧ (relayExpired s).lbu = s.lbu := by
  unfold relayExpired; split <;> simp

@[simp] theorem backoffDone_frame (s : State) :
    (backoffDone s).pending = s.pending ∧ (backoffDone s).freeCount = s.freeCount ∧
    (backoffDone s).resetHeld = s.resetHeld ∧ (backoffDone s).nRate = s.nRate ∧
    (backoffDone s).dRate = s.dRate ∧ (backoffDone s).mem = s.mem ∧ (backoffDone s).wdc = s.wdc ∧
    (backoffDone s).zcu = s.zcu ∧ (backoffDone s).spu = s.spu ∧ (backoffDone s).mgt = s.mgt ∧
    (backoffDone s).rse = s.rse ∧ (backoffDone s).tbs = s.tbs ∧ (backoffDone s).mrh = s.mrh ∧
    (backoffDone s).lbu = s.lbu := by
  unfold backoffDone; dsimp only; (repeat' split) <;> simp

@[simp] theorem motionExpired_frame (s : State) :
    (motionExpired s).pending = s.pending ∧ (motionExpired s).freeCount = s.freeCount ∧
    (motionExpired s).resetHeld = s.resetHeld ∧ (motionExpired s).nRate = s.nRate ∧
    (motionExpired s).dRate = s.dRate ∧ (motionExpired s).mem = s.mem ∧
    (motionExpired s).wdc = s.wdc ∧ (motionExpired s).zcu = s.zcu ∧
    (motionExpired s).spu = s.spu ∧ (motionExpired s).mgt = s.mgt ∧
    (motionExpired s).rse = s.rse ∧ (motionExpired s).tbs = s.tbs ∧
    (motionExpired s).mrh = s.mrh ∧ (motionExpired s).lbu = s.lbu := by
  unfold motionExpired; split <;> simp

@[simp] theorem batteryExpired_frame (s : State) :
    (batteryExpired s).pending = s.pending ∧ (batteryExpired s).freeCount = s.freeCount ∧
    (batteryExpired s).resetHeld = s.resetHeld ∧ (batteryExpired s).nRate = s.nRate ∧
    (batteryExpired s).dRate = s.dRate ∧ (batteryExpired s).mem = s.mem ∧
    (batteryExpired s).wdc = s.wdc ∧ (batteryExpired s).zcu = s.zcu ∧
    (batteryExpired s).spu = s.spu ∧ (batteryExpired s).mgt = s.mgt ∧
    (batteryExpired s).rse = s.rse ∧ (batteryExpired s).tbs = s.tbs ∧
    (batteryExpired s).mrh = s.mrh ∧ (batteryExpired s).lbu = s.lbu := by
  simp [batteryExpired]

@[simp] theorem rainExpired_frame (s : State) :
    (rainExpired s).pending = s.pending ∧ (rainExpired s).freeCount = s.freeCount ∧
    (rainExpired s).resetHeld = s.resetHeld ∧ (rainExpired s).nRate = s.nRate ∧
    (rainExpired s).dRate = s.dRate ∧ (rainExpired s).mem = s.mem ∧ (rainExpired s).wdc = s.wdc ∧
    (rainExpired s).zcu = s.zcu ∧ (rainExpired s).spu = s.spu ∧ (rainExpired s).mgt = s.mgt ∧
    (rainExpired s).rse = s.rse ∧ (rainExpired s).tbs = s.tbs ∧ (rainExpired s).mrh = s.mrh ∧
    (rainExpired s).lbu = s.lbu := by
  simp [rainExpired]

@[simp] theorem dockReturn_frame (s : State) :
    (dockReturn s).pending = s.pending ∧ (dockReturn s).freeCount = s.freeCount ∧
    (dockReturn s).resetHeld = s.resetHeld ∧ (dockReturn s).nRate = s.nRate ∧
    (dockReturn s).dRate = s.dRate ∧ (dockReturn s).mem = s.mem ∧ (dockReturn s).wdc = s.wdc ∧
    (dockReturn s).zcu = s.zcu ∧ (dockReturn s).spu = s.spu ∧ (dockReturn s).mgt = s.mgt ∧
    (dockReturn s).rse = s.rse ∧ (dockReturn s).tbs = s.tbs ∧ (dockReturn s).mrh = s.mrh ∧
    (dockReturn s).lbu = s.lbu := by
  unfold dockReturn; split <;> simp

@[simp] theorem dockUndock_frame (s : State) :
    (dockUndock s).pending = s.pending ∧ (dockUndock s).freeCount = s.freeCount ∧
    (dockUndock s).resetHeld = s.resetHeld ∧ (dockUndock s).nRate = s.nRate ∧
    (dockUndock s).dRate = s.dRate ∧ (dockUndock s).mem = s.mem ∧ (dockUndock s).wdc = s.wdc ∧
    (dockUndock s).zcu = s.zcu ∧ (dockUndock s).spu = s.spu ∧ (dockUndock s).mgt = s.mgt ∧
    (dockUndock s).rse = s.rse ∧ (dockUndock s).tbs = s.tbs ∧ (dockUndock s).nli = s.nli ∧
    (dockUndock s).mrh = s.mrh ∧ (dockUndock s).lbu = s.lbu := by
  simp [dockUndock]

@[simp] theorem dockCancel_frame (s : State) :
    (dockCancel s).pending = s.pending ∧ (dockCancel s).freeCount = s.freeCount ∧
    (dockCancel s).resetHeld = s.resetHeld ∧ (dockCancel s).nRate = s.nRate ∧
    (dockCancel s).dRate = s.dRate ∧ (dockCancel s).mem = s.mem ∧ (dockCancel s).wdc = s.wdc ∧
    (dockCancel s).zcu = s.zcu ∧ (dockCancel s).spu = s.spu ∧ (dockCancel s).mgt = s.mgt ∧
    (dockCancel s).rse = s.rse ∧ (dockCancel s).tbs = s.tbs ∧ (dockCancel s).mrh = s.mrh ∧
    (dockCancel s).lbu = s.lbu := by
  unfold dockCancel; dsimp only; (repeat' split) <;> simp

@[simp] theorem repostRelay_frame (c : Option Bool) (s : State) :
    (repostRelay c s).pending = s.pending ∧ (repostRelay c s).freeCount = s.freeCount ∧
    (repostRelay c s).resetHeld = s.resetHeld ∧ (repostRelay c s).nRate = s.nRate ∧
    (repostRelay c s).dRate = s.dRate ∧ (repostRelay c s).mem = s.mem ∧
    (repostRelay c s).wdc = s.wdc ∧ (repostRelay c s).zcu = s.zcu ∧
    (repostRelay c s).spu = s.spu ∧ (repostRelay c s).mgt = s.mgt ∧
    (repostRelay c s).rse = s.rse ∧ (repostRelay c s).tbs = s.tbs ∧
    (repostRelay c s).nli = s.nli ∧ (repostRelay c s).mrh = s.mrh ∧
    (repostRelay c s).lbu = s.lbu := by
  unfold repostRelay; (repeat' split) <;> simp

@[simp] theorem dkcResume_frame (s : State) :
    (dkcResume s).pending = s.pending ∧ (dkcResume s).freeCount = s.freeCount ∧
    (dkcResume s).resetHeld = s.resetHeld ∧ (dkcResume s).nRate = s.nRate ∧
    (dkcResume s).dRate = s.dRate ∧ (dkcResume s).mem = s.mem ∧ (dkcResume s).wdc = s.wdc ∧
    (dkcResume s).zcu = s.zcu ∧ (dkcResume s).spu = s.spu ∧ (dkcResume s).mgt = s.mgt ∧
    (dkcResume s).rse = s.rse ∧ (dkcResume s).tbs = s.tbs ∧ (dkcResume s).mrh = s.mrh ∧
    (dkcResume s).lbu = s.lbu := by
  unfold dkcResume; dsimp only; (repeat' split) <;> simp


/-! ### Respond -/

/-- The steps of a sequence are those of the tables, whatever the Response Engine holds. -/
@[simp] theorem enterStep_onRse (f : Rse → Rse) (s : State) (q fuel : Nat) (c : Ctx) (j : Nat) :
    (onRse f s).enterStep q fuel c j = s.enterStep q fuel c j := by
  induction fuel generalizing c j with
  | zero => rfl
  | succ fuel ih =>
    have hn : ∀ i rep, (onRse f s).nextStep q i rep = s.nextStep q i rep := fun _ _ => rfl
    have hs : ∀ i, (onRse f s).stepAt q i = s.stepAt q i := fun _ => rfl
    simp only [State.enterStep, hn, hs, ih]

/-! An event at the DKC touches what its own effect touches, and the gate, the drive link, the zone
context, the responses, the link interface and the DKC. -/

@[simp] theorem dkcEvent_pending (f : State → State) (s : State) (h : ∀ t, (f t).pending = t.pending) :
    (dkcEvent f s).pending = s.pending := by
  unfold dkcEvent
  dsimp only
  (repeat' split) <;> simp [h]

@[simp] theorem dkcEvent_freeCount (f : State → State) (s : State) (h : ∀ t, (f t).freeCount = t.freeCount) :
    (dkcEvent f s).freeCount = s.freeCount := by
  unfold dkcEvent
  dsimp only
  (repeat' split) <;> simp [h]

@[simp] theorem dkcEvent_resetHeld (f : State → State) (s : State) (h : ∀ t, (f t).resetHeld = t.resetHeld) :
    (dkcEvent f s).resetHeld = s.resetHeld := by
  unfold dkcEvent
  dsimp only
  (repeat' split) <;> simp [h]

@[simp] theorem dkcEvent_nRate (f : State → State) (s : State) (h : ∀ t, (f t).nRate = t.nRate) :
    (dkcEvent f s).nRate = s.nRate := by
  unfold dkcEvent
  dsimp only
  (repeat' split) <;> simp [h]

@[simp] theorem dkcEvent_dRate (f : State → State) (s : State) (h : ∀ t, (f t).dRate = t.dRate) :
    (dkcEvent f s).dRate = s.dRate := by
  unfold dkcEvent
  dsimp only
  (repeat' split) <;> simp [h]

@[simp] theorem dkcEvent_mem (f : State → State) (s : State) (h : ∀ t, (f t).mem = t.mem) :
    (dkcEvent f s).mem = s.mem := by
  unfold dkcEvent
  dsimp only
  (repeat' split) <;> simp [h]

@[simp] theorem dkcEvent_wdc (f : State → State) (s : State) (h : ∀ t, (f t).wdc = t.wdc) :
    (dkcEvent f s).wdc = s.wdc := by
  unfold dkcEvent
  dsimp only
  (repeat' split) <;> simp [h]

@[simp] theorem dkcEvent_spu (f : State → State) (s : State) (h : ∀ t, (f t).spu = t.spu) :
    (dkcEvent f s).spu = s.spu := by
  unfold dkcEvent
  dsimp only
  (repeat' split) <;> simp [h]

@[simp] theorem dkcEvent_tbs (f : State → State) (s : State) (h : ∀ t, (f t).tbs = t.tbs) :
    (dkcEvent f s).tbs = s.tbs := by
  unfold dkcEvent
  dsimp only
  (repeat' split) <;> simp [h]

@[simp] theorem dkcEvent_mrh (f : State → State) (s : State) (h : ∀ t, (f t).mrh = t.mrh) :
    (dkcEvent f s).mrh = s.mrh := by
  unfold dkcEvent
  dsimp only
  (repeat' split) <;> simp [h]

@[simp] theorem dkcEvent_lbu (f : State → State) (s : State) (h : ∀ t, (f t).lbu = t.lbu) :
    (dkcEvent f s).lbu = s.lbu := by
  unfold dkcEvent
  dsimp only
  (repeat' split) <;> simp [h]

@[simp] theorem setCtx1_frame (c : Option Ctx) (s : State) :
    (setCtx1 c s).pending = s.pending ∧ (setCtx1 c s).freeCount = s.freeCount ∧
    (setCtx1 c s).resetHeld = s.resetHeld ∧ (setCtx1 c s).nRate = s.nRate ∧
    (setCtx1 c s).dRate = s.dRate ∧ (setCtx1 c s).mem = s.mem ∧ (setCtx1 c s).wdc = s.wdc ∧
    (setCtx1 c s).zcu = s.zcu ∧ (setCtx1 c s).spu = s.spu ∧ (setCtx1 c s).mgt = s.mgt ∧
    (setCtx1 c s).dlc = s.dlc ∧ (setCtx1 c s).dkc = s.dkc ∧ (setCtx1 c s).tbs = s.tbs ∧
    (setCtx1 c s).nli = s.nli ∧ (setCtx1 c s).mrh = s.mrh ∧ (setCtx1 c s).lbu = s.lbu := by
  simp [setCtx1]

@[simp] theorem setCtx2_frame (c : Option Ctx) (s : State) :
    (setCtx2 c s).pending = s.pending ∧ (setCtx2 c s).freeCount = s.freeCount ∧
    (setCtx2 c s).resetHeld = s.resetHeld ∧ (setCtx2 c s).nRate = s.nRate ∧
    (setCtx2 c s).dRate = s.dRate ∧ (setCtx2 c s).mem = s.mem ∧ (setCtx2 c s).wdc = s.wdc ∧
    (setCtx2 c s).zcu = s.zcu ∧ (setCtx2 c s).spu = s.spu ∧ (setCtx2 c s).mgt = s.mgt ∧
    (setCtx2 c s).dlc = s.dlc ∧ (setCtx2 c s).dkc = s.dkc ∧ (setCtx2 c s).tbs = s.tbs ∧
    (setCtx2 c s).nli = s.nli ∧ (setCtx2 c s).mrh = s.mrh ∧ (setCtx2 c s).lbu = s.lbu := by
  simp [setCtx2]

@[simp] theorem resumeCtx1_frame (s : State) :
    (resumeCtx1 s).pending = s.pending ∧ (resumeCtx1 s).freeCount = s.freeCount ∧
    (resumeCtx1 s).resetHeld = s.resetHeld ∧ (resumeCtx1 s).nRate = s.nRate ∧
    (resumeCtx1 s).dRate = s.dRate ∧ (resumeCtx1 s).mem = s.mem ∧ (resumeCtx1 s).wdc = s.wdc ∧
    (resumeCtx1 s).zcu = s.zcu ∧ (resumeCtx1 s).spu = s.spu ∧ (resumeCtx1 s).mgt = s.mgt ∧
    (resumeCtx1 s).dlc = s.dlc ∧ (resumeCtx1 s).dkc = s.dkc ∧ (resumeCtx1 s).tbs = s.tbs ∧
    (resumeCtx1 s).nli = s.nli ∧ (resumeCtx1 s).mrh = s.mrh ∧ (resumeCtx1 s).lbu = s.lbu := by
  unfold resumeCtx1; (repeat' split) <;> simp

@[simp] theorem putCtx2_frame (c : Option Ctx) (s : State) :
    (putCtx2 c s).pending = s.pending ∧ (putCtx2 c s).freeCount = s.freeCount ∧
    (putCtx2 c s).resetHeld = s.resetHeld ∧ (putCtx2 c s).nRate = s.nRate ∧
    (putCtx2 c s).dRate = s.dRate ∧ (putCtx2 c s).mem = s.mem ∧ (putCtx2 c s).wdc = s.wdc ∧
    (putCtx2 c s).zcu = s.zcu ∧ (putCtx2 c s).spu = s.spu ∧ (putCtx2 c s).mgt = s.mgt ∧
    (putCtx2 c s).dlc = s.dlc ∧ (putCtx2 c s).dkc = s.dkc ∧ (putCtx2 c s).tbs = s.tbs ∧
    (putCtx2 c s).nli = s.nli ∧ (putCtx2 c s).mrh = s.mrh ∧ (putCtx2 c s).lbu = s.lbu := by
  unfold putCtx2; split <;> simp

@[simp] theorem noneLate_frame (s : State) :
    (noneLate s).pending = s.pending ∧ (noneLate s).freeCount = s.freeCount ∧
    (noneLate s).resetHeld = s.resetHeld ∧ (noneLate s).nRate = s.nRate ∧
    (noneLate s).dRate = s.dRate ∧ (noneLate s).mem = s.mem ∧ (noneLate s).wdc = s.wdc ∧
    (noneLate s).spu = s.spu ∧ (noneLate s).tbs = s.tbs ∧ (noneLate s).mrh = s.mrh ∧
    (noneLate s).lbu = s.lbu := by
  simp [noneLate]

@[simp] theorem noneEarly_frame (i : Slot) (s : State) :
    (noneEarly i s).pending = s.pending ∧ (noneEarly i s).freeCount = s.freeCount ∧
    (noneEarly i s).resetHeld = s.resetHeld ∧ (noneEarly i s).nRate = s.nRate ∧
    (noneEarly i s).dRate = s.dRate ∧ (noneEarly i s).mem = s.mem ∧ (noneEarly i s).wdc = s.wdc ∧
    (noneEarly i s).spu = s.spu ∧ (noneEarly i s).tbs = s.tbs ∧ (noneEarly i s).mrh = s.mrh ∧
    (noneEarly i s).lbu = s.lbu := by
  simp [noneEarly]

@[simp] theorem toldNone_frame (s : State) :
    (toldNone s).pending = s.pending ∧ (toldNone s).resetHeld = s.resetHeld ∧
    (toldNone s).nRate = s.nRate ∧ (toldNone s).dRate = s.dRate ∧ (toldNone s).mem = s.mem ∧
    (toldNone s).wdc = s.wdc ∧ (toldNone s).spu = s.spu ∧ (toldNone s).tbs = s.tbs ∧
    (toldNone s).mrh = s.mrh ∧ (toldNone s).lbu = s.lbu := by
  unfold toldNone; dsimp only; (repeat' split) <;> simp

@[simp] theorem rseHandOff_frame (held : Bool) (s : State) :
    (rseHandOff held s).pending = s.pending ∧ (rseHandOff held s).resetHeld = s.resetHeld ∧
    (rseHandOff held s).nRate = s.nRate ∧ (rseHandOff held s).dRate = s.dRate ∧
    (rseHandOff held s).mem = s.mem ∧ (rseHandOff held s).wdc = s.wdc ∧
    (rseHandOff held s).spu = s.spu ∧ (rseHandOff held s).tbs = s.tbs ∧
    (rseHandOff held s).mrh = s.mrh ∧ (rseHandOff held s).lbu = s.lbu := by
  unfold rseHandOff; (repeat' split) <;> simp

@[simp] theorem setResponse_frame (t : Trig) (d : Option Nat) (s : State) :
    (setResponse t d s).pending = s.pending ∧ (setResponse t d s).freeCount = s.freeCount ∧
    (setResponse t d s).resetHeld = s.resetHeld ∧ (setResponse t d s).nRate = s.nRate ∧
    (setResponse t d s).dRate = s.dRate ∧ (setResponse t d s).mem = s.mem ∧
    (setResponse t d s).wdc = s.wdc ∧ (setResponse t d s).zcu = s.zcu ∧
    (setResponse t d s).spu = s.spu ∧ (setResponse t d s).mgt = s.mgt ∧
    (setResponse t d s).dlc = s.dlc ∧ (setResponse t d s).rse = s.rse ∧
    (setResponse t d s).dkc = s.dkc ∧ (setResponse t d s).tbs = s.tbs ∧
    (setResponse t d s).mrh = s.mrh ∧ (setResponse t d s).lbu = s.lbu := by
  simp [setResponse]

@[simp] theorem takeSuspended_frame (t : Trig) (d : Option Nat) (s : State) :
    (takeSuspended t d s).pending = s.pending ∧ (takeSuspended t d s).freeCount = s.freeCount ∧
    (takeSuspended t d s).resetHeld = s.resetHeld ∧ (takeSuspended t d s).nRate = s.nRate ∧
    (takeSuspended t d s).dRate = s.dRate ∧ (takeSuspended t d s).mem = s.mem ∧
    (takeSuspended t d s).wdc = s.wdc ∧ (takeSuspended t d s).zcu = s.zcu ∧
    (takeSuspended t d s).spu = s.spu ∧ (takeSuspended t d s).mgt = s.mgt ∧
    (takeSuspended t d s).dlc = s.dlc ∧ (takeSuspended t d s).dkc = s.dkc ∧
    (takeSuspended t d s).tbs = s.tbs ∧ (takeSuspended t d s).mrh = s.mrh ∧
    (takeSuspended t d s).lbu = s.lbu := by
  simp [takeSuspended]

@[simp] theorem takeLevel1_frame (t : Trig) (d : Option Nat) (s : State) :
    (takeLevel1 t d s).pending = s.pending ∧ (takeLevel1 t d s).resetHeld = s.resetHeld ∧
    (takeLevel1 t d s).nRate = s.nRate ∧ (takeLevel1 t d s).dRate = s.dRate ∧
    (takeLevel1 t d s).mem = s.mem ∧ (takeLevel1 t d s).wdc = s.wdc ∧
    (takeLevel1 t d s).spu = s.spu ∧ (takeLevel1 t d s).tbs = s.tbs ∧
    (takeLevel1 t d s).mrh = s.mrh ∧ (takeLevel1 t d s).lbu = s.lbu := by
  simp [takeLevel1]

@[simp] theorem takeLevel2_frame (t : Trig) (d : Option Nat) (s : State) :
    (takeLevel2 t d s).pending = s.pending ∧ (takeLevel2 t d s).resetHeld = s.resetHeld ∧
    (takeLevel2 t d s).nRate = s.nRate ∧ (takeLevel2 t d s).dRate = s.dRate ∧
    (takeLevel2 t d s).mem = s.mem ∧ (takeLevel2 t d s).wdc = s.wdc ∧
    (takeLevel2 t d s).spu = s.spu ∧ (takeLevel2 t d s).tbs = s.tbs ∧
    (takeLevel2 t d s).mrh = s.mrh ∧ (takeLevel2 t d s).lbu = s.lbu := by
  simp [takeLevel2]

@[simp] theorem raiseTabled_frame (t : Trig) (d : Option Nat) (s : State) :
    (raiseTabled t d s).pending = s.pending ∧ (raiseTabled t d s).resetHeld = s.resetHeld ∧
    (raiseTabled t d s).nRate = s.nRate ∧ (raiseTabled t d s).dRate = s.dRate ∧
    (raiseTabled t d s).mem = s.mem ∧ (raiseTabled t d s).wdc = s.wdc ∧
    (raiseTabled t d s).spu = s.spu ∧ (raiseTabled t d s).tbs = s.tbs ∧
    (raiseTabled t d s).mrh = s.mrh ∧ (raiseTabled t d s).lbu = s.lbu := by
  unfold raiseTabled; dsimp only; (repeat' split) <;> simp

@[simp] theorem raise_frame (t : Trig) (d : Option Nat) (s : State) :
    (raise t d s).pending = s.pending ∧ (raise t d s).resetHeld = s.resetHeld ∧
    (raise t d s).nRate = s.nRate ∧ (raise t d s).dRate = s.dRate ∧ (raise t d s).mem = s.mem ∧
    (raise t d s).wdc = s.wdc ∧ (raise t d s).spu = s.spu ∧ (raise t d s).tbs = s.tbs ∧
    (raise t d s).mrh = s.mrh ∧ (raise t d s).lbu = s.lbu := by
  unfold raise; split <;> simp

@[simp] theorem raiseAll_frame (l : List (Trig × Option Nat)) (s : State) :
    (raiseAll l s).pending = s.pending ∧ (raiseAll l s).resetHeld = s.resetHeld ∧
    (raiseAll l s).nRate = s.nRate ∧ (raiseAll l s).dRate = s.dRate ∧ (raiseAll l s).mem = s.mem ∧
    (raiseAll l s).wdc = s.wdc ∧ (raiseAll l s).spu = s.spu ∧ (raiseAll l s).tbs = s.tbs ∧
    (raiseAll l s).mrh = s.mrh ∧ (raiseAll l s).lbu = s.lbu := by
  unfold raiseAll
  repeat' apply And.intro
  all_goals
    apply foldl_keeps
    intro s n
    simp

@[simp] theorem stepExpired_frame (s : State) :
    (stepExpired s).pending = s.pending ∧ (stepExpired s).resetHeld = s.resetHeld ∧
    (stepExpired s).nRate = s.nRate ∧ (stepExpired s).dRate = s.dRate ∧
    (stepExpired s).mem = s.mem ∧ (stepExpired s).wdc = s.wdc ∧ (stepExpired s).spu = s.spu ∧
    (stepExpired s).tbs = s.tbs ∧ (stepExpired s).mrh = s.mrh ∧ (stepExpired s).lbu = s.lbu := by
  unfold stepExpired; (repeat' split) <;> simp

@[simp] theorem cancelLevel1_frame (s : State) :
    (cancelLevel1 s).pending = s.pending ∧ (cancelLevel1 s).resetHeld = s.resetHeld ∧
    (cancelLevel1 s).nRate = s.nRate ∧ (cancelLevel1 s).dRate = s.dRate ∧
    (cancelLevel1 s).mem = s.mem ∧ (cancelLevel1 s).wdc = s.wdc ∧ (cancelLevel1 s).spu = s.spu ∧
    (cancelLevel1 s).tbs = s.tbs ∧ (cancelLevel1 s).mrh = s.mrh ∧
    (cancelLevel1 s).lbu = s.lbu := by
  unfold cancelLevel1; dsimp only; (repeat' split) <;> simp

@[simp] theorem cancelLevel2_frame (s : State) :
    (cancelLevel2 s).pending = s.pending ∧ (cancelLevel2 s).resetHeld = s.resetHeld ∧
    (cancelLevel2 s).nRate = s.nRate ∧ (cancelLevel2 s).dRate = s.dRate ∧
    (cancelLevel2 s).mem = s.mem ∧ (cancelLevel2 s).wdc = s.wdc ∧ (cancelLevel2 s).spu = s.spu ∧
    (cancelLevel2 s).tbs = s.tbs ∧ (cancelLevel2 s).mrh = s.mrh ∧
    (cancelLevel2 s).lbu = s.lbu := by
  simp [cancelLevel2]

@[simp] theorem clearAccepted_frame (s : State) :
    (clearAccepted s).pending = s.pending ∧ (clearAccepted s).resetHeld = s.resetHeld ∧
    (clearAccepted s).nRate = s.nRate ∧ (clearAccepted s).dRate = s.dRate ∧
    (clearAccepted s).mem = s.mem ∧ (clearAccepted s).wdc = s.wdc ∧
    (clearAccepted s).spu = s.spu ∧ (clearAccepted s).tbs = s.tbs ∧
    (clearAccepted s).mrh = s.mrh ∧ (clearAccepted s).lbu = s.lbu := by
  simp [clearAccepted]


/-! ### Sense -/

@[simp] theorem setUnit_frame (p : Pin) (u : PinUnit) (s : State) :
    (setUnit p u s).pending = s.pending ∧ (setUnit p u s).freeCount = s.freeCount ∧
    (setUnit p u s).resetHeld = s.resetHeld ∧ (setUnit p u s).nRate = s.nRate ∧
    (setUnit p u s).dRate = s.dRate ∧ (setUnit p u s).mem = s.mem ∧ (setUnit p u s).wdc = s.wdc ∧
    (setUnit p u s).zcu = s.zcu ∧ (setUnit p u s).mgt = s.mgt ∧ (setUnit p u s).dlc = s.dlc ∧
    (setUnit p u s).rse = s.rse ∧ (setUnit p u s).dkc = s.dkc ∧ (setUnit p u s).tbs = s.tbs ∧
    (setUnit p u s).nli = s.nli ∧ (setUnit p u s).mrh = s.mrh ∧ (setUnit p u s).lbu = s.lbu := by
  simp [setUnit]

@[simp] theorem setAxis_frame (r : PinRole) (a : Axis) (s : State) :
    (setAxis r a s).pending = s.pending ∧ (setAxis r a s).freeCount = s.freeCount ∧
    (setAxis r a s).resetHeld = s.resetHeld ∧ (setAxis r a s).nRate = s.nRate ∧
    (setAxis r a s).dRate = s.dRate ∧ (setAxis r a s).mem = s.mem ∧ (setAxis r a s).wdc = s.wdc ∧
    (setAxis r a s).zcu = s.zcu ∧ (setAxis r a s).mgt = s.mgt ∧ (setAxis r a s).dlc = s.dlc ∧
    (setAxis r a s).rse = s.rse ∧ (setAxis r a s).dkc = s.dkc ∧ (setAxis r a s).tbs = s.tbs ∧
    (setAxis r a s).nli = s.nli ∧ (setAxis r a s).mrh = s.mrh ∧ (setAxis r a s).lbu = s.lbu := by
  unfold setAxis; split <;> simp

@[simp] theorem tiltRaise_frame (s : State) :
    (tiltRaise s).pending = s.pending ∧ (tiltRaise s).freeCount = s.freeCount ∧
    (tiltRaise s).resetHeld = s.resetHeld ∧ (tiltRaise s).nRate = s.nRate ∧
    (tiltRaise s).dRate = s.dRate ∧ (tiltRaise s).mem = s.mem ∧ (tiltRaise s).wdc = s.wdc ∧
    (tiltRaise s).zcu = s.zcu ∧ (tiltRaise s).tbs = s.tbs ∧ (tiltRaise s).mrh = s.mrh ∧
    (tiltRaise s).lbu = s.lbu := by
  simp [tiltRaise]

@[simp] theorem tiltTest_frame (s : State) :
    (tiltTest s).pending = s.pending ∧ (tiltTest s).freeCount = s.freeCount ∧
    (tiltTest s).resetHeld = s.resetHeld ∧ (tiltTest s).nRate = s.nRate ∧
    (tiltTest s).dRate = s.dRate ∧ (tiltTest s).mem = s.mem ∧ (tiltTest s).wdc = s.wdc ∧
    (tiltTest s).zcu = s.zcu ∧ (tiltTest s).tbs = s.tbs ∧ (tiltTest s).mrh = s.mrh ∧
    (tiltTest s).lbu = s.lbu := by
  unfold tiltTest; (repeat' split) <;> simp

@[simp] theorem tiltSwapTest_frame (s : State) :
    (tiltSwapTest s).pending = s.pending ∧ (tiltSwapTest s).freeCount = s.freeCount ∧
    (tiltSwapTest s).resetHeld = s.resetHeld ∧ (tiltSwapTest s).nRate = s.nRate ∧
    (tiltSwapTest s).dRate = s.dRate ∧ (tiltSwapTest s).mem = s.mem ∧
    (tiltSwapTest s).wdc = s.wdc ∧ (tiltSwapTest s).zcu = s.zcu ∧ (tiltSwapTest s).tbs = s.tbs ∧
    (tiltSwapTest s).mrh = s.mrh ∧ (tiltSwapTest s).lbu = s.lbu := by
  unfold tiltSwapTest; dsimp only; (repeat' split) <;> simp

@[simp] theorem spuHandOff_frame (before s : State) :
    (spuHandOff before s).pending = s.pending ∧ (spuHandOff before s).freeCount = s.freeCount ∧
    (spuHandOff before s).resetHeld = s.resetHeld ∧ (spuHandOff before s).nRate = s.nRate ∧
    (spuHandOff before s).dRate = s.dRate ∧ (spuHandOff before s).mem = s.mem ∧
    (spuHandOff before s).wdc = s.wdc ∧ (spuHandOff before s).tbs = s.tbs ∧
    (spuHandOff before s).mrh = s.mrh ∧ (spuHandOff before s).lbu = s.lbu := by
  unfold spuHandOff; dsimp only; (repeat' split) <;> simp

@[simp] theorem enterFault_frame (p : Pin) (s : State) :
    (enterFault p s).pending = s.pending ∧ (enterFault p s).freeCount = s.freeCount ∧
    (enterFault p s).resetHeld = s.resetHeld ∧ (enterFault p s).nRate = s.nRate ∧
    (enterFault p s).dRate = s.dRate ∧ (enterFault p s).mem = s.mem ∧
    (enterFault p s).wdc = s.wdc ∧ (enterFault p s).zcu = s.zcu ∧ (enterFault p s).mgt = s.mgt ∧
    (enterFault p s).dlc = s.dlc ∧ (enterFault p s).rse = s.rse ∧ (enterFault p s).dkc = s.dkc ∧
    (enterFault p s).tbs = s.tbs ∧ (enterFault p s).mrh = s.mrh ∧
    (enterFault p s).lbu = s.lbu := by
  unfold enterFault; dsimp only; (repeat' split) <;> simp

@[simp] theorem takeDuty_frame (p : Pin) (d : Nat) (s : State) :
    (takeDuty p d s).pending = s.pending ∧ (takeDuty p d s).freeCount = s.freeCount ∧
    (takeDuty p d s).resetHeld = s.resetHeld ∧ (takeDuty p d s).nRate = s.nRate ∧
    (takeDuty p d s).dRate = s.dRate ∧ (takeDuty p d s).mem = s.mem ∧
    (takeDuty p d s).wdc = s.wdc ∧ (takeDuty p d s).zcu = s.zcu ∧ (takeDuty p d s).mgt = s.mgt ∧
    (takeDuty p d s).dlc = s.dlc ∧ (takeDuty p d s).rse = s.rse ∧ (takeDuty p d s).dkc = s.dkc ∧
    (takeDuty p d s).tbs = s.tbs ∧ (takeDuty p d s).mrh = s.mrh ∧
    (takeDuty p d s).lbu = s.lbu := by
  unfold takeDuty; dsimp only; (repeat' split) <;> simp

@[simp] theorem dutyRise_frame (p : Pin) (s : State) :
    (dutyRise p s).pending = s.pending ∧ (dutyRise p s).freeCount = s.freeCount ∧
    (dutyRise p s).resetHeld = s.resetHeld ∧ (dutyRise p s).nRate = s.nRate ∧
    (dutyRise p s).dRate = s.dRate ∧ (dutyRise p s).mem = s.mem ∧ (dutyRise p s).wdc = s.wdc ∧
    (dutyRise p s).zcu = s.zcu ∧ (dutyRise p s).mgt = s.mgt ∧ (dutyRise p s).dlc = s.dlc ∧
    (dutyRise p s).rse = s.rse ∧ (dutyRise p s).dkc = s.dkc ∧ (dutyRise p s).tbs = s.tbs ∧
    (dutyRise p s).mrh = s.mrh ∧ (dutyRise p s).lbu = s.lbu := by
  unfold dutyRise; dsimp only; (repeat' split) <;> simp

@[simp] theorem dutyEdge_frame (p : Pin) (l : Level) (s : State) :
    (dutyEdge p l s).pending = s.pending ∧ (dutyEdge p l s).freeCount = s.freeCount ∧
    (dutyEdge p l s).resetHeld = s.resetHeld ∧ (dutyEdge p l s).nRate = s.nRate ∧
    (dutyEdge p l s).dRate = s.dRate ∧ (dutyEdge p l s).mem = s.mem ∧
    (dutyEdge p l s).wdc = s.wdc ∧ (dutyEdge p l s).zcu = s.zcu ∧ (dutyEdge p l s).mgt = s.mgt ∧
    (dutyEdge p l s).dlc = s.dlc ∧ (dutyEdge p l s).rse = s.rse ∧ (dutyEdge p l s).dkc = s.dkc ∧
    (dutyEdge p l s).tbs = s.tbs ∧ (dutyEdge p l s).mrh = s.mrh ∧
    (dutyEdge p l s).lbu = s.lbu := by
  unfold dutyEdge; dsimp only; (repeat' split) <;> simp

@[simp] theorem unitEdge_frame (p : Pin) (l : Level) (s : State) :
    (unitEdge p l s).pending = s.pending ∧ (unitEdge p l s).freeCount = s.freeCount ∧
    (unitEdge p l s).resetHeld = s.resetHeld ∧ (unitEdge p l s).nRate = s.nRate ∧
    (unitEdge p l s).dRate = s.dRate ∧ (unitEdge p l s).mem = s.mem ∧
    (unitEdge p l s).wdc = s.wdc ∧ (unitEdge p l s).zcu = s.zcu ∧ (unitEdge p l s).mgt = s.mgt ∧
    (unitEdge p l s).dlc = s.dlc ∧ (unitEdge p l s).rse = s.rse ∧ (unitEdge p l s).dkc = s.dkc ∧
    (unitEdge p l s).tbs = s.tbs ∧ (unitEdge p l s).mrh = s.mrh ∧
    (unitEdge p l s).lbu = s.lbu := by
  unfold unitEdge; dsimp only; (repeat' split) <;> simp

@[simp] theorem pinChange_frame (p : Pin) (l : Level) (s : State) :
    (pinChange p l s).pending = s.pending ∧ (pinChange p l s).freeCount = s.freeCount ∧
    (pinChange p l s).resetHeld = s.resetHeld ∧ (pinChange p l s).nRate = s.nRate ∧
    (pinChange p l s).dRate = s.dRate ∧ (pinChange p l s).mem = s.mem ∧
    (pinChange p l s).wdc = s.wdc ∧ (pinChange p l s).tbs = s.tbs ∧
    (pinChange p l s).mrh = s.mrh ∧ (pinChange p l s).lbu = s.lbu := by
  unfold pinChange; dsimp only; (repeat' split) <;> simp

@[simp] theorem raiseRole_frame (p : Pin) (r : PinRole) (s : State) :
    (raiseRole p r s).pending = s.pending ∧ (raiseRole p r s).resetHeld = s.resetHeld ∧
    (raiseRole p r s).nRate = s.nRate ∧ (raiseRole p r s).dRate = s.dRate ∧
    (raiseRole p r s).mem = s.mem ∧ (raiseRole p r s).wdc = s.wdc ∧
    (raiseRole p r s).tbs = s.tbs ∧ (raiseRole p r s).mrh = s.mrh ∧
    (raiseRole p r s).lbu = s.lbu := by
  unfold raiseRole; (repeat' split) <;> simp

@[simp] theorem debounced_frame (p : Pin) (s : State) :
    (debounced p s).pending = s.pending ∧ (debounced p s).resetHeld = s.resetHeld ∧
    (debounced p s).nRate = s.nRate ∧ (debounced p s).dRate = s.dRate ∧
    (debounced p s).mem = s.mem ∧ (debounced p s).wdc = s.wdc ∧ (debounced p s).tbs = s.tbs ∧
    (debounced p s).mrh = s.mrh ∧ (debounced p s).lbu = s.lbu := by
  unfold debounced; dsimp only; (repeat' split) <;> simp

@[simp] theorem edgeWindowEnd_frame (p : Pin) (s : State) :
    (edgeWindowEnd p s).pending = s.pending ∧ (edgeWindowEnd p s).freeCount = s.freeCount ∧
    (edgeWindowEnd p s).resetHeld = s.resetHeld ∧ (edgeWindowEnd p s).nRate = s.nRate ∧
    (edgeWindowEnd p s).dRate = s.dRate ∧ (edgeWindowEnd p s).mem = s.mem ∧
    (edgeWindowEnd p s).wdc = s.wdc ∧ (edgeWindowEnd p s).zcu = s.zcu ∧
    (edgeWindowEnd p s).mgt = s.mgt ∧ (edgeWindowEnd p s).dlc = s.dlc ∧
    (edgeWindowEnd p s).rse = s.rse ∧ (edgeWindowEnd p s).dkc = s.dkc ∧
    (edgeWindowEnd p s).tbs = s.tbs ∧ (edgeWindowEnd p s).nli = s.nli ∧
    (edgeWindowEnd p s).mrh = s.mrh ∧ (edgeWindowEnd p s).lbu = s.lbu := by
  simp [edgeWindowEnd]

@[simp] theorem dutyTimedOut_frame (p : Pin) (s : State) :
    (dutyTimedOut p s).pending = s.pending ∧ (dutyTimedOut p s).freeCount = s.freeCount ∧
    (dutyTimedOut p s).resetHeld = s.resetHeld ∧ (dutyTimedOut p s).nRate = s.nRate ∧
    (dutyTimedOut p s).dRate = s.dRate ∧ (dutyTimedOut p s).mem = s.mem ∧
    (dutyTimedOut p s).wdc = s.wdc ∧ (dutyTimedOut p s).tbs = s.tbs ∧
    (dutyTimedOut p s).mrh = s.mrh ∧ (dutyTimedOut p s).lbu = s.lbu := by
  simp [dutyTimedOut]

@[simp] theorem settleOver_frame (s : State) :
    (settleOver s).pending = s.pending ∧ (settleOver s).freeCount = s.freeCount ∧
    (settleOver s).resetHeld = s.resetHeld ∧ (settleOver s).nRate = s.nRate ∧
    (settleOver s).dRate = s.dRate ∧ (settleOver s).mem = s.mem ∧ (settleOver s).wdc = s.wdc ∧
    (settleOver s).tbs = s.tbs ∧ (settleOver s).mrh = s.mrh ∧ (settleOver s).lbu = s.lbu := by
  simp [settleOver]

@[simp] theorem senseReset_frame (s : State) :
    (senseReset s).pending = s.pending ∧ (senseReset s).freeCount = s.freeCount ∧
    (senseReset s).resetHeld = s.resetHeld ∧ (senseReset s).nRate = s.nRate ∧
    (senseReset s).dRate = s.dRate ∧ (senseReset s).mem = s.mem ∧ (senseReset s).wdc = s.wdc ∧
    (senseReset s).tbs = s.tbs ∧ (senseReset s).mrh = s.mrh ∧ (senseReset s).lbu = s.lbu := by
  simp [senseReset]

@[simp] theorem spuSwapUnits_frame (s : State) :
    (spuSwapUnits s).pending = s.pending ∧ (spuSwapUnits s).freeCount = s.freeCount ∧
    (spuSwapUnits s).resetHeld = s.resetHeld ∧ (spuSwapUnits s).nRate = s.nRate ∧
    (spuSwapUnits s).dRate = s.dRate ∧ (spuSwapUnits s).mem = s.mem ∧
    (spuSwapUnits s).wdc = s.wdc ∧ (spuSwapUnits s).zcu = s.zcu ∧ (spuSwapUnits s).mgt = s.mgt ∧
    (spuSwapUnits s).dlc = s.dlc ∧ (spuSwapUnits s).rse = s.rse ∧ (spuSwapUnits s).dkc = s.dkc ∧
    (spuSwapUnits s).tbs = s.tbs ∧ (spuSwapUnits s).nli = s.nli ∧ (spuSwapUnits s).mrh = s.mrh ∧
    (spuSwapUnits s).lbu = s.lbu := by
  unfold spuSwapUnits; split <;> simp

@[simp] theorem spuSwapHandOff_frame (s : State) :
    (spuSwapHandOff s).pending = s.pending ∧ (spuSwapHandOff s).freeCount = s.freeCount ∧
    (spuSwapHandOff s).resetHeld = s.resetHeld ∧ (spuSwapHandOff s).nRate = s.nRate ∧
    (spuSwapHandOff s).dRate = s.dRate ∧ (spuSwapHandOff s).mem = s.mem ∧
    (spuSwapHandOff s).wdc = s.wdc ∧ (spuSwapHandOff s).tbs = s.tbs ∧
    (spuSwapHandOff s).mrh = s.mrh ∧ (spuSwapHandOff s).lbu = s.lbu := by
  unfold spuSwapHandOff; split <;> simp

@[simp] theorem consumeResult_frame (p : Pin) (s : State) :
    (consumeResult p s).pending = s.pending ∧ (consumeResult p s).freeCount = s.freeCount ∧
    (consumeResult p s).resetHeld = s.resetHeld ∧ (consumeResult p s).nRate = s.nRate ∧
    (consumeResult p s).dRate = s.dRate ∧ (consumeResult p s).mem = s.mem ∧
    (consumeResult p s).wdc = s.wdc ∧ (consumeResult p s).zcu = s.zcu ∧
    (consumeResult p s).mgt = s.mgt ∧ (consumeResult p s).dlc = s.dlc ∧
    (consumeResult p s).rse = s.rse ∧ (consumeResult p s).dkc = s.dkc ∧
    (consumeResult p s).tbs = s.tbs ∧ (consumeResult p s).nli = s.nli ∧
    (consumeResult p s).mrh = s.mrh ∧ (consumeResult p s).lbu = s.lbu := by
  unfold consumeResult; dsimp only; (repeat' split) <;> simp

end Sys2Proof.Machine
end

