-- ==== Sys2Proof/Laws/FramesWire.lean ====
section
/-! SUPPORT. What each operation leaves as it was: the Zone Context Unit, the Wire Decoder and the Loopback Unit. -/

namespace Sys2Proof.Machine

/-! ### Zone -/

@[simp] theorem gateTakesZone_frame (s : State) :
    (gateTakesZone s).pending = s.pending ∧ (gateTakesZone s).freeCount = s.freeCount ∧
    (gateTakesZone s).resetHeld = s.resetHeld ∧ (gateTakesZone s).nRate = s.nRate ∧
    (gateTakesZone s).dRate = s.dRate ∧ (gateTakesZone s).mem = s.mem ∧
    (gateTakesZone s).wdc = s.wdc ∧ (gateTakesZone s).zcu = s.zcu ∧
    (gateTakesZone s).spu = s.spu ∧ (gateTakesZone s).rse = s.rse ∧ (gateTakesZone s).dkc = s.dkc ∧
    (gateTakesZone s).tbs = s.tbs ∧ (gateTakesZone s).nli = s.nli ∧ (gateTakesZone s).mrh = s.mrh ∧
    (gateTakesZone s).lbu = s.lbu := by
  simp [gateTakesZone]

@[simp] theorem gateTakesStrength_frame (s : State) :
    (gateTakesStrength s).pending = s.pending ∧ (gateTakesStrength s).freeCount = s.freeCount ∧
    (gateTakesStrength s).resetHeld = s.resetHeld ∧ (gateTakesStrength s).nRate = s.nRate ∧
    (gateTakesStrength s).dRate = s.dRate ∧ (gateTakesStrength s).mem = s.mem ∧
    (gateTakesStrength s).wdc = s.wdc ∧ (gateTakesStrength s).zcu = s.zcu ∧
    (gateTakesStrength s).spu = s.spu ∧ (gateTakesStrength s).rse = s.rse ∧
    (gateTakesStrength s).dkc = s.dkc ∧ (gateTakesStrength s).tbs = s.tbs ∧
    (gateTakesStrength s).nli = s.nli ∧ (gateTakesStrength s).mrh = s.mrh ∧
    (gateTakesStrength s).lbu = s.lbu := by
  unfold gateTakesStrength; dsimp only; split <;> simp

@[simp] theorem zoneToGate_frame (before s : State) :
    (zoneToGate before s).pending = s.pending ∧ (zoneToGate before s).freeCount = s.freeCount ∧
    (zoneToGate before s).resetHeld = s.resetHeld ∧ (zoneToGate before s).nRate = s.nRate ∧
    (zoneToGate before s).dRate = s.dRate ∧ (zoneToGate before s).mem = s.mem ∧
    (zoneToGate before s).wdc = s.wdc ∧ (zoneToGate before s).zcu = s.zcu ∧
    (zoneToGate before s).tbs = s.tbs ∧ (zoneToGate before s).mrh = s.mrh ∧
    (zoneToGate before s).lbu = s.lbu := by
  unfold zoneToGate; split <;> simp

@[simp] theorem zoneToDock_frame (guide station : Bool) (s : State) :
    (zoneToDock guide station s).pending = s.pending ∧
    (zoneToDock guide station s).freeCount = s.freeCount ∧
    (zoneToDock guide station s).resetHeld = s.resetHeld ∧
    (zoneToDock guide station s).nRate = s.nRate ∧ (zoneToDock guide station s).dRate = s.dRate ∧
    (zoneToDock guide station s).mem = s.mem ∧ (zoneToDock guide station s).wdc = s.wdc ∧
    (zoneToDock guide station s).spu = s.spu ∧ (zoneToDock guide station s).tbs = s.tbs ∧
    (zoneToDock guide station s).mrh = s.mrh ∧ (zoneToDock guide station s).lbu = s.lbu := by
  unfold zoneToDock; (repeat' split) <;> simp

@[simp] theorem raiseInUpdate_frame (trigs : List (Trig × Option Nat)) (z : Zcu) (s : State) :
    (raiseInUpdate trigs z s).pending = s.pending ∧ (raiseInUpdate trigs z s).resetHeld = s.resetHeld ∧
    (raiseInUpdate trigs z s).nRate = s.nRate ∧ (raiseInUpdate trigs z s).dRate = s.dRate ∧
    (raiseInUpdate trigs z s).mem = s.mem ∧ (raiseInUpdate trigs z s).wdc = s.wdc ∧
    (raiseInUpdate trigs z s).spu = s.spu ∧ (raiseInUpdate trigs z s).tbs = s.tbs ∧
    (raiseInUpdate trigs z s).mrh = s.mrh ∧ (raiseInUpdate trigs z s).lbu = s.lbu := by
  simp [raiseInUpdate]

@[simp] theorem zoneCarried_frame (trigs : List (Trig × Option Nat)) (z : Zcu) (guide station : Bool)
    (s : State) :
    (zoneCarried trigs z guide station s).pending = s.pending ∧
    (zoneCarried trigs z guide station s).resetHeld = s.resetHeld ∧
    (zoneCarried trigs z guide station s).nRate = s.nRate ∧
    (zoneCarried trigs z guide station s).dRate = s.dRate ∧
    (zoneCarried trigs z guide station s).mem = s.mem ∧
    (zoneCarried trigs z guide station s).wdc = s.wdc ∧
    (zoneCarried trigs z guide station s).tbs = s.tbs ∧
    (zoneCarried trigs z guide station s).mrh = s.mrh ∧
    (zoneCarried trigs z guide station s).lbu = s.lbu := by
  simp [zoneCarried]

@[simp] theorem zoneStages_frame (m : PerSlot (PerCoil MirrorLane)) (now : PerSlot LoopState) (s : State) :
    (zoneStages m now s).pending = s.pending ∧ (zoneStages m now s).resetHeld = s.resetHeld ∧
    (zoneStages m now s).nRate = s.nRate ∧ (zoneStages m now s).dRate = s.dRate ∧
    (zoneStages m now s).mem = s.mem ∧ (zoneStages m now s).wdc = s.wdc ∧
    (zoneStages m now s).tbs = s.tbs ∧ (zoneStages m now s).mrh = s.mrh ∧
    (zoneStages m now s).lbu = s.lbu := by
  simp [zoneStages]

@[simp] theorem zoneUpdate_frame (pub : Published) (s : State) :
    (zoneUpdate pub s).pending = s.pending ∧ (zoneUpdate pub s).resetHeld = s.resetHeld ∧
    (zoneUpdate pub s).nRate = s.nRate ∧ (zoneUpdate pub s).dRate = s.dRate ∧
    (zoneUpdate pub s).mem = s.mem ∧ (zoneUpdate pub s).wdc = s.wdc ∧
    (zoneUpdate pub s).tbs = s.tbs ∧ (zoneUpdate pub s).mrh = s.mrh ∧
    (zoneUpdate pub s).lbu = s.lbu := by
  unfold zoneUpdate; (repeat' split) <;> simp

@[simp] theorem zoneFreeze_frame (s : State) :
    (zoneFreeze s).pending = s.pending ∧ (zoneFreeze s).freeCount = s.freeCount ∧
    (zoneFreeze s).resetHeld = s.resetHeld ∧ (zoneFreeze s).nRate = s.nRate ∧
    (zoneFreeze s).dRate = s.dRate ∧ (zoneFreeze s).mem = s.mem ∧ (zoneFreeze s).wdc = s.wdc ∧
    (zoneFreeze s).spu = s.spu ∧ (zoneFreeze s).mgt = s.mgt ∧ (zoneFreeze s).dlc = s.dlc ∧
    (zoneFreeze s).rse = s.rse ∧ (zoneFreeze s).dkc = s.dkc ∧ (zoneFreeze s).tbs = s.tbs ∧
    (zoneFreeze s).nli = s.nli ∧ (zoneFreeze s).mrh = s.mrh ∧ (zoneFreeze s).lbu = s.lbu := by
  simp [zoneFreeze]

@[simp] theorem zoneRecompute_frame (s : State) :
    (zoneRecompute s).pending = s.pending ∧ (zoneRecompute s).resetHeld = s.resetHeld ∧
    (zoneRecompute s).nRate = s.nRate ∧ (zoneRecompute s).dRate = s.dRate ∧
    (zoneRecompute s).mem = s.mem ∧ (zoneRecompute s).wdc = s.wdc ∧
    (zoneRecompute s).tbs = s.tbs ∧ (zoneRecompute s).mrh = s.mrh ∧
    (zoneRecompute s).lbu = s.lbu := by
  simp [zoneRecompute]

@[simp] theorem zoneReset_frame (s : State) :
    (zoneReset s).pending = s.pending ∧ (zoneReset s).freeCount = s.freeCount ∧
    (zoneReset s).resetHeld = s.resetHeld ∧ (zoneReset s).nRate = s.nRate ∧
    (zoneReset s).dRate = s.dRate ∧ (zoneReset s).mem = s.mem ∧ (zoneReset s).wdc = s.wdc ∧
    (zoneReset s).tbs = s.tbs ∧ (zoneReset s).mrh = s.mrh ∧ (zoneReset s).lbu = s.lbu := by
  simp [zoneReset]

@[simp] theorem outsideExpired_frame (s : State) :
    (outsideExpired s).pending = s.pending ∧ (outsideExpired s).freeCount = s.freeCount ∧
    (outsideExpired s).resetHeld = s.resetHeld ∧ (outsideExpired s).nRate = s.nRate ∧
    (outsideExpired s).dRate = s.dRate ∧ (outsideExpired s).mem = s.mem ∧
    (outsideExpired s).wdc = s.wdc ∧ (outsideExpired s).spu = s.spu ∧
    (outsideExpired s).tbs = s.tbs ∧ (outsideExpired s).mrh = s.mrh ∧
    (outsideExpired s).lbu = s.lbu := by
  unfold outsideExpired; (repeat' split) <;> simp


/-! ### Wire -/

@[simp] theorem mapLanes_frame (c : Coil) (f : Lane → Lane) (s : State) :
    (mapLanes c f s).pending = s.pending ∧ (mapLanes c f s).freeCount = s.freeCount ∧
    (mapLanes c f s).resetHeld = s.resetHeld ∧ (mapLanes c f s).nRate = s.nRate ∧
    (mapLanes c f s).dRate = s.dRate ∧ (mapLanes c f s).mem = s.mem ∧
    (mapLanes c f s).zcu = s.zcu ∧ (mapLanes c f s).spu = s.spu ∧ (mapLanes c f s).mgt = s.mgt ∧
    (mapLanes c f s).dlc = s.dlc ∧ (mapLanes c f s).rse = s.rse ∧ (mapLanes c f s).dkc = s.dkc ∧
    (mapLanes c f s).tbs = s.tbs ∧ (mapLanes c f s).nli = s.nli ∧ (mapLanes c f s).mrh = s.mrh ∧
    (mapLanes c f s).lbu = s.lbu := by
  simp [mapLanes]

@[simp] theorem onCoil_frame (c : Coil) (f : CoilUnit → CoilUnit) (s : State) :
    (onCoil c f s).pending = s.pending ∧ (onCoil c f s).freeCount = s.freeCount ∧
    (onCoil c f s).resetHeld = s.resetHeld ∧ (onCoil c f s).nRate = s.nRate ∧
    (onCoil c f s).dRate = s.dRate ∧ (onCoil c f s).mem = s.mem ∧ (onCoil c f s).zcu = s.zcu ∧
    (onCoil c f s).spu = s.spu ∧ (onCoil c f s).mgt = s.mgt ∧ (onCoil c f s).dlc = s.dlc ∧
    (onCoil c f s).rse = s.rse ∧ (onCoil c f s).dkc = s.dkc ∧ (onCoil c f s).tbs = s.tbs ∧
    (onCoil c f s).nli = s.nli ∧ (onCoil c f s).mrh = s.mrh ∧ (onCoil c f s).lbu = s.lbu := by
  simp [onCoil]

@[simp] theorem abortWindows_frame (c : Coil) (s : State) :
    (abortWindows c s).pending = s.pending ∧ (abortWindows c s).freeCount = s.freeCount ∧
    (abortWindows c s).resetHeld = s.resetHeld ∧ (abortWindows c s).nRate = s.nRate ∧
    (abortWindows c s).dRate = s.dRate ∧ (abortWindows c s).mem = s.mem ∧
    (abortWindows c s).zcu = s.zcu ∧ (abortWindows c s).spu = s.spu ∧
    (abortWindows c s).mgt = s.mgt ∧ (abortWindows c s).dlc = s.dlc ∧
    (abortWindows c s).rse = s.rse ∧ (abortWindows c s).dkc = s.dkc ∧
    (abortWindows c s).tbs = s.tbs ∧ (abortWindows c s).nli = s.nli ∧
    (abortWindows c s).mrh = s.mrh ∧ (abortWindows c s).lbu = s.lbu := by
  simp [abortWindows]

@[simp] theorem ageLanes_frame (c : Coil) (s : State) :
    (ageLanes c s).pending = s.pending ∧ (ageLanes c s).freeCount = s.freeCount ∧
    (ageLanes c s).resetHeld = s.resetHeld ∧ (ageLanes c s).nRate = s.nRate ∧
    (ageLanes c s).dRate = s.dRate ∧ (ageLanes c s).mem = s.mem ∧ (ageLanes c s).zcu = s.zcu ∧
    (ageLanes c s).spu = s.spu ∧ (ageLanes c s).mgt = s.mgt ∧ (ageLanes c s).dlc = s.dlc ∧
    (ageLanes c s).rse = s.rse ∧ (ageLanes c s).dkc = s.dkc ∧ (ageLanes c s).tbs = s.tbs ∧
    (ageLanes c s).nli = s.nli ∧ (ageLanes c s).mrh = s.mrh ∧ (ageLanes c s).lbu = s.lbu := by
  simp [ageLanes]

@[simp] theorem dropBursts_frame (c : Coil) (s : State) :
    (dropBursts c s).pending = s.pending ∧ (dropBursts c s).freeCount = s.freeCount ∧
    (dropBursts c s).resetHeld = s.resetHeld ∧ (dropBursts c s).nRate = s.nRate ∧
    (dropBursts c s).dRate = s.dRate ∧ (dropBursts c s).mem = s.mem ∧
    (dropBursts c s).zcu = s.zcu ∧ (dropBursts c s).spu = s.spu ∧ (dropBursts c s).mgt = s.mgt ∧
    (dropBursts c s).dlc = s.dlc ∧ (dropBursts c s).rse = s.rse ∧ (dropBursts c s).dkc = s.dkc ∧
    (dropBursts c s).tbs = s.tbs ∧ (dropBursts c s).nli = s.nli ∧ (dropBursts c s).mrh = s.mrh ∧
    (dropBursts c s).lbu = s.lbu := by
  simp [dropBursts]

@[simp] theorem correlatorTake_frame (s : State) :
    (correlatorTake s).pending = s.pending ∧ (correlatorTake s).freeCount = s.freeCount ∧
    (correlatorTake s).resetHeld = s.resetHeld ∧ (correlatorTake s).nRate = s.nRate ∧
    (correlatorTake s).dRate = s.dRate ∧ (correlatorTake s).mem = s.mem ∧
    (correlatorTake s).zcu = s.zcu ∧ (correlatorTake s).spu = s.spu ∧
    (correlatorTake s).mgt = s.mgt ∧ (correlatorTake s).dlc = s.dlc ∧
    (correlatorTake s).rse = s.rse ∧ (correlatorTake s).dkc = s.dkc ∧
    (correlatorTake s).tbs = s.tbs ∧ (correlatorTake s).nli = s.nli ∧
    (correlatorTake s).mrh = s.mrh ∧ (correlatorTake s).lbu = s.lbu := by
  unfold correlatorTake; (repeat' split) <;> simp

@[simp] theorem joinRing_frame (e : RingEntry) (s : State) :
    (joinRing e s).pending = s.pending ∧ (joinRing e s).freeCount = s.freeCount ∧
    (joinRing e s).resetHeld = s.resetHeld ∧ (joinRing e s).nRate = s.nRate ∧
    (joinRing e s).dRate = s.dRate ∧ (joinRing e s).mem = s.mem ∧ (joinRing e s).zcu = s.zcu ∧
    (joinRing e s).spu = s.spu ∧ (joinRing e s).mgt = s.mgt ∧ (joinRing e s).dlc = s.dlc ∧
    (joinRing e s).rse = s.rse ∧ (joinRing e s).dkc = s.dkc ∧ (joinRing e s).tbs = s.tbs ∧
    (joinRing e s).nli = s.nli ∧ (joinRing e s).mrh = s.mrh ∧ (joinRing e s).lbu = s.lbu := by
  simp [joinRing]

@[simp] theorem acceptBurst_frame (c : Coil) (seq : Nat) (samples : List Int) (s : State) :
    (acceptBurst c seq samples s).pending = s.pending ∧
    (acceptBurst c seq samples s).resetHeld = s.resetHeld ∧
    (acceptBurst c seq samples s).nRate = s.nRate ∧
    (acceptBurst c seq samples s).dRate = s.dRate ∧ (acceptBurst c seq samples s).mem = s.mem ∧
    (acceptBurst c seq samples s).tbs = s.tbs ∧ (acceptBurst c seq samples s).mrh = s.mrh ∧
    (acceptBurst c seq samples s).lbu = s.lbu := by
  simp [acceptBurst]

@[simp] theorem judgeBurst_frame (c : Coil) (seq : Nat) (samples : List Int) (s : State) :
    (judgeBurst c seq samples s).pending = s.pending ∧
    (judgeBurst c seq samples s).resetHeld = s.resetHeld ∧
    (judgeBurst c seq samples s).nRate = s.nRate ∧ (judgeBurst c seq samples s).dRate = s.dRate ∧
    (judgeBurst c seq samples s).mem = s.mem ∧ (judgeBurst c seq samples s).tbs = s.tbs ∧
    (judgeBurst c seq samples s).mrh = s.mrh ∧ (judgeBurst c seq samples s).lbu = s.lbu := by
  unfold judgeBurst; (repeat' split) <;> simp

@[simp] theorem burst_frame (coil seq : Byte) (samples : List (BitVec 16)) (s : State) :
    (burst coil seq samples s).pending = s.pending ∧
    (burst coil seq samples s).resetHeld = s.resetHeld ∧
    (burst coil seq samples s).nRate = s.nRate ∧ (burst coil seq samples s).dRate = s.dRate ∧
    (burst coil seq samples s).mem = s.mem ∧ (burst coil seq samples s).tbs = s.tbs ∧
    (burst coil seq samples s).mrh = s.mrh ∧ (burst coil seq samples s).lbu = s.lbu := by
  unfold burst; (repeat' split) <;> simp

@[simp] theorem stepLanes_frame (e : RingEntry) (s : State) :
    (stepLanes e s).pending = s.pending ∧ (stepLanes e s).freeCount = s.freeCount ∧
    (stepLanes e s).resetHeld = s.resetHeld ∧ (stepLanes e s).nRate = s.nRate ∧
    (stepLanes e s).dRate = s.dRate ∧ (stepLanes e s).mem = s.mem ∧ (stepLanes e s).zcu = s.zcu ∧
    (stepLanes e s).spu = s.spu ∧ (stepLanes e s).mgt = s.mgt ∧ (stepLanes e s).dlc = s.dlc ∧
    (stepLanes e s).rse = s.rse ∧ (stepLanes e s).dkc = s.dkc ∧ (stepLanes e s).tbs = s.tbs ∧
    (stepLanes e s).nli = s.nli ∧ (stepLanes e s).mrh = s.mrh ∧ (stepLanes e s).lbu = s.lbu := by
  simp [stepLanes]

@[simp] theorem silence_frame (c : Coil) (s : State) :
    (silence c s).pending = s.pending ∧ (silence c s).resetHeld = s.resetHeld ∧
    (silence c s).nRate = s.nRate ∧ (silence c s).dRate = s.dRate ∧ (silence c s).mem = s.mem ∧
    (silence c s).tbs = s.tbs ∧ (silence c s).mrh = s.mrh ∧ (silence c s).lbu = s.lbu := by
  simp [silence]

@[simp] theorem restartCoil_frame (c : Coil) (s : State) :
    (restartCoil c s).pending = s.pending ∧ (restartCoil c s).freeCount = s.freeCount ∧
    (restartCoil c s).resetHeld = s.resetHeld ∧ (restartCoil c s).nRate = s.nRate ∧
    (restartCoil c s).dRate = s.dRate ∧ (restartCoil c s).mem = s.mem ∧
    (restartCoil c s).zcu = s.zcu ∧ (restartCoil c s).spu = s.spu ∧
    (restartCoil c s).mgt = s.mgt ∧ (restartCoil c s).dlc = s.dlc ∧
    (restartCoil c s).rse = s.rse ∧ (restartCoil c s).dkc = s.dkc ∧
    (restartCoil c s).tbs = s.tbs ∧ (restartCoil c s).nli = s.nli ∧
    (restartCoil c s).mrh = s.mrh ∧ (restartCoil c s).lbu = s.lbu := by
  simp [restartCoil]

@[simp] theorem wdcReset_frame (s : State) :
    (wdcReset s).pending = s.pending ∧ (wdcReset s).freeCount = s.freeCount ∧
    (wdcReset s).resetHeld = s.resetHeld ∧ (wdcReset s).nRate = s.nRate ∧
    (wdcReset s).dRate = s.dRate ∧ (wdcReset s).mem = s.mem ∧ (wdcReset s).zcu = s.zcu ∧
    (wdcReset s).spu = s.spu ∧ (wdcReset s).mgt = s.mgt ∧ (wdcReset s).dlc = s.dlc ∧
    (wdcReset s).rse = s.rse ∧ (wdcReset s).dkc = s.dkc ∧ (wdcReset s).tbs = s.tbs ∧
    (wdcReset s).nli = s.nli ∧ (wdcReset s).mrh = s.mrh ∧ (wdcReset s).lbu = s.lbu := by
  simp [wdcReset]

@[simp] theorem wdcSwap_frame (s : State) :
    (wdcSwap s).pending = s.pending ∧ (wdcSwap s).freeCount = s.freeCount ∧
    (wdcSwap s).resetHeld = s.resetHeld ∧ (wdcSwap s).nRate = s.nRate ∧
    (wdcSwap s).dRate = s.dRate ∧ (wdcSwap s).mem = s.mem ∧ (wdcSwap s).zcu = s.zcu ∧
    (wdcSwap s).spu = s.spu ∧ (wdcSwap s).mgt = s.mgt ∧ (wdcSwap s).dlc = s.dlc ∧
    (wdcSwap s).rse = s.rse ∧ (wdcSwap s).dkc = s.dkc ∧ (wdcSwap s).tbs = s.tbs ∧
    (wdcSwap s).nli = s.nli ∧ (wdcSwap s).mrh = s.mrh ∧ (wdcSwap s).lbu = s.lbu := by
  simp [wdcSwap]

@[simp] theorem coilIntoTest_frame (c : Coil) (s : State) :
    (coilIntoTest c s).pending = s.pending ∧ (coilIntoTest c s).resetHeld = s.resetHeld ∧
    (coilIntoTest c s).nRate = s.nRate ∧ (coilIntoTest c s).dRate = s.dRate ∧
    (coilIntoTest c s).mem = s.mem ∧ (coilIntoTest c s).tbs = s.tbs ∧
    (coilIntoTest c s).mrh = s.mrh ∧ (coilIntoTest c s).lbu = s.lbu := by
  simp [coilIntoTest]

@[simp] theorem coilOutOfTest_frame (c : Coil) (s : State) :
    (coilOutOfTest c s).pending = s.pending ∧ (coilOutOfTest c s).resetHeld = s.resetHeld ∧
    (coilOutOfTest c s).nRate = s.nRate ∧ (coilOutOfTest c s).dRate = s.dRate ∧
    (coilOutOfTest c s).mem = s.mem ∧ (coilOutOfTest c s).tbs = s.tbs ∧
    (coilOutOfTest c s).mrh = s.mrh ∧ (coilOutOfTest c s).lbu = s.lbu := by
  simp [coilOutOfTest]


/-! ### Loopback -/

@[simp] theorem onRecord_frame (f : TestRecord → TestRecord) (s : State) :
    (onRecord f s).pending = s.pending ∧ (onRecord f s).freeCount = s.freeCount ∧
    (onRecord f s).resetHeld = s.resetHeld ∧ (onRecord f s).nRate = s.nRate ∧
    (onRecord f s).dRate = s.dRate ∧ (onRecord f s).mem = s.mem ∧ (onRecord f s).wdc = s.wdc ∧
    (onRecord f s).zcu = s.zcu ∧ (onRecord f s).spu = s.spu ∧ (onRecord f s).mgt = s.mgt ∧
    (onRecord f s).dlc = s.dlc ∧ (onRecord f s).rse = s.rse ∧ (onRecord f s).dkc = s.dkc ∧
    (onRecord f s).tbs = s.tbs ∧ (onRecord f s).nli = s.nli ∧ (onRecord f s).mrh = s.mrh := by
  simp [onRecord]

@[simp] theorem testOver_frame (status : TestStatus) (s : State) :
    (testOver status s).pending = s.pending ∧ (testOver status s).freeCount = s.freeCount ∧
    (testOver status s).resetHeld = s.resetHeld ∧ (testOver status s).nRate = s.nRate ∧
    (testOver status s).dRate = s.dRate ∧ (testOver status s).mem = s.mem ∧
    (testOver status s).wdc = s.wdc ∧ (testOver status s).zcu = s.zcu ∧
    (testOver status s).spu = s.spu ∧ (testOver status s).mgt = s.mgt ∧
    (testOver status s).dlc = s.dlc ∧ (testOver status s).dkc = s.dkc ∧
    (testOver status s).tbs = s.tbs ∧ (testOver status s).mrh = s.mrh := by
  simp [testOver]

@[simp] theorem echoFrame_frame (f : NFrame) (s : State) :
    (echoFrame f s).pending = s.pending ∧ (echoFrame f s).freeCount = s.freeCount ∧
    (echoFrame f s).resetHeld = s.resetHeld ∧ (echoFrame f s).nRate = s.nRate ∧
    (echoFrame f s).dRate = s.dRate ∧ (echoFrame f s).mem = s.mem ∧ (echoFrame f s).wdc = s.wdc ∧
    (echoFrame f s).zcu = s.zcu ∧ (echoFrame f s).spu = s.spu ∧ (echoFrame f s).mgt = s.mgt ∧
    (echoFrame f s).dlc = s.dlc ∧ (echoFrame f s).rse = s.rse ∧ (echoFrame f s).dkc = s.dkc ∧
    (echoFrame f s).tbs = s.tbs ∧ (echoFrame f s).mrh = s.mrh := by
  unfold echoFrame; split <;> simp

@[simp] theorem nEchoBegin_frame (s : State) :
    (nEchoBegin s).pending = s.pending ∧ (nEchoBegin s).freeCount = s.freeCount ∧
    (nEchoBegin s).resetHeld = s.resetHeld ∧ (nEchoBegin s).nRate = s.nRate ∧
    (nEchoBegin s).dRate = s.dRate ∧ (nEchoBegin s).mem = s.mem ∧ (nEchoBegin s).wdc = s.wdc ∧
    (nEchoBegin s).zcu = s.zcu ∧ (nEchoBegin s).spu = s.spu ∧ (nEchoBegin s).mgt = s.mgt ∧
    (nEchoBegin s).dlc = s.dlc ∧ (nEchoBegin s).rse = s.rse ∧ (nEchoBegin s).dkc = s.dkc ∧
    (nEchoBegin s).tbs = s.tbs ∧ (nEchoBegin s).nli = s.nli ∧ (nEchoBegin s).mrh = s.mrh := by
  simp [nEchoBegin]

@[simp] theorem echoSend_frame (s : State) :
    (echoSend s).pending = s.pending ∧ (echoSend s).freeCount = s.freeCount ∧
    (echoSend s).resetHeld = s.resetHeld ∧ (echoSend s).nRate = s.nRate ∧
    (echoSend s).dRate = s.dRate ∧ (echoSend s).mem = s.mem ∧ (echoSend s).wdc = s.wdc ∧
    (echoSend s).zcu = s.zcu ∧ (echoSend s).spu = s.spu ∧ (echoSend s).mgt = s.mgt ∧
    (echoSend s).rse = s.rse ∧ (echoSend s).dkc = s.dkc ∧ (echoSend s).tbs = s.tbs ∧
    (echoSend s).nli = s.nli ∧ (echoSend s).mrh = s.mrh := by
  unfold echoSend; split <;> simp

@[simp] theorem takeLink_frame (s : State) :
    (takeLink s).pending = s.pending ∧ (takeLink s).freeCount = s.freeCount ∧
    (takeLink s).resetHeld = s.resetHeld ∧ (takeLink s).nRate = s.nRate ∧
    (takeLink s).dRate = s.dRate ∧ (takeLink s).mem = s.mem ∧ (takeLink s).wdc = s.wdc ∧
    (takeLink s).zcu = s.zcu ∧ (takeLink s).spu = s.spu ∧ (takeLink s).mgt = s.mgt ∧
    (takeLink s).rse = s.rse ∧ (takeLink s).dkc = s.dkc ∧ (takeLink s).tbs = s.tbs ∧
    (takeLink s).nli = s.nli ∧ (takeLink s).mrh = s.mrh := by
  simp [takeLink]

@[simp] theorem dEchoOver_frame (s : State) :
    (dEchoOver s).pending = s.pending ∧ (dEchoOver s).freeCount = s.freeCount ∧
    (dEchoOver s).resetHeld = s.resetHeld ∧ (dEchoOver s).nRate = s.nRate ∧
    (dEchoOver s).dRate = s.dRate ∧ (dEchoOver s).mem = s.mem ∧ (dEchoOver s).wdc = s.wdc ∧
    (dEchoOver s).zcu = s.zcu ∧ (dEchoOver s).spu = s.spu ∧ (dEchoOver s).dkc = s.dkc ∧
    (dEchoOver s).tbs = s.tbs ∧ (dEchoOver s).mrh = s.mrh := by
  simp [dEchoOver]

@[simp] theorem echoNext_frame (s : State) :
    (echoNext s).pending = s.pending ∧ (echoNext s).freeCount = s.freeCount ∧
    (echoNext s).resetHeld = s.resetHeld ∧ (echoNext s).nRate = s.nRate ∧
    (echoNext s).dRate = s.dRate ∧ (echoNext s).mem = s.mem ∧ (echoNext s).wdc = s.wdc ∧
    (echoNext s).zcu = s.zcu ∧ (echoNext s).spu = s.spu ∧ (echoNext s).dkc = s.dkc ∧
    (echoNext s).tbs = s.tbs ∧ (echoNext s).mrh = s.mrh := by
  unfold echoNext; split <;> simp

@[simp] theorem placeBurst_frame (s : State) :
    (placeBurst s).pending = s.pending ∧ (placeBurst s).resetHeld = s.resetHeld ∧
    (placeBurst s).nRate = s.nRate ∧ (placeBurst s).dRate = s.dRate ∧ (placeBurst s).mem = s.mem ∧
    (placeBurst s).tbs = s.tbs ∧ (placeBurst s).mrh = s.mrh := by
  unfold placeBurst; split <;> simp

@[simp] theorem recordVerdict_frame (v : Option Verdict) (s : State) :
    (recordVerdict v s).pending = s.pending ∧ (recordVerdict v s).freeCount = s.freeCount ∧
    (recordVerdict v s).resetHeld = s.resetHeld ∧ (recordVerdict v s).nRate = s.nRate ∧
    (recordVerdict v s).dRate = s.dRate ∧ (recordVerdict v s).mem = s.mem ∧
    (recordVerdict v s).wdc = s.wdc ∧ (recordVerdict v s).zcu = s.zcu ∧
    (recordVerdict v s).spu = s.spu ∧ (recordVerdict v s).mgt = s.mgt ∧
    (recordVerdict v s).dlc = s.dlc ∧ (recordVerdict v s).rse = s.rse ∧
    (recordVerdict v s).dkc = s.dkc ∧ (recordVerdict v s).tbs = s.tbs ∧
    (recordVerdict v s).nli = s.nli ∧ (recordVerdict v s).mrh = s.mrh := by
  unfold recordVerdict; split <;> simp

@[simp] theorem patternDone_frame (c : Coil) (s : State) :
    (patternDone c s).pending = s.pending ∧ (patternDone c s).resetHeld = s.resetHeld ∧
    (patternDone c s).nRate = s.nRate ∧ (patternDone c s).dRate = s.dRate ∧
    (patternDone c s).mem = s.mem ∧ (patternDone c s).tbs = s.tbs ∧
    (patternDone c s).mrh = s.mrh := by
  simp [patternDone]

@[simp] theorem correlationEnded_frame (e : RingEntry) (s : State) :
    (correlationEnded e s).pending = s.pending ∧ (correlationEnded e s).resetHeld = s.resetHeld ∧
    (correlationEnded e s).nRate = s.nRate ∧ (correlationEnded e s).dRate = s.dRate ∧
    (correlationEnded e s).mem = s.mem ∧ (correlationEnded e s).tbs = s.tbs ∧
    (correlationEnded e s).mrh = s.mrh := by
  unfold correlationEnded; dsimp only; (repeat' split) <;> simp

@[simp] theorem correlationOver_frame (s : State) :
    (correlationOver s).pending = s.pending ∧ (correlationOver s).resetHeld = s.resetHeld ∧
    (correlationOver s).nRate = s.nRate ∧ (correlationOver s).dRate = s.dRate ∧
    (correlationOver s).mem = s.mem ∧ (correlationOver s).tbs = s.tbs ∧
    (correlationOver s).mrh = s.mrh := by
  unfold correlationOver; split <;> simp

@[simp] theorem startTest_frame (p : TestParams) (s : State) :
    (startTest p s).pending = s.pending ∧ (startTest p s).resetHeld = s.resetHeld ∧
    (startTest p s).nRate = s.nRate ∧ (startTest p s).dRate = s.dRate ∧
    (startTest p s).mem = s.mem ∧ (startTest p s).tbs = s.tbs ∧ (startTest p s).mrh = s.mrh := by
  unfold startTest; dsimp only; (repeat' split) <;> simp

end Sys2Proof.Machine
end

