-- ==== Sys2Proof/Laws/FramesLink.lean ====
section
/-! SUPPORT. What each operation leaves as it was: the drive link, the N-link, the Table Store and the requests. -/

namespace Sys2Proof.Machine

/-! ### Link -/

@[simp] theorem onNode_frame (n : Node) (f : NodeRec → NodeRec) (s : State) :
    (onNode n f s).pending = s.pending ∧ (onNode n f s).freeCount = s.freeCount ∧
    (onNode n f s).resetHeld = s.resetHeld ∧ (onNode n f s).nRate = s.nRate ∧
    (onNode n f s).dRate = s.dRate ∧ (onNode n f s).mem = s.mem ∧ (onNode n f s).wdc = s.wdc ∧
    (onNode n f s).zcu = s.zcu ∧ (onNode n f s).spu = s.spu ∧ (onNode n f s).mgt = s.mgt ∧
    (onNode n f s).rse = s.rse ∧ (onNode n f s).dkc = s.dkc ∧ (onNode n f s).tbs = s.tbs ∧
    (onNode n f s).nli = s.nli ∧ (onNode n f s).mrh = s.mrh ∧ (onNode n f s).lbu = s.lbu := by
  simp [onNode]

@[simp] theorem nodeAnswered_frame (n : Node) (s : State) :
    (nodeAnswered n s).pending = s.pending ∧ (nodeAnswered n s).freeCount = s.freeCount ∧
    (nodeAnswered n s).resetHeld = s.resetHeld ∧ (nodeAnswered n s).nRate = s.nRate ∧
    (nodeAnswered n s).dRate = s.dRate ∧ (nodeAnswered n s).mem = s.mem ∧
    (nodeAnswered n s).wdc = s.wdc ∧ (nodeAnswered n s).zcu = s.zcu ∧
    (nodeAnswered n s).spu = s.spu ∧ (nodeAnswered n s).mgt = s.mgt ∧
    (nodeAnswered n s).rse = s.rse ∧ (nodeAnswered n s).dkc = s.dkc ∧
    (nodeAnswered n s).tbs = s.tbs ∧ (nodeAnswered n s).nli = s.nli ∧
    (nodeAnswered n s).mrh = s.mrh ∧ (nodeAnswered n s).lbu = s.lbu := by
  simp [nodeAnswered]

@[simp] theorem slipRaise_frame (n : Node) (s : State) :
    (slipRaise n s).pending = s.pending ∧ (slipRaise n s).resetHeld = s.resetHeld ∧
    (slipRaise n s).nRate = s.nRate ∧ (slipRaise n s).dRate = s.dRate ∧
    (slipRaise n s).mem = s.mem ∧ (slipRaise n s).wdc = s.wdc ∧ (slipRaise n s).spu = s.spu ∧
    (slipRaise n s).tbs = s.tbs ∧ (slipRaise n s).mrh = s.mrh ∧ (slipRaise n s).lbu = s.lbu := by
  simp [slipRaise]

@[simp] theorem stallRaise_frame (n : Node) (s : State) :
    (stallRaise n s).pending = s.pending ∧ (stallRaise n s).resetHeld = s.resetHeld ∧
    (stallRaise n s).nRate = s.nRate ∧ (stallRaise n s).dRate = s.dRate ∧
    (stallRaise n s).mem = s.mem ∧ (stallRaise n s).wdc = s.wdc ∧ (stallRaise n s).spu = s.spu ∧
    (stallRaise n s).tbs = s.tbs ∧ (stallRaise n s).mrh = s.mrh ∧
    (stallRaise n s).lbu = s.lbu := by
  simp [stallRaise]

@[simp] theorem jamRaise_frame (n : Node) (s : State) :
    (jamRaise n s).pending = s.pending ∧ (jamRaise n s).resetHeld = s.resetHeld ∧
    (jamRaise n s).nRate = s.nRate ∧ (jamRaise n s).dRate = s.dRate ∧ (jamRaise n s).mem = s.mem ∧
    (jamRaise n s).wdc = s.wdc ∧ (jamRaise n s).spu = s.spu ∧ (jamRaise n s).tbs = s.tbs ∧
    (jamRaise n s).mrh = s.mrh ∧ (jamRaise n s).lbu = s.lbu := by
  simp [jamRaise]

@[simp] theorem wheelStatus_frame (n : Node) (speed : Int) (current : Nat) (s : State) :
    (wheelStatus n speed current s).pending = s.pending ∧
    (wheelStatus n speed current s).resetHeld = s.resetHeld ∧
    (wheelStatus n speed current s).nRate = s.nRate ∧
    (wheelStatus n speed current s).dRate = s.dRate ∧
    (wheelStatus n speed current s).mem = s.mem ∧ (wheelStatus n speed current s).wdc = s.wdc ∧
    (wheelStatus n speed current s).spu = s.spu ∧ (wheelStatus n speed current s).tbs = s.tbs ∧
    (wheelStatus n speed current s).mrh = s.mrh ∧
    (wheelStatus n speed current s).lbu = s.lbu := by
  unfold wheelStatus; dsimp only; (repeat' split) <;> simp

@[simp] theorem bladeStatus_frame (n : Node) (speed current : Nat) (s : State) :
    (bladeStatus n speed current s).pending = s.pending ∧
    (bladeStatus n speed current s).resetHeld = s.resetHeld ∧
    (bladeStatus n speed current s).nRate = s.nRate ∧
    (bladeStatus n speed current s).dRate = s.dRate ∧
    (bladeStatus n speed current s).mem = s.mem ∧ (bladeStatus n speed current s).wdc = s.wdc ∧
    (bladeStatus n speed current s).spu = s.spu ∧ (bladeStatus n speed current s).tbs = s.tbs ∧
    (bladeStatus n speed current s).mrh = s.mrh ∧
    (bladeStatus n speed current s).lbu = s.lbu := by
  unfold bladeStatus; dsimp only; (repeat' split) <;> simp

@[simp] theorem powerStatus_frame (n : Node) (mv : Nat) (contact closed : Bool) (charge button : Nat) (s : State) :
    (powerStatus n mv contact closed charge button s).pending = s.pending ∧
    (powerStatus n mv contact closed charge button s).freeCount = s.freeCount ∧
    (powerStatus n mv contact closed charge button s).resetHeld = s.resetHeld ∧
    (powerStatus n mv contact closed charge button s).nRate = s.nRate ∧
    (powerStatus n mv contact closed charge button s).dRate = s.dRate ∧
    (powerStatus n mv contact closed charge button s).mem = s.mem ∧
    (powerStatus n mv contact closed charge button s).wdc = s.wdc ∧
    (powerStatus n mv contact closed charge button s).spu = s.spu ∧
    (powerStatus n mv contact closed charge button s).tbs = s.tbs ∧
    (powerStatus n mv contact closed charge button s).mrh = s.mrh ∧
    (powerStatus n mv contact closed charge button s).lbu = s.lbu := by
  simp [powerStatus]

@[simp] theorem takeStatus_frame (n : Node) (kind : NodeKind) (p : List Byte) (s : State) :
    (takeStatus n kind p s).pending = s.pending ∧
    (takeStatus n kind p s).resetHeld = s.resetHeld ∧ (takeStatus n kind p s).nRate = s.nRate ∧
    (takeStatus n kind p s).dRate = s.dRate ∧ (takeStatus n kind p s).mem = s.mem ∧
    (takeStatus n kind p s).wdc = s.wdc ∧ (takeStatus n kind p s).spu = s.spu ∧
    (takeStatus n kind p s).tbs = s.tbs ∧ (takeStatus n kind p s).mrh = s.mrh ∧
    (takeStatus n kind p s).lbu = s.lbu := by
  unfold takeStatus; split <;> simp

@[simp] theorem clearTx_frame (s : State) :
    (clearTx s).pending = s.pending ∧ (clearTx s).freeCount = s.freeCount ∧
    (clearTx s).resetHeld = s.resetHeld ∧ (clearTx s).nRate = s.nRate ∧
    (clearTx s).dRate = s.dRate ∧ (clearTx s).mem = s.mem ∧ (clearTx s).wdc = s.wdc ∧
    (clearTx s).zcu = s.zcu ∧ (clearTx s).spu = s.spu ∧ (clearTx s).mgt = s.mgt ∧
    (clearTx s).rse = s.rse ∧ (clearTx s).dkc = s.dkc ∧ (clearTx s).tbs = s.tbs ∧
    (clearTx s).nli = s.nli ∧ (clearTx s).mrh = s.mrh ∧ (clearTx s).lbu = s.lbu := by
  simp [clearTx]

@[simp] theorem refuseRead_frame (s : State) :
    (refuseRead s).pending = s.pending ∧ (refuseRead s).freeCount = s.freeCount ∧
    (refuseRead s).resetHeld = s.resetHeld ∧ (refuseRead s).nRate = s.nRate ∧
    (refuseRead s).dRate = s.dRate ∧ (refuseRead s).mem = s.mem ∧ (refuseRead s).wdc = s.wdc ∧
    (refuseRead s).zcu = s.zcu ∧ (refuseRead s).spu = s.spu ∧ (refuseRead s).mgt = s.mgt ∧
    (refuseRead s).rse = s.rse ∧ (refuseRead s).dkc = s.dkc ∧ (refuseRead s).tbs = s.tbs ∧
    (refuseRead s).lbu = s.lbu := by
  simp [refuseRead]

@[simp] theorem endRead_frame (code : RespCode) (data : List Byte) (s : State) :
    (endRead code data s).pending = s.pending ∧ (endRead code data s).freeCount = s.freeCount ∧
    (endRead code data s).resetHeld = s.resetHeld ∧ (endRead code data s).nRate = s.nRate ∧
    (endRead code data s).dRate = s.dRate ∧ (endRead code data s).mem = s.mem ∧
    (endRead code data s).wdc = s.wdc ∧ (endRead code data s).zcu = s.zcu ∧
    (endRead code data s).spu = s.spu ∧ (endRead code data s).mgt = s.mgt ∧
    (endRead code data s).rse = s.rse ∧ (endRead code data s).dkc = s.dkc ∧
    (endRead code data s).tbs = s.tbs ∧ (endRead code data s).lbu = s.lbu := by
  unfold endRead; (repeat' split) <;> simp

@[simp] theorem takeAnswer_frame (t : Transaction) (p : List Byte) (s : State) :
    (takeAnswer t p s).pending = s.pending ∧ (takeAnswer t p s).resetHeld = s.resetHeld ∧
    (takeAnswer t p s).nRate = s.nRate ∧ (takeAnswer t p s).dRate = s.dRate ∧
    (takeAnswer t p s).mem = s.mem ∧ (takeAnswer t p s).wdc = s.wdc ∧
    (takeAnswer t p s).spu = s.spu ∧ (takeAnswer t p s).tbs = s.tbs ∧
    (takeAnswer t p s).mrh = s.mrh ∧ (takeAnswer t p s).lbu = s.lbu := by
  unfold takeAnswer; (repeat' split) <;> simp

@[simp] theorem echoAnswered_frame (sent p : List Byte) (s : State) :
    (echoAnswered sent p s).pending = s.pending ∧
    (echoAnswered sent p s).freeCount = s.freeCount ∧
    (echoAnswered sent p s).resetHeld = s.resetHeld ∧ (echoAnswered sent p s).nRate = s.nRate ∧
    (echoAnswered sent p s).dRate = s.dRate ∧ (echoAnswered sent p s).mem = s.mem ∧
    (echoAnswered sent p s).wdc = s.wdc ∧ (echoAnswered sent p s).zcu = s.zcu ∧
    (echoAnswered sent p s).spu = s.spu ∧ (echoAnswered sent p s).mgt = s.mgt ∧
    (echoAnswered sent p s).dlc = s.dlc ∧ (echoAnswered sent p s).rse = s.rse ∧
    (echoAnswered sent p s).dkc = s.dkc ∧ (echoAnswered sent p s).tbs = s.tbs ∧
    (echoAnswered sent p s).nli = s.nli ∧ (echoAnswered sent p s).mrh = s.mrh := by
  simp [echoAnswered]

@[simp] theorem answered_frame (t : Transaction) (p : List Byte) (s : State) :
    (answered t p s).pending = s.pending ∧ (answered t p s).resetHeld = s.resetHeld ∧
    (answered t p s).nRate = s.nRate ∧ (answered t p s).dRate = s.dRate ∧
    (answered t p s).mem = s.mem ∧ (answered t p s).wdc = s.wdc ∧ (answered t p s).spu = s.spu ∧
    (answered t p s).tbs = s.tbs := by
  unfold answered; split <;> simp

@[simp] theorem dLinkArrival_frame (bytes : List Byte) (s : State) :
    (dLinkArrival bytes s).pending = s.pending ∧ (dLinkArrival bytes s).resetHeld = s.resetHeld ∧
    (dLinkArrival bytes s).nRate = s.nRate ∧ (dLinkArrival bytes s).dRate = s.dRate ∧
    (dLinkArrival bytes s).mem = s.mem ∧ (dLinkArrival bytes s).wdc = s.wdc ∧
    (dLinkArrival bytes s).spu = s.spu ∧ (dLinkArrival bytes s).tbs = s.tbs := by
  unfold dLinkArrival; (repeat' split) <;> simp

@[simp] theorem retry_frame (t : Transaction) (s : State) :
    (retry t s).pending = s.pending ∧ (retry t s).freeCount = s.freeCount ∧
    (retry t s).resetHeld = s.resetHeld ∧ (retry t s).nRate = s.nRate ∧
    (retry t s).dRate = s.dRate ∧ (retry t s).mem = s.mem ∧ (retry t s).wdc = s.wdc ∧
    (retry t s).zcu = s.zcu ∧ (retry t s).spu = s.spu ∧ (retry t s).mgt = s.mgt ∧
    (retry t s).rse = s.rse ∧ (retry t s).dkc = s.dkc ∧ (retry t s).tbs = s.tbs ∧
    (retry t s).nli = s.nli ∧ (retry t s).mrh = s.mrh ∧ (retry t s).lbu = s.lbu := by
  simp [retry]

@[simp] theorem loseNode_frame (n : Node) (s : State) :
    (loseNode n s).pending = s.pending ∧ (loseNode n s).freeCount = s.freeCount ∧
    (loseNode n s).resetHeld = s.resetHeld ∧ (loseNode n s).nRate = s.nRate ∧
    (loseNode n s).dRate = s.dRate ∧ (loseNode n s).mem = s.mem ∧ (loseNode n s).wdc = s.wdc ∧
    (loseNode n s).zcu = s.zcu ∧ (loseNode n s).spu = s.spu ∧ (loseNode n s).mgt = s.mgt ∧
    (loseNode n s).rse = s.rse ∧ (loseNode n s).dkc = s.dkc ∧ (loseNode n s).tbs = s.tbs ∧
    (loseNode n s).nli = s.nli ∧ (loseNode n s).mrh = s.mrh ∧ (loseNode n s).lbu = s.lbu := by
  simp [loseNode]

@[simp] theorem losePower_frame (n : Node) (s : State) :
    (losePower n s).pending = s.pending ∧ (losePower n s).freeCount = s.freeCount ∧
    (losePower n s).resetHeld = s.resetHeld ∧ (losePower n s).nRate = s.nRate ∧
    (losePower n s).dRate = s.dRate ∧ (losePower n s).mem = s.mem ∧ (losePower n s).wdc = s.wdc ∧
    (losePower n s).zcu = s.zcu ∧ (losePower n s).spu = s.spu ∧ (losePower n s).mgt = s.mgt ∧
    (losePower n s).dlc = s.dlc ∧ (losePower n s).rse = s.rse ∧ (losePower n s).tbs = s.tbs ∧
    (losePower n s).mrh = s.mrh ∧ (losePower n s).lbu = s.lbu := by
  simp [losePower]

@[simp] theorem failTx_frame (t : Transaction) (s : State) :
    (failTx t s).pending = s.pending ∧ (failTx t s).freeCount = s.freeCount ∧
    (failTx t s).resetHeld = s.resetHeld ∧ (failTx t s).nRate = s.nRate ∧
    (failTx t s).dRate = s.dRate ∧ (failTx t s).mem = s.mem ∧ (failTx t s).wdc = s.wdc ∧
    (failTx t s).zcu = s.zcu ∧ (failTx t s).spu = s.spu ∧ (failTx t s).mgt = s.mgt ∧
    (failTx t s).rse = s.rse ∧ (failTx t s).dkc = s.dkc ∧ (failTx t s).tbs = s.tbs ∧
    (failTx t s).lbu = s.lbu := by
  unfold failTx; dsimp only; (repeat' split) <;> simp

@[simp] theorem nodeLostRaise_frame (n : Node) (s : State) :
    (nodeLostRaise n s).pending = s.pending ∧ (nodeLostRaise n s).resetHeld = s.resetHeld ∧
    (nodeLostRaise n s).nRate = s.nRate ∧ (nodeLostRaise n s).dRate = s.dRate ∧
    (nodeLostRaise n s).mem = s.mem ∧ (nodeLostRaise n s).wdc = s.wdc ∧
    (nodeLostRaise n s).spu = s.spu ∧ (nodeLostRaise n s).tbs = s.tbs ∧
    (nodeLostRaise n s).mrh = s.mrh ∧ (nodeLostRaise n s).lbu = s.lbu := by
  unfold nodeLostRaise; split <;> simp

@[simp] theorem secondTimeout_frame (t : Transaction) (s : State) :
    (secondTimeout t s).pending = s.pending ∧ (secondTimeout t s).resetHeld = s.resetHeld ∧
    (secondTimeout t s).nRate = s.nRate ∧ (secondTimeout t s).dRate = s.dRate ∧
    (secondTimeout t s).mem = s.mem ∧ (secondTimeout t s).wdc = s.wdc ∧
    (secondTimeout t s).spu = s.spu ∧ (secondTimeout t s).tbs = s.tbs ∧
    (secondTimeout t s).lbu = s.lbu := by
  unfold secondTimeout; (repeat' split) <;> simp

@[simp] theorem echoTimeout_frame (t : Transaction) (s : State) :
    (echoTimeout t s).pending = s.pending ∧ (echoTimeout t s).freeCount = s.freeCount ∧
    (echoTimeout t s).resetHeld = s.resetHeld ∧ (echoTimeout t s).nRate = s.nRate ∧
    (echoTimeout t s).dRate = s.dRate ∧ (echoTimeout t s).mem = s.mem ∧
    (echoTimeout t s).wdc = s.wdc ∧ (echoTimeout t s).zcu = s.zcu ∧
    (echoTimeout t s).spu = s.spu ∧ (echoTimeout t s).dkc = s.dkc ∧
    (echoTimeout t s).tbs = s.tbs ∧ (echoTimeout t s).mrh = s.mrh := by
  simp [echoTimeout]

@[simp] theorem responseExpired_frame (s : State) :
    (responseExpired s).pending = s.pending ∧ (responseExpired s).resetHeld = s.resetHeld ∧
    (responseExpired s).nRate = s.nRate ∧ (responseExpired s).dRate = s.dRate ∧
    (responseExpired s).mem = s.mem ∧ (responseExpired s).wdc = s.wdc ∧
    (responseExpired s).spu = s.spu ∧ (responseExpired s).tbs = s.tbs := by
  unfold responseExpired; (repeat' split) <;> simp

@[simp] theorem slipExpired_frame (n : Node) (s : State) :
    (slipExpired n s).pending = s.pending ∧ (slipExpired n s).resetHeld = s.resetHeld ∧
    (slipExpired n s).nRate = s.nRate ∧ (slipExpired n s).dRate = s.dRate ∧
    (slipExpired n s).mem = s.mem ∧ (slipExpired n s).wdc = s.wdc ∧
    (slipExpired n s).spu = s.spu ∧ (slipExpired n s).tbs = s.tbs ∧
    (slipExpired n s).mrh = s.mrh ∧ (slipExpired n s).lbu = s.lbu := by
  simp [slipExpired]

@[simp] theorem stallExpired_frame (n : Node) (s : State) :
    (stallExpired n s).pending = s.pending ∧ (stallExpired n s).resetHeld = s.resetHeld ∧
    (stallExpired n s).nRate = s.nRate ∧ (stallExpired n s).dRate = s.dRate ∧
    (stallExpired n s).mem = s.mem ∧ (stallExpired n s).wdc = s.wdc ∧
    (stallExpired n s).spu = s.spu ∧ (stallExpired n s).tbs = s.tbs ∧
    (stallExpired n s).mrh = s.mrh ∧ (stallExpired n s).lbu = s.lbu := by
  simp [stallExpired]

@[simp] theorem jamExpired_frame (n : Node) (s : State) :
    (jamExpired n s).pending = s.pending ∧ (jamExpired n s).resetHeld = s.resetHeld ∧
    (jamExpired n s).nRate = s.nRate ∧ (jamExpired n s).dRate = s.dRate ∧
    (jamExpired n s).mem = s.mem ∧ (jamExpired n s).wdc = s.wdc ∧ (jamExpired n s).spu = s.spu ∧
    (jamExpired n s).tbs = s.tbs ∧ (jamExpired n s).mrh = s.mrh ∧
    (jamExpired n s).lbu = s.lbu := by
  simp [jamExpired]

@[simp] theorem refusePass_frame (code : RespCode) (s : State) :
    (refusePass code s).pending = s.pending ∧ (refusePass code s).freeCount = s.freeCount ∧
    (refusePass code s).resetHeld = s.resetHeld ∧ (refusePass code s).nRate = s.nRate ∧
    (refusePass code s).dRate = s.dRate ∧ (refusePass code s).mem = s.mem ∧
    (refusePass code s).wdc = s.wdc ∧ (refusePass code s).zcu = s.zcu ∧
    (refusePass code s).spu = s.spu ∧ (refusePass code s).mgt = s.mgt ∧
    (refusePass code s).rse = s.rse ∧ (refusePass code s).dkc = s.dkc ∧
    (refusePass code s).tbs = s.tbs ∧ (refusePass code s).lbu = s.lbu := by
  simp [refusePass]

@[simp] theorem passWrite_frame (n : Node) (bytes : List Byte) (s : State) :
    (passWrite n bytes s).pending = s.pending ∧ (passWrite n bytes s).freeCount = s.freeCount ∧
    (passWrite n bytes s).resetHeld = s.resetHeld ∧ (passWrite n bytes s).nRate = s.nRate ∧
    (passWrite n bytes s).dRate = s.dRate ∧ (passWrite n bytes s).mem = s.mem ∧
    (passWrite n bytes s).wdc = s.wdc ∧ (passWrite n bytes s).zcu = s.zcu ∧
    (passWrite n bytes s).spu = s.spu ∧ (passWrite n bytes s).mgt = s.mgt ∧
    (passWrite n bytes s).rse = s.rse ∧ (passWrite n bytes s).dkc = s.dkc ∧
    (passWrite n bytes s).tbs = s.tbs ∧ (passWrite n bytes s).lbu = s.lbu := by
  unfold passWrite; (repeat' split) <;> simp

@[simp] theorem holdRead_frame (s : State) :
    (holdRead s).pending = s.pending ∧ (holdRead s).freeCount = s.freeCount ∧
    (holdRead s).resetHeld = s.resetHeld ∧ (holdRead s).nRate = s.nRate ∧
    (holdRead s).dRate = s.dRate ∧ (holdRead s).mem = s.mem ∧ (holdRead s).wdc = s.wdc ∧
    (holdRead s).zcu = s.zcu ∧ (holdRead s).spu = s.spu ∧ (holdRead s).mgt = s.mgt ∧
    (holdRead s).dlc = s.dlc ∧ (holdRead s).rse = s.rse ∧ (holdRead s).dkc = s.dkc ∧
    (holdRead s).tbs = s.tbs ∧ (holdRead s).nli = s.nli ∧ (holdRead s).lbu = s.lbu := by
  unfold holdRead; split <;> simp

@[simp] theorem passRead_frame (n : Node) (bytes : List Byte) (s : State) :
    (passRead n bytes s).pending = s.pending ∧ (passRead n bytes s).freeCount = s.freeCount ∧
    (passRead n bytes s).resetHeld = s.resetHeld ∧ (passRead n bytes s).nRate = s.nRate ∧
    (passRead n bytes s).dRate = s.dRate ∧ (passRead n bytes s).mem = s.mem ∧
    (passRead n bytes s).wdc = s.wdc ∧ (passRead n bytes s).zcu = s.zcu ∧
    (passRead n bytes s).spu = s.spu ∧ (passRead n bytes s).mgt = s.mgt ∧
    (passRead n bytes s).rse = s.rse ∧ (passRead n bytes s).dkc = s.dkc ∧
    (passRead n bytes s).tbs = s.tbs ∧ (passRead n bytes s).lbu = s.lbu := by
  unfold passRead; (repeat' split) <;> simp

@[simp] theorem passRequest_frame (p : List Byte) (s : State) :
    (passRequest p s).pending = s.pending ∧ (passRequest p s).freeCount = s.freeCount ∧
    (passRequest p s).resetHeld = s.resetHeld ∧ (passRequest p s).nRate = s.nRate ∧
    (passRequest p s).dRate = s.dRate ∧ (passRequest p s).mem = s.mem ∧
    (passRequest p s).wdc = s.wdc ∧ (passRequest p s).zcu = s.zcu ∧
    (passRequest p s).spu = s.spu ∧ (passRequest p s).mgt = s.mgt ∧
    (passRequest p s).rse = s.rse ∧ (passRequest p s).dkc = s.dkc ∧
    (passRequest p s).tbs = s.tbs ∧ (passRequest p s).lbu = s.lbu := by
  unfold passRequest; split <;> simp

@[simp] theorem abortDEcho_frame (s : State) :
    (abortDEcho s).pending = s.pending ∧ (abortDEcho s).freeCount = s.freeCount ∧
    (abortDEcho s).resetHeld = s.resetHeld ∧ (abortDEcho s).nRate = s.nRate ∧
    (abortDEcho s).dRate = s.dRate ∧ (abortDEcho s).mem = s.mem ∧ (abortDEcho s).wdc = s.wdc ∧
    (abortDEcho s).zcu = s.zcu ∧ (abortDEcho s).spu = s.spu ∧ (abortDEcho s).mgt = s.mgt ∧
    (abortDEcho s).dlc = s.dlc ∧ (abortDEcho s).dkc = s.dkc ∧ (abortDEcho s).tbs = s.tbs ∧
    (abortDEcho s).mrh = s.mrh := by
  unfold abortDEcho; split <;> simp

@[simp] theorem driveStilled_frame (s : State) :
    (driveStilled s).pending = s.pending ∧ (driveStilled s).freeCount = s.freeCount ∧
    (driveStilled s).resetHeld = s.resetHeld ∧ (driveStilled s).nRate = s.nRate ∧
    (driveStilled s).dRate = s.dRate ∧ (driveStilled s).mem = s.mem ∧
    (driveStilled s).wdc = s.wdc ∧ (driveStilled s).zcu = s.zcu ∧ (driveStilled s).spu = s.spu ∧
    (driveStilled s).tbs = s.tbs := by
  unfold driveStilled; dsimp only; (repeat' split) <;> simp

@[simp] theorem swapRead_frame (s : State) :
    (swapRead s).pending = s.pending ∧ (swapRead s).freeCount = s.freeCount ∧
    (swapRead s).resetHeld = s.resetHeld ∧ (swapRead s).nRate = s.nRate ∧
    (swapRead s).dRate = s.dRate ∧ (swapRead s).mem = s.mem ∧ (swapRead s).wdc = s.wdc ∧
    (swapRead s).zcu = s.zcu ∧ (swapRead s).spu = s.spu ∧ (swapRead s).mgt = s.mgt ∧
    (swapRead s).rse = s.rse ∧ (swapRead s).dkc = s.dkc ∧ (swapRead s).tbs = s.tbs ∧
    (swapRead s).lbu = s.lbu := by
  unfold swapRead; (repeat' split) <;> simp

@[simp] theorem dlcSwap_frame (before : PerSix NodeKind) (powerBefore : Option Node) (s : State) :
    (dlcSwap before powerBefore s).pending = s.pending ∧
    (dlcSwap before powerBefore s).freeCount = s.freeCount ∧
    (dlcSwap before powerBefore s).resetHeld = s.resetHeld ∧
    (dlcSwap before powerBefore s).nRate = s.nRate ∧
    (dlcSwap before powerBefore s).dRate = s.dRate ∧ (dlcSwap before powerBefore s).mem = s.mem ∧
    (dlcSwap before powerBefore s).wdc = s.wdc ∧ (dlcSwap before powerBefore s).zcu = s.zcu ∧
    (dlcSwap before powerBefore s).spu = s.spu ∧ (dlcSwap before powerBefore s).mgt = s.mgt ∧
    (dlcSwap before powerBefore s).rse = s.rse ∧ (dlcSwap before powerBefore s).tbs = s.tbs ∧
    (dlcSwap before powerBefore s).lbu = s.lbu := by
  unfold dlcSwap; dsimp only; (repeat' split) <;> simp


/-! ### Nav -/

@[simp] theorem motionFrame_frame (p : List Byte) (s : State) :
    (motionFrame p s).pending = s.pending ∧ (motionFrame p s).freeCount = s.freeCount ∧
    (motionFrame p s).resetHeld = s.resetHeld ∧ (motionFrame p s).nRate = s.nRate ∧
    (motionFrame p s).dRate = s.dRate ∧ (motionFrame p s).mem = s.mem ∧
    (motionFrame p s).wdc = s.wdc ∧ (motionFrame p s).zcu = s.zcu ∧
    (motionFrame p s).spu = s.spu ∧ (motionFrame p s).rse = s.rse ∧
    (motionFrame p s).dkc = s.dkc ∧ (motionFrame p s).tbs = s.tbs ∧
    (motionFrame p s).nli = s.nli ∧ (motionFrame p s).mrh = s.mrh ∧
    (motionFrame p s).lbu = s.lbu := by
  unfold motionFrame; (repeat' split) <;> simp

@[simp] theorem goStale_frame (s : State) :
    (goStale s).pending = s.pending ∧ (goStale s).freeCount = s.freeCount ∧
    (goStale s).resetHeld = s.resetHeld ∧ (goStale s).nRate = s.nRate ∧
    (goStale s).dRate = s.dRate ∧ (goStale s).mem = s.mem ∧ (goStale s).wdc = s.wdc ∧
    (goStale s).zcu = s.zcu ∧ (goStale s).spu = s.spu ∧ (goStale s).dlc = s.dlc ∧
    (goStale s).rse = s.rse ∧ (goStale s).dkc = s.dkc ∧ (goStale s).tbs = s.tbs ∧
    (goStale s).mrh = s.mrh ∧ (goStale s).lbu = s.lbu := by
  unfold goStale; split <;> simp

@[simp] theorem ageExpired_frame (s : State) :
    (ageExpired s).pending = s.pending ∧ (ageExpired s).freeCount = s.freeCount ∧
    (ageExpired s).resetHeld = s.resetHeld ∧ (ageExpired s).nRate = s.nRate ∧
    (ageExpired s).dRate = s.dRate ∧ (ageExpired s).mem = s.mem ∧ (ageExpired s).wdc = s.wdc ∧
    (ageExpired s).zcu = s.zcu ∧ (ageExpired s).spu = s.spu ∧ (ageExpired s).rse = s.rse ∧
    (ageExpired s).dkc = s.dkc ∧ (ageExpired s).tbs = s.tbs ∧ (ageExpired s).mrh = s.mrh ∧
    (ageExpired s).lbu = s.lbu := by
  simp [ageExpired]

@[simp] theorem linkError_frame (cause : LinkCause) (s : State) :
    (linkError cause s).pending = s.pending ∧ (linkError cause s).freeCount = s.freeCount ∧
    (linkError cause s).resetHeld = s.resetHeld ∧ (linkError cause s).nRate = s.nRate ∧
    (linkError cause s).dRate = s.dRate ∧ (linkError cause s).mem = s.mem ∧
    (linkError cause s).wdc = s.wdc ∧ (linkError cause s).zcu = s.zcu ∧
    (linkError cause s).spu = s.spu ∧ (linkError cause s).mgt = s.mgt ∧
    (linkError cause s).dlc = s.dlc ∧ (linkError cause s).rse = s.rse ∧
    (linkError cause s).dkc = s.dkc ∧ (linkError cause s).tbs = s.tbs ∧
    (linkError cause s).mrh = s.mrh ∧ (linkError cause s).lbu = s.lbu := by
  simp [linkError]

@[simp] theorem queueRequest_frame (f : NFrame) (s : State) :
    (queueRequest f s).pending = s.pending ∧ (queueRequest f s).freeCount = s.freeCount ∧
    (queueRequest f s).resetHeld = s.resetHeld ∧ (queueRequest f s).nRate = s.nRate ∧
    (queueRequest f s).dRate = s.dRate ∧ (queueRequest f s).mem = s.mem ∧
    (queueRequest f s).wdc = s.wdc ∧ (queueRequest f s).zcu = s.zcu ∧
    (queueRequest f s).spu = s.spu ∧ (queueRequest f s).mgt = s.mgt ∧
    (queueRequest f s).dlc = s.dlc ∧ (queueRequest f s).rse = s.rse ∧
    (queueRequest f s).dkc = s.dkc ∧ (queueRequest f s).tbs = s.tbs ∧
    (queueRequest f s).lbu = s.lbu := by
  unfold queueRequest; split <;> simp

@[simp] theorem dispatch_frame (f : NFrame) (s : State) :
    (dispatch f s).pending = s.pending ∧ (dispatch f s).freeCount = s.freeCount ∧
    (dispatch f s).resetHeld = s.resetHeld ∧ (dispatch f s).nRate = s.nRate ∧
    (dispatch f s).dRate = s.dRate ∧ (dispatch f s).mem = s.mem ∧ (dispatch f s).wdc = s.wdc ∧
    (dispatch f s).zcu = s.zcu ∧ (dispatch f s).spu = s.spu ∧ (dispatch f s).rse = s.rse ∧
    (dispatch f s).dkc = s.dkc ∧ (dispatch f s).tbs = s.tbs ∧ (dispatch f s).lbu = s.lbu := by
  unfold dispatch; (repeat' split) <;> simp

@[simp] theorem received_frame (f : NFrame) (s : State) :
    (received f s).pending = s.pending ∧ (received f s).freeCount = s.freeCount ∧
    (received f s).resetHeld = s.resetHeld ∧ (received f s).nRate = s.nRate ∧
    (received f s).dRate = s.dRate ∧ (received f s).mem = s.mem ∧ (received f s).wdc = s.wdc ∧
    (received f s).zcu = s.zcu ∧ (received f s).spu = s.spu ∧ (received f s).rse = s.rse ∧
    (received f s).dkc = s.dkc ∧ (received f s).tbs = s.tbs := by
  unfold received; dsimp only; (repeat' split) <;> simp

@[simp] theorem setFramer_frame (st : FramerState) (bytes : List Byte) (s : State) :
    (setFramer st bytes s).pending = s.pending ∧ (setFramer st bytes s).freeCount = s.freeCount ∧
    (setFramer st bytes s).resetHeld = s.resetHeld ∧ (setFramer st bytes s).nRate = s.nRate ∧
    (setFramer st bytes s).dRate = s.dRate ∧ (setFramer st bytes s).mem = s.mem ∧
    (setFramer st bytes s).wdc = s.wdc ∧ (setFramer st bytes s).zcu = s.zcu ∧
    (setFramer st bytes s).spu = s.spu ∧ (setFramer st bytes s).mgt = s.mgt ∧
    (setFramer st bytes s).dlc = s.dlc ∧ (setFramer st bytes s).rse = s.rse ∧
    (setFramer st bytes s).dkc = s.dkc ∧ (setFramer st bytes s).tbs = s.tbs ∧
    (setFramer st bytes s).mrh = s.mrh ∧ (setFramer st bytes s).lbu = s.lbu := by
  simp [setFramer]

@[simp] theorem frameDone_frame (bytes : List Byte) (s : State) :
    (frameDone bytes s).pending = s.pending ∧ (frameDone bytes s).freeCount = s.freeCount ∧
    (frameDone bytes s).resetHeld = s.resetHeld ∧ (frameDone bytes s).nRate = s.nRate ∧
    (frameDone bytes s).dRate = s.dRate ∧ (frameDone bytes s).mem = s.mem ∧
    (frameDone bytes s).wdc = s.wdc ∧ (frameDone bytes s).zcu = s.zcu ∧
    (frameDone bytes s).spu = s.spu ∧ (frameDone bytes s).rse = s.rse ∧
    (frameDone bytes s).dkc = s.dkc ∧ (frameDone bytes s).tbs = s.tbs := by
  unfold frameDone; split <;> simp

@[simp] theorem headerDone_frame (bytes : List Byte) (s : State) :
    (headerDone bytes s).pending = s.pending ∧ (headerDone bytes s).freeCount = s.freeCount ∧
    (headerDone bytes s).resetHeld = s.resetHeld ∧ (headerDone bytes s).nRate = s.nRate ∧
    (headerDone bytes s).dRate = s.dRate ∧ (headerDone bytes s).mem = s.mem ∧
    (headerDone bytes s).wdc = s.wdc ∧ (headerDone bytes s).zcu = s.zcu ∧
    (headerDone bytes s).spu = s.spu ∧ (headerDone bytes s).mgt = s.mgt ∧
    (headerDone bytes s).dlc = s.dlc ∧ (headerDone bytes s).rse = s.rse ∧
    (headerDone bytes s).dkc = s.dkc ∧ (headerDone bytes s).tbs = s.tbs ∧
    (headerDone bytes s).mrh = s.mrh ∧ (headerDone bytes s).lbu = s.lbu := by
  unfold headerDone; (repeat' split) <;> simp

@[simp] theorem takeByte_frame (s : State) (b : Byte) :
    (takeByte s b).pending = s.pending ∧ (takeByte s b).freeCount = s.freeCount ∧
    (takeByte s b).resetHeld = s.resetHeld ∧ (takeByte s b).nRate = s.nRate ∧
    (takeByte s b).dRate = s.dRate ∧ (takeByte s b).mem = s.mem ∧ (takeByte s b).wdc = s.wdc ∧
    (takeByte s b).zcu = s.zcu ∧ (takeByte s b).spu = s.spu ∧ (takeByte s b).rse = s.rse ∧
    (takeByte s b).dkc = s.dkc ∧ (takeByte s b).tbs = s.tbs := by
  unfold takeByte; dsimp only; (repeat' split) <;> simp

@[simp] theorem takeBytes_frame (bytes : List Byte) (s : State) :
    (takeBytes bytes s).pending = s.pending ∧ (takeBytes bytes s).freeCount = s.freeCount ∧
    (takeBytes bytes s).resetHeld = s.resetHeld ∧ (takeBytes bytes s).nRate = s.nRate ∧
    (takeBytes bytes s).dRate = s.dRate ∧ (takeBytes bytes s).mem = s.mem ∧
    (takeBytes bytes s).wdc = s.wdc ∧ (takeBytes bytes s).zcu = s.zcu ∧
    (takeBytes bytes s).spu = s.spu ∧ (takeBytes bytes s).rse = s.rse ∧
    (takeBytes bytes s).dkc = s.dkc ∧ (takeBytes bytes s).tbs = s.tbs := by
  unfold takeBytes
  repeat' apply And.intro
  all_goals
    apply foldl_keeps
    intro s n
    simp

@[simp] theorem truncate_frame (s : State) :
    (truncate s).pending = s.pending ∧ (truncate s).freeCount = s.freeCount ∧
    (truncate s).resetHeld = s.resetHeld ∧ (truncate s).nRate = s.nRate ∧
    (truncate s).dRate = s.dRate ∧ (truncate s).mem = s.mem ∧ (truncate s).wdc = s.wdc ∧
    (truncate s).zcu = s.zcu ∧ (truncate s).spu = s.spu ∧ (truncate s).mgt = s.mgt ∧
    (truncate s).dlc = s.dlc ∧ (truncate s).rse = s.rse ∧ (truncate s).dkc = s.dkc ∧
    (truncate s).tbs = s.tbs ∧ (truncate s).mrh = s.mrh ∧ (truncate s).lbu = s.lbu := by
  unfold truncate; split <;> simp

@[simp] theorem popHead_frame (s : State) :
    (popHead s).pending = s.pending ∧ (popHead s).freeCount = s.freeCount ∧
    (popHead s).resetHeld = s.resetHeld ∧ (popHead s).nRate = s.nRate ∧
    (popHead s).dRate = s.dRate ∧ (popHead s).mem = s.mem ∧ (popHead s).wdc = s.wdc ∧
    (popHead s).zcu = s.zcu ∧ (popHead s).spu = s.spu ∧ (popHead s).mgt = s.mgt ∧
    (popHead s).dlc = s.dlc ∧ (popHead s).rse = s.rse ∧ (popHead s).dkc = s.dkc ∧
    (popHead s).tbs = s.tbs ∧ (popHead s).nli = s.nli ∧ (popHead s).lbu = s.lbu := by
  simp [popHead]

@[simp] theorem sentEffect_frame (cls : OutClass) (s : State) :
    (sentEffect cls s).pending = s.pending ∧ (sentEffect cls s).freeCount = s.freeCount ∧
    (sentEffect cls s).resetHeld = s.resetHeld ∧ (sentEffect cls s).nRate = s.nRate ∧
    (sentEffect cls s).dRate = s.dRate ∧ (sentEffect cls s).mem = s.mem ∧
    (sentEffect cls s).wdc = s.wdc ∧ (sentEffect cls s).zcu = s.zcu ∧
    (sentEffect cls s).spu = s.spu ∧ (sentEffect cls s).mgt = s.mgt ∧
    (sentEffect cls s).dlc = s.dlc ∧ (sentEffect cls s).rse = s.rse ∧
    (sentEffect cls s).dkc = s.dkc ∧ (sentEffect cls s).tbs = s.tbs := by
  unfold sentEffect; split <;> simp

@[simp] theorem frameSent_frame (s : State) :
    (frameSent s).pending = s.pending ∧ (frameSent s).freeCount = s.freeCount ∧
    (frameSent s).resetHeld = s.resetHeld ∧ (frameSent s).nRate = s.nRate ∧
    (frameSent s).dRate = s.dRate ∧ (frameSent s).mem = s.mem ∧ (frameSent s).wdc = s.wdc ∧
    (frameSent s).zcu = s.zcu ∧ (frameSent s).spu = s.spu ∧ (frameSent s).mgt = s.mgt ∧
    (frameSent s).dlc = s.dlc ∧ (frameSent s).rse = s.rse ∧ (frameSent s).dkc = s.dkc ∧
    (frameSent s).tbs = s.tbs := by
  unfold frameSent; split <;> simp


/-! ### Store -/

@[simp] theorem setStaged_frame (t : Table) (v : StagedTable) (s : State) :
    (setStaged t v s).pending = s.pending ∧ (setStaged t v s).freeCount = s.freeCount ∧
    (setStaged t v s).resetHeld = s.resetHeld ∧ (setStaged t v s).nRate = s.nRate ∧
    (setStaged t v s).dRate = s.dRate ∧ (setStaged t v s).mem = s.mem ∧
    (setStaged t v s).wdc = s.wdc ∧ (setStaged t v s).zcu = s.zcu ∧
    (setStaged t v s).spu = s.spu ∧ (setStaged t v s).mgt = s.mgt ∧
    (setStaged t v s).dlc = s.dlc ∧ (setStaged t v s).rse = s.rse ∧
    (setStaged t v s).dkc = s.dkc ∧ (setStaged t v s).nli = s.nli ∧
    (setStaged t v s).mrh = s.mrh ∧ (setStaged t v s).lbu = s.lbu := by
  simp [setStaged]

@[simp] theorem refuseSegment_frame (s : State) :
    (refuseSegment s).pending = s.pending ∧ (refuseSegment s).freeCount = s.freeCount ∧
    (refuseSegment s).resetHeld = s.resetHeld ∧ (refuseSegment s).nRate = s.nRate ∧
    (refuseSegment s).dRate = s.dRate ∧ (refuseSegment s).mem = s.mem ∧
    (refuseSegment s).wdc = s.wdc ∧ (refuseSegment s).zcu = s.zcu ∧
    (refuseSegment s).spu = s.spu ∧ (refuseSegment s).mgt = s.mgt ∧
    (refuseSegment s).dlc = s.dlc ∧ (refuseSegment s).rse = s.rse ∧
    (refuseSegment s).dkc = s.dkc ∧ (refuseSegment s).lbu = s.lbu := by
  simp [refuseSegment]

@[simp] theorem abandonLoad_frame (t : Table) (s : State) :
    (abandonLoad t s).pending = s.pending ∧ (abandonLoad t s).freeCount = s.freeCount ∧
    (abandonLoad t s).resetHeld = s.resetHeld ∧ (abandonLoad t s).nRate = s.nRate ∧
    (abandonLoad t s).dRate = s.dRate ∧ (abandonLoad t s).mem = s.mem ∧
    (abandonLoad t s).wdc = s.wdc ∧ (abandonLoad t s).zcu = s.zcu ∧
    (abandonLoad t s).spu = s.spu ∧ (abandonLoad t s).mgt = s.mgt ∧
    (abandonLoad t s).dlc = s.dlc ∧ (abandonLoad t s).rse = s.rse ∧
    (abandonLoad t s).dkc = s.dkc ∧ (abandonLoad t s).nli = s.nli ∧
    (abandonLoad t s).mrh = s.mrh ∧ (abandonLoad t s).lbu = s.lbu := by
  simp [abandonLoad]

@[simp] theorem completeLoad_frame (t : Table) (s : State) :
    (completeLoad t s).pending = s.pending ∧ (completeLoad t s).freeCount = s.freeCount ∧
    (completeLoad t s).resetHeld = s.resetHeld ∧ (completeLoad t s).nRate = s.nRate ∧
    (completeLoad t s).dRate = s.dRate ∧ (completeLoad t s).wdc = s.wdc ∧
    (completeLoad t s).zcu = s.zcu ∧ (completeLoad t s).spu = s.spu ∧
    (completeLoad t s).mgt = s.mgt ∧ (completeLoad t s).dlc = s.dlc ∧
    (completeLoad t s).rse = s.rse ∧ (completeLoad t s).dkc = s.dkc ∧
    (completeLoad t s).lbu = s.lbu := by
  simp [completeLoad]

@[simp] theorem incompleteLoad_frame (t : Table) (got : Nat) (s : State) :
    (incompleteLoad t got s).pending = s.pending ∧
    (incompleteLoad t got s).freeCount = s.freeCount ∧
    (incompleteLoad t got s).resetHeld = s.resetHeld ∧ (incompleteLoad t got s).nRate = s.nRate ∧
    (incompleteLoad t got s).dRate = s.dRate ∧ (incompleteLoad t got s).mem = s.mem ∧
    (incompleteLoad t got s).wdc = s.wdc ∧ (incompleteLoad t got s).zcu = s.zcu ∧
    (incompleteLoad t got s).spu = s.spu ∧ (incompleteLoad t got s).mgt = s.mgt ∧
    (incompleteLoad t got s).dlc = s.dlc ∧ (incompleteLoad t got s).rse = s.rse ∧
    (incompleteLoad t got s).dkc = s.dkc ∧ (incompleteLoad t got s).lbu = s.lbu := by
  simp [incompleteLoad]

@[simp] theorem takeSegment_frame (t : Table) (pos : SegPos) (off : Nat) (data : List Byte) (s : State) :
    (takeSegment t pos off data s).pending = s.pending ∧
    (takeSegment t pos off data s).freeCount = s.freeCount ∧
    (takeSegment t pos off data s).resetHeld = s.resetHeld ∧
    (takeSegment t pos off data s).nRate = s.nRate ∧
    (takeSegment t pos off data s).dRate = s.dRate ∧ (takeSegment t pos off data s).wdc = s.wdc ∧
    (takeSegment t pos off data s).zcu = s.zcu ∧ (takeSegment t pos off data s).spu = s.spu ∧
    (takeSegment t pos off data s).mgt = s.mgt ∧ (takeSegment t pos off data s).dlc = s.dlc ∧
    (takeSegment t pos off data s).rse = s.rse ∧ (takeSegment t pos off data s).dkc = s.dkc ∧
    (takeSegment t pos off data s).lbu = s.lbu := by
  unfold takeSegment; dsimp only; (repeat' split) <;> simp

@[simp] theorem writeTable_frame (p : List Byte) (s : State) :
    (writeTable p s).pending = s.pending ∧ (writeTable p s).freeCount = s.freeCount ∧
    (writeTable p s).resetHeld = s.resetHeld ∧ (writeTable p s).nRate = s.nRate ∧
    (writeTable p s).dRate = s.dRate ∧ (writeTable p s).wdc = s.wdc ∧
    (writeTable p s).zcu = s.zcu ∧ (writeTable p s).spu = s.spu ∧ (writeTable p s).mgt = s.mgt ∧
    (writeTable p s).dlc = s.dlc ∧ (writeTable p s).rse = s.rse ∧ (writeTable p s).dkc = s.dkc ∧
    (writeTable p s).lbu = s.lbu := by
  unfold writeTable; dsimp only; (repeat' split) <;> simp

@[simp] theorem swapTables_frame (s : State) :
    (swapTables s).pending = s.pending ∧ (swapTables s).freeCount = s.freeCount ∧
    (swapTables s).resetHeld = s.resetHeld ∧ (swapTables s).nRate = s.nRate ∧
    (swapTables s).dRate = s.dRate ∧ (swapTables s).mem = s.mem ∧ (swapTables s).wdc = s.wdc ∧
    (swapTables s).zcu = s.zcu ∧ (swapTables s).spu = s.spu ∧ (swapTables s).mgt = s.mgt ∧
    (swapTables s).dlc = s.dlc ∧ (swapTables s).rse = s.rse ∧ (swapTables s).dkc = s.dkc ∧
    (swapTables s).lbu = s.lbu := by
  unfold swapTables; (repeat' split) <;> simp

@[simp] theorem writeSlot_frame (i : Slot) (off : Nat) (v : Byte) (s : State) :
    (writeSlot i off v s).pending = s.pending ∧ (writeSlot i off v s).freeCount = s.freeCount ∧
    (writeSlot i off v s).resetHeld = s.resetHeld ∧ (writeSlot i off v s).nRate = s.nRate ∧
    (writeSlot i off v s).dRate = s.dRate ∧ (writeSlot i off v s).wdc = s.wdc ∧
    (writeSlot i off v s).zcu = s.zcu ∧ (writeSlot i off v s).spu = s.spu ∧
    (writeSlot i off v s).mgt = s.mgt ∧ (writeSlot i off v s).dlc = s.dlc ∧
    (writeSlot i off v s).rse = s.rse ∧ (writeSlot i off v s).dkc = s.dkc ∧
    (writeSlot i off v s).tbs = s.tbs ∧ (writeSlot i off v s).nli = s.nli ∧
    (writeSlot i off v s).mrh = s.mrh ∧ (writeSlot i off v s).lbu = s.lbu := by
  simp [writeSlot]

@[simp] theorem validateSlot_frame (s : State) (i : Slot) :
    (validateSlot s i).pending = s.pending ∧ (validateSlot s i).freeCount = s.freeCount ∧
    (validateSlot s i).resetHeld = s.resetHeld ∧ (validateSlot s i).nRate = s.nRate ∧
    (validateSlot s i).dRate = s.dRate ∧ (validateSlot s i).wdc = s.wdc ∧
    (validateSlot s i).zcu = s.zcu ∧ (validateSlot s i).spu = s.spu ∧
    (validateSlot s i).mgt = s.mgt ∧ (validateSlot s i).dlc = s.dlc ∧
    (validateSlot s i).rse = s.rse ∧ (validateSlot s i).dkc = s.dkc ∧
    (validateSlot s i).tbs = s.tbs ∧ (validateSlot s i).nli = s.nli ∧
    (validateSlot s i).mrh = s.mrh ∧ (validateSlot s i).lbu = s.lbu := by
  unfold validateSlot; split <;> simp

@[simp] theorem pruneSlot_frame (s : State) (i : Slot) :
    (pruneSlot s i).pending = s.pending ∧ (pruneSlot s i).freeCount = s.freeCount ∧
    (pruneSlot s i).resetHeld = s.resetHeld ∧ (pruneSlot s i).nRate = s.nRate ∧
    (pruneSlot s i).dRate = s.dRate ∧ (pruneSlot s i).wdc = s.wdc ∧ (pruneSlot s i).zcu = s.zcu ∧
    (pruneSlot s i).spu = s.spu ∧ (pruneSlot s i).mgt = s.mgt ∧ (pruneSlot s i).dlc = s.dlc ∧
    (pruneSlot s i).rse = s.rse ∧ (pruneSlot s i).dkc = s.dkc ∧ (pruneSlot s i).tbs = s.tbs ∧
    (pruneSlot s i).nli = s.nli ∧ (pruneSlot s i).mrh = s.mrh ∧ (pruneSlot s i).lbu = s.lbu := by
  unfold pruneSlot; split <;> simp

@[simp] theorem crossValidate_frame (s : State) :
    (crossValidate s).pending = s.pending ∧ (crossValidate s).freeCount = s.freeCount ∧
    (crossValidate s).resetHeld = s.resetHeld ∧ (crossValidate s).nRate = s.nRate ∧
    (crossValidate s).dRate = s.dRate ∧ (crossValidate s).wdc = s.wdc ∧
    (crossValidate s).zcu = s.zcu ∧ (crossValidate s).spu = s.spu ∧
    (crossValidate s).mgt = s.mgt ∧ (crossValidate s).dlc = s.dlc ∧
    (crossValidate s).rse = s.rse ∧ (crossValidate s).dkc = s.dkc ∧
    (crossValidate s).tbs = s.tbs ∧ (crossValidate s).nli = s.nli ∧
    (crossValidate s).mrh = s.mrh ∧ (crossValidate s).lbu = s.lbu := by
  unfold crossValidate
  repeat' apply And.intro
  all_goals
    refine (foldl_keeps _ _ ?_ _ _).trans (foldl_keeps _ _ ?_ _ _)
    all_goals
      intro s n
      simp

@[simp] theorem restoreSlot_frame (s : State) (i : Slot) :
    (restoreSlot s i).pending = s.pending ∧ (restoreSlot s i).freeCount = s.freeCount ∧
    (restoreSlot s i).resetHeld = s.resetHeld ∧ (restoreSlot s i).nRate = s.nRate ∧
    (restoreSlot s i).dRate = s.dRate ∧ (restoreSlot s i).wdc = s.wdc ∧
    (restoreSlot s i).zcu = s.zcu ∧ (restoreSlot s i).spu = s.spu ∧
    (restoreSlot s i).mgt = s.mgt ∧ (restoreSlot s i).dlc = s.dlc ∧
    (restoreSlot s i).rse = s.rse ∧ (restoreSlot s i).dkc = s.dkc ∧
    (restoreSlot s i).tbs = s.tbs ∧ (restoreSlot s i).nli = s.nli ∧
    (restoreSlot s i).mrh = s.mrh ∧ (restoreSlot s i).lbu = s.lbu := by
  simp [restoreSlot]

@[simp] theorem exchange_frame (s : State) :
    (exchange s).pending = s.pending ∧ (exchange s).freeCount = s.freeCount ∧
    (exchange s).resetHeld = s.resetHeld ∧ (exchange s).nRate = s.nRate ∧
    (exchange s).dRate = s.dRate ∧ (exchange s).wdc = s.wdc ∧ (exchange s).zcu = s.zcu ∧
    (exchange s).spu = s.spu ∧ (exchange s).mgt = s.mgt ∧ (exchange s).dlc = s.dlc ∧
    (exchange s).rse = s.rse ∧ (exchange s).dkc = s.dkc ∧ (exchange s).nli = s.nli ∧
    (exchange s).mrh = s.mrh ∧ (exchange s).lbu = s.lbu := by
  unfold exchange
  repeat' apply And.intro
  all_goals
    simp only [onTbs_pending, onTbs_freeCount, onTbs_resetHeld, onTbs_nRate, onTbs_dRate,
      onTbs_wdc, onTbs_zcu, onTbs_spu, onTbs_mgt, onTbs_dlc, onTbs_rse, onTbs_dkc, onTbs_nli,
      onTbs_mrh, onTbs_lbu]
    apply foldl_keeps
    intro s n
    simp

@[simp] theorem swapStale_frame (s : State) :
    (swapStale s).pending = s.pending ∧ (swapStale s).freeCount = s.freeCount ∧
    (swapStale s).resetHeld = s.resetHeld ∧ (swapStale s).nRate = s.nRate ∧
    (swapStale s).dRate = s.dRate ∧ (swapStale s).mem = s.mem ∧ (swapStale s).wdc = s.wdc ∧
    (swapStale s).zcu = s.zcu ∧ (swapStale s).spu = s.spu ∧ (swapStale s).dlc = s.dlc ∧
    (swapStale s).rse = s.rse ∧ (swapStale s).dkc = s.dkc ∧ (swapStale s).tbs = s.tbs ∧
    (swapStale s).mrh = s.mrh ∧ (swapStale s).lbu = s.lbu := by
  unfold swapStale; split <;> simp

@[simp] theorem gateSwap_frame (behind : Bool) (before : PerSix NodeKind) (s : State) :
    (gateSwap behind before s).pending = s.pending ∧ (gateSwap behind before s).freeCount = s.freeCount ∧
    (gateSwap behind before s).resetHeld = s.resetHeld ∧ (gateSwap behind before s).nRate = s.nRate ∧
    (gateSwap behind before s).dRate = s.dRate ∧ (gateSwap behind before s).mem = s.mem ∧
    (gateSwap behind before s).wdc = s.wdc ∧ (gateSwap behind before s).zcu = s.zcu ∧
    (gateSwap behind before s).spu = s.spu ∧ (gateSwap behind before s).rse = s.rse ∧
    (gateSwap behind before s).dkc = s.dkc ∧ (gateSwap behind before s).tbs = s.tbs ∧
    (gateSwap behind before s).mrh = s.mrh ∧ (gateSwap behind before s).lbu = s.lbu := by
  simp [gateSwap]

@[simp] theorem telemetryRestart_frame (s : State) :
    (telemetryRestart s).pending = s.pending ∧ (telemetryRestart s).freeCount = s.freeCount ∧
    (telemetryRestart s).resetHeld = s.resetHeld ∧ (telemetryRestart s).nRate = s.nRate ∧
    (telemetryRestart s).dRate = s.dRate ∧ (telemetryRestart s).mem = s.mem ∧
    (telemetryRestart s).wdc = s.wdc ∧ (telemetryRestart s).zcu = s.zcu ∧
    (telemetryRestart s).spu = s.spu ∧ (telemetryRestart s).mgt = s.mgt ∧
    (telemetryRestart s).dlc = s.dlc ∧ (telemetryRestart s).rse = s.rse ∧
    (telemetryRestart s).dkc = s.dkc ∧ (telemetryRestart s).tbs = s.tbs ∧
    (telemetryRestart s).mrh = s.mrh ∧ (telemetryRestart s).lbu = s.lbu := by
  simp [telemetryRestart]

@[simp] theorem zoneSwap_frame (s : State) :
    (zoneSwap s).pending = s.pending ∧ (zoneSwap s).freeCount = s.freeCount ∧
    (zoneSwap s).resetHeld = s.resetHeld ∧ (zoneSwap s).nRate = s.nRate ∧
    (zoneSwap s).dRate = s.dRate ∧ (zoneSwap s).mem = s.mem ∧ (zoneSwap s).wdc = s.wdc ∧
    (zoneSwap s).spu = s.spu ∧ (zoneSwap s).dlc = s.dlc ∧ (zoneSwap s).rse = s.rse ∧
    (zoneSwap s).dkc = s.dkc ∧ (zoneSwap s).tbs = s.tbs ∧ (zoneSwap s).nli = s.nli ∧
    (zoneSwap s).mrh = s.mrh ∧ (zoneSwap s).lbu = s.lbu := by
  simp [zoneSwap]

@[simp] theorem handBank_frame (behind : Bool) (before : PerSix NodeKind) (powerBefore : Option Node) (s : State) :
    (handBank behind before powerBefore s).pending = s.pending ∧
    (handBank behind before powerBefore s).freeCount = s.freeCount ∧
    (handBank behind before powerBefore s).resetHeld = s.resetHeld ∧
    (handBank behind before powerBefore s).nRate = s.nRate ∧
    (handBank behind before powerBefore s).dRate = s.dRate ∧
    (handBank behind before powerBefore s).mem = s.mem ∧ (handBank behind before powerBefore s).tbs = s.tbs ∧
    (handBank behind before powerBefore s).lbu = s.lbu := by
  simp [handBank]

@[simp] theorem takeSwap_frame (behind : Bool) (s : State) :
    (takeSwap behind s).pending = s.pending ∧ (takeSwap behind s).freeCount = s.freeCount ∧
    (takeSwap behind s).resetHeld = s.resetHeld ∧ (takeSwap behind s).nRate = s.nRate ∧
    (takeSwap behind s).dRate = s.dRate ∧ (takeSwap behind s).lbu = s.lbu := by
  simp [takeSwap]

@[simp] theorem takeDueSwap_frame (behind : Bool) (s : State) :
    (takeDueSwap behind s).pending = s.pending ∧ (takeDueSwap behind s).freeCount = s.freeCount ∧
    (takeDueSwap behind s).resetHeld = s.resetHeld ∧ (takeDueSwap behind s).nRate = s.nRate ∧
    (takeDueSwap behind s).dRate = s.dRate ∧ (takeDueSwap behind s).lbu = s.lbu := by
  unfold takeDueSwap; split <;> simp

@[simp] theorem driveReset_frame (s : State) :
    (driveReset s).pending = s.pending ∧ (driveReset s).freeCount = s.freeCount ∧
    (driveReset s).resetHeld = s.resetHeld ∧ (driveReset s).nRate = s.nRate ∧
    (driveReset s).dRate = s.dRate ∧ (driveReset s).lbu = (driveStilled s).lbu := by
  simp [driveReset]

@[simp] theorem dropSwap_frame (s : State) :
    (dropSwap s).pending = s.pending ∧ (dropSwap s).freeCount = s.freeCount ∧
    (dropSwap s).resetHeld = s.resetHeld ∧ (dropSwap s).nRate = s.nRate ∧
    (dropSwap s).dRate = s.dRate ∧ (dropSwap s).mem = s.mem ∧ (dropSwap s).wdc = s.wdc ∧
    (dropSwap s).zcu = s.zcu ∧ (dropSwap s).spu = s.spu ∧ (dropSwap s).mgt = s.mgt ∧
    (dropSwap s).dlc = s.dlc ∧ (dropSwap s).rse = s.rse ∧ (dropSwap s).dkc = s.dkc ∧
    (dropSwap s).mrh = s.mrh ∧ (dropSwap s).lbu = s.lbu := by
  simp [dropSwap]


/-! ### Status -/

@[simp] theorem formTelemetry_frame (s : State) :
    (formTelemetry s).pending = s.pending ∧ (formTelemetry s).freeCount = s.freeCount ∧
    (formTelemetry s).resetHeld = s.resetHeld ∧ (formTelemetry s).nRate = s.nRate ∧
    (formTelemetry s).dRate = s.dRate ∧ (formTelemetry s).mem = s.mem ∧
    (formTelemetry s).wdc = s.wdc ∧ (formTelemetry s).zcu = s.zcu ∧
    (formTelemetry s).spu = s.spu ∧ (formTelemetry s).mgt = s.mgt ∧
    (formTelemetry s).dlc = s.dlc ∧ (formTelemetry s).rse = s.rse ∧
    (formTelemetry s).dkc = s.dkc ∧ (formTelemetry s).tbs = s.tbs ∧
    (formTelemetry s).mrh = s.mrh ∧ (formTelemetry s).lbu = s.lbu := by
  simp [formTelemetry]


/-! ### RequestCommands -/

@[simp] theorem answerData_frame (d : Option (List Byte)) (s : State) :
    (answerData d s).pending = s.pending ∧ (answerData d s).freeCount = s.freeCount ∧
    (answerData d s).resetHeld = s.resetHeld ∧ (answerData d s).nRate = s.nRate ∧
    (answerData d s).dRate = s.dRate ∧ (answerData d s).mem = s.mem ∧
    (answerData d s).wdc = s.wdc ∧ (answerData d s).zcu = s.zcu ∧ (answerData d s).spu = s.spu ∧
    (answerData d s).mgt = s.mgt ∧ (answerData d s).dlc = s.dlc ∧ (answerData d s).rse = s.rse ∧
    (answerData d s).dkc = s.dkc ∧ (answerData d s).tbs = s.tbs ∧
    (answerData d s).lbu = s.lbu := by
  unfold answerData; split <;> simp

@[simp] theorem ackEvents_frame (p : List Byte) (s : State) :
    (ackEvents p s).pending = s.pending ∧ (ackEvents p s).freeCount = s.freeCount ∧
    (ackEvents p s).resetHeld = s.resetHeld ∧ (ackEvents p s).nRate = s.nRate ∧
    (ackEvents p s).dRate = s.dRate ∧ (ackEvents p s).mem = s.mem ∧ (ackEvents p s).wdc = s.wdc ∧
    (ackEvents p s).zcu = s.zcu ∧ (ackEvents p s).spu = s.spu ∧ (ackEvents p s).mgt = s.mgt ∧
    (ackEvents p s).dlc = s.dlc ∧ (ackEvents p s).rse = s.rse ∧ (ackEvents p s).dkc = s.dkc ∧
    (ackEvents p s).tbs = s.tbs ∧ (ackEvents p s).lbu = s.lbu := by
  unfold ackEvents; split <;> simp

@[simp] theorem setReportMask_frame (p : List Byte) (s : State) :
    (setReportMask p s).pending = s.pending ∧ (setReportMask p s).freeCount = s.freeCount ∧
    (setReportMask p s).resetHeld = s.resetHeld ∧ (setReportMask p s).nRate = s.nRate ∧
    (setReportMask p s).dRate = s.dRate ∧ (setReportMask p s).mem = s.mem ∧
    (setReportMask p s).wdc = s.wdc ∧ (setReportMask p s).zcu = s.zcu ∧
    (setReportMask p s).spu = s.spu ∧ (setReportMask p s).mgt = s.mgt ∧
    (setReportMask p s).dlc = s.dlc ∧ (setReportMask p s).rse = s.rse ∧
    (setReportMask p s).dkc = s.dkc ∧ (setReportMask p s).tbs = s.tbs ∧
    (setReportMask p s).lbu = s.lbu := by
  unfold setReportMask; split <;> simp

@[simp] theorem requestReturn_frame (s : State) :
    (requestReturn s).pending = s.pending ∧ (requestReturn s).freeCount = s.freeCount ∧
    (requestReturn s).resetHeld = s.resetHeld ∧ (requestReturn s).nRate = s.nRate ∧
    (requestReturn s).dRate = s.dRate ∧ (requestReturn s).mem = s.mem ∧
    (requestReturn s).wdc = s.wdc ∧ (requestReturn s).spu = s.spu ∧
    (requestReturn s).tbs = s.tbs ∧ (requestReturn s).lbu = s.lbu := by
  simp [requestReturn]

@[simp] theorem requestCancel_frame (s : State) :
    (requestCancel s).pending = s.pending ∧ (requestCancel s).freeCount = s.freeCount ∧
    (requestCancel s).resetHeld = s.resetHeld ∧ (requestCancel s).nRate = s.nRate ∧
    (requestCancel s).dRate = s.dRate ∧ (requestCancel s).mem = s.mem ∧
    (requestCancel s).wdc = s.wdc ∧ (requestCancel s).spu = s.spu ∧
    (requestCancel s).tbs = s.tbs ∧ (requestCancel s).lbu = s.lbu := by
  unfold requestCancel; split <;> simp

@[simp] theorem requestUndock_frame (s : State) :
    (requestUndock s).pending = s.pending ∧ (requestUndock s).freeCount = s.freeCount ∧
    (requestUndock s).resetHeld = s.resetHeld ∧ (requestUndock s).nRate = s.nRate ∧
    (requestUndock s).dRate = s.dRate ∧ (requestUndock s).mem = s.mem ∧
    (requestUndock s).wdc = s.wdc ∧ (requestUndock s).spu = s.spu ∧
    (requestUndock s).tbs = s.tbs ∧ (requestUndock s).lbu = s.lbu := by
  unfold requestUndock; split <;> simp

@[simp] theorem cancelResponse_frame (p : List Byte) (s : State) :
    (cancelResponse p s).pending = s.pending ∧ (cancelResponse p s).resetHeld = s.resetHeld ∧
    (cancelResponse p s).nRate = s.nRate ∧ (cancelResponse p s).dRate = s.dRate ∧
    (cancelResponse p s).mem = s.mem ∧ (cancelResponse p s).wdc = s.wdc ∧
    (cancelResponse p s).spu = s.spu ∧ (cancelResponse p s).tbs = s.tbs ∧
    (cancelResponse p s).lbu = s.lbu := by
  unfold cancelResponse; (repeat' split) <;> simp

@[simp] theorem clearHazard_frame (s : State) :
    (clearHazard s).pending = s.pending ∧ (clearHazard s).resetHeld = s.resetHeld ∧
    (clearHazard s).nRate = s.nRate ∧ (clearHazard s).dRate = s.dRate ∧
    (clearHazard s).mem = s.mem ∧ (clearHazard s).wdc = s.wdc ∧ (clearHazard s).spu = s.spu ∧
    (clearHazard s).tbs = s.tbs ∧ (clearHazard s).lbu = s.lbu := by
  unfold clearHazard; (repeat' split) <;> simp

@[simp] theorem senseRead_frame (p : List Byte) (s : State) :
    (senseRead p s).pending = s.pending ∧ (senseRead p s).freeCount = s.freeCount ∧
    (senseRead p s).resetHeld = s.resetHeld ∧ (senseRead p s).nRate = s.nRate ∧
    (senseRead p s).dRate = s.dRate ∧ (senseRead p s).mem = s.mem ∧ (senseRead p s).wdc = s.wdc ∧
    (senseRead p s).zcu = s.zcu ∧ (senseRead p s).mgt = s.mgt ∧ (senseRead p s).dlc = s.dlc ∧
    (senseRead p s).rse = s.rse ∧ (senseRead p s).dkc = s.dkc ∧ (senseRead p s).tbs = s.tbs ∧
    (senseRead p s).lbu = s.lbu := by
  unfold senseRead; (repeat' split) <;> simp

@[simp] theorem requestTest_frame (p : List Byte) (s : State) :
    (requestTest p s).pending = s.pending ∧ (requestTest p s).resetHeld = s.resetHeld ∧
    (requestTest p s).nRate = s.nRate ∧ (requestTest p s).dRate = s.dRate ∧
    (requestTest p s).mem = s.mem ∧ (requestTest p s).tbs = s.tbs := by
  unfold requestTest; (repeat' split) <;> simp

@[simp] theorem wireReset_frame (s : State) :
    (wireReset s).pending = s.pending ∧ (wireReset s).freeCount = s.freeCount ∧
    (wireReset s).resetHeld = s.resetHeld ∧ (wireReset s).nRate = s.nRate ∧
    (wireReset s).dRate = s.dRate ∧ (wireReset s).mem = s.mem ∧ (wireReset s).tbs = s.tbs ∧
    (wireReset s).mrh = s.mrh := by
  unfold wireReset; split <;> simp

@[simp] theorem channelReset_frame (p : List Byte) (s : State) :
    (channelReset p s).pending = s.pending ∧ (channelReset p s).freeCount = s.freeCount ∧
    (channelReset p s).resetHeld = s.resetHeld ∧ (channelReset p s).nRate = s.nRate ∧
    (channelReset p s).dRate = s.dRate := by
  unfold channelReset; (repeat' split) <;> simp

@[simp] theorem unknownRequest_frame (s : State) :
    (unknownRequest s).pending = s.pending ∧ (unknownRequest s).freeCount = s.freeCount ∧
    (unknownRequest s).resetHeld = s.resetHeld ∧ (unknownRequest s).nRate = s.nRate ∧
    (unknownRequest s).dRate = s.dRate ∧ (unknownRequest s).mem = s.mem ∧
    (unknownRequest s).wdc = s.wdc ∧ (unknownRequest s).zcu = s.zcu ∧
    (unknownRequest s).spu = s.spu ∧ (unknownRequest s).mgt = s.mgt ∧
    (unknownRequest s).dlc = s.dlc ∧ (unknownRequest s).rse = s.rse ∧
    (unknownRequest s).dkc = s.dkc ∧ (unknownRequest s).tbs = s.tbs ∧
    (unknownRequest s).lbu = s.lbu := by
  simp [unknownRequest]

@[simp] theorem passHead_frame (s : State) :
    (passHead s).pending = s.pending ∧ (passHead s).freeCount = s.freeCount ∧
    (passHead s).resetHeld = s.resetHeld ∧ (passHead s).nRate = s.nRate ∧
    (passHead s).dRate = s.dRate ∧ (passHead s).mem = s.mem ∧ (passHead s).wdc = s.wdc ∧
    (passHead s).zcu = s.zcu ∧ (passHead s).spu = s.spu ∧ (passHead s).mgt = s.mgt ∧
    (passHead s).rse = s.rse ∧ (passHead s).dkc = s.dkc ∧ (passHead s).tbs = s.tbs ∧
    (passHead s).lbu = s.lbu := by
  unfold passHead; split <;> simp


/-! ### ResetCommands -/

@[simp] theorem holdReset_frame (s : State) :
    (holdReset s).pending = s.pending ∧ (holdReset s).freeCount = s.freeCount ∧
    (holdReset s).nRate = s.nRate ∧ (holdReset s).dRate = s.dRate ∧ (holdReset s).mem = s.mem ∧
    (holdReset s).wdc = s.wdc ∧ (holdReset s).zcu = s.zcu ∧ (holdReset s).spu = s.spu ∧
    (holdReset s).mgt = s.mgt ∧ (holdReset s).dlc = s.dlc ∧ (holdReset s).dkc = s.dkc ∧
    (holdReset s).tbs = s.tbs ∧ (holdReset s).mrh = s.mrh ∧ (holdReset s).lbu = s.lbu := by
  simp [holdReset]

end Sys2Proof.Machine
end

