-- ==== Sys2Proof/Laws/Event.lean ====
section
/-! SUPPORT. What a command meets: no swap is due any more, and where none was due only the time has passed
(R150; log entries 1 and 79). -/

namespace Sys2Proof.Machine

/-! ### Time and the safe point -/

@[simp] theorem advance_frame (dt : Nat) (s : State) :
    (advance dt s).pending = s.pending ∧ (advance dt s).freeCount = s.freeCount ∧
    (advance dt s).resetHeld = s.resetHeld ∧ (advance dt s).nRate = s.nRate ∧
    (advance dt s).dRate = s.dRate ∧ (advance dt s).mem = s.mem ∧ (advance dt s).mrh = s.mrh ∧
    (advance dt s).spu.levels = s.spu.levels ∧ (advance dt s).tbs.swapPending = s.tbs.swapPending := by
  simp [advance]

@[simp] theorem ctxHeld_advance (dt : Nat) (s : State) : (advance dt s).ctxHeld = s.ctxHeld := by
  have h : ∀ r : Rse,
      ((r.advance dt).ctx1.isSome || (r.advance dt).ctx2.isSome || (r.advance dt).ctx3.isSome) =
        (r.ctx1.isSome || r.ctx2.isSome || r.ctx3.isSome) := by
    intro r
    unfold Rse.advance
    (repeat' split) <;> simp_all
  exact h s.rse

@[simp] theorem swapDue_advance (dt : Nat) (s : State) : (advance dt s).swapDue = s.swapDue := by
  have h := ctxHeld_advance dt s
  unfold State.swapDue State.safePoint
  rw [h]
  rfl

/-! ### The swap that is due -/

@[simp] theorem takeSwap_pending_none (behind : Bool) (s : State) :
    (takeSwap behind s).tbs.swapPending = false := by
  simp [takeSwap, exchange]

/-- Where no swap is due the test of the safe point changes nothing. -/
theorem takeDueSwap_of_not_due {behind : Bool} {s : State} (h : s.swapDue = false) :
    takeDueSwap behind s = s := by
  simp [takeDueSwap, h]

/-- Where a swap is due it is taken. -/
theorem takeDueSwap_of_due {behind : Bool} {s : State} (h : s.swapDue = true) :
    takeDueSwap behind s = takeSwap behind s := by
  simp [takeDueSwap, h]

@[simp] theorem swapDue_takeDueSwap (behind : Bool) (s : State) :
    (takeDueSwap behind s).swapDue = false := by
  cases h : s.swapDue
  · rw [takeDueSwap_of_not_due h, h]
  · rw [takeDueSwap_of_due h]; simp [State.swapDue]

/-! ### What a command meets -/

/-- Where no swap is due a command meets the part with only the time passed. -/
theorem arrive_of_not_due {dt : Nat} {s : State} (h : s.swapDue = false) :
    arrive dt s = advance dt s := by
  simp [arrive, takeDueSwap_of_not_due h]

/-- No command meets a swap that is due. -/
@[simp] theorem swapDue_arrive (dt : Nat) (s : State) : (arrive dt s).swapDue = false := by
  simp [arrive]

/-- A command meets a part whose due swap has been taken as it meets the part before. -/
@[simp] theorem arrive_takeDueSwap (dt : Nat) (s : State) :
    arrive dt (takeDueSwap false s) = arrive dt s := by
  simp [arrive, takeDueSwap_of_not_due]

@[simp] theorem arrive_frame (dt : Nat) (s : State) :
    (arrive dt s).pending = s.pending ∧ (arrive dt s).freeCount = s.freeCount ∧
    (arrive dt s).resetHeld = s.resetHeld ∧ (arrive dt s).nRate = s.nRate ∧
    (arrive dt s).dRate = s.dRate := by
  simp [arrive]

/-- A command to a part that RESET_N does not hold takes it, as it meets it, through its event. -/
theorem onEvent_of_running {dt : Nat} {f : State → State} {s : State} (h : s.resetHeld = false) :
    onEvent dt f s = .next (f (arrive dt s)) := by
  simp [onEvent, h]

end Sys2Proof.Machine
end

