-- ==== Sys2Proof/Laws/Memory.lean ====
section
/-! SUPPORT. What a write of the memory changes, and that every memory operation keeps the canonical
form (log entry 6). -/

namespace Sys2Proof.Machine

/-! ### Reading after a write -/

theorem Memory.read_erase (m : List Host.Cell) (a c : Nat) :
    Memory.read (Memory.erase m a) c = if c = a then resetByte c else Memory.read m c := by
  induction m with
  | nil => simp only [Memory.erase, Memory.read, ite_self]
  | cons e rest ih =>
    obtain ⟨k, b⟩ := e
    simp only [Memory.erase]
    split
    · next hk =>
      subst hk
      rw [ih]
      split
      · rfl
      · next hc => rw [Memory.read, if_neg hc]
    · next hk =>
      simp only [Memory.read, ih]
      split
      · next hc => rw [if_neg (fun h => hk (hc ▸ h))]
      · rfl

theorem Memory.read_insert (m : List Host.Cell) (a c : Nat) (v : Byte) :
    Memory.read (Memory.insert m a v) c = if c = a then v else Memory.read m c := by
  induction m with
  | nil => simp only [Memory.insert, Memory.read]
  | cons e rest ih =>
    obtain ⟨k, b⟩ := e
    simp only [Memory.insert]
    split
    · simp only [Memory.read]
    · split
      · next hk => subst hk; simp only [Memory.read]; split <;> rfl
      · next hk =>
        simp only [Memory.read, ih]
        split
        · next hc => rw [if_neg (fun h => hk (hc ▸ h))]
        · rfl

/-- A byte after a write: the written one at its address, and every other byte as before. -/
theorem Memory.read_write (m : List Host.Cell) (a c : Nat) (v : Byte) :
    Memory.read (Memory.write m a v) c = if c = a then v else Memory.read m c := by
  simp only [Memory.write]
  split
  · next hv =>
    rw [Memory.read_erase]
    split
    · next hc => rw [hv, hc]
    · rfl
  · exact Memory.read_insert m a c v

/-! ### The canonical form -/

/-- A canonical list has no entry below its bound. -/
theorem Memory.read_of_below {lo a : Nat} {m : List Host.Cell} (h : Memory.wfFrom lo m = true)
    (ha : a < lo) : Memory.read m a = resetByte a := by
  induction m generalizing lo with
  | nil => rfl
  | cons e rest ih =>
    obtain ⟨k, b⟩ := e
    simp only [Memory.wfFrom, Bool.and_eq_true, decide_eq_true_eq] at h
    rw [Memory.read, if_neg (by omega)]
    exact ih h.2 (by omega)

/-- A canonical list is canonical above every lower bound. -/
theorem Memory.wfFrom_mono {lo lo' : Nat} {m : List Host.Cell} (h : Memory.wfFrom lo m = true)
    (hl : lo' ≤ lo) : Memory.wfFrom lo' m = true := by
  cases m with
  | nil => rfl
  | cons e rest =>
    obtain ⟨k, b⟩ := e
    simp only [Memory.wfFrom, Bool.and_eq_true, decide_eq_true_eq] at h ⊢
    exact ⟨⟨⟨by omega, h.1.1.2⟩, h.1.2⟩, h.2⟩

theorem Memory.wfFrom_erase {lo : Nat} {m : List Host.Cell} (h : Memory.wfFrom lo m = true)
    (a : Nat) : Memory.wfFrom lo (Memory.erase m a) = true := by
  induction m generalizing lo with
  | nil => rfl
  | cons e rest ih =>
    obtain ⟨k, b⟩ := e
    simp only [Memory.wfFrom, Bool.and_eq_true, decide_eq_true_eq] at h
    simp only [Memory.erase]
    split
    · exact Memory.wfFrom_mono (ih h.2) (by omega)
    · simp only [Memory.wfFrom, Bool.and_eq_true, decide_eq_true_eq]
      exact ⟨h.1, ih h.2⟩

theorem Memory.wfFrom_insert {lo a : Nat} {v : Byte} {m : List Host.Cell}
    (h : Memory.wfFrom lo m = true) (hl : lo ≤ a) (ha : a < 2 * bankSize) (hv : v ≠ resetByte a) :
    Memory.wfFrom lo (Memory.insert m a v) = true := by
  induction m generalizing lo with
  | nil =>
    simp only [Memory.insert, Memory.wfFrom, Bool.and_eq_true, decide_eq_true_eq]
    exact ⟨⟨⟨hl, ha⟩, hv⟩, trivial⟩
  | cons e rest ih =>
    obtain ⟨k, b⟩ := e
    simp only [Memory.wfFrom, Bool.and_eq_true, decide_eq_true_eq] at h
    simp only [Memory.insert]
    split
    · next hk =>
      simp only [Memory.wfFrom, Bool.and_eq_true, decide_eq_true_eq]
      exact ⟨⟨⟨hl, ha⟩, hv⟩, ⟨⟨by omega, h.1.1.2⟩, h.1.2⟩, h.2⟩
    · split
      · next hk =>
        subst hk
        simp only [Memory.wfFrom, Bool.and_eq_true, decide_eq_true_eq]
        exact ⟨⟨⟨hl, ha⟩, hv⟩, h.2⟩
      · next h1 h2 =>
        simp only [Memory.wfFrom, Bool.and_eq_true, decide_eq_true_eq]
        exact ⟨h.1, ih h.2 (by omega)⟩

/-- A write keeps the canonical form. -/
theorem Memory.wf_write {m : List Host.Cell} {a : Nat} (v : Byte) (h : Memory.wf m = true)
    (ha : a < 2 * bankSize) : Memory.wf (Memory.write m a v) = true := by
  simp only [Memory.write]
  split
  · exact Memory.wfFrom_erase h a
  · next hv => exact Memory.wfFrom_insert h (Nat.zero_le a) ha hv

/-- A write of bytes at rising addresses keeps the canonical form. -/
theorem Memory.wf_writeBytes {m : List Host.Cell} {a : Nat} (l : List Byte)
    (h : Memory.wf m = true) (ha : a + l.length ≤ 2 * bankSize) :
    Memory.wf (Memory.writeBytes m a l) = true := by
  induction l generalizing m a with
  | nil => exact h
  | cons b rest ih =>
    simp only [List.length_cons] at ha
    exact ih (Memory.wf_write b h (by omega)) (by omega)

/-- A byte after a write of bytes: the byte written where the address is among them, and every other
byte as before. -/
theorem Memory.read_writeBytes (m : List Host.Cell) (a : Nat) (l : List Byte) (c : Nat) :
    Memory.read (Memory.writeBytes m a l) c =
      if a ≤ c ∧ c < a + l.length then l.getD (c - a) 0#8 else Memory.read m c := by
  induction l generalizing m a with
  | nil => simp only [Memory.writeBytes, List.length_nil]; rw [if_neg (by omega)]
  | cons b rest ih =>
    rw [Memory.writeBytes, ih, Memory.read_write]
    simp only [List.length_cons]
    by_cases h1 : a + 1 ≤ c ∧ c < a + 1 + rest.length
    · rw [if_pos h1, if_pos (by omega), show c - a = (c - (a + 1)) + 1 by omega, List.getD_cons_succ]
    · rw [if_neg h1]
      by_cases h2 : c = a
      · subst h2; simp
      · rw [if_neg h2, if_neg (by omega)]

/-- Equal banks are equal data: two canonical memories that read alike are the same list. -/
theorem Memory.eq_of_read {m n : List Host.Cell} (hm : Memory.wf m = true) (hn : Memory.wf n = true)
    (h : ∀ a, Memory.read m a = Memory.read n a) : m = n := by
  suffices key : ∀ (m n : List Host.Cell) (lo : Nat), Memory.wfFrom lo m = true →
      Memory.wfFrom lo n = true → (∀ a, Memory.read m a = Memory.read n a) → m = n from
    key m n 0 hm hn h
  intro m
  induction m with
  | nil =>
    intro n lo _ h2 h3
    cases n with
    | nil => rfl
    | cons e rest =>
      obtain ⟨k, b⟩ := e
      simp only [Memory.wfFrom, Bool.and_eq_true, decide_eq_true_eq] at h2
      have := h3 k
      simp only [Memory.read, if_true] at this
      exact absurd this.symm h2.1.2
  | cons e rest ih =>
    obtain ⟨k, b⟩ := e
    intro n lo h1 h2 h3
    simp only [Memory.wfFrom, Bool.and_eq_true, decide_eq_true_eq] at h1
    cases n with
    | nil =>
      have := h3 k
      simp only [Memory.read, if_true] at this
      exact absurd this h1.1.2
    | cons f rest' =>
      obtain ⟨k', b'⟩ := f
      simp only [Memory.wfFrom, Bool.and_eq_true, decide_eq_true_eq] at h2
      have hk : k = k' := by
        rcases Nat.lt_trichotomy k k' with hc | hc | hc
        · have := h3 k
          rw [Memory.read, if_pos rfl, Memory.read, if_neg (by omega),
            Memory.read_of_below h2.2 (by omega)] at this
          exact absurd this h1.1.2
        · exact hc
        · have := h3 k'
          rw [Memory.read, if_neg (by omega), Memory.read_of_below h1.2 (by omega), Memory.read,
            if_pos rfl] at this
          exact absurd this.symm h2.1.2
      subst hk
      have hb : b = b' := by simpa only [Memory.read, if_true] using h3 k
      subst hb
      congr 1
      refine ih rest' (k + 1) h1.2 h2.2 fun a => ?_
      by_cases ha : a = k
      · rw [Memory.read_of_below h1.2 (by omega), Memory.read_of_below h2.2 (by omega)]
      · have := h3 a
        rwa [Memory.read, if_neg ha, Memory.read, if_neg ha] at this

/-! ### The places of the tables -/

theorem Table.base_add_size (t : Table) : t.base + t.size ≤ bankSize := by cases t <;> decide

/-- A byte of a table lies within its bank's half of the space. -/
theorem State.tableAddr_lt (s : State) (b : Bank) {t : Table} {off : Nat} (h : off < t.size) :
    s.tableAddr b t off < 2 * bankSize := by
  have h1 := t.base_add_size
  have h2 : s.bankBase b ≤ bankSize := by
    cases b <;> simp only [State.bankBase] <;> split <;> omega
  simp only [State.tableAddr]
  omega

/-- Two bytes of tables have one address only if they are the same byte. -/
theorem State.tableAddr_inj (s : State) {b c : Bank} {t u : Table} {i j : Nat} (hi : i < t.size)
    (hj : j < u.size) (h : s.tableAddr b t i = s.tableAddr c u j) : b = c ∧ t = u ∧ i = j := by
  have h1 := t.base_add_size
  have h2 := u.base_add_size
  have hb : b = c := by
    by_contra hne
    cases b <;> cases c <;> first | exact hne rfl | skip
    all_goals
      simp only [State.tableAddr, State.bankBase] at h
      split at h <;> omega
  subst hb
  simp only [State.tableAddr] at h
  refine ⟨rfl, ?_⟩
  cases t <;> cases u <;> simp only [Table.base, Table.size, reduceCtorEq, false_and, true_and] at * <;>
    omega

end Sys2Proof.Machine
end

