-- ==== Sys2Proof/Laws/Store.lean ====
section
/-! SUPPORT. What the Table Store's operations on memory may change: a validation writes within its
table, and every one of them keeps the canonical form of the memory (log entry 6). -/

namespace Sys2Proof.Machine

/-- From one check to another: the table's address stays, no byte outside its `size` bytes changes, and
the canonical form is kept. -/
def Check.Within (size : Nat) (c d : Check) : Prop :=
  d.base = c.base ∧
    (∀ a, a < c.base ∨ c.base + size ≤ a → Memory.read d.mem a = Memory.read c.mem a) ∧
    (c.base + size ≤ 2 * bankSize → Memory.wf c.mem = true → Memory.wf d.mem = true)

theorem Check.Within.refl (n : Nat) (c : Check) : Check.Within n c c :=
  ⟨rfl, fun _ _ => rfl, fun _ h => h⟩

theorem Check.Within.trans {n : Nat} {c d e : Check} (h : Check.Within n c d)
    (k : Check.Within n d e) : Check.Within n c e :=
  ⟨k.1.trans h.1, fun a ha => (k.2.1 a (by rw [h.1]; exact ha)).trans (h.2.1 a ha),
    fun hs hw => k.2.2 (by rw [h.1]; exact hs) (h.2.2 hs hw)⟩

theorem Check.Within.fix8 {n off : Nat} {c d : Check} (v : Nat) (h : Check.Within n c d)
    (ho : off < n) : Check.Within n c (d.fix8 off v) := by
  refine h.trans ?_
  unfold Check.fix8
  split
  · exact Check.Within.refl n d
  · refine ⟨rfl, fun a ha => ?_, fun hs hw => Memory.wf_write _ hw (by omega)⟩
    rw [Memory.read_write, if_neg (by omega)]

theorem Check.Within.fix16 {n off : Nat} {c d : Check} (v k : Nat) (h : Check.Within n c d)
    (ho : off + 1 < n) : Check.Within n c (d.fix16 off v k) := by
  refine h.trans ?_
  unfold Check.fix16
  split
  · exact Check.Within.refl n d
  · have hl : (be16 v).length = 2 := rfl
    refine ⟨rfl, fun a ha => ?_, fun hs hw => Memory.wf_writeBytes _ hw (by omega)⟩
    rw [Memory.read_writeBytes, if_neg (by omega)]

theorem Check.Within.clamp8 {n off : Nat} {c d : Check} (lo hi : Nat) (h : Check.Within n c d)
    (ho : off < n) : Check.Within n c (d.clamp8 off lo hi) := h.fix8 _ ho

theorem Check.Within.clamp16 {n off : Nat} {c d : Check} (lo hi : Nat) (h : Check.Within n c d)
    (ho : off + 1 < n) : Check.Within n c (d.clamp16 off lo hi) := h.fix16 _ _ ho

theorem Check.Within.clampS16 {n off : Nat} {c d : Check} (lo hi : Int) (h : Check.Within n c d)
    (ho : off + 1 < n) : Check.Within n c (d.clampS16 off lo hi) := h.fix16 _ _ ho

theorem Check.Within.enum {n off : Nat} {c d : Check} (last repl : Nat) (h : Check.Within n c d)
    (ho : off < n) : Check.Within n c (d.enum off last repl) := h.fix8 _ ho

/-- A fold of validations over indices below `m` writes within the table where each of them does. -/
theorem Check.Within.range {n m : Nat} {c d : Check} {f : Check → Nat → Check}
    (hf : ∀ i < m, ∀ e, Check.Within n e (f e i)) (h : Check.Within n c d) :
    Check.Within n c ((List.range m).foldl f d) := by
  suffices key : ∀ (l : List Nat) (d : Check), (∀ i ∈ l, i < m) → Check.Within n c d →
      Check.Within n c (l.foldl f d) from
    key _ d (fun i hi => List.mem_range.1 hi) h
  intro l
  induction l with
  | nil => exact fun d _ h => h
  | cons i rest ih =>
    exact fun d hl h =>
      ih (f d i) (fun j hj => hl j (List.mem_cons_of_mem i hj))
        (h.trans (hf i (hl i List.mem_cons_self) d))

theorem checkScalars_within (c : Check) : Check.Within 128 c (checkScalars c) := by
  unfold checkScalars
  dsimp only
  repeat' first
    | with_reducible exact Check.Within.refl _ _
    | with_reducible apply Check.Within.fix16
    | with_reducible apply Check.Within.fix8
    | with_reducible apply Check.Within.clamp16
    | with_reducible apply Check.Within.clamp8
    | with_reducible apply Check.Within.enum
    | decide

theorem checkPin_within {p : Nat} (hp : p < 8) (c : Check) : Check.Within 128 c (checkPin c p) := by
  unfold checkPin Check.pinParam
  dsimp only
  split
  all_goals repeat' first
    | with_reducible exact Check.Within.refl _ _
    | with_reducible apply Check.Within.clamp16
    | with_reducible apply Check.Within.enum
    | with_reducible apply Check.Within.fix8
    | omega

theorem checkNode_within {a : Nat} (ha : a < 6) (c : Check) :
    Check.Within 128 c (checkNode c a) :=
  (Check.Within.refl 128 c).fix8 _ (by omega)

theorem checkGeneral_within (c : Check) : Check.Within 128 c (checkGeneral c) :=
  Check.Within.range (fun _ h => checkNode_within h)
    (Check.Within.range (fun _ h => checkPin_within h) (checkScalars_within c))

theorem checkCodes_within (c : Check) : Check.Within 128 c (checkCodes c) := by
  refine Check.Within.range (fun i h e => ?_) (Check.Within.refl 128 c)
  exact ((Check.Within.refl 128 e).fix16 _ _ (by omega)).fix16 _ _ (by omega)

theorem checkProfiles_within (c : Check) : Check.Within 64 c (checkProfiles c) :=
  Check.Within.range (fun _ h e => (Check.Within.refl 64 e).clamp8 0 32 h) (Check.Within.refl 64 c)

theorem checkZone_within {i : Nat} (hi : i < 4) (c : Check) :
    Check.Within 128 c (checkZone c i) := by
  unfold checkZone checkPerimeter checkGuide checkStation
  dsimp only
  split
  all_goals repeat' first
    | with_reducible exact Check.Within.refl _ _
    | with_reducible apply Check.Within.fix8
    | with_reducible apply Check.Within.clamp16
    | with_reducible apply Check.Within.clamp8
    | with_reducible apply Check.Within.enum
    | omega

theorem checkZones_within (c : Check) : Check.Within 128 c (checkZones c) :=
  Check.Within.range (fun _ h => checkZone_within h) (Check.Within.refl 128 c)

theorem checkDerate_within (c : Check) : Check.Within 16 c (checkDerate c) := by
  refine Check.Within.range (fun i h e => ?_) (Check.Within.refl 16 c)
  exact ((Check.Within.refl 16 e).clamp8 _ _ (by omega)).enum _ _ (by omega)

theorem checkStep_within {n o : Nat} (ho : o + 7 < n) (c : Check) :
    Check.Within n c (checkStep o c) := by
  unfold checkStep
  dsimp only
  split
  all_goals repeat' first
    | with_reducible exact Check.Within.refl _ _
    | with_reducible apply Check.Within.clamp16
    | with_reducible apply Check.Within.clampS16
    | with_reducible apply Check.Within.enum
    | omega

theorem checkSteps_within {n o : Nat} (k : Nat) (ho : o + 4 + 8 * k ≤ n) (c : Check) :
    Check.Within n c (checkSteps o k c) := by
  induction k with
  | zero => exact Check.Within.refl n c
  | succ j ih => exact (ih (by omega)).trans (checkStep_within (by omega) _)

/-- What a validated sequence's step count cannot exceed (R107). -/
theorem Check.get8_clamp8_le (c : Check) (off : Nat) {lo hi : Nat} (h1 : lo ≤ hi) :
    (c.clamp8 off lo hi).get8 off ≤ hi := by
  have hv : clampN lo hi (c.get8 off) ≤ hi := by unfold clampN; omega
  unfold Check.clamp8 Check.fix8
  split
  · next h => rw [h]; exact hv
  · simp only [Check.get8, Memory.read_write, if_true]
    simp only [u8, BitVec.toNat_ofNat] at *
    exact (Nat.mod_le _ _).trans hv

theorem Check.get8_clamp8_ne (c : Check) {off k : Nat} (lo hi : Nat) (h : k ≠ off) :
    (c.clamp8 off lo hi).get8 k = c.get8 k := by
  unfold Check.clamp8 Check.fix8
  split
  · rfl
  · simp only [Check.get8, Memory.read_write]
    rw [if_neg (by omega)]

theorem checkSequence_within {q : Nat} (hq : q < 16) (c : Check) :
    Check.Within 1120 c (checkSequence c q) := by
  unfold checkSequence
  dsimp only
  have hn : (((c.clamp8 (32 + 68 * q) 1 8).clamp8 (32 + 68 * q + 1) 0 7).clamp8
      (32 + 68 * q + 2) 0 7).get8 (32 + 68 * q) ≤ 8 := by
    rw [Check.get8_clamp8_ne _ _ _ (by omega), Check.get8_clamp8_ne _ _ _ (by omega)]
    exact Check.get8_clamp8_le c _ (by decide)
  refine Check.Within.fix8 _ (Check.Within.trans ?_ (checkSteps_within _ (by omega) _)) (by omega)
  exact (((Check.Within.refl 1120 c).clamp8 _ _ (by omega)).clamp8 _ _ (by omega)).clamp8 _ _
    (by omega)

theorem checkResponses_within (c : Check) : Check.Within 1120 c (checkResponses c) := by
  refine Check.Within.range (fun _ h => checkSequence_within h)
    (Check.Within.range (fun i h e => ?_) (Check.Within.refl 1120 c))
  exact ((Check.Within.refl 1120 e).clamp8 _ _ (by omega)).clamp8 _ _ (by omega)

/-- A table's validation writes within the table and keeps the canonical form (R147). -/
theorem checkTable_within (t : Table) (c : Check) : Check.Within t.size c (checkTable t c) := by
  cases t
  · exact checkGeneral_within c
  · exact checkCodes_within c
  · exact checkProfiles_within c
  · exact checkZones_within c
  · exact checkDerate_within c
  · exact checkResponses_within c

/-! ### The memory after the store's operations -/

theorem completeLoad_wf (t : Table) (s : State) (h : Memory.wf s.mem = true) :
    Memory.wf (checkTable t ⟨s.mem, s.tableAddr .staged t 0, 0⟩).mem = true := by
  refine (checkTable_within t _).2.2 ?_ h
  have h1 := t.base_add_size
  have h2 : s.bankBase .staged ≤ bankSize := by
    simp only [State.bankBase]
    split <;> omega
  simp only [State.tableAddr]
  omega

/-- A slot's byte is written within the ZONES table of the ACTIVE bank. -/
theorem writeSlot_wf {i : Slot} {off : Nat} (v : Byte) (s : State) (ho : off < 32)
    (h : Memory.wf s.mem = true) : Memory.wf (writeSlot i off v s).mem = true := by
  have hi := i.isLt
  exact Memory.wf_write v h (State.tableAddr_lt s .active (show 32 * i.val + off < 128 by omega))

theorem restoreSlot_wf (s : State) (i : Slot) (h : Memory.wf s.mem = true) :
    Memory.wf (restoreSlot s i).mem = true :=
  writeSlot_wf _ _ (by decide) (writeSlot_wf _ _ (by decide) h)

theorem validateSlot_wf (s : State) (i : Slot) (h : Memory.wf s.mem = true) :
    Memory.wf (validateSlot s i).mem = true := by
  unfold validateSlot
  split
  · exact writeSlot_wf _ _ (by decide) h
  · exact h

theorem pruneSlot_wf (s : State) (i : Slot) (h : Memory.wf s.mem = true) :
    Memory.wf (pruneSlot s i).mem = true := by
  unfold pruneSlot
  split
  · exact writeSlot_wf _ _ (by decide) h
  · exact h

theorem foldl_wf (f : State → Slot → State)
    (hf : ∀ s i, Memory.wf s.mem = true → Memory.wf (f s i).mem = true) (l : List Slot) :
    ∀ s : State, Memory.wf s.mem = true → Memory.wf (l.foldl f s).mem = true := by
  induction l with
  | nil => exact fun _ h => h
  | cons i rest ih => exact fun s h => ih (f s i) (hf s i h)

/-- The swap's writes keep the canonical form (R151). -/
theorem exchange_wf (s : State) (h : Memory.wf s.mem = true) :
    Memory.wf (exchange s).mem = true := by
  have : (exchange s).mem = (slots.foldl restoreSlot s).mem := rfl
  rw [this]
  exact foldl_wf restoreSlot restoreSlot_wf slots s h

theorem crossValidate_wf (s : State) (h : Memory.wf s.mem = true) :
    Memory.wf (crossValidate s).mem = true := by
  unfold crossValidate
  exact foldl_wf pruneSlot pruneSlot_wf slots _ (foldl_wf validateSlot validateSlot_wf slots s h)

/-- The memory right after reset is canonical (R154). -/
theorem State.reset_wf : Memory.wf State.reset.mem = true := rfl

end Sys2Proof.Machine
end

