-- ==== Sys2Proof/Laws/DriveReset.lean ====
section
/-! SUPPORT. The DRIVE channel reset (R77, R104, R154): after its zeros posted-zero holds, a pending swap is taken
exactly where the rest of the safe point holds, and the memory keeps its canonical form. -/

namespace Sys2Proof.Machine

/-! ### The zeros -/

/-- One zero post of the reset, as `resetZeroPosts` makes it. -/
def stillOne (s : State) (n : Node) : State :=
  match s.zeroAt n with
  | some v => onMgt (fun m => { m with posted := m.posted.set n 0 }) (postSet n v s.mgt.source.origin s)
  | none => s

theorem resetZeroPosts_eq (s : State) : resetZeroPosts s = nodes.foldl stillOne s := rfl

@[simp] theorem stillOne_frame (s : State) (n : Node) :
    (stillOne s n).mem = s.mem ∧ (stillOne s n).tbs = s.tbs := by
  unfold stillOne; split <;> simp

@[simp] theorem nodeKind_stillOne (s : State) (n m : Node) : (stillOne s n).nodeKind m = s.nodeKind m := by
  simp [State.nodeKind, State.gen8, State.tableByte, State.tableAddr, State.bankBase]

/-- A wheel or blade address, whose last posted value the posted-zero indication asks about (R78). -/
def State.drives (s : State) (n : Node) : Bool := (s.nodeKind n).isWheel || s.nodeKind n == .blade

/-- A zero post makes 0 the last posted value of its address and keeps the others. -/
theorem posted_stillOne (s : State) (n m : Node) :
    (stillOne s n).mgt.posted.get m =
      if s.drives n = true ∧ m = n then 0 else s.mgt.posted.get m := by
  unfold stillOne State.zeroAt State.drives
  cases h : s.nodeKind n <;> simp [NodeKind.isWheel, onMgt, PerSix.get_set_ite]

/-- After the zero posts of a list of addresses the last posted value of each wheel and blade address of it is
0. -/
theorem posted_foldl_stillOne (l : List Node) : ∀ (s : State) (m : Node), s.drives m = true →
    m ∈ l ∨ s.mgt.posted.get m = 0 → (l.foldl stillOne s).mgt.posted.get m = 0 := by
  induction l with
  | nil => intro s m _ h; simpa using h
  | cons n rest ih =>
    intro s m hm h
    have hd : (stillOne s n).drives m = true := by simpa [State.drives] using hm
    refine ih (stillOne s n) m hd ?_
    rw [posted_stillOne]
    by_cases e : m = n
    · subst e; simp [hm]
    · rcases h with h | h
      · exact Or.inl ((List.mem_cons.mp h).resolve_left e)
      · simp [e, h]

@[simp] theorem nodeKind_resetZeroPosts (s : State) (n : Node) :
    (resetZeroPosts s).nodeKind n = s.nodeKind n := by
  simp [State.nodeKind, State.gen8, State.tableByte, State.tableAddr, State.bankBase]

/-- The posted-zero indication holds once zeros are posted to every wheel and blade node (R78). -/
@[simp] theorem postedZero_resetZeroPosts (s : State) : (resetZeroPosts s).postedZero = true := by
  unfold State.postedZero
  rw [List.all_eq_true]
  intro n hn
  rw [nodeKind_resetZeroPosts]
  cases h : s.drives n
  · have h' : ((s.nodeKind n).isWheel || s.nodeKind n == .blade) = false := h
    simp only [h', Bool.not_false, Bool.true_or]
  · have h' := posted_foldl_stillOne nodes s n h (Or.inl hn)
    rw [← resetZeroPosts_eq] at h'
    simp [h']

/-- It holds after the zeros of a DRIVE channel reset (R77). -/
@[simp] theorem postedZero_driveStilled (s : State) : (driveStilled s).postedZero = true :=
  postedZero_resetZeroPosts _

/-! ### The swap -/

/-- The test of the safe point that the zeros bring: a pending swap is due exactly where no context is held, the
dock state is a safe one, and no test runs but the D-link echo that the reset ends (R150, R154, R170). -/
theorem swapDue_driveStilled (s : State) :
    (driveStilled s).swapDue =
      (s.tbs.swapPending && !s.ctxHeld && s.dkc.dock.safe && (!s.testRunning || s.dEchoRunning)) := by
  have ht : (driveStilled s).testRunning = (s.testRunning && !s.dEchoRunning) := by
    unfold driveStilled abortDEcho State.testRunning
    cases h : s.dEchoRunning <;> simp [testOver] <;> split <;> simp
  have hc : (driveStilled s).ctxHeld = s.ctxHeld := by
    unfold driveStilled abortDEcho State.ctxHeld
    cases h : s.dEchoRunning <;> simp [testOver] <;> split <;> simp
  have hd : (driveStilled s).dkc.dock = s.dkc.dock := by
    unfold driveStilled abortDEcho
    cases h : s.dEchoRunning <;> simp [testOver, powerSilent] <;> split <;> simp
  unfold State.swapDue State.safePoint
  rw [postedZero_driveStilled, ht, hc, hd]
  simp [Bool.and_assoc]

/-- Where no swap is due after the zeros, the evaluation follows them. -/
theorem driveReset_of_not_due {s : State} (h : (driveStilled s).swapDue = false) :
    driveReset s = arbitrate (evaluateBehind (driveStilled s)) := by
  simp [driveReset, takeDueSwap_of_not_due h]

/-- Where a swap is due after the zeros, it is taken before the evaluation. -/
theorem driveReset_of_due {s : State} (h : (driveStilled s).swapDue = true) :
    driveReset s = arbitrate (evaluateBehind (takeSwap true (driveStilled s))) := by
  simp [driveReset, takeDueSwap_of_due h]

/-! ### The memory -/

/-- A swap keeps the canonical form of the memory (R151). -/
theorem takeDueSwap_wf (behind : Bool) (s : State) (h : Memory.wf s.mem = true) :
    Memory.wf (takeDueSwap behind s).mem = true := by
  unfold takeDueSwap
  split
  · simp only [takeSwap, arbitrate_frame, setFlag_frame, handBank_frame]
    exact crossValidate_wf _ (exchange_wf s h)
  · exact h

/-- A DRIVE channel reset keeps it, with the swap it may bring (R154). -/
theorem driveReset_wf (s : State) (h : Memory.wf s.mem = true) : Memory.wf (driveReset s).mem = true := by
  have h' : Memory.wf (driveStilled s).mem = true := by simpa using h
  simpa [driveReset] using takeDueSwap_wf true _ h'

end Sys2Proof.Machine
end

