-- ==== Sys2Proof/Laws/Nav.lean ====
section
/-! SUPPORT. What the receive framer makes of the bytes of a frame (R156). -/

namespace Sys2Proof.Machine

theorem setFramer_framer (st : FramerState) (b : List Byte) (s : State) :
    (setFramer st b s).nli.framer = ⟨st, b⟩ := rfl

theorem setFramer_setFramer (st st' : FramerState) (b b' : List Byte) (s : State) :
    setFramer st b (setFramer st' b' s) = setFramer st b s := rfl

theorem takeBytes_append (a b : List Byte) (s : State) :
    takeBytes (a ++ b) s = takeBytes b (takeBytes a s) := List.foldl_append

theorem takeBytes_cons (x : Byte) (l : List Byte) (s : State) :
    takeBytes (x :: l) s = takeBytes l (takeByte s x) := rfl

theorem byteAt_append (a b : List Byte) (i : Nat) (h : i < a.length) :
    byteAt (a ++ b) i = byteAt a i := by
  simp [byteAt, List.getD_eq_getElem?_getD, List.getElem?_append_left h]

/-- The start delimiter in HUNT begins a header. -/
theorem takeByte_start (s : State) (h : s.nli.framer.st = .hunt) :
    takeByte s 0x7E#8 = setFramer .header [] s := by
  simp only [takeByte, h, if_true]

/-- Bytes that leave the header incomplete. -/
theorem takeBytes_header (l b : List Byte) (s : State) (h : b.length + l.length < 4) :
    takeBytes l (setFramer .header b s) = setFramer .header (b ++ l) s := by
  induction l generalizing b with
  | nil => simp [takeBytes]
  | cons x t ih =>
    simp only [List.length_cons] at h
    have hl : (b ++ [x]).length = b.length + 1 := by simp
    have hb : ¬ (b ++ [x]).length = 4 := by omega
    have hx : takeByte (setFramer .header b s) x = setFramer .header (b ++ [x]) s := by
      simp only [takeByte, setFramer_framer, hb, if_false, setFramer_setFramer]
    rw [takeBytes_cons, hx, ih _ (by omega), List.append_assoc, List.singleton_append]

/-- Bytes that leave the payload incomplete. -/
theorem takeBytes_payload (l b : List Byte) (s : State) (hb : 0 < b.length)
    (h : b.length + l.length < 4 + byteAt b 0) :
    takeBytes l (setFramer .payload b s) = setFramer .payload (b ++ l) s := by
  induction l generalizing b with
  | nil => simp [takeBytes]
  | cons x t ih =>
    simp only [List.length_cons] at h
    have h0 := byteAt_append b [x] 0 hb
    have hl : (b ++ [x]).length = b.length + 1 := by simp
    have hn : ¬ (b ++ [x]).length = 4 + byteAt (b ++ [x]) 0 := by rw [h0, hl]; omega
    have hx : takeByte (setFramer .payload b s) x = setFramer .payload (b ++ [x]) s := by
      simp only [takeByte, setFramer_framer, hn, if_false, setFramer_setFramer]
    rw [takeBytes_cons, hx, ih _ (by omega) (by rw [h0, hl]; omega), List.append_assoc,
      List.singleton_append]

/-- Bytes that leave the CRC incomplete. -/
theorem takeBytes_check (l b : List Byte) (s : State) (hb : 0 < b.length)
    (h : b.length + l.length < 6 + byteAt b 0) :
    takeBytes l (setFramer .check b s) = setFramer .check (b ++ l) s := by
  induction l generalizing b with
  | nil => simp [takeBytes]
  | cons x t ih =>
    simp only [List.length_cons] at h
    have h0 := byteAt_append b [x] 0 hb
    have hl : (b ++ [x]).length = b.length + 1 := by simp
    have hn : ¬ (b ++ [x]).length = 6 + byteAt (b ++ [x]) 0 := by rw [h0, hl]; omega
    have hx : takeByte (setFramer .check b s) x = setFramer .check (b ++ [x]) s := by
      simp only [takeByte, setFramer_framer, hn, if_false, setFramer_setFramer]
    rw [takeBytes_cons, hx, ih _ (by omega) (by rw [h0, hl]; omega), List.append_assoc,
      List.singleton_append]

/-- The four bytes of a header, its length at most 96. -/
theorem takeBytes_wholeHeader (n a b c : Byte) (s : State) (hn : n.toNat ≤ 96) :
    takeBytes [n, a, b, c] (setFramer .header [] s) =
      setFramer (if n.toNat = 0 then .check else .payload) [n, a, b, c] s := by
  have h3 := takeBytes_header [n, a, b] [] s (show 0 + 3 < 4 by decide)
  rw [show [n, a, b, c] = [n, a, b] ++ [c] from rfl, takeBytes_append, h3]
  have hl : ([] ++ [n, a, b] ++ [c]).length = 4 := rfl
  have h0 : byteAt ([] ++ [n, a, b] ++ [c]) 0 = n.toNat := rfl
  have hk : takeByte (setFramer .header ([] ++ [n, a, b]) s) c =
      headerDone ([] ++ [n, a, b] ++ [c]) (setFramer .header ([] ++ [n, a, b]) s) := rfl
  rw [takeBytes_cons, hk]
  unfold headerDone
  rw [h0, if_neg (by omega)]
  split <;> rfl

/-- The four bytes of a header whose length is above 96. -/
theorem takeBytes_longHeader (n a b c : Byte) (s : State) (hn : 96 < n.toNat) :
    takeBytes [n, a, b, c] (setFramer .header [] s) = linkError .length (setFramer .hunt [] s) := by
  have h3 := takeBytes_header [n, a, b] [] s (show 0 + 3 < 4 by decide)
  rw [show [n, a, b, c] = [n, a, b] ++ [c] from rfl, takeBytes_append, h3]
  have h0 : byteAt ([] ++ [n, a, b] ++ [c]) 0 = n.toNat := rfl
  have hk : takeByte (setFramer .header ([] ++ [n, a, b]) s) c =
      headerDone ([] ++ [n, a, b] ++ [c]) (setFramer .header ([] ++ [n, a, b]) s) := rfl
  rw [takeBytes_cons, hk]
  unfold headerDone
  rw [h0, if_pos hn]
  rfl

/-- The bytes of a payload of the length the header gives. -/
theorem takeBytes_wholePayload (n a b c : Byte) (p : List Byte) (s : State)
    (hp : p.length = n.toNat) :
    takeBytes p (setFramer (if n.toNat = 0 then .check else .payload) [n, a, b, c] s) =
      setFramer .check ([n, a, b, c] ++ p) s := by
  rcases List.eq_nil_or_concat p with rfl | ⟨q, z, rfl⟩
  · rw [if_pos (by simpa using hp.symm)]
    rfl
  · rw [List.concat_eq_append] at hp ⊢
    simp only [List.length_append, List.length_cons, List.length_nil] at hp
    rw [if_neg (by omega), takeBytes_append, takeBytes_payload q [n, a, b, c] s (Nat.succ_pos 3)
      (by show 4 + q.length < 4 + n.toNat; omega)]
    have hl : ([n, a, b, c] ++ q ++ [z]).length = 4 + byteAt ([n, a, b, c] ++ q ++ [z]) 0 := by
      show _ = 4 + n.toNat
      simp only [List.length_append, List.length_cons, List.length_nil]
      omega
    have hz : takeByte (setFramer .payload ([n, a, b, c] ++ q) s) z =
        setFramer .check ([n, a, b, c] ++ q ++ [z]) s := by
      simp only [takeByte, setFramer_framer, hl, if_true, setFramer_setFramer]
    rw [takeBytes_cons, hz, List.append_assoc]
    rfl

/-- The bytes of a whole frame that begins in HUNT: the framer judges its CRC (R156). -/
theorem takeBytes_wholeFrame (n a b c x y : Byte) (p : List Byte) (s : State)
    (hs : s.nli.framer.st = .hunt) (hn : n.toNat ≤ 96) (hp : p.length = n.toNat) :
    takeBytes (0x7E#8 :: ([n, a, b, c] ++ p ++ [x, y])) s =
      frameDone ([n, a, b, c] ++ p ++ [x, y]) s := by
  have h0 : byteAt ([n, a, b, c] ++ p ++ [x, y]) 0 = n.toNat := rfl
  have hc := takeBytes_check [x] ([n, a, b, c] ++ p) s (by simp)
    (by
      change _ < 6 + n.toNat
      simp only [List.length_append, List.length_cons, List.length_nil]
      omega)
  rw [takeBytes_cons, takeByte_start s hs, takeBytes_append, takeBytes_append,
    takeBytes_wholeHeader n a b c s hn, takeBytes_wholePayload n a b c p s hp,
    show [x, y] = [x] ++ [y] from rfl, takeBytes_append, hc]
  have hl : ([n, a, b, c] ++ p ++ [x] ++ [y]).length =
      6 + byteAt ([n, a, b, c] ++ p ++ [x] ++ [y]) 0 := by
    show _ = 6 + n.toNat
    simp only [List.length_append, List.length_cons, List.length_nil]
    omega
  have hy : takeByte (setFramer .check ([n, a, b, c] ++ p ++ [x]) s) y =
      frameDone ([n, a, b, c] ++ p ++ [x] ++ [y]) (setFramer .check ([n, a, b, c] ++ p ++ [x]) s) := by
    simp only [takeByte, setFramer_framer, hl, if_true]
  rw [takeBytes_cons, hy, List.append_assoc]
  rfl

end Sys2Proof.Machine
end

