-- ==== Sys2Proof/Laws/Seen.lean ====
section
/-! SUPPORT. What the Motion Gate and the Dock Controller see of the zone context (Tables 4-1 and 7-2):
which operations leave it as it was, and which set it. -/

namespace Sys2Proof.Machine

/-! ### The gate -/

@[simp] theorem gatePost_seen (n : Node) (v : PostValue) (o : Origin) (s : State) :
    (gatePost n v o s).mgt.zone = s.mgt.zone ∧ (gatePost n v o s).mgt.prox = s.mgt.prox := by
  simp [gatePost, recordPost, onMgt]

@[simp] theorem evaluate_seen (s : State) :
    (evaluate s).mgt.zone = s.mgt.zone ∧ (evaluate s).mgt.prox = s.mgt.prox := by
  unfold evaluate postDue
  split
  · simp [State.evaluated]
  · constructor
    · rw [foldl_keeps postIfDue (fun t => t.mgt.zone)]
      · simp [State.evaluated]
      · intro t n; unfold postIfDue; (repeat' split) <;> simp
    · rw [foldl_keeps postIfDue (fun t => t.mgt.prox)]
      · simp [State.evaluated]
      · intro t n; unfold postIfDue; (repeat' split) <;> simp

@[simp] theorem hazardZeroPosts_seen (s : State) :
    (hazardZeroPosts s).mgt.zone = s.mgt.zone ∧ (hazardZeroPosts s).mgt.prox = s.mgt.prox := by
  unfold hazardZeroPosts
  constructor
  · apply foldl_keeps _ (fun t : State => t.mgt.zone)
    intro t n; (repeat' split) <;> simp
  · apply foldl_keeps _ (fun t : State => t.mgt.prox)
    intro t n; (repeat' split) <;> simp

@[simp] theorem raiseFixed_seen (t : Trig) (d : Option Nat) (s : State) :
    (raiseFixed t d s).mgt.zone = s.mgt.zone ∧ (raiseFixed t d s).mgt.prox = s.mgt.prox ∧
    (raiseFixed t d s).dkc.guide = s.dkc.guide ∧ (raiseFixed t d s).dkc.station = s.dkc.station := by
  unfold raiseFixed
  split <;> simp [hazardEntry, gateHazard, dkcHold, onDkc]

@[simp] theorem tiltTest_seen (s : State) :
    (tiltTest s).mgt.zone = s.mgt.zone ∧ (tiltTest s).mgt.prox = s.mgt.prox ∧
    (tiltTest s).dkc.guide = s.dkc.guide ∧ (tiltTest s).dkc.station = s.dkc.station := by
  unfold tiltTest tiltRaise
  (repeat' split) <;> simp [onSpu]

/-! ### The Dock Controller -/

@[simp] theorem formSteering_seen (s : State) :
    (formSteering s).dkc.guide = s.dkc.guide ∧ (formSteering s).dkc.station = s.dkc.station := by
  unfold formSteering guideLostFall setCmd
  (repeat' split) <;> simp [onDkc]

@[simp] theorem enterContact_seen (o : ContactOrigin) (s : State) :
    (enterContact o s).dkc.guide = s.dkc.guide ∧ (enterContact o s).dkc.station = s.dkc.station := by
  simp [enterContact, onDkc]

@[simp] theorem enterApproach_seen (s : State) :
    (enterApproach s).dkc.guide = s.dkc.guide ∧ (enterApproach s).dkc.station = s.dkc.station := by
  unfold enterApproach; dsimp only; split <;> simp [onDkc]

@[simp] theorem stationTest_seen (s : State) :
    (stationTest s).dkc.guide = s.dkc.guide ∧ (stationTest s).dkc.station = s.dkc.station := by
  unfold stationTest; split <;> simp

@[simp] theorem enterFollow_seen (s : State) :
    (enterFollow s).dkc.guide = s.dkc.guide ∧ (enterFollow s).dkc.station = s.dkc.station := by
  simp [enterFollow, setDock, onDkc]

@[simp] theorem seekTest_seen (s : State) :
    (seekTest s).dkc.guide = s.dkc.guide ∧ (seekTest s).dkc.station = s.dkc.station := by
  unfold seekTest; split <;> simp

@[simp] theorem takeGuide_seen (g : GuideSeen) (s : State) :
    (takeGuide g s).dkc.guide = g ∧ (takeGuide g s).dkc.station = s.dkc.station := by
  unfold takeGuide; dsimp only; split <;> simp [onDkc]

@[simp] theorem takeStation_seen (v : StationSeen) (s : State) :
    (takeStation v s).dkc.guide = s.dkc.guide ∧ (takeStation v s).dkc.station = v := by
  simp [takeStation, onDkc]

@[simp] theorem wireLostTest_seen (s : State) :
    (wireLostTest s).mgt.zone = s.mgt.zone ∧ (wireLostTest s).mgt.prox = s.mgt.prox ∧
    (wireLostTest s).dkc.guide = s.dkc.guide ∧ (wireLostTest s).dkc.station = s.dkc.station := by
  unfold wireLostTest wireLostTaken; split <;> simp [onZcu]

@[simp] theorem dkcEvent_seen (f : State → State) (s : State) :
    (dkcEvent f s).mgt.zone = (f s).mgt.zone ∧ (dkcEvent f s).mgt.prox = (f s).mgt.prox ∧
    (dkcEvent f s).dkc.guide = (f s).dkc.guide ∧ (dkcEvent f s).dkc.station = (f s).dkc.station := by
  unfold dkcEvent; dsimp only; (repeat' split) <;> simp

/-- With no loop LOST the wire-lost condition does not hold (R37). -/
theorem wireLostCond_of_noneLost (s : State) (h : ∀ i, s.zcu.loops.get i ≠ .lost) : s.wireLostCond = false := by
  have hm : ∀ i : Slot, i ∈ slots := by decide
  have : ¬ s.wireLostCond = true := by
    simp only [State.wireLostCond, State.wireLostCondOf, Bool.and_eq_true, List.any_eq_true, List.all_eq_true]
    rintro ⟨⟨i,_,hi⟩,h2⟩
    have := h2 i (hm i)
    simp at hi this
    rcases this with h3 | h3
    · exact h3 hi
    · exact h i h3
  simpa using this

/-- An event at the Dock Controller leaves the zone context where no loop is LOST (R37). -/
theorem dkcEvent_zcu (f : State → State) (s : State) (hf : ∀ t, (f t).zcu = t.zcu) (h : ∀ i, s.zcu.loops.get i ≠ .lost) :
    (dkcEvent f s).zcu = s.zcu := by
  unfold dkcEvent
  have h1 : ∀ t, t.zcu = s.zcu → wireLostTest t = t := by
    intro t ht; have := wireLostCond_of_noneLost t (by rw [ht]; exact h); simp [wireLostTest, this]
  dsimp only
  split
  · split <;> simp [hf]
  · split
    · rw [h1 _ (by simp [hf])]; simp [hf]
    · rw [h1 _ (by simp [hf])]; simp [hf]

end Sys2Proof.Machine
end

