-- ==== Sys2Proof/Laws/Post.lean ====
section
/-! SUPPORT. What stands behind the zeros of a DRIVE channel reset (R77; log entry 45): when it joins the queue,
and which operations of the queue do not know of it. -/

namespace Sys2Proof.Machine

@[simp] theorem replaceIn_length (n : Node) (v : PostValue) (o : Origin) (q : List QEntry) :
    (replaceIn n v o q).length = q.length := by
  simp [replaceIn]

/-- With nothing behind the zeros, nothing joins. -/
theorem joinBehind_of_nil {d : Dlc} (h : d.behind = []) : joinBehind d = d := by
  cases d; simp_all [joinBehind]

/-- What stays behind still waits for a set-point of its node that is in the queue. -/
theorem joinBehind_waits {d : Dlc} {e : QEntry} (h : e ∈ (joinBehind d).behind) :
    (joinBehind d).waits e = true := by
  have h' : d.waits e = true := (List.mem_filter.mp h).2
  simp only [Dlc.waits, joinBehind, List.any_append, Bool.or_eq_true]
  exact Or.inl h'

/-- Nothing is lost and nothing is new: what waits before is what waits after. -/
theorem joinBehind_posts (d : Dlc) (e : QEntry) :
    e ∈ (joinBehind d).queue ++ (joinBehind d).behind ↔ e ∈ d.queue ++ d.behind := by
  simp only [joinBehind, List.mem_append, List.mem_filter]
  cases d.waits e <;> simp

/-- What is left behind the zeros, and what joins, where the queue is `q`. -/
theorem joinBehind_of_queue {d : Dlc} {q : List QEntry} (h : d.queue = q) :
    joinBehind d = { d with
      queue := q ++ d.behind.filter fun e => !q.any (QEntry.matches e.node e.val)
      behind := d.behind.filter fun e => q.any (QEntry.matches e.node e.val) } := by
  subst h; rfl

/-- With no relay command held, what leaves the queue lets the set-points behind it join, and an emptied queue
returns the flush count to 0 (R92). -/
theorem afterLeaving_of_none {d : Dlc} (h : d.relayHeld = none) :
    afterLeaving d = joinBehind { d with flush := if d.queue = [] then 0 else d.flush } := by
  rcases d with ⟨recs, queue, behind, held, flush, tx, read, cnt⟩
  cases h
  cases queue <;> rfl

/-- A held relay command stays held while a RELAY entry is in the queue (R90). -/
theorem afterLeaving_of_relay {d : Dlc} (h : d.queue.any (fun e => e.val.isRelay) = true) :
    afterLeaving d = joinBehind { d with flush := if d.queue = [] then 0 else d.flush } := by
  rcases d with ⟨recs, queue, behind, held, flush, tx, read, cnt⟩
  cases held with
  | none => exact afterLeaving_of_none rfl
  | some p =>
    cases queue with
    | nil => simp at h
    | cons e rest =>
      have hj : ((e :: rest) ++ behind.filter fun x =>
          !(e :: rest).any (QEntry.matches x.node x.val)).any (fun x => x.val.isRelay) = true := by
        simp only [List.any_append, h, Bool.true_or]
      exact if_pos hj

/-- With nothing behind the zeros a set-point is posted as R89 says. -/
theorem postSet_of_nil {n : Node} {v : PostValue} {o : Origin} {s : State} (h : s.dlc.behind = []) :
    postSet n v o s =
      if s.dlc.queue.any (QEntry.matches n v) then
        onDlc (fun d =>
          { d with
            queue := replaceIn n v o d.queue
            cnt := { d.cnt with coalesce := bump d.cnt.coalesce } }) s
      else joinTail ⟨n, v, o, false, false⟩ s := by
  simp [postSet, h]

@[simp] theorem postBehindIfDue_seen (s : State) (n : Node) :
    (postBehindIfDue s n).mgt.zone = s.mgt.zone ∧ (postBehindIfDue s n).mgt.prox = s.mgt.prox := by
  unfold postBehindIfDue
  (repeat' split) <;> simp [recordPost, onMgt]

@[simp] theorem evaluateBehind_seen (s : State) :
    (evaluateBehind s).mgt.zone = s.mgt.zone ∧ (evaluateBehind s).mgt.prox = s.mgt.prox := by
  unfold evaluateBehind
  constructor
  · rw [foldl_keeps postBehindIfDue (fun t => t.mgt.zone)]
    · simp [State.evaluated]
    · intro t n; simp
  · rw [foldl_keeps postBehindIfDue (fun t => t.mgt.prox)]
    · simp [State.evaluated]
    · intro t n; simp

end Sys2Proof.Machine
end

