-- ==== Sys2Proof/Tests/Slice0.lean ====
section
/-! SUPPORT. Tests: the ill-formed operands that the check refuses, the CRC and single steps against
the numbers of the spec, and for each statement with hypotheses a state and operands that meet them,
clause by clause. -/

open Sys2Proof Sys2Proof.Machine

namespace Sys2Proof.Tests

set_option Elab.async false

/-! ### Small states -/

/-- Bytes from numbers. -/
def bytes (l : List Nat) : List Byte := l.map u8

/-- The part after reset with a MGMT_REQ at the head of the management queue. -/
def head (p : List Nat) (s : State) : State :=
  { s with mrh := { s.mrh with queue := [⟨false, 9#8, 3, bytes p⟩] } }

/-- The part with a PASS at the head of the management queue. -/
def pass (p : List Nat) (s : State) : State :=
  { s with mrh := { s.mrh with queue := [⟨true, 9#8, 3, bytes p⟩] } }

def record : NodeRec :=
  ⟨.responsive, none, 0, none, LimitTimer.zero, LimitTimer.zero, LimitTimer.zero⟩

/-- Wheel nodes at addresses 1 and 2, a blade node at 3 and the power node at 4; slot 0 a PERIMETER,
slot 1 a GUIDE, slot 2 a STATION and slot 3 a KEEPOUT; outside limit 1 ms. -/
def field : State :=
  { State.reset with
    mem := [(31, 1#8), (50, 1#8), (51, 2#8), (52, 3#8), (53, 4#8), (320, 1#8), (352, 3#8),
      (384, 4#8), (416, 2#8)]
    dlc := { State.reset.dlc with recs := ⟨some record, some record, some record, some record, none, none⟩ } }

/-- A context of level 1 or 2. -/
def ctx : Ctx :=
  ⟨.bumpFront, some 0, HazardSet.none, some 0, 0, some 0, 1, false, 0, 0, true⟩

/-- A level-3 context, as a hazard entry leaves it. -/
def hazard : Ctx := hazardCtx .lift (some 0)

def burst0 : RingEntry := ⟨.left, 5, List.replicate 32 100, none⟩

def onWdcOf (f : Wdc → Wdc) (s : State) : State := { s with wdc := f s.wdc }

/-- The state after a command. -/
def after (c : Instr) (s : State) : State :=
  match exec c s with
  | .next t => t
  | .fault _ => s
  | .refused _ => s

/-! ### Ill-formed operands are refused (01 section 1.1, R156, 11) -/

theorem test_wf_burst : Instr.wf (.burstArrival 0 0#8 0#8 (List.replicate 65 0#16)) = false ∧
    Instr.wf (.burstArrival 0 0#8 0#8 (List.replicate 64 0#16)) = true := by decide +kernel

theorem test_wf_frame : Instr.wf (.nLinkFrame 0 (bytes [0x7E, 0, 0x10, 1, 1, 0])) = false ∧
    Instr.wf (.nLinkFrame 0 (bytes [0x7F, 0, 0x10, 1, 1, 0, 0])) = false ∧
    Instr.wf (.nLinkFrame 0 (bytes [0x7E, 0, 0x10, 1, 1, 0, 0])) = true := by decide +kernel

theorem test_wf_frame_length :
    Instr.wf (.nLinkFrame 0 (bytes ([0x7E, 97, 0x10, 1, 1] ++ List.replicate 99 0))) = false ∧
    Instr.wf (.nLinkFrame 0 (bytes ([0x7E, 96, 0x10, 1, 1] ++ List.replicate 98 0))) = true := by
  decide +kernel

theorem test_wf_truncation : Instr.wf (.frameTruncation 0 []) = false ∧
    Instr.wf (.frameTruncation 0 (bytes [0x7E, 0, 0x10, 1, 1, 0, 0])) = false ∧
    Instr.wf (.frameTruncation 0 (bytes [0x7E, 97, 0x10, 1, 1])) = false ∧
    Instr.wf (.frameTruncation 0 (bytes [0x7E, 0, 0x10, 1, 1, 0])) = true := by decide +kernel

theorem test_wf_overrun : Instr.wf (.lengthOverrun 0 (bytes [0x7E, 96, 0x10, 1, 1])) = false ∧
    Instr.wf (.lengthOverrun 0 (bytes [0x7E, 97, 0x10, 1])) = false ∧
    Instr.wf (.lengthOverrun 0 (bytes [0x7E, 97, 0x10, 1, 1])) = true := by decide +kernel

theorem test_wf_dLinkFrame : Instr.wf (.dLinkFrame 0 (bytes [1, 2, 0, 0])) = false ∧
    Instr.wf (.dLinkFrame 0 (List.replicate 261 0#8)) = false ∧
    Instr.wf (.dLinkFrame 0 (bytes [1, 2, 0, 0, 0])) = true := by decide +kernel

/-! ### Numbers of the spec -/

/-- The CRC of the nine digits, the check value of the polynomial and start of R156. -/
theorem test_crc : crc16 (bytes [49, 50, 51, 52, 53, 54, 55, 56, 57]) = 0x29B1#16 := by decide +kernel

/-- The generator's first step from all ones shifts in the exclusive-or of stages 14 and 15 (R170). -/
theorem test_generator : genStep (BitVec.allOnes 15) = 0x7FFE#15 := by decide +kernel

/-- Chapter 7's example: (550, 250) at a forward limit of 400 becomes (400, 181). -/
theorem test_scaling : scalePair 400 200 550 250 = (400, 181) := by decide +kernel

/-- Chapter 3's example: a duty of 620 is +216 tenths of a degree, one of 470 is -54 (R56). -/
theorem test_angle : angleOf 620 = 216 ∧ angleOf 470 = -54 := by decide +kernel

/-- The built-in tables lie in the ACTIVE bank at reset and the STAGED bank reads as zeros (R144,
R153). -/
theorem test_defaults : State.reset.codeLength = 32 ∧ State.reset.kMax 7 = 8 ∧
    State.reset.derateSpeed 7 = 100 ∧ State.reset.tableByte .staged .general 0 = 0#8 := by
  decide +kernel

/-- A write of what an address reads as unlisted leaves no entry. -/
theorem test_memory : Memory.write (Memory.write [] 50 1#8) 50 0#8 = [] ∧
    Memory.wf (Memory.write (Memory.write [] 60 1#8) 50 2#8) = true := by decide +kernel

/-! ### Single steps -/

/-- A malformed burst is counted (R2). -/
theorem test_burst_malformed :
    exec (.burstArrival 0 2#8 0#8 []) State.reset =
      .next { State.reset with wdc := { State.reset.wdc with malformed := 1 } } := rfl

/-- ACK_EVENTS with every member clears a set flag and answers with none (R162). -/
theorem test_ackEvents :
    let t := after (.ackEvents 0) (setFlag .dockLost [] (head [3, 7, 255, 255] State.reset))
    t.flag .dockLost = none ∧
      t.nli.answers.map (fun o => o.frame.payload) = [bytes [3, 0, 0, 0, 0]] := by decide +kernel

/-- READ_TABLE of the first two bytes of the GENERAL table (R148). -/
theorem test_readTable :
    (after (.readTable 0) (head [6, 0, 0, 0, 0, 2] State.reset)).nli.sending.map
      (fun o => o.frame.payload) = some (bytes [6, 0, 32, 4]) := by decide +kernel

/-- A lost frame end: LINK_ERROR with TRUNCATED (R156). -/
theorem test_truncation :
    let t := after (.frameTruncation 0 (bytes [0x7E, 4])) State.reset
    t.flag .linkError = some [2#8] ∧ t.nli.framer.st = .hunt := by decide +kernel

/-- A hazard entry posts zeros to the wheels and the blade and asserts the STOP line (R75, R122). -/
theorem test_hazard :
    let t := raiseFixed .lift (some 3) field
    t.stopLine = true ∧ t.dlc.queue.map (fun e => (e.node, e.origin)) =
      [(0, .resp3), (1, .resp3), (2, .resp3)] := by decide +kernel

/-- A command whose age reaches the limit becomes STOP (R65). -/
theorem test_stale :
    (after (.ageTimerExpiry 1)
      { field with mgt := { field.mgt with
          cmd := some ⟨7, .drive, 100, 100, 0⟩, age := ⟨.running, 199999⟩ } }).mgt.cmd =
      some ⟨7, .stop, 100, 100, 0⟩ := by decide +kernel

/-- The POLL of the node at address 1 and the opening of its relay, as they are sent (R85, 11 section
11.2). -/
theorem test_requestFrame :
    (requestFrame 0 .poll).take 3 = bytes [1, 2, 0] ∧
      (requestFrame 3 (.post (.relay true))).take 5 = bytes [4, 1, 2, 0, 1] ∧
      (requestFrame 0 (.post (.wheel (-2)))).take 5 = bytes [1, 1, 2, 255, 254] := by decide +kernel

/-! ### The hypotheses of the statements are met -/

theorem witness_StepCarriesOutTheFront :
    ({ field with pending := [.settleEnd 0] } : State).pending = .settleEnd 0 :: [] ∧
      field.pending = [] := by decide +kernel

theorem witness_HeldPartWaits : (after (.resetNAssert 0) field).resetHeld = true := by decide +kernel

/-- A command of age 199.999 ms, just below the limit. -/
def aged : State :=
  { field with mgt := { field.mgt with cmd := some ⟨7, .drive, 100, 100, 0⟩, age := ⟨.running, 199999⟩ } }

theorem witness_OnlyTimersMoveWithTime :
    let u := arrive 0 field
    field.resetHeld = false ∧ field.mgt.age.st = .stopped ∧
      (aged.mgt.age.st = .running ∧ aged.mgt.age.elapsed ≤ aged.ageLimit) ∧
      (u.wdc.coils.get .left).timer.due u.burstTimeout = false ∧
      u.zcu.outTimer.due u.outsideLimit = false ∧ u.spu.tilt.due u.tiltPersistence = false ∧
      u.spu.settle ≠ some (ms 50) ∧ u.mgt.age.due u.ageLimit = false ∧ u.dlc.tx = none ∧
      (u.tbs.swapPending = false ∧ field.tbs.swapPending = false ∧ u = advance 0 field) ∧
      u.nli.telemT.due = false ∧ u.nli.sending = none ∧
      u.mrh.fullResetDue = false := by decide +kernel

/-- The bounds of the ranges that the reset state is stated over: tables, codes, weights, triggers,
bands and sequences. -/
theorem witness_ResetLeaves :
    (0 < Table.general.size ∧ 1119 < Table.responses.size) ∧
      (State.reset.kMin 0 = 3 ∧ State.reset.kMax 7 = 8) ∧
      (State.reset.weight 0 1 = 32 ∧ State.reset.weight 3 16 = 32) ∧
      (Trig.bladeJam.tabled = true ∧ Trig.lift.tabled = false) ∧
      State.reset.derateSpeed 7 = 100 ∧ State.reset.stepAt 15 0 = .finish := by decide +kernel

theorem witness_ResetNHoldsThePart : field.resetHeld = false := by decide +kernel

theorem witness_FullResetBeginsAgain :
    headIs 17 (arrive 0 (head [17] field)) = true ∧
      (after (.fullReset 0) (head [17] field)).nli.sending =
        some ⟨.headAnswer .fullReset, ⟨3, 1, kindMgmtResp, 9#8, bytes [17, 0]⟩⟩ ∧
      (after (.upstreamFrameSent 0) (after (.fullReset 0) (head [17] field))).mrh.fullResetDue =
        true := by decide +kernel

/-- A wire pattern test on slot 0 and the right coil, with one burst still to place. -/
def pattern : State :=
  { field with
    lbu := { field.lbu with
      kind := .wirePattern, status := .running, params := .wirePattern 0 .right false 100 0 1, left := 1 }
    zcu := { field.zcu with frozen := true } }

/-- The ring with `n` bursts of the left coil. -/
def ringOf (n : Nat) : State :=
  { field with
    wdc := { field.wdc with
      ring := (List.range n).map fun k => { burst0 with seq := k + 5 } } }

theorem witness_DroppedBurstsAreCounted :
    Coil.ofNat? (2#8).toNat = none ∧ Coil.ofNat? (1#8).toNat = some .right ∧
      (arrive 0 pattern).underTest .right = true ∧ (arrive 0 field).underTest .right = false ∧
      (List.replicate 31 0#16).length ≠ (arrive 0 field).codeLength ∧
      (List.replicate 32 0#16).length = (arrive 0 field).codeLength ∧
      (∃ e ∈ (arrive 0 (ringOf 1)).wdc.ring, e.coil = .left ∧ e.seq = (5#8).toNat) ∧
      (¬ ∃ e ∈ (arrive 0 (ringOf 4)).wdc.ring, e.coil = .left ∧ e.seq = (9#8).toNat) ∧
      ((arrive 0 (ringOf 4)).wdc.coils.get .left).expect ≠ some 9 ∧
      4 ≤ (arrive 0 (ringOf 4)).wdc.ring.length := by decide +kernel

theorem witness_AcceptedBurstJoinsTheRing :
    (arrive 0 (ringOf 3)).underTest .left = false ∧
      (List.replicate 32 0#16).length = (arrive 0 (ringOf 3)).codeLength ∧
      ((arrive 0 (ringOf 3)).wdc.coils.get .left).expect ≠ some (255#8).toNat ∧
      (∀ e ∈ (arrive 0 (ringOf 3)).wdc.ring, ¬ (e.coil = .left ∧ e.seq = (255#8).toNat)) ∧
      (arrive 0 (ringOf 3)).wdc.ring.length < 4 ∧
      gapMark (some 0) 255 = some 254 ∧ gapMark (some 255) 1 = some 1 := by decide +kernel

theorem witness_CorrelationStepsTheLanes :
    (State.reset.wdc.inCorr = none ∧ ∀ i, State.reset.enabled i = false) ∧
      ((∃ i, field.enabled i = true) ∧ field.wdc.ring = []) ∧
      ((∃ i, (ringOf 1).enabled i = true) ∧ (ringOf 1).wdc.ring = burst0 :: []) ∧
      (let t := arrive 0 (correlatorTake (ringOf 1))
       t.wdc.inCorr = some burst0 ∧ t.wireTest = none) := by decide +kernel

/-- A lane whose open window has seen `k` periods. -/
def lane (k passes : Nat) : Lane :=
  { Lane.fresh with window := some ⟨k, 3200 * k, 32 * k, passes, 0⟩ }

/-- The lanes of slots 0 and 3 stand one period before K_max: a burst of their coil publishes in both, and in no
lane of another slot (R14, R19). -/
theorem test_publishedBy :
    let s := onWdcOf (fun w => { w with
      lanes := (w.lanes.set 0 (PerCoil.all (lane 7 0))).set 3 (PerCoil.all (lane 7 0)) }) field
    s.publishedBy { burst0 with samples := List.replicate 32 0 } = ⟨.left, [0, 3]⟩ ∧
      (field.publishedBy burst0).slots = [] := by decide +kernel

theorem witness_PeriodValueIsBounded :
    let x : List Int := List.replicate 32 (-2048)
    x.length = State.reset.codeLength ∧ (∀ y ∈ x, -2048 ≤ y ∧ y ≤ 2047) ∧
      State.reset.periodValue 0 x = 2048 := by decide +kernel

/-- Below K_max with a lane as its bounds have it: open at period 2, LOCKED at period 3, and ABSENT
at K_max = 8. -/
theorem witness_LaneStopsByTheCriteria :
    1 ≤ State.reset.kMax 0 ∧ State.reset.kMin 0 ≤ State.reset.kMax 0 ∧
      State.reset.laneLegal 0 (lane 1 1) ∧
      ¬ State.reset.lockStop 0 (State.reset.stepWindow 0 ⟨2, 3200, 32, 1, 0⟩ 100) ∧
      State.reset.lockStop 0 (State.reset.stepWindow 0 ⟨3, 6400, 64, 2, 0⟩ 100) ∧
      ¬ State.reset.lockStop 0 (State.reset.stepWindow 0 ⟨8, 0, 224, 0, 0⟩ 0) ∧
      (State.reset.stepWindow 0 ⟨8, 0, 224, 0, 0⟩ 0).k = State.reset.kMax 0 := by
  refine ⟨by decide +kernel, by decide +kernel, ?_, ?_, ?_, ?_, by decide +kernel⟩
  · intro w h
    cases h
    decide +kernel
  · unfold State.lockStop State.lockQualifies
    decide +kernel
  · unfold State.lockStop State.lockQualifies
    decide +kernel
  · unfold State.lockStop State.lockQualifies
    decide +kernel

theorem witness_SilenceDropsTheCoil :
    let u := arrive 100000 field
    (u.wdc.coils.get .right).timer.st = .running ∧
      u.burstTimeout ≤ (u.wdc.coils.get .right).timer.elapsed := by decide +kernel

/-- Slots 0 and 1 are PERIMETER slots and slot 0 lets the mower pass to slot 1. -/
def twoYards : State :=
  { State.reset with
    mem := [(320, 1#8), (337, 2#8), (352, 1#8)], zcu := { State.reset.zcu with active := some 0 } }

def loopsOf (a b : LoopState) : PerSlot LoopState := ⟨a, b, .disabled, .disabled⟩

theorem witness_ActiveZoneSettles :
    field.zcu.active = none ∧
      (field.settledZone (loopsOf .pending .pending) (loopsOf .inside .pending) = some 0 ∧
        field.zcu.active ≠ some 0) ∧
      twoYards.zcu.active = some 0 ∧
      (∃ j : Slot, (twoYards.slotKind j = .perimeter ∧
        (loopsOf .outside .inside).get j = .inside) ∧ twoYards.passage 0 j = true) ∧
      (loopsOf .straddle .inside).get 0 = .straddle ∧ (loopsOf .lost .inside).get 0 = .lost := by
  decide +kernel

theorem witness_UpdateRaisesTheBoundaryTriggers :
    let prior := loopsOf .inside .lost
    let now := loopsOf .straddle .lost
    (twoYards.zcu.active = some 0 ∧ twoYards.settledZone prior now = some 0 ∧
      prior.get 0 = .inside ∧ now.get 0 ≠ .inside) ∧
      (twoYards.settledZone now prior = some 0 ∧ prior.get 0 = .inside) ∧
      (field.slotKind 3 = .keepout ∧
        (⟨.outside, .disabled, .disabled, .inside⟩ : PerSlot LoopState).get 3 = .inside) := by
  decide +kernel

/-- The zone context that each clause of the settling speaks of. -/
theorem witness_ZoneIsSettled :
    let keep (a b : LoopState) : PerSlot LoopState := ⟨.inside, .disabled, .disabled, if a = b then a else b⟩
    let none4 := loopsOf .pending .pending
    let docked : State := { field with dkc := { field.dkc with dock := .docked } }
    (field.settledZone none4 none4 = none ∧ field.settledZone none4 (loopsOf .inside .pending) = some 0 ∧
        twoYards.settledZone (loopsOf .inside .lost) (loopsOf .outside .lost) = some 0) ∧
      (field.slotKind 0 ≠ .keepout ∧ field.slotKind 3 = .keepout ∧
        (keep .outside .outside).get 3 = .outside ∧ (keep .outside .straddle).get 3 = .straddle ∧
        none4.get 3 ≠ (keep .outside .straddle).get 3) ∧
      ((∃ i, field.slotKind i = .perimeter) ∧
        (∀ i, field.slotKind i = .perimeter → (loopsOf .lost .lost).get i = .lost) ∧
        ¬ (∀ i, field.slotKind i = .perimeter → none4.get i = .lost)) ∧
      (field.dkc.dock ≠ .docked ∧ docked.dkc.dock = .docked) := by decide +kernel

/-- Each counter of an update: a change of the zone, a passage, an exit raised, withheld for a passage slot
and withheld by the station, a keep-out entry, and WIRE_LOST, which a docked mower does not raise; and an
update in which nothing counts. -/
theorem witness_UpdateIsCounted :
    let armed (s : State) (d : DockState) : State := { s with
      zcu := { s.zcu with
        active := some 0, exitArm := true, entryArm := ⟨false, false, false, true⟩ }
      dkc := { s.dkc with dock := d } }
    let at' (station keepout : LoopState) (a : LoopState) : PerSlot LoopState :=
      ⟨a, .disabled, station, keepout⟩
    let clear := at' .outside .outside
    (armed twoYards .undocked).zoneCounts (loopsOf .inside .pending) (loopsOf .outside .inside) =
        ⟨1, 1, 0, 0, 0, 0, 0, 0⟩ ∧
      (armed twoYards .undocked).zoneCounts (loopsOf .inside .straddle) (loopsOf .outside .straddle) =
        ⟨0, 0, 0, 1, 0, 0, 0, 0⟩ ∧
      (armed field .departing).zoneCounts (clear .inside) (at' .straddle .outside .straddle) =
        ⟨0, 0, 0, 0, 1, 0, 0, 0⟩ ∧
      (armed field .follow).zoneCounts (clear .inside) (at' .straddle .outside .straddle) =
        ⟨0, 0, 1, 0, 0, 0, 0, 0⟩ ∧
      (armed field .undocked).zoneCounts (clear .inside) (at' .outside .inside .inside) =
        ⟨0, 0, 0, 0, 0, 1, 0, 0⟩ ∧
      (armed field .undocked).zoneCounts (clear .outside) (clear .lost) = ⟨1, 0, 0, 0, 0, 0, 1, 0⟩ ∧
      (armed field .docked).zoneCounts (clear .outside) (clear .lost) = ⟨1, 0, 0, 0, 0, 0, 0, 0⟩ ∧
      (armed field .undocked).zoneCounts (clear .straddle) (clear .outside) =
        ⟨0, 0, 0, 0, 0, 0, 0, 0⟩ := by decide +kernel

/-- The active slot 0 is OUT and its timer has run 1 ms. -/
def outside : State :=
  { field with zcu := { field.zcu with active := some 0, outTimer := ⟨.running, 1000⟩ } }

theorem witness_OutsideTimerExpires :
    let u := arrive 0 outside
    let v := arrive 0 { outside with rse := { outside.rse with ctx1 := some ctx } }
    (u.zcu.active = some 0 ∧ u.zcu.outTimer.st = .running ∧ u.outsideLimit ≤ u.zcu.outTimer.elapsed) ∧
      (u.rse.ctx1 = none ∧ u.rse.ctx2 = none ∧ u.rse.ctx3 = none) ∧
      (v.zcu.active = some 0 ∧ v.zcu.outTimer.st = .running ∧ v.outsideLimit ≤ v.zcu.outTimer.elapsed ∧
        ¬ (v.rse.ctx1 = none ∧ v.rse.ctx2 = none ∧ v.rse.ctx3 = none)) := by decide +kernel

/-- No node fitted, a DRIVE command that is not stale, slot 0 active and its forward limit 400 mm/s, blade permitted
up to 3000 rpm. -/
def driving : State :=
  { aged with
    mem := [(320, 1#8), (324, 1#8), (325, 0x90#8), (328, 1#8),
      (330, 0x0B#8), (331, 0xB8#8), (334, 1#8), (336, 50#8)]
    zcu := { aged.zcu with active := some 0, prox := 300 }
    mgt := { aged.mgt with zone := some 0, prox := 300 } }

/-- Both lanes of a slot have published a verdict that is not yet in the mirror. -/
def judgedAt (i : Slot) : State :=
  { field with
    wdc := { field.wdc with
      lanes := field.wdc.lanes.set i
        (PerCoil.all { Lane.fresh with verdict := some ⟨.lockedIn, 100, 3, 3, 0, 255⟩ }) } }

/-- Slot 3 has. -/
def judged : State := judgedAt 3

/-- An update with a lane named, frozen and not, in a slot of each kind; one with none; one that names a
lane by its strength alone; and the zone contexts in which an update has the outside timer HELD. -/
theorem witness_UpdateIsTaken :
    let named (s : State) (p : Published) (i : Slot) : Bool := s.laneNamed p i .left
    let iced : State := { judged with zcu := { judged.zcu with frozen := true } }
    let told : State := { judged with
      zcu := { judged.zcu with mirror := judged.zcu.mirror.set 3 (PerCoil.all ⟨.inside, 99⟩) } }
    let held : State := { outside with zcu := { outside.zcu with outTimer := ⟨.held, 1000⟩ } }
    (named judged Published.none 3 ∧ judged.zcu.frozen = false) ∧
      (named iced Published.none 3 ∧ iced.zcu.frozen = true) ∧
      (∀ i, named field Published.none i = false) ∧
      (∀ i, named told Published.none i = false) ∧ named told ⟨.left, [3]⟩ 3 ∧
      (judgedAt 1).guideSlot = some 1 ∧ named (judgedAt 1) Published.none 1 ∧
      (judgedAt 2).stationSlot = some 2 ∧ named (judgedAt 2) Published.none 2 ∧
      (held.outsideHeldDue = some 0 ∧ outside.outsideHeldDue = none) ∧
      (zoneUpdate Published.none judged).zcu.loops.get 3 = .inside := by decide +kernel

/-- Each row of the table of lane classes, at the loss limit and one beyond it. -/
theorem witness_LanesAreClassed :
    let s (silent : Bool) (l : Lane) : State := onWdcOf (fun w => { w with
      coils := w.coils.set .left { w.coils.get .left with silent := silent }
      lanes := w.lanes.set 3 ((w.lanes.get 3).set .left l) }) field
    let held (k : VerdictKind) (age : Nat) : Lane :=
      { Lane.fresh with verdict := some ⟨k, 100, 3, 3, 0, 9⟩, burstsSince := age, verdictSince := true }
    let cls (silent : Bool) (l : Lane) : LaneClass := (s silent l).laneClass 3 .left
    let limit := field.lossLimit 3
    cls true (held .lockedIn 0) = .noClass ∧
      (cls false (held .lockedIn limit) = .inside ∧ cls false (held .weakIn limit) = .inside ∧
        cls false (held .lockedOut limit) = .outside ∧ cls false (held .weakOut 0) = .outside ∧
        cls false (held .absent 0) = .noClass ∧ cls false (held .lockedIn (limit + 1)) = .noClass) ∧
      (cls false { Lane.fresh with burstsSince := limit - 1 } = .pending ∧
        cls false { Lane.fresh with burstsSince := limit } = .noClass ∧
        cls false { Lane.fresh with silentSince := true } = .noClass ∧
        cls false { Lane.fresh with verdictSince := true } = .noClass) ∧
      limit = 16 := by decide +kernel

/-- The triggers of one update in their order: an exit, a keep-out entry and the loss of every wire. -/
theorem test_updateTriggers :
    let s : State := { field with
      zcu := { field.zcu with active := some 0, exitArm := true, entryArm := ⟨false, false, false, true⟩ } }
    s.updateTriggers ⟨.inside, .disabled, .disabled, .outside⟩ ⟨.straddle, .disabled, .disabled, .inside⟩ =
        [(.perimeterExit, some 0), (.keepoutEntry, some 3)] ∧
      s.updateTriggers ⟨.inside, .disabled, .disabled, .outside⟩ ⟨.lost, .disabled, .disabled, .inside⟩ =
        [(.keepoutEntry, some 3), (.wireLost, none)] := by decide +kernel

/-- A changed active zone and one that stays, with a proximity strength that changes the percent and one
that does not; and the dock states that a guide and a station hand-off find. -/
theorem witness_ZoneIsHandedOn :
    let near (p : Nat) : State := { driving with zcu := { driving.zcu with prox := p } }
    let seen (s : State) : State := { s with mgt := { s.mgt with prox := s.zcu.prox } }
    let s := evaluate driving
    let at' (d : DockState) : State := { judged with dkc := { judged.dkc with dock := d } }
    (driving.zcu.active ≠ field.zcu.active ∧ driving.zcu.active = (near 0).zcu.active) ∧
      ((seen s).nearWirePercent (seen s).selectedSource = (seen s).mgt.pn) ∧
      ((seen (near 0)).nearWirePercent (seen (near 0)).selectedSource ≠ (evaluate (near 300)).mgt.pn) ∧
      ((at' .returnSeek).dkc.dock = .returnSeek ∧ (at' .follow).dkc.dock = .follow) := by decide +kernel

/-- Pin 7 in a mode and role with a parameter of 5 ms, changed by `f`. -/
def pin7 (m : PinMode) (r : PinRole) (f : PinUnit → PinUnit) : State :=
  setUnit 7 (f { PinUnit.idle ⟨m, r, .high, 5⟩ 0 0 0 with measuring := true }) field

def unit7 (s : State) : PinUnit := (arrive 0 s).spu.units.get 7

theorem witness_LevelPinIsDebounced :
    let s := pin7 .level .lift fun x => { x with debTimer := some 5000 }
    let x := unit7 s
    x.measuring = true ∧ x.cfg.mode = .level ∧ (arrive 0 s).spu.levels.get 7 ≠ .high ∧
      x.debTimer = some (ms x.cfg.param) ∧ x.cfg.role = .lift ∧ x.cand = x.cfg.active := by
  decide +kernel

/-- A pin of each role about to be debounced, active and not, in the dock states that suppress a front
bump and in one that does not. -/
theorem witness_LevelPinIsDebounced_roles :
    let s (r : PinRole) (l : Level) : State :=
      pin7 .level r fun x => { x with debTimer := some 5000, cand := l }
    let at' (d : DockState) : State :=
      { s .bumpFront .high with dkc := { field.dkc with dock := d } }
    ((unit7 (s .general .high)).cfg.role = .general ∧ (unit7 (s .lift .low)).cand ≠ .high ∧
        (unit7 (s .bumpRear .high)).cfg.role = .bumpRear ∧
        (unit7 (s .bumpRear .high)).cand = (unit7 (s .bumpRear .high)).cfg.active) ∧
      ((at' .contact).dkc.dock = .contact ∧ (unit7 (at' .contact)).cfg.role = .bumpFront ∧
        (at' .follow).dkc.dock ≠ .approach ∧ (at' .follow).dkc.dock ≠ .docked) ∧
      (unit7 (at' .follow)).debTimer = some (ms (unit7 (at' .follow)).cfg.param) ∧
      (s .bumpRear .high).rainCond = (s .bumpRear .high).dkc.rain := by decide +kernel

/-- What the Sense Pin Unit finds changed: the lift condition with an UNSET and with an active pin, the rain
condition, the slope and the band, and none of them; and an edge at a pin that is OFF or not yet measuring. -/
theorem witness_LevelPinIsDebounced_handOff :
    let lift (d : Option Level) : State := pin7 .level .lift fun x => { x with deb := d }
    let rain : State := pin7 .level .rain fun x => { x with deb := some .high }
    let sloped (a : Int) : State := { field with spu := { field.spu with pitch := ⟨.valid, a⟩ } }
    let off : State := pin7 .off .general id
    (lift none).liftCond = true ∧ (lift (some .high)).liftCond = true ∧
      (lift (some .low)).liftCond = false ∧ rain.rainCond = true ∧ rain.dkc.rain = false ∧
      (field.rainCond = field.dkc.rain ∧ (sloped (-100)).slope = 100 ∧ (sloped 49).slopeBand = 0 ∧
        (sloped 50).slopeBand = 1 ∧ field.slope = 0) ∧
      ((arrive 0 off).spu.levels.get 7 = .low ∧ (unit7 off).measuring = true ∧
        (unit7 off).cfg.mode = .off ∧ off.rainCond = off.dkc.rain ∧ (unit7 field).measuring = false) ∧
      (after (.pinEdge 0 7 .high) field).spu.levels.get 7 = .high := by decide +kernel

/-- A GENERAL pin with an unread result, one without, and a pin of another role. -/
theorem witness_ResultIsPublished :
    let x : PinUnit := { PinUnit.idle ⟨.edgeCount, .general, .high, 5⟩ 0 0 0 with ready := true }
    (x.cfg.role = .general ∧ x.ready = true ∧ (x.publish (.num 3)).overrun = true ∧
        (x.publish (.num 3)).overruns = 1) ∧
      (({ x with ready := false } : PinUnit).ready = false ∧
        (({ x with ready := false } : PinUnit).publish (.num 3)).overrun = false) ∧
      (PinUnit.idle ⟨.level, .lift, .high, 5⟩ 0 0 0).cfg.role ≠ .general := by decide +kernel

/-- An edge that changes nothing a role hands on, where the Dock Controller has taken the rain condition and
where it has not. -/
theorem witness_EndsQuietly :
    let s := pin7 .level .rain id
    let wet : State := { s with dkc := { s.dkc with rain := true } }
    (s.rainCond = s.dkc.rain ∧ (after (.pinEdge 0 7 .high) s).dkc.rain = false) ∧
      (wet.rainCond ≠ wet.dkc.rain ∧ (after (.pinEdge 0 7 .high) wet).dkc.rain = false) := by
  decide +kernel

theorem witness_CountAndPulsePins :
    let s := pin7 .edgeCount .general fun x => { x with window := 5000, count := 65535 }
    let t := pin7 .pulseWidth .general id
    ((unit7 s).measuring = true ∧ (unit7 s).cfg.mode = .edgeCount ∧
      (arrive 0 s).spu.levels.get 7 ≠ .high ∧ ms (unit7 s).cfg.param ≤ (unit7 s).window) ∧
      ((unit7 t).measuring = true ∧ (unit7 t).cfg.mode = .pulseWidth ∧
        (arrive 0 t).spu.levels.get 7 ≠ .high) := by decide +kernel

/-- Each expiry, internal command and request just before it is due. -/
theorem witness_OnlyTimersMoveWithTime_notDue :
    let u := arrive 0 field
    let pin (m : PinMode) (f : PinUnit → PinUnit) : PinUnit := unit7 (pin7 m .general f)
    let expired : State := { aged with mgt := { aged.mgt with age := ⟨.expired, 200000⟩ } }
    let short : LimitTimer := ⟨.running, 4, 5⟩
    let held : State := { field with rse := { field.rse with ctx1 := some { ctx with remaining := some 1 } } }
    let link : State := { field with
      lbu := { field.lbu with kind := .dLinkEcho, status := .running, begun := true } }
    let own : State := { pattern with wdc := { pattern.wdc with ring := [{ burst0 with coil := .right }] } }
    (expired.mgt.age.st = .expired ∧ u.wdc.inCorr = none) ∧
      ((unit7 field).measuring = false ∧ (pin .level id).cfg.mode ≠ .edgeCount ∧
        (pin .level fun x => { x with debTimer := some 4999 }).debTimer ≠ some (ms 5) ∧
        (pin .edgeCount fun x => { x with window := 4999 }).window < ms 5 ∧
        (pin .duty fun x => { x with dutyTimer := 4999 }).dutyTimer < ms 5) ∧
      (u.pollDueAge 0 = none ∧ 4999 < 5000 ∧ short.due = false ∧ (5 : Node).val = 5 ∧
        u.dlc.recs.get 5 = none) ∧
      ((arrive 0 held).runningCtx = some (1, { ctx with remaining := some 1 }) ∧
        u.runningCtx = none) ∧
      (u.dkc.batteryT.due = false ∧ u.dkc.rainT.due = false ∧ u.dkc.dock ≠ .approach ∧
        u.dkc.approachT.due u.approachTimeout = false ∧ u.dkc.relayT.due u.relayTimeout = false ∧
        u.dkc.motionT.due u.departureTime = false) ∧
      (u.lbu.status ≠ .running ∧ u.nEchoing = false ∧ u.dEchoRunning = false ∧ u.wireTest = none) ∧
      (link.lbu.begun = true ∧ own.wireTest = some (0, .right) ∧
        (∃ e ∈ own.wdc.ring, e.coil = .right)) ∧
      ((requestCommands 0)[17]? = some (.fullReset 0) ∧ headIs 17 u = false ∧ headUnknown u = false ∧
        headPass .read u = false ∧ headPass .write u = false) := by decide +kernel

theorem witness_DutyPinMeasuresPeriods :
    let s (r : PinRole) (h : Option Nat) : State :=
      pin7 .duty r fun x => { x with period := some 1000, high := h, dutyTimer := 5000 }
    let up : State := { s .general none with
      spu := { (s .general none).spu with levels := (s .general none).spu.levels.set 7 .high } }
    let x := unit7 (s .tiltPitch (some 50))
    (x.measuring = true ∧ x.cfg.mode = .duty) ∧ (arrive 0 up).spu.levels.get 7 = .high ∧
      ((arrive 0 (s .general none)).spu.levels.get 7 = .low ∧
        (unit7 (s .general none)).high = none) ∧
      (x.high = some 50 ∧ x.period = some 1000 ∧ (unit7 (s .general (some 0))).cfg.role = .general) ∧
      (x.cfg.role = .tiltPitch ∧ 50 ≤ 50 * 1000 / 1000 ∧ 950 * 1000 / 1000 ≤ 950) ∧
      ((unit7 (s .tiltRoll (some 951))).cfg.role = .tiltRoll ∧ 950 < 951 * 1000 / 1000 ∧
        (unit7 (s .tiltRoll (some 951))).fault = false) ∧
      ms x.cfg.param ≤ x.dutyTimer := by decide +kernel

/-- A valid and an invalid duty, and the timeout, of the pin of either axis, in FAULT and not. -/
theorem witness_DutyPinMeasuresPeriods_axes :
    let s (r : PinRole) (h : Nat) (f : Bool) : State := pin7 .duty r fun x =>
      { x with period := some 1000, high := some h, dutyTimer := 5000, fault := f }
    let up (r : PinRole) (h : Nat) (f : Bool) : State := after (.pinEdge 0 7 .high) (s r h f)
    (unit7 (s .tiltRoll 950 true)).measuring = true ∧ (arrive 0 (s .tiltRoll 950 true)).spu.levels.get 7 = .low ∧
      ((up .tiltRoll 950 true).spu.roll = ⟨.valid, 810⟩ ∧ (unit7 (up .tiltRoll 950 true)).fault = false) ∧
      ((up .tiltPitch 49 false).spu.pitch = ⟨.fault, 0⟩ ∧
        (up .tiltPitch 49 false).flag .senseFault = some [7#8] ∧
        (unit7 (up .tiltPitch 49 false)).faults = 1) ∧
      ((unit7 (up .tiltPitch 951 true)).faults = 0 ∧ (unit7 (up .tiltPitch 951 true)).fault = true) ∧
      ((after (.dutyTimeoutExpiry 0 7) (s .tiltRoll 500 false)).spu.roll = ⟨.fault, 0⟩ ∧
        (unit7 (after (.dutyTimeoutExpiry 0 7) (s .tiltRoll 500 true))).period = some 1000) := by
  decide +kernel

theorem witness_SenseReadConsumesAGeneralResult :
    headIs 13 (arrive 0 (head [13] field)) = true ∧ (head [13] field).headParams = [] ∧
      headIs 13 (arrive 0 (head [13, 8] field)) = true ∧
      8 ≤ byteAt (head [13, 8] field).headParams 0 ∧
      headIs 13 (arrive 0 (head [13, 7] field)) = true ∧
      (head [13, 7] field).headParams ≠ [] ∧ byteAt (head [13, 7] field).headParams 0 = (7 : Pin).val := by
  decide +kernel

/-- A pitch of `a` tenths against the default slope max of 200, with a tilt persistence of 50 ms if
`p` and of 0 otherwise, and a tilt timer. -/
def tilted (a : Int) (p : Bool) (t : Timer) : State :=
  { State.reset with
    mem := if p then [(28, 0#8), (29, 50#8)] else [(28, 0#8), (29, 0#8)]
    spu := { State.reset.spu with pitch := ⟨.valid, a⟩, tilt := t } }

theorem witness_TiltTimerJudgesTheSlope :
    (tilted 201 true ⟨.stopped, 0⟩).slopeMax < 201 ∧ 0 < (tilted 201 true ⟨.stopped, 0⟩).tiltPersistence ∧
      (tilted 201 false ⟨.stopped, 0⟩).tiltPersistence = 0 ∧
      ¬ (tilted 200 true ⟨.stopped, 0⟩).slopeMax < 200 ∧
      (let u := arrive 0 (tilted 201 true ⟨.running, 50000⟩)
       u.spu.tilt.st = .running ∧ u.tiltPersistence ≤ u.spu.tilt.elapsed) := by decide +kernel

theorem witness_SettleEndsAndUnitsBegin :
    (arrive 50000 field).spu.settle = some (ms 50) := by decide +kernel

/-- Each reason of the STOP line alone, RESET_N, and none of them. -/
theorem witness_StopLineIsDriven :
    let t := after (.settleEnd 50000) field
    let because (r : Rse → Rse) : Bool := ({ t with rse := r t.rse } : State).stopLine
    (t.resetHeld = false ∧ t.stopLine = false) ∧
      because (fun r => { r with stopHazard := true }) = true ∧
      because (fun r => { r with stopSettle := true }) = true ∧
      because (fun r => { r with stopTest := true }) = true ∧
      ({ t with resetHeld := true } : State).stopLine = true := by decide +kernel

/-- The four cases of the scaling at limits 400 and 200, at the limit and one beyond it. -/
theorem witness_WheelPairIsScaled :
    ((400 : Int).natAbs ≤ 400 ∧ (-200 : Int).natAbs ≤ 200) ∧ 400 < (401 : Int).natAbs ∧
      200 < (-201 : Int).natAbs ∧ scalePair 400 200 401 (-200) = (400, -199) := by decide +kernel

/-- The side chosen: none within the limits, the one that overshoots, the smaller ratio, the left one on a
tie. -/
theorem witness_WheelPairIsScaled_chosen :
    chosenSide 400 200 400 (-200) = none ∧ chosenSide 400 200 401 (-200) = some .left ∧
      chosenSide 400 200 400 (-201) = some .right ∧ chosenSide 400 200 500 (-300) = some .right ∧
      chosenSide 400 200 500 (-250) = some .left ∧ State.reset.mgt.chosen = none ∧
      (evaluate driving).mgt.chosen = none := by decide +kernel

theorem witness_EvaluationFormsTheOutput :
    ({ driving with rse := { driving.rse with ctx3 := some hazard } } : State).rse.ctx3.isSome = true ∧
      driving.rse.ctx3 = none ∧ driving.ctxHeld = false ∧
      (driving.mgt.zone = some 0 ∧ (evaluate driving).mgt.source ≠ .dock ∧
        0 < driving.nearLevel 0 ∧ driving.nearLevel 0 ≤ driving.mgt.prox) ∧
      field.mgt.zone = none ∧
      ({ driving with dkc := { driving.dkc with dock := .contact } } : State).dkc.dock = .contact ∧
      driving.dkc.dock = .undocked ∧
      (driving.mgt.cmd = some ⟨7, .drive, 100, 100, 0⟩ ∧ driving.mgt.age.st = .running) ∧
      (evaluate driving).mgt.source = .nav ∧ field.mgt.cmd = none ∧
      (evaluate { driving with dkc := { driving.dkc with dock := .follow } }).mgt.source = .dock ∧
      (driving.liftCond = false ∧ driving.zoneBlade 0 = true ∧
        driving.derateBlade (evaluate driving).mgt.band = true) ∧
      ({ field with lbu := { field.lbu with kind := .dLinkEcho, status := .running } } : State).dEchoRunning
        = true := by decide +kernel

/-- A DRIVE command under a dock state and under the contexts of each level. -/
theorem witness_EvaluationFormsTheOutput_sources :
    let at' (d : DockState) : State := { driving with dkc := { driving.dkc with dock := d } }
    let source (s : State) : Source := (evaluate s).mgt.source
    let one (b : Bool) : State :=
      { driving with rse := { driving.rse with ctx1 := some { ctx with bladeStop := b } } }
    let two : State := { driving with rse := { driving.rse with ctx2 := some ctx } }
    let three : State := { driving with rse := { driving.rse with ctx3 := some hazard } }
    (source (at' .follow) = .dock ∧ source (at' .approach) = .dock ∧ source (at' .departing) = .dock ∧
        source (at' .backoff) = .dock ∧ source (at' .dockFault) = .dock ∧
        source (at' .docked) = .dock ∧ source (at' .returnSeek) = .nav) ∧
      (source (one false) = .resp1 ∧ source two = .resp2 ∧ source three = .resp3) ∧
      ((one false).zoneBlade 0 = true ∧ (one false).derateBlade (evaluate (one false)).mgt.band = true ∧
        (one true).rse.ctx1 = some { ctx with bladeStop := true }) ∧
      ({ driving with mgt := { driving.mgt with prox := 255 } } : State).mgt.prox <
        driving.nearLevel 0 := by decide +kernel

/-- An evaluation that posts: wheels and a blade are fitted and the zone drives; the entry of the first node
is in flight, the others wait. -/
theorem witness_EvaluationFormsTheOutput_posts :
    let s : State := { driving with
      mem := [(50, 1#8), (51, 2#8), (52, 3#8), (53, 4#8)] ++ driving.mem }
    let t := evaluate s
    (s.nodeKind 0 = .wheelLeft ∧ s.nodeKind 2 = .blade ∧ s.nodeKind 3 = .power ∧
        s.mgt.posted.get 0 ≠ t.mgt.outL ∧ s.mgt.posted.get 2 = t.mgt.outBlade ∧ s.dEchoRunning = false) ∧
      (t.dlc.queue = [⟨0, .wheel 100, .nav, true, false⟩, ⟨1, .wheel 100, .nav, false, false⟩] ∧
        t.mgt.cnt.posts = 2) := by decide +kernel

theorem witness_FramerTakesTheWholeFrame :
    (15 < 16 ∧ (List.replicate 96 0#8).length ≤ 96) ∧ field.nli.framer.st = .hunt := by decide +kernel

theorem witness_BadFramesAreDiscarded :
    (List.replicate 96 0#8).length ≤ 96 ∧
      [0#8, 0#8] ≠ crcBytes (⟨1, 0, kindMotion, 1#8, []⟩ : NFrame).body ∧
      truncationWf (bytes [0x7E]) = true ∧ overrunWf (bytes [0x7E, 97, 0, 0, 0]) = true := by
  decide +kernel

theorem witness_MotionFrameIsJudged :
    let p := bytes [8, 1, 0, 100, 0, 100, 0, 0]
    (bytes [1]).length ≠ 8 ∧ p.length = 8 ∧ field.mgt.cmd = none ∧
      aged.mgt.cmd = some ⟨7, .drive, 100, 100, 0⟩ ∧ byteAt p 0 = (7 + 1) % 256 ∧
      byteAt (bytes [7, 1, 0, 0, 0, 0, 0, 0]) 0 = 7 ∧
      byteAt (bytes [6, 1, 0, 0, 0, 0, 0, 0]) 0 ≠ (7 + 1) % 256 := by decide +kernel

/-- An N-link echo that has begun, with `n` echoed frames waiting. -/
def echoing (n : Nat) : State :=
  { field with
    lbu := { field.lbu with
      kind := .nLinkEcho, status := .running, params := .nLinkEcho 1, begun := true, echoTime := 1000000 }
    nli := { field.nli with
      answers := List.replicate n ⟨.echoed, ⟨1, 0, kindPass, 1#8, []⟩⟩ } }

/-- The management queue with four requests. -/
def crowded : State :=
  { field with mrh := { field.mrh with queue := List.replicate 4 ⟨false, 1#8, 0, bytes [0, 0]⟩ } }

theorem witness_ReceivedFrameIsDispatched :
    (echoing 3).nEchoing = true ∧ (echoing 3).echoedWaiting < 4 ∧ 4 ≤ (echoing 4).echoedWaiting ∧
      field.nEchoing = false ∧ field.mrh.queue.length < 4 ∧ 4 ≤ crowded.mrh.queue.length ∧
      (kindTelemetry ≠ kindMotion ∧ ¬ (kindTelemetry = kindMgmtReq ∨ kindTelemetry = kindPass)) := by
  decide +kernel

theorem witness_NavCommandGoesStale :
    let u := arrive 1 aged
    u.mgt.cmd = some ⟨7, .drive, 100, 100, 0⟩ ∧ u.mgt.age.st = .running ∧
      u.ageLimit ≤ u.mgt.age.elapsed ∧ (after (.ageTimerExpiry 1) aged).mgt.source = .nav := by
  decide +kernel

theorem witness_EventFlagIsSet :
    let masked : State := { field with nli := { field.nli with mask := 0#19 } }
    let waits : State := { field with nli := { field.nli with events := [(.dockLost, [])] } }
    field.nli.flags.length = 19 ∧ (setFlag .dockLost [] field).flag .dockLost ≠ none ∧
      field.flag .dockLost = none ∧ masked.reports .dockLost = false ∧
      field.reports .dockLost = true ∧ (∀ e ∈ field.nli.events, e.1 ≠ .dockLost) ∧
      (∃ e ∈ waits.nli.events, e.1 = .dockLost) := by decide +kernel

/-- A frame of a class is being sent. -/
def sendingOf (c : OutClass) : State :=
  { field with nli := { field.nli with sending := some ⟨c, ⟨0, 1, kindEvent, 0#8, []⟩⟩ } }

theorem witness_TransmitterSendsInOrder :
    (field.mrh.fullResetDue = false ∧ field.resetHeld = false ∧ field.nli.sending = none ∧
      field.nli.answers = [] ∧ field.nli.events = [] ∧ field.nli.telemetry = none) ∧
      (sendingOf .event).nli.sending ≠ none ∧ (echoing 1).nli.answers ≠ [] ∧
      ({ field with nli := { field.nli with events := [(.dockLost, [])] } } : State).nli.events =
        (.dockLost, []) :: [] ∧
      ({ field with nli := { field.nli with telemetry := some [] } } : State).nli.telemetry = some [] ∧
      (arrive 0 (sendingOf (.headAnswer .nothing))).nli.sending =
        some ⟨.headAnswer .nothing, ⟨0, 1, kindEvent, 0#8, []⟩⟩ ∧
      (arrive 100000 field).nli.telemT.st = .running ∧
      (arrive 100000 field).nli.telemT.limit ≤ (arrive 100000 field).nli.telemT.elapsed := by
  decide +kernel

/-- The field with its drive link as `f` makes it. -/
def linked (f : Dlc → Dlc) : State := { field with dlc := f field.dlc }

/-- The nodes that TELEMETRY reports, with and without a STATUS, and the START_TEST answer of an N-link
echo. -/
theorem witness_TelemetryIsFormed :
    let s := linked fun d => { d with
      recs := (d.recs.set 0 (some { record with telem := some (.wheel (-50) 900) })).set 3
        (some { record with telem := some (.power 12000 true false 0 7) }) }
    (s.lowestOf .wheelLeft 0 ∧ s.dlc.recs.get 0 =
        some { record with telem := some (.wheel (-50) 900) }) ∧
      (s.lowestOf .power 3 ∧ s.lowestOf .wheelRight 1 ∧ s.dlc.recs.get 1 = some record ∧
        s.lowestOf .blade 2 ∧ ∀ n, State.reset.nodeKind n ≠ .wheelLeft) ∧
      (s.nli.flags.length = 19 ∧ 0 < 2 ^ 19 ∧
        ∀ f ∈ eventFlags, Nat.testBit 0 f.num = (s.flag f).isSome) ∧
      (s.telemetryPayload.drop 12).take 6 = bytes [255, 206, 0, 0, 46, 224] ∧
      (after (.upstreamFrameSent 0) (sendingOf (.headAnswer .echoBegin))).lbu.beginDue = true := by
  unfold State.lowestOf
  decide +kernel

theorem witness_EventsAreAcknowledged :
    (headIs 3 (arrive 0 (head [3, 7, 255, 255] field)) = true ∧
      3 ≤ (arrive 0 (head [3, 7, 255, 255] field)).headParams.length ∧
      field.nli.flags.length = 19) ∧
      (headIs 4 (arrive 0 (head [4, 0, 0, 0] field)) = true ∧
        3 ≤ (arrive 0 (head [4, 0, 0, 0] field)).headParams.length) ∧
      headIs 3 (arrive 0 (head [3, 0, 0] field)) = true ∧
      (arrive 0 (head [3, 0, 0] field)).headParams.length < 3 ∧
      headIs 4 (arrive 0 (head [4] field)) = true ∧
      (arrive 0 (head [4] field)).headParams.length < 3 := by decide +kernel

/-- The answer of a MGMT_REQ, of a PASS and of an outstanding read, and none without a head or a read. -/
theorem witness_EventsAreAcknowledged_answer :
    let frames (s : State) : List NFrame := s.nli.answers.map (·.frame)
    let reading : State := { field with mrh := { field.mrh with outstanding := some (7#8, 2) } }
    let free : State := { field with nli := { field.nli with
      sending := some ⟨.readAnswer, ⟨3, 1, 0#8, 0#8, []⟩⟩ } }
    (frames (answer .busy [5#8] { head [14] field with nli := free.nli }) =
        [⟨3, 1, 4#8, 9#8, bytes [14, 2, 5]⟩] ∧
      frames (answer .noNode [] { pass [1] field with nli := free.nli }) = [⟨3, 1, 5#8, 9#8, bytes [7]⟩]) ∧
      frames (answerRead .nodeTimeout [] { reading with nli := free.nli }) =
        [⟨2, 1, 5#8, 7#8, bytes [8]⟩] ∧
      field.mrh.queue = [] ∧ field.mrh.outstanding = none := by decide +kernel

/-- A set-point of 100 mm/s at the first node, as the queue holds it. -/
def speed100 (o : Origin) : QEntry := ⟨0, .wheel 100, o, false, false⟩

/-- A transaction with the first node, its response timer at its limit. -/
def exchange0 (c : Carried) (second : Bool) : Transaction :=
  ⟨0, .wheelLeft, c, requestFrame 0 c, second, 5000, 5000, false⟩

/-- That transaction in flight. -/
def asking (c : Carried) (second : Bool) : State :=
  linked fun d => { d with tx := some (exchange0 c second) }

/-- A poll of the first node in flight. -/
def polling (second : Bool) : State := asking .poll second

/-- The first node's record has reached the poll interval of 20 ms. -/
def overdue (f : Dlc → Dlc) : State :=
  linked fun d => f { d with recs := d.recs.set 0 (some { record with age := 20000 }) }

theorem witness_NextTransactionIsChosen :
    let s := linked fun d => { d with queue := [speed100 .nav], flush := 3 }
    let t := overdue fun d => { d with queue := [speed100 .nav], flush := 4 }
    let r := linked fun d => { d with read := some ⟨0, [1#8], false, false⟩ }
    (polling false).dlc.tx ≠ none ∧
      (s.dlc.tx = none ∧ s.dEchoRunning = false ∧ s.dlc.queue = speed100 .nav :: [] ∧
        s.dlc.flush < s.flushLimit) ∧
      (t.dlc.queue ≠ [] ∧ t.flushLimit ≠ 0 ∧ ¬ t.dlc.flush < t.flushLimit ∧ t.mostOverdue = some 0) ∧
      (r.dlc.queue = [] ∧ r.mostOverdue = none ∧ r.dlc.read = some ⟨0, [1#8], false, false⟩) ∧
      (field.dlc.queue = [] ∧ field.mostOverdue = none ∧ field.dlc.read = none ∧
        field.pollDueAge 0 = none) ∧
      ((overdue id).pollDueAge 0 = some 20000 ∧ ((arrive 0 (overdue id)).pollDueAge 0).isSome = true) := by
  decide +kernel

/-- A STATUS of the node at an address, with its frame check. -/
def status (a : Nat) : List Byte :=
  let body := bytes [a, 130, 4, 0, 100, 0, 0]
  body ++ crcBytes body

theorem witness_BadAnswersAreDropped :
    (List.replicate 255 0#8).length ≤ 255 ∧
      ([1#8, 1#8] ≠ crcBytes (bytes [1, 2, 0]) ∧ parseDLink (bytes [1, 2, 0, 1, 1]) = none) ∧
      (arrive 0 field).dlc.tx = none ∧
      (arrive 0 (polling false)).dlc.tx = some (exchange0 .poll false) ∧
      parseDLink (status 2) = some (2, 130, bytes [0, 100, 0, 0]) ∧
      2 ≠ (0 : Node).val + 1 := by decide +kernel

/-- A surplus byte, a missing one, and each length that a valid answer may have and one beside it. -/
theorem witness_BadAnswersAreDropped_lengths :
    let fits (c : Carried) (n : Nat) : Bool := (exchange0 c false).lengthFits n
    let power (n : Nat) : Bool := ({ exchange0 .poll false with nodeKind := .power } : Transaction).lengthFits n
    ((status 2 ++ [0#8]).length ≠ byteAt (status 2 ++ [0#8]) 2 + 5 ∧
        parseDLink (status 2 ++ [0#8]) = none ∧ parseDLink ((status 2).take 8) = none) ∧
      (fits .poll 4 = true ∧ fits .poll 5 = false ∧ power 6 = true ∧ power 4 = false) ∧
      (fits (.post (.wheel 1)) 4 = true ∧ fits (.post (.wheel 1)) 6 = false ∧
        fits (.post (.param [])) 0 = true) ∧
      (fits (.read []) 0 = false ∧ fits (.read []) 1 = true ∧ fits (.echo []) 8 = true ∧
        fits (.echo []) 7 = false) := by decide +kernel

theorem witness_ValidAnswerEndsTheTransaction :
    let sent (resend : Bool) (l : Option (Node × Bool)) : Dlc :=
      { field.dlc with
        queue := [{ speed100 .nav with inFlight := true, resend := resend }], relayHeld := l }
    ((sent true none).queue = [⟨0, .wheel 100, .nav, true, true⟩] ∧
        (sent false none).relayHeld = none ∧
        (sent false (some (3, true))).relayHeld = some (3, true)) ∧
      (arrive 0 (polling true)).dlc.tx = some (exchange0 .poll true) ∧
      (arrive 0 (polling true)).dlc.recs.get 0 = some record ∧
      parseDLink (status 1) = some ((0 : Node).val + 1, Carried.poll.request + 128, bytes [0, 100, 0, 0]) ∧
      (exchange0 .poll true).lengthFits 4 = true := by
  decide +kernel

/-- An answer of a kind and payload from the node at address 1, with its frame check. -/
def reply (kind : Nat) (p : List Nat) : List Byte :=
  let body := bytes ([1, kind, p.length] ++ p)
  body ++ crcBytes body

/-- A valid answer to each kind of transaction, with a read that is held for a fitted and for an
absent node, a transaction that was renewed, and a held relay command beside one in the queue. -/
theorem witness_ValidAnswerEndsTheTransaction_kinds :
    let ok (c : Carried) (p : List Nat) : Prop :=
      parseDLink (reply (c.request + 128) p) = some ((0 : Node).val + 1, c.request + 128, bytes p) ∧
        (exchange0 c false).lengthFits p.length = true
    let relay : QEntry := ⟨3, .relay false, .dock, false, false⟩
    let renewed : Transaction := { exchange0 .poll false with renewed := true }
    (ok (.post (.wheel 100)) [0, 100, 0, 0] ∧ ok .poll [0, 100, 0, 0] ∧ ok (.read [1#8]) [9, 9] ∧
        ok (.echo (bytes [1, 2, 3, 4, 5, 6, 7, 8])) [1, 2, 3, 4, 5, 6, 7, 8]) ∧
      ((asking (.read [1#8]) false).dlc.read = none ∧ field.nodeKind 0 ≠ .noNode ∧
        field.nodeKind 5 = .noNode) ∧
      renewed.renewed = true ∧
      ((∃ x ∈ [speed100 .nav, relay], x.val.isRelay = true) ∧
        ∀ x ∈ [speed100 .nav], x.val.isRelay = false) := by decide +kernel

/-- The transaction of an entry that a hazard discards: it stays in flight while no entry of the queue is
served, the gate's zeros at its head (R98). -/
theorem witness_DiscardedEntryIsServedByNone :
    let sent := exchange0 (.post (.wheel 100)) true
    let s := raiseFixed .lift (some 0)
      (linked fun d => { d with
        queue := [{ speed100 .nav with inFlight := true }], tx := some sent })
    let alone : Dlc := { field.dlc with tx := some sent }
    (s.dlc.tx = some sent ∧ s.dlc.served = none ∧
        s.dlc.queue.map (fun e => (e.origin, e.inFlight)) =
          [(.resp3, false), (.resp3, false), (.resp3, false)]) ∧
      (takeAnswer sent (bytes [0, 100, 0, 0]) s).dlc.served = none ∧
      (alone.queue = [] ∧ alone.served = none) ∧
      (s.dlc.answered = s.dlc ∧ s.dlc.failed = s.dlc) := by decide +kernel

/-- A valid answer's own part: a SET that acknowledges a new value and the same one, and a read. -/
theorem witness_AnswerIsTaken :
    let r : NodeRec := { record with lastAck := some (.wheel 100), slip := ⟨.running, 3, 5⟩ }
    let s := linked fun d => { d with recs := d.recs.set 0 (some r) }
    ((exchange0 .poll false).renewed = false ∧ s.dlc.recs.get 0 = some r) ∧
      (r.lastAck = some (.wheel 100) ∧ r.lastAck ≠ some (.wheel 200)) ∧
      (takeAnswer (exchange0 (.read [1#8]) false) [9#8] s).dlc.recs.get 0 = some { r with age := 0 } := by
  decide +kernel

/-- The field with slip, stall and jam judged at once, and a return below 10 V. -/
def tuned : State :=
  { field with
    mem := [(9, 10#8), (13, 0#8), (15, 5#8), (17, 5#8), (19, 0#8), (32, 39#8), (33, 16#8), (50, 1#8),
      (51, 2#8), (52, 3#8), (53, 4#8), (320, 1#8), (352, 3#8), (384, 4#8), (416, 2#8)] }

/-- A STATUS that slips and stalls, one that does neither, one that jams, and one of the POWER node. -/
theorem witness_StatusIsTakenIn :
    let r : NodeRec := { record with lastAck := some (.wheel 300) }
    let s : State := { tuned with dlc := { tuned.dlc with recs := tuned.dlc.recs.set 0 (some r) } }
    let slipping := bytes [0, 0, 0, 5]
    let steady := bytes [1, 44, 0, 4]
    (s.dlc.recs.get 0 = some r ∧ 0 < s.slipTolerance ∧ s.slipMinimum ≤ (300 : Int).natAbs ∧
        s.slipTolerance < (300 - sgn16 (wordAt slipping 0)).natAbs ∧
        0 < s.stallCurrent ∧ s.stallCurrent ≤ wordAt slipping 2) ∧
      (¬ s.slipTolerance < (300 - sgn16 (wordAt steady 0)).natAbs ∧ wordAt steady 2 < s.stallCurrent) ∧
      (tuned.dlc.recs.get 2 = some record ∧ tuned.jamCurrent ≤ wordAt slipping 2 ∧
        tuned.dlc.recs.get 3 = some record ∧ tuned.nodeKind 3 = .power) := by decide +kernel

/-- The table of a judged timer, entry by entry. -/
theorem witness_TimerIsJudged :
    let t (st : TimerState) : LimitTimer := ⟨st, 2, 3⟩
    (t .stopped).judge true 5 = (⟨.running, 0, 5⟩, false) ∧
      (t .stopped).judge true 0 = (⟨.spent, 0, 0⟩, true) ∧
      (t .running).judge true 5 = (⟨.running, 2, 5⟩, false) ∧ (t .spent).judge true 5 = (t .spent, false) ∧
      (t .running).judge false 5 = (t .stopped, false) ∧ (t .stopped).judge false 5 = (t .stopped, false) := by
  decide +kernel

/-- The DKC with `n` reports of the contact present or absent, in a dock state; the debounce is 3. -/
def reported (d : DockState) (o : ContactOrigin) (made : Bool) (n : Nat) : State :=
  { field with
    dkc := { field.dkc with dock := d, origin := o, established := made, present := n, absent := n } }

/-- Each entry of the contact report, one report below the debounce and at it. -/
theorem witness_ContactIsTaken :
    let dock (s : State) (present : Bool) : DockState := (takeContact present s).dkc.dock
    let moving : State := { reported .undocked .approach false 2 with
      mgt := { field.mgt with posted := field.mgt.posted.set 1 5 } }
    (field.contactDebounce = 3 ∧ dock (reported .approach .approach false 1) true = .approach ∧
        dock (reported .approach .approach false 2) true = .contact) ∧
      (dock (reported .undocked .approach false 2) true = .contact ∧ dock moving true = .undocked ∧
        (moving.nodeKind 1).isWheel = true ∧ dock (reported .docked .approach false 2) true = .docked) ∧
      (dock (reported .contact .start true 1) false = .contact ∧
        dock (reported .contact .start true 2) false = .undocked ∧
        dock (reported .contact .approach true 2) false = .approach ∧
        dock (reported .docked .start true 2) false = .undocked ∧
        dock (reported .backoff .start true 2) false = .backoff) := by decide +kernel

/-- The relay, the battery and the button of a power STATUS in the dock states that each takes them in. -/
theorem witness_PowerStatus :
    let departing (p : DepartPhase) : State :=
      { field with dkc := { field.dkc with dock := .departing, phase := p } }
    let pressed (d : DockState) : State :=
      { field with dkc := { field.dkc with dock := d, button := some 255 } }
    ((takeRelay true (reported .contact .approach true 3)).dkc.dock = .docked ∧
        (takeRelay false (departing .waitOpen)).dkc.phase = .reversing ∧
        (departing .reversing).dkc.phase ≠ .waitOpen ∧ field.dkc.dock ≠ .contact) ∧
      (0 < tuned.returnThreshold ∧ 9999 < tuned.returnThreshold ∧ tuned.powerNode = some 3 ∧
        tuned.dlc.recs.get 3 = some record ∧ record.st = .responsive ∧
        (takeBattery 9999 tuned).dkc.batteryT.st = .running ∧
        (tuned.dkc.batteryT.judge true 0).2 = true ∧ tuned.dkc.dock = .undocked) ∧
      (field.dkc.button = none ∧ (pressed .docked).dkc.button = some 255 ∧ 255 ≠ 1 ∧
        (takeButton 1 (pressed .docked)).flag .stationRequest = some [2#8] ∧
        (pressed .follow).dkc.dock ≠ .docked) := by decide +kernel

theorem witness_ResponseTimerExpires :
    ((arrive 0 (polling false)).dlc.tx = some (exchange0 .poll false) ∧
        5000 ≤ 5000 ∧ ∀ b, Carried.poll ≠ .echo b) ∧
      (arrive 0 (polling true)).dlc.tx = some (exchange0 .poll true) ∧
      (arrive 0 (polling true)).dlc.recs.get 0 = some record ∧ record.st ≠ .unresponsive ∧
      (arrive 0 (polling true)).nli.flags.length = 19 ∧
      (arrive 0 (linked fun d =>
          { d with tx := some ⟨3, .power, .poll, requestFrame 3 .poll, true, 5000, 5000, false⟩ })).dlc.recs.get 3 =
        some record := by
  refine ⟨⟨by decide +kernel, by decide, ?_⟩, ?_⟩
  · intro b h
    cases h
  · decide +kernel

/-- A second timeout of each kind of transaction, of a node that is UNRESPONSIVE already, and of a
transaction that was renewed; and the timeout of an ECHO. -/
theorem witness_ResponseTimerExpires_kinds :
    let lostAlready : State :=
      linked fun d => { d with
        recs := d.recs.set 0 (some { record with st := .unresponsive })
        tx := some (exchange0 .poll true) }
    let read (n : Node) : State :=
      linked fun d => { d with
        tx := some (exchange0 (.read [1#8]) true), read := some ⟨n, [1#8], true, n = 5⟩ }
    (exchange0 (.echo []) false).timeout ≤ (exchange0 (.echo []) false).elapsed ∧
      (lostAlready.nodeState 0 = some .unresponsive ∧ (polling true).nodeState 0 = some .responsive) ∧
      ((read 0).dlc.read = some ⟨0, [1#8], true, false⟩ ∧ (read 0).nodeKind 0 ≠ .noNode ∧
        (read 5).dlc.read = some ⟨5, [1#8], true, true⟩ ∧ (read 5).nodeKind 5 = .noNode ∧
        (asking (.read [1#8]) true).dlc.read = none) ∧
      ((exchange0 .poll true).nodeKind ≠ .power ∧ field.nodeKind 3 = .power) := by decide +kernel

theorem witness_SetPointIsPosted :
    (PostValue.wheel 100).coalesces (.wheel 100) = true ∧
      (PostValue.blade 0).coalesces (.blade 0) = true ∧
      (∃ e ∈ (linked fun d => { d with queue := [speed100 .nav] }).dlc.queue,
        e.node = 0 ∧ e.val.coalesces (.wheel 200) = true) ∧
      (∀ e ∈ (linked fun d => { d with queue := [speed100 .nav] }).dlc.queue,
        ¬ (e.node = 1 ∧ e.val.coalesces (.wheel 200) = true)) ∧
      field.dlc.queue = [] := by decide +kernel

/-- A queue of `n` entries, `k` of them PASS_WRITE entries. -/
def queued (n k : Nat) : State :=
  linked fun d =>
    { d with
      queue := List.replicate k ⟨0, .param [], .pass, false, false⟩ ++
        List.replicate (n - k) (speed100 .nav) }

/-- A relay command with no POWER node, into an empty queue, behind a set-point, behind a RELAY entry, and
over one that is held. -/
theorem witness_RelayIsPosted :
    let relay : QEntry := ⟨3, .relay true, .dock, true, false⟩
    let waits (h : Option (Node × Bool)) : State :=
      linked fun d => { d with queue := [relay], relayHeld := h }
    (State.reset.powerNode = none ∧ field.powerNode = some 3 ∧ field.dlc.queue = []) ∧
      (∃ e ∈ (waits none).dlc.queue, e.val.isRelay = true) ∧ (waits none).dlc.relayHeld = none ∧
      (waits (some (3, true))).dlc.relayHeld ≠ none ∧
      ((queued 1 0).dlc.queue ≠ [] ∧ ∀ e ∈ (queued 1 0).dlc.queue, e.val.isRelay = false) := by
  decide +kernel

/-- The zero of a DRIVE reset in flight to the first node, and a set-point of 100 mm/s behind it. -/
def stilling : State :=
  linked fun d => { d with
    queue := [⟨0, .wheel 0, .nav, true, false⟩, ⟨1, .wheel 0, .nav, false, false⟩]
    behind := [speed100 .nav]
    relayHeld := some (3, true)
    flush := 2 }

/-- What stands behind a zero: it waits while the zero is in the queue and joins the tail once that has left, a
new value takes its place and not the zero's, and a hazard removes both. -/
theorem witness_LeavesQueue :
    let left := stilling.dlc.answered
    let posted := postSet 0 (.wheel 200) .nav stilling
    (left.queue = [⟨1, .wheel 0, .nav, false, false⟩, speed100 .nav, ⟨3, .relay true, .dock, false, false⟩] ∧
        left.behind = [] ∧ left.relayHeld = none ∧ left.flush = 2) ∧
      ({ stilling.dlc with queue := stilling.dlc.queue.take 1 } : Dlc).answered.flush = 0 ∧
      ((∃ e ∈ stilling.dlc.behind, e.node = 0 ∧ e.val.coalesces (.wheel 200) = true) ∧
        posted.dlc.behind = [⟨0, .wheel 200, .nav, false, false⟩] ∧
        posted.dlc.queue = stilling.dlc.queue ∧ posted.dlc.cnt.coalesce = 1) ∧
      ((hazardDiscard stilling).dlc.queue = [] ∧ (hazardDiscard stilling).dlc.behind = [] ∧
        (hazardDiscard stilling).dlc.cnt.discards = 3 ∧
        (hazardDiscard stilling).flag .postDiscard = some [3#8]) ∧
      (speed100 .nav).val.isRelay = false := by decide +kernel

theorem witness_HazardDiscardsThePosts :
    (∃ e ∈ (linked fun d => { d with queue := [speed100 .nav] }).dlc.queue,
        e.origin ≠ .resp3 ∧ e.val = .wheel 100) ∧
      field.dlc.queue = [] := by decide +kernel

theorem witness_NodeTimersRaiseTheirTriggers :
    let t : LimitTimer := ⟨.running, 5, 5⟩
    let s := linked fun d => { d with recs := d.recs.set 5 (some { record with slip := t, stall := t, jam := t }) }
    (arrive 0 s).dlc.recs.get 5 = some { record with slip := t, stall := t, jam := t } := by
  decide +kernel

theorem witness_PassThroughIsJudged :
    let u := arrive 0 (pass [1, 0, 9] field)
    (u.mrh.queue = [⟨true, 9#8, 3, bytes [1, 0, 9]⟩] ∧ u.mrh.headDone = false ∧
        u.mrh.fullResetDue = false) ∧
      (nodeOfNat? (byteAt (bytes [7, 0]) 0) = none ∧ nodeOfNat? (byteAt (bytes [6, 1]) 0) = some 5 ∧
        u.nodeKind 5 = .noNode) ∧
      (nodeOfNat? (byteAt (bytes [1, 0, 9]) 0) = some 0 ∧ u.nodeKind 0 ≠ .noNode) ∧
      (1 < byteAt (bytes [1, 2, 9]) 1 ∧ (bytes [1, 1]).length < 3 ∧ byteAt (bytes [1, 1]) 1 = 1 ∧
        byteAt (bytes [1]) 1 ≠ 1 ∧ byteAt ([] : List Byte) 1 = 0) ∧
      (arrive 0 (pass [] field)).mrh.queue = [⟨true, 9#8, 3, []⟩] ∧
      (byteAt (bytes [1, 0, 9]) 1 ≤ 1 ∧ byteAt (bytes [1, 1, 9]) 1 = 1) ∧
      ({ u with lbu := { u.lbu with kind := .dLinkEcho, status := .running } } : State).dEchoRunning = true ∧
      (u.dEchoRunning = false ∧ u.rse.ctx3 = none ∧ u.dlc.queue.length < 12 ∧
        (u.dlc.queue.filter fun e => e.val.isPass).length < 10) ∧
      ({ u with rse := { u.rse with ctx3 := some hazard } } : State).rse.ctx3.isSome = true ∧
      12 ≤ (queued 12 0).dlc.queue.length ∧
      10 ≤ ((queued 10 10).dlc.queue.filter fun e => e.val.isPass).length ∧
      (u.dlc.read = none ∧ u.dlc.queue = []) ∧ (queued 1 0).dlc.queue ≠ [] ∧
      (linked fun d => { d with read := some ⟨0, [1#8], false, false⟩ }).dlc.read ≠ none := by
  decide +kernel

theorem witness_HazardIsEntered :
    Trig.lift.tabled = false ∧ Trig.outsideLimit.tabled = false ∧ field.rse.ctx3 = none ∧
      field.nli.flags.length = 19 ∧
      (field.stillAt 0 = some (.wheel 0) ∧ field.stillAt 2 = some (.blade 0) ∧ field.stillAt 3 = none) ∧
      ({ field with rse := { field.rse with ctx3 := some hazard } } : State).rse.ctx3.isSome = true := by
  decide +kernel

/-- Contexts of levels 1 and 2 of sequence 0, whose step 1 is a DRIVE of 1 ms. -/
def running (c1 c2 : Option Ctx) : State :=
  { field with
    mem := [(496, 2#8), (508, 1#8), (515, 1#8)]
    rse := { field.rse with ctx1 := c1, ctx2 := c2 } }

theorem witness_RunningContextAdvances :
    let block (e : Byte) (n : Byte) : State :=
      { field with mem := [(496, 3#8), (497, 1#8), (498, e), (499, n)] }
    let last : Ctx := { ctx with step := 1 }
    ((block 2 0).repeatStart 0 ≤ (block 2 0).repeatEnd 0 ∧
        (block 2 0).repeatEnd 0 < (block 2 0).stepCount 0 ∧ (block 2 0).repeatCount 0 = 0) ∧
      (block 2 2).repeatCount 0 ≠ 0 ∧
      ¬ (block 3 2).repeatEnd 0 < (block 3 2).stepCount 0 ∧
      (let u := arrive 0 (running (some ctx) none)
       u.rse.ctx3 = none ∧ u.rse.ctx2 = none ∧ u.rse.ctx1 = some ctx ∧
         u.nextStep 0 ctx.step ctx.repeats = some (1, 1) ∧ u.stepAt 0 1 = .drive 0 0 (ms 1)) ∧
      (arrive 0 (running none (some ctx))).rse.ctx2 = some ctx ∧
      (let u := arrive 0 (running (some last) (some last))
       u.nextStep 0 last.step last.repeats = none ∧ u.rse.ctx2 = some last ∧
         u.rse.ctx1 = some last ∧ last.entered = true) ∧
      (arrive 0 (running (some last) none)).rse.ctx1 = some last := by decide +kernel

/-- Sequence 0 with a step of a kind and a duration in ms at step 0, and level `l` for BUMP_FRONT. -/
def stepping (l kind : Byte) (d : Byte) : State :=
  { field with mem := [(468, l), (496, 1#8), (500, kind), (507, d)] }

/-- Every kind of step, with and without time. -/
theorem witness_StepsAreEntered :
    (stepping 1 0 0).stepAt 0 0 = .finish ∧ (stepping 1 1 2).stepAt 0 0 = .drive 0 0 (ms 2) ∧
      (stepping 1 1 0).stepAt 0 0 = .drive 0 0 0 ∧ (stepping 1 2 2).stepAt 0 0 = .wait (ms 2) ∧
      (stepping 1 2 0).stepAt 0 0 = .wait 0 ∧ (stepping 1 3 0).stepAt 0 0 = .bladeStop ∧
      (stepping 1 4 0).stepAt 0 0 = .hold ∧ (stepping 1 3 0).nextStep 0 0 1 = none ∧
      (running none none).nextStep 0 0 1 = some (1, 1) := by decide +kernel

/-- A tabled trigger of each level against no context, a context of each level, a hazard and a dock
state in which it is ignored; and an OUTSIDE_LIMIT that waits for the end of the last context. -/
theorem witness_TabledTriggerIsTaken :
    let s (l : Byte) : State := stepping l 4 0
    let waits : State := { outside with
      zcu := { outside.zcu with outTimer := ⟨.held, 1000⟩ } }
    Trig.bumpFront.tabled = true ∧
      ((s 0).trigLevel .bumpFront = 0 ∧ (s 1).trigLevel .bumpFront = 1 ∧
        (s 2).trigLevel .bumpFront = 2) ∧
      ({ s 1 with rse := { field.rse with ctx3 := some hazard } } : State).rse.ctx3 ≠ none ∧
      ({ s 1 with dkc := { field.dkc with dock := .docked } } : State).dkc.dock = .docked ∧
      ((s 1).rse.ctx3 = none ∧ (s 1).dkc.dock = .undocked ∧ (s 1).rse.ctx2 = none ∧
        ({ s 1 with rse := { field.rse with ctx2 := some ctx } } : State).rse.ctx2 ≠ none) ∧
      (waits.ctxHeld = false ∧ (evaluate waits).outsideHeldDue = some 0 ∧
        (evaluate field).outsideHeldDue = none ∧ (running (some ctx) none).ctxHeld = true) ∧
      ({ ctx with entered := false }).seq = some 0 := by decide +kernel

theorem witness_ResponsesAreCancelledAndCleared :
    let both := running (some ctx) (some ctx)
    let still : State := { field with rse := { field.rse with ctx3 := some hazard } }
    let gone : State := { still with mem := [], zcu := { still.zcu with active := none } }
    (headIs 11 (arrive 0 (head [11, 1] field)) = true ∧ (head [11, 1] field).rse.ctx1 = none ∧
        (head [11, 2] field).rse.ctx2 = none ∧ byteAt (head [11, 3] field).headParams 0 = 3) ∧
      (both.rse.ctx1 ≠ none ∧ both.rse.ctx2 ≠ none) ∧
      ((running (some ctx) none).rse.ctx1 ≠ none ∧ (running (some ctx) none).rse.ctx2 = none) ∧
      ((running none (some ctx)).rse.ctx1 = none ∧ (running none (some ctx)).rse.ctx2 ≠ none) ∧
      (headIs 12 (arrive 0 (head [12] still)) = true ∧ (head [12] field).rse.ctx3 = none) ∧
      true ∈ [outside.liftCond, true] ∧
      true ∉ [gone.liftCond, gone.overSlope, gone.wireLostCond, gone.driveNodeLost,
        gone.outsideCond] := by decide +kernel

/-- Each blocking condition just short of holding and where it holds, one by one. -/
theorem witness_ConditionsBlock :
    let lift (d : Option Level) : Bool := (pin7 .level .lift fun x => { x with deb := d }).liftCond
    let sloped (a : Int) : State := { field with spu := { field.spu with pitch := ⟨.valid, a⟩ } }
    let zoned (a : Int) : State := { sloped a with zcu := { field.zcu with active := some 0 } }
    let loops (l : LoopState) : State := { field with
      zcu := { field.zcu with active := some 0, loops := loopsOf l .outside } }
    let lost (n : Node) (st : NodeState) : Bool :=
      (linked fun d => { d with recs := d.recs.set n (some { record with st := st }) }).driveNodeLost
    (lift none = true ∧ lift (some .high) = true ∧ lift (some .low) = false) ∧
      ((sloped 201).overSlope = true ∧ (sloped (-200)).overSlope = false ∧ field.defaultSlopeMax = 200) ∧
      ((zoned 1).overSlope = true ∧ (zoned 0).overSlope = false ∧ field.zoneSlopeMax 0 = 0) ∧
      ((loops .lost).wireLostCond = true ∧ (loops .pending).wireLostCond = false ∧
        State.reset.wireLostCond = false) ∧
      (lost 2 .unresponsive = true ∧ lost 2 .unknown = false ∧ lost 3 .unresponsive = false) ∧
      ((loops .outside).outsideCond = true ∧ (loops .straddle).outsideCond = false ∧
        field.outsideCond = false) := by decide +kernel

/-- A cancel of level 2 over a SUSPENDED context that has entered its step, over one that has not and rests
on its step 0, over one that has not and ends there, and over one without a sequence. -/
theorem witness_ResponsesAreCancelledAndCleared_resumes :
    let waiting : Ctx := { ctx with entered := false, remaining := some 2000 }
    let cancel (s : State) (x : Ctx) : State := after (.cancelResponse 0) (head [11, 2]
      { s with rse := { s.rse with ctx1 := some x, ctx2 := some ctx } })
    (cancel field ctx).rse.ctx1 = some ctx ∧
      (waiting.entered = false ∧ waiting.seq = some 0 ∧
        (cancel (stepping 1 2 2) waiting).rse.ctx1 = some { waiting with entered := true } ∧
        (cancel (stepping 1 0 0) waiting).rse.ctx1 = none) ∧
      (cancel field { waiting with seq := none }).rse.cnt.resumed = 1 := by decide +kernel

/-- The Dock Controller in a state of the dock, its timers at their limits. -/
def docking (d : DockState) : State :=
  { field with
    dkc := { field.dkc with
      dock := d
      batteryT := ⟨.running, 5, 5⟩
      rainT := ⟨.running, 5, 5⟩
      approachT := ⟨.running, 0⟩
      relayT := ⟨.running, 1000000⟩
      motionT := ⟨.running, 1500000⟩ } }

theorem witness_DockTimersExpire :
    let u (d : DockState) : State := arrive 0 (docking d)
    let again : State := { u .backoff with mem := [(352, 3#8), (384, 4#8), (393, 1#8)] }
    field.nli.flags.length = 19 ∧
      ((u .undocked).dkc.dock = .undocked ∧ (u .undocked).dkc.batteryT = ⟨.running, 5, 5⟩ ∧
        (u .undocked).dkc.rainT = ⟨.running, 5, 5⟩) ∧
      ((u .undocked).canReturn = true ∧ State.reset.canReturn = false) ∧
      ((u .approach).dkc.approachT.st = .running ∧
        (u .approach).approachTimeout ≤ (u .approach).dkc.approachT.elapsed) ∧
      ((u .contact).dkc.relayT.st = .running ∧
        (u .contact).relayTimeout ≤ (u .contact).dkc.relayT.elapsed) ∧
      (u .departing).dkc.relayT.st = .running ∧
      ((u .backoff).dkc.motionT.st = .running ∧
        (u .backoff).departureTime ≤ (u .backoff).dkc.motionT.elapsed) ∧
      (again.canReturn = true ∧ again.dkc.retry < again.stationRetries) ∧
      (u .backoff).stationRetries ≤ (u .backoff).dkc.retry ∧
      ((u .departing).dkc.motionT.st = .running ∧ (u .departing).rainReturn = false) ∧
      ((u .departing).flag .dockFaultEvent = none ∧ (u .backoff).flag .dockFaultEvent = none ∧
        (after (.relayTimerExpiry 0) (docking .departing)).flag .dockFaultEvent = some [1#8] ∧
        (after (.motionTimerExpiry 0) (docking .backoff)).flag .dockFaultEvent = some [0#8]) := by
  decide +kernel

/-- The guide and the station as the steering and the station test find them. -/
def steered (d : DockState) (l : LoopState) (c : LaneClass) (i : LoopState) : State :=
  { field with
    dkc := { field.dkc with dock := d, guide := ⟨l, c, .outside⟩, station := ⟨i, 0⟩ } }

/-- Every guide state that steers, and the station test where it holds and where it does not. -/
theorem witness_SteeringIsFormed :
    let s := steered .follow .straddle .inside .outside
    let far : State := { s with mem := [(352, 3#8), (384, 4#8), (391, 1#8)] }
    (s.dkc.guide.loop = .straddle ∧ s.rightInside = false ∧ s.dkc.guide.left = .inside ∧
        (steered .follow .straddle .outside .outside).dkc.guide.left ≠ .inside) ∧
      ((formSteering (steered .approach .lost .noClass .outside)).flag .guideLost = some [3#8] ∧
        (formSteering (steered .follow .lost .noClass .outside)).flag .guideLost = some [2#8]) ∧
      (s.stationLevel ≤ s.dkc.station.strength ∧ far.dkc.station.strength < far.stationLevel ∧
        far.dkc.station.loop ≠ .inside ∧ (stationTest s).dkc.dock = .approach ∧
        (stationTest { s with dkc := { s.dkc with established := true } }).dkc.dock = .contact ∧
        (stationTest far).dkc.dock = .follow) := by decide +kernel

/-- A context comes and ends in each dock state that it reaches, with a POWER node and without. -/
theorem witness_SteeringIsFormed_response :
    let held (s : State) : State := dkcHold s
    let opening : State := { docking .departing with dkc := { (docking .departing).dkc with phase := .waitOpen } }
    let back : State := { docking .backoff with dkc := { (docking .backoff).dkc with backoffRelay := true } }
    ((held (docking .approach)).dkc.approachT = ⟨.held, 0⟩ ∧
        (dkcResume (held (docking .approach))).dkc.approachT.st ≠ .held) ∧
      ((dkcResume (held (docking .contact))).dkc.approachT = ⟨.held, 0⟩ ∧
        (dkcResume (held (docking .contact))).dkc.cnt.relayReposts = 1) ∧
      (field.powerNode = some 3 ∧ State.reset.powerNode = none) ∧
      ((dkcResume opening).dkc.cnt.relayReposts = 1 ∧ (dkcResume back).dkc.cnt.relayReposts = 1 ∧
        (dkcResume (docking .backoff)).dkc.cnt.relayReposts = 0) ∧
      (enterContact .start field).dkc.approachT = ⟨.held, 0⟩ := by decide +kernel

/-- A return that finds the guide straddled and one that does not, a rain judgement that returns at once
and one that starts the timer, and the test of WIRE_LOST at a change of the dock state. -/
theorem witness_UndockedAndWireLost :
    let wet (p : Byte) : State := { field with
      mem := [(36, 1#8), (38, 0#8), (39, p), (352, 3#8), (384, 4#8)]
      dkc := { field.dkc with rain := true } }
    let lost : State := { field with zcu := { field.zcu with loops := loopsOf .lost .pending } }
    (field.canReturn = true ∧ State.reset.canReturn = false ∧ field.dkc.guide.loop ≠ .straddle ∧
        (steered .undocked .straddle .inside .outside).dkc.guide.loop = .straddle) ∧
      (((wet 0).dkc.rainT.judge ((wet 0).rainReturn && (wet 0).dkc.rain) (wet 0).rainPersistence).2 = true ∧
        ((wet 1).dkc.rainT.judge ((wet 1).rainReturn && (wet 1).dkc.rain) (wet 1).rainPersistence).2 = false ∧
        (enterUndocked (wet 0)).dkc.dock = .returnSeek) ∧
      ((lost.zcu.frozen = false ∧ lost.zcu.wireLostArm = true ∧ lost.dkc.dock ≠ .docked ∧
          lost.slotKind 0 = .perimeter ∧
          ∀ i, lost.slotKind i = .perimeter → lost.zcu.loops.get i = .lost) ∧
        field.zcu.loops.get 0 ≠ .lost) := by decide +kernel

theorem witness_DockRequestsAreAnswered :
    headIs 8 (arrive 0 (head [8] field)) = true ∧ headIs 9 (arrive 0 (head [9] field)) = true ∧
      headIs 10 (arrive 0 (head [10] field)) = true ∧
      ((head [8] field).dkc.dock = .undocked ∧ (head [8] field).canReturn = true) ∧
      (head [8] State.reset).canReturn = false ∧
      ((head [8] field).flag .returnStarted = none ∧
        (after (.returnHome 0) (head [8] field)).flag .returnStarted = some [1#8]) ∧
      ((head [9] (docking .dockFault)).dkc.dock = .dockFault ∧
        (head [9] (docking .dockFault)).rainReturn = false) ∧
      (head [10] (docking .docked)).dkc.dock = .docked := by decide +kernel

/-- A WRITE_TABLE with the given first four parameters and `n` data bytes at the head of the queue. -/
def segment (p : List Nat) (n : Nat) (s : State) : State := head (5 :: p ++ List.replicate n 7) s

theorem witness_SegmentIsLoaded :
    let whole := arrive 0 (segment [4, 3, 0, 0] 16 field)
    let next := arrive 0 (segment [0, 1, 0, 16] 64
      { field with tbs := { field.tbs with staged := field.tbs.staged.set 0 ⟨false, some 16, 0⟩ } })
    headIs 5 whole = true ∧
      ({ whole with tbs := { whole.tbs with swapPending := true } } : State).tbs.swapPending = true ∧
      (Table.ofNat? 6 = none ∧ ¬ byteAt (bytes [4, 4]) 1 ≤ 3) ∧
      (whole.tbs.swapPending = false ∧ Table.ofNat? (byteAt whole.headParams 0) = some .derate ∧
        byteAt whole.headParams 1 = 3 ∧ wordAt whole.headParams 2 = 0 ∧
        (whole.headParams.drop 4).length = Table.derate.size) ∧
      ((next.staged .general).load = some (wordAt next.headParams 2) ∧
        (next.headParams.drop 4).length = 64 ∧ 16 + 64 ≤ Table.general.size ∧ 64 % 16 = 0) ∧
      wordAt (segment [4, 3, 0, 1] 15 field).headParams 2 ≠ 0 ∧
      ((segment [4, 3, 0, 0] 1 field).headParams.drop 4).length ≠ Table.derate.size := by
  decide +kernel

/-- Tables validated at their bounds and one beyond, with the count of the fields that changed: DERATE, a zone
slot, a code, and the code lengths midway (R9, R28, R67, R145, R147). -/
theorem test_validation :
    let checked (t : Table) (l : List Nat) : Check :=
      checkTable t ⟨Memory.writeBytes [] 1600 (bytes l), 1600, 0⟩
    let read (t : Table) (l : List Nat) : List Byte × Nat :=
      (Memory.readBytes (checked t l).mem 1600 l.length, (checked t l).n)
    read .derate ([100, 1, 101, 2] ++ List.replicate 12 0) =
        (bytes ([100, 1, 100, 0] ++ List.replicate 12 0), 2) ∧
      (let (l, n) := read .zones ([1, 8, 0, 0, 7, 208, 3, 233] ++ List.replicate 9 0 ++ [15])
       l.take 8 = bytes [1, 7, 1, 1, 7, 208, 3, 232] ∧ l.drop 17 = bytes [14] ∧ n = 5 + 2 * 3) ∧
      (let (l, n) := read .codes (List.replicate 8 255 ++ [0, 9, 255, 255])
       l.drop 8 = bytes [1, 1, 31, 255] ∧ n = 3 + 4 * 7) := by decide +kernel

theorem test_codeLengths :
    [0, 16, 23, 24, 32, 47, 48, 64, 255].map nearestLength = [16, 16, 16, 32, 32, 32, 64, 64, 64] ∧
      [0, 1, 9, 10, 10000, 10001].map telemetryRange = [0, 10, 10, 10, 10000, 10000] := by decide +kernel

theorem witness_TableIsRead :
    let u := arrive 0 (head [6, 0, 5, 4, 32, 64] field)
    headIs 6 u = true ∧
      (byteAt u.headParams 0 = 0 ∧ Table.ofNat? (byteAt u.headParams 1) = some .responses ∧
        5 ≤ u.headParams.length ∧ byteAt u.headParams 4 = 64 ∧
        wordAt u.headParams 2 + 64 = Table.responses.size) ∧
      1 < byteAt (head [6, 2, 0, 0, 0, 1] field).headParams 0 ∧
      Table.responses.size < wordAt (head [6, 0, 5, 4, 33, 64] field).headParams 2 + 64 := by
  decide +kernel

/-- A swap that is pending, its timer at its limit, with every table marked. -/
def swapping (pending : Bool) : State :=
  { field with
    tbs := { field.tbs with
      swapPending := pending, swapT := ⟨.running, 5, 5⟩, staged := PerSix.all ⟨true, none, 0⟩ } }

/-- The same under way to the station, where the safe point does not hold. -/
def waiting : State := { swapping true with dkc := { field.dkc with dock := .follow } }

theorem witness_BanksAreSwapped :
    let u := arrive 0 (head [7] (swapping false))
    let v := arrive 0 (head [7] waiting)
    (headIs 7 u = true ∧ u.tbs.swapPending = false ∧ (u.staged .responses).mark = true) ∧
      ((field.staged .general).mark = false ∧ field.tbs.swapPending = false) ∧
      (headIs 7 v = true ∧ v.tbs.swapPending = true) ∧
      ((swapping true).tbs.swapPending = true ∧ (swapping true).swapMayGo ∧
        (swapping true).nli.flags.length = 19) ∧
      (v.tbs.swapT.st = .running ∧ v.tbs.swapT.limit ≤ v.tbs.swapT.elapsed ∧ ¬ waiting.swapMayGo) := by
  unfold State.swapMayGo
  decide +kernel

/-- A swap that is due comes before whatever command is next: a WRITE_TABLE finds none PENDING, the expiry of
its timer finds none either, and SWAP_TAKE is the swap alone; one that is not due is dropped by the expiry
(R150, R152). -/
theorem test_dueSwapComesFirst :
    let taken (t : State) : Prop :=
      t.tbs.cnt = ⟨0, 0, 0, 0, 1, 0⟩ ∧ t.tbs.swapPending = false ∧ t.tbs.activeHigh = true
    let asked := after (.writeTable 0) (segment [4, 0, 0, 0] 16 (swapping true))
    taken (after (.swapTake 0) (swapping true)) ∧ taken (after (.swapTimerExpiry 0) (swapping true)) ∧
      (taken asked ∧ (asked.staged .derate).load = some 16) ∧
      (after (.swapTake 0) waiting).tbs.swapPending = true ∧
      (after (.swapTimerExpiry 0) waiting).tbs.cnt = ⟨0, 0, 0, 0, 0, 1⟩ := by
  decide +kernel

/-- A new node table: address 1 keeps its kind, 2 gets another, 5 is fitted and 6 goes, with an entry, a held
relay command, a transaction and a read at each side of the change. -/
theorem witness_DlcTakesTheBank :
    let before : PerSix NodeKind := ⟨.wheelLeft, .blade, .blade, .noNode, .noNode, .wheelLeft⟩
    let s (f : Dlc → Dlc) : State := linked f
    let readOf (n : Node) (sent : Bool) : State :=
      s fun d => { d with read := some ⟨n, [1#8], sent, false⟩ }
    let done (n : Node) (sent : Bool) : State := dlcSwap before none (readOf n sent)
    (before.get 0 = field.nodeKind 0 ∧ before.get 1 ≠ field.nodeKind 1 ∧ field.nodeKind 1 ≠ .noNode ∧
        before.get 5 ≠ field.nodeKind 5 ∧ field.nodeKind 5 = .noNode) ∧
      (field.powerNode ≠ none ∧ field.powerNode = some 3) ∧
      ((done 5 true).dlc.read = some ⟨5, [1#8], true, true⟩ ∧ (done 5 false).dlc.read = none ∧
        (done 0 true).dlc.read = some ⟨0, [1#8], true, false⟩) ∧
      (dlcSwap before none (s fun d => { d with
          queue := [⟨0, .wheel 0, .nav, true, false⟩, ⟨1, .wheel 0, .nav, false, false⟩]
          relayHeld := some (3, true)
          tx := some { exchange0 (.post (.wheel 0)) false with node := 1 } })).dlc.queue =
        [⟨0, .wheel 0, .nav, true, false⟩] := by decide +kernel

/-- A command that the new age limit makes stale and one that it does not, a pin whose configuration a swap
changes, and one that it leaves. -/
theorem witness_BankIsHandedOn :
    let old : State := { aged with mgt := { aged.mgt with age := ⟨.running, 200000⟩ } }
    let s : State := { pin7 .duty .tiltPitch id with spu :=
      { (pin7 .duty .tiltPitch id).spu with settle := none } }
    (old.mgt.age.st = .running ∧ old.ageLimit ≤ old.mgt.age.elapsed ∧
        aged.mgt.age.elapsed < aged.ageLimit) ∧
      (s.spu.settle = none ∧ (s.spu.units.get 7).cfg ≠ s.pinCfg 7 ∧
        (s.spu.units.get 0).cfg = s.pinCfg 0) ∧
      (field.spu.settle ≠ none ∧ field.rainCond = field.dkc.rain) := by decide +kernel

/-- Slots with a code that is enabled and one that is not, and a PERIMETER slot whose mask names
another PERIMETER slot. -/
theorem witness_SlotsAreValidated :
    (twoYards.enabled 0 = true ∧ twoYards.enabled 2 = false) ∧
      (crossValidate twoYards).slotKind 2 ≠ .perimeter ∧
      twoYards.passage 0 1 = true ∧ field.slotKind 2 = .station := by decide +kernel

/-- A swap timeout of 0, and an end of SWAP_DONE's flag that is clear and one that is set. -/
theorem witness_BanksAreSwapped_flag :
    field.swapTimeout = 0 ∧ field.flag .swapDone = none ∧
      (setFlag .swapDone [0#8] field).flag .swapDone ≠ none := by decide +kernel

theorem witness_RequestsThatReadChangeNothing :
    let p (l : List Nat) : List Byte := (head l field).headParams
    let q : Req := ⟨false, 9#8, 3, bytes [18]⟩
    (headIs 0 (arrive 0 (head [0] field)) = true ∧ headIs 1 (arrive 0 (head [1] field)) = true ∧
        headIs 2 (arrive 0 (head [2] field)) = true ∧
        headIs 15 (arrive 0 (head [15] field)) = true) ∧
      (p [0, 8] ≠ [] ∧ byteAt (p [0, 8]) 0 = 8 ∧ p [0] = [] ∧ 8 < byteAt (p [0, 9]) 0) ∧
      (nodeOfNat? (byteAt (p [0, 4, 4]) 1) = some 3 ∧ field.dlc.recs.get 3 = some record) ∧
      (nodeOfNat? (byteAt (p [0, 4, 5]) 1) = some 4 ∧ field.dlc.recs.get 4 = none ∧
        nodeOfNat? (byteAt (p [0, 4, 7]) 1) = none) ∧
      (2 ≤ (p [1, 3, 1]).length ∧ byteAt (p [1, 3, 1]) 0 = (3 : Slot).val ∧
        byteAt (p [1, 3, 1]) 1 = Coil.num .right ∧
        ((judged.wdc.lanes.get 3).get .right).verdict = some ⟨.lockedIn, 100, 3, 3, 0, 255⟩) ∧
      (3 < byteAt (p [1, 4, 0]) 0 ∧ 1 < byteAt (p [1, 0, 2]) 1) ∧
      ((field.counters (byteAt (p [2, 9]) 0)).isSome = true ∧ byteAt (p [2, 1]) 0 = 1 ∧
        9 < byteAt (p [2, 10]) 0) ∧
      ((head [18] field).mrh.queue = q :: [] ∧ q.pass = false ∧ 17 < byteAt q.payload 0 ∧
        field.mrh.headDone = false ∧ field.mrh.fullResetDue = false) := by decide +kernel

/-- Every section of READ_STATUS, every block of READ_COUNTERS, a lane without a verdict, and a request
without a code. -/
theorem witness_RequestsThatReadChangeNothing_sections :
    (∀ k ∈ List.range 9, byteAt (head [0, k] field).headParams 0 = k) ∧
      (∀ k ∈ [0, 2, 3, 4, 5, 6, 7, 8, 9],
        (field.counters (byteAt (head [2, k] field).headParams 0)).isSome = true) ∧
      ((field.wdc.lanes.get 3).get .right).verdict = none ∧
      (head [] field).mrh.queue = [⟨false, 9#8, 3, []⟩] := by decide +kernel

/-- A lane with a verdict and one without, with an open window, and the record of each kind of test. -/
theorem witness_RequestsThatReadChangeNothing_records :
    (judged.laneData 3 .right).length = 17 ∧ (judged.laneData 3 .right).take 5 = bytes [1, 0, 1, 1, 0] ∧
      (field.laneData 0 .left).take 5 = bytes [1, 0, 0, 0, 255] ∧
      ({ field with wdc := { field.wdc with lanes := field.wdc.lanes.map fun l => l.set .left (lane 2 1) } }
        : State).laneData 0 .left ≠ field.laneData 0 .left ∧
      field.testData = bytes [0, 0] ∧ pattern.testData.length = 30 ∧
      pattern.testData.take 10 = bytes [3, 1, 0, 1, 1, 0, 100, 0, 0, 1] := by decide +kernel

theorem witness_TestIsStarted :
    let p (l : List Nat) : List Byte := (head (14 :: l) field).headParams
    headIs 14 (arrive 0 (head [14, 1, 60] field)) = true ∧
      pattern.testRunning = true ∧ field.testRunning = false ∧
      (byteAt (p [0]) 0 = 0 ∧ 3 < byteAt (p [4]) 0) ∧
      (byteAt (p [1, 60]) 1 ≤ 60 ∧ 60 < byteAt (p [1, 61]) 1 ∧ byteAt (p [1, 0]) 1 = 0) ∧
      ((∀ n, field.mgt.posted.get n = 0) ∧ field.rse.ctx1 = none ∧ field.rse.ctx2 = none ∧
        field.rse.ctx3 = none ∧ field.dkc.dock = .undocked) ∧
      (docking .contact).dkc.dock = .contact ∧
      (3 ≤ (p [2, 1, 255]).length ∧ 1 ≤ byteAt (p [2, 1, 255]) 2 ∧
        nodeOfNat? (byteAt (p [2, 1, 255]) 1) = some 0 ∧ field.nodeKind 0 ≠ .noNode ∧
        field.nodeKind 5 = .noNode ∧ field.dlc.queue = [] ∧ (queued 1 0).dlc.queue ≠ []) ∧
      (9 ≤ (p [3, 3, 1, 255, 7, 255, 3, 255, 1]).length ∧
        byteAt (p [3, 3, 1, 255, 7, 255, 3, 255, 1]) 1 = (3 : Slot).val ∧
        byteAt (p [3, 3, 1, 255, 7, 255, 3, 255, 1]) 2 = Coil.num .right ∧
        byteAt (p [3, 3, 1, 255, 7, 255, 3, 255, 1]) 3 = 255 ∧
        wordAt (p [3, 3, 1, 255, 7, 255, 3, 255, 1]) 4 = 2047 ∧
        wordAt (p [3, 3, 1, 255, 7, 255, 3, 255, 1]) 6 = 1023 ∧
        1 ≤ byteAt (p [3, 3, 1, 255, 7, 255, 3, 255, 1]) 8) ∧
      (field.enabled 3 = true ∧ State.reset.enabled 3 = false) := by decide +kernel

/-- The parameters of the D-link echo and of the wire pattern test one beyond each bound, and a start
that finds the ring full. -/
theorem witness_TestIsStarted_bounds :
    let p (l : List Nat) : List Byte := (head (14 :: l) field).headParams
    let busy := onWdcOf (fun x => { x with inCorr := some burst0 }) (ringOf 4)
    ((p [2, 1]).length < 3 ∧ byteAt (p [2, 0, 1]) 1 = 0 ∧ 6 < byteAt (p [2, 7, 1]) 1 ∧
        byteAt (p [2, 1, 0]) 2 = 0) ∧
      ((p [3, 0, 0, 1, 0, 0, 0, 0]).length < 9 ∧ 3 < byteAt (p [3, 4]) 1 ∧
        1 < byteAt (p [3, 0, 2]) 2 ∧
        (byteAt (p [3, 0, 0, 2]) 3 ≠ 1 ∧ byteAt (p [3, 0, 0, 2]) 3 ≠ 255) ∧
        2047 < wordAt (p [3, 0, 0, 1, 8, 0]) 4 ∧ 1023 < wordAt (p [3, 0, 0, 1, 0, 0, 4, 0]) 6 ∧
        byteAt (p [3, 0, 0, 1, 0, 0, 0, 0, 0]) 8 = 0) ∧
      ((coilIntoTest .right (ringOf 4)).wdc.ring.length < 4 ∧
        4 ≤ (coilIntoTest .right busy).wdc.ring.length) := by
  decide +kernel

/-- A coil that enters test: its burst in correlation and its ring go and the other coil's burst is taken,
its lanes restart and its expectation stays. -/
theorem witness_TestIsStarted_coil :
    let other : RingEntry := { burst0 with coil := .right }
    let s : State := onWdcOf (fun x => { x with
      ring := [burst0, other]
      inCorr := some { burst0 with seq := 4 }
      lanes := x.lanes.map fun l => l.set .left (lane 2 1)
      coils := x.coils.set .left { x.coils.get .left with expect := some 5, accepted := 2 } }) field
    let w := coilIntoTest .left { s with zcu := { s.zcu with frozen := true } }
    (w.wdc.ring = [] ∧ w.wdc.inCorr = some other ∧ (w.wdc.lanes.get 0).get .left = Lane.fresh ∧
        (w.wdc.coils.get .left).expect = some 5 ∧ (w.wdc.coils.get .left).accepted = 2) ∧
      (field.enabled 3 = true ∧ 0 < field.lossLimit 3) := by decide +kernel

theorem witness_TestsRun :
    let begin' : State := { echoing 0 with
      lbu := { (echoing 0).lbu with begun := false, beginDue := true } }
    let link : State := { field with
      lbu := { field.lbu with
        kind := .dLinkEcho, status := .running, params := .dLinkEcho 0 2, left := 2 } }
    (begin'.lbu.status = .running ∧ begin'.lbu.kind = .nLinkEcho ∧ begin'.lbu.beginDue = true) ∧
      ((echoing 0).lbu.begun = true ∧ (echoing 0).lbu.params = .nLinkEcho 1 ∧
        ms (1000 * 1) ≤ (echoing 0).lbu.echoTime) ∧
      (link.lbu.kind = .dLinkEcho ∧ link.lbu.begun = false ∧ link.lbu.params = .dLinkEcho 0 2 ∧
        link.dlc.tx = none) ∧
      (pattern.lbu.status = .running ∧ pattern.lbu.params = .wirePattern 0 .right false 100 0 1 ∧
        0 < pattern.lbu.left ∧ (∀ e ∈ pattern.wdc.ring, e.coil ≠ .right) ∧
        pattern.wdc.ring.length < 4) := by decide +kernel

/-- The end of the correlation of a synthesized burst, the last one and not; and the states that end a
freeze with a PAUSED and with a HELD outside timer. -/
theorem witness_TestsRun_ends :
    let synth : RingEntry := { burst0 with coil := .right }
    let s (left : Nat) : State :=
      { pattern with
        lbu := { pattern.lbu with left := left }
        wdc := { pattern.wdc with inCorr := some synth } }
    let held : State := { outside with
      zcu := { outside.zcu with
        frozen := true
        loops := loopsOf .outside .disabled
        mirror := PerSlot.all (PerCoil.all ⟨.outside, 100⟩)
        outTimer := ⟨.held, 1000⟩ } }
    ((s 1).wdc.inCorr = some synth ∧ synth.coil = .right ∧ (s 0).lbu.left = 0 ∧
        (∀ x ∈ (s 0).wdc.ring, x.coil ≠ .right)) ∧
      ((s 0).enabled 0 = true ∧
        ((s 0).stepLane 0 synth (((s 0).wdc.lanes.get 0).get .right)).2 = none) ∧
      (zoneRecompute held).rse.ctx3.isSome = true ∧
      (let e : State := { field with
        lbu := { field.lbu with
          kind := .dLinkEcho, status := .running, begun := true, params := .dLinkEcho 0 2, left := 0 } }
       e.lbu.params = .dLinkEcho 0 2 ∧ e.lbu.left = 0) := by decide +kernel

theorem witness_ChannelIsReset :
    let p (l : List Nat) : List Byte := (head (16 :: l) field).headParams
    let settled : State := { field with spu := { field.spu with settle := none } }
    headIs 16 (arrive 0 (head [16, 0] field)) = true ∧ p [] = [] ∧ 2 < byteAt (p [3]) 0 ∧
      (p [0] ≠ [] ∧ byteAt (p [0]) 0 = 0 ∧ (arrive 0 pattern).wireTest ≠ none) ∧
      (byteAt (p [1]) 0 = 1 ∧ field.nodeKind 0 ≠ .noNode ∧ field.nodeKind 5 = .noNode ∧
        field.dEchoRunning = false ∧ field.dlc.read = none) ∧
      (byteAt (p [2]) 0 = 2 ∧ (arrive 0 settled).spu.settle = none) := by decide +kernel

/-- A WIRE reset with a guide and a station and without, of a part whose gate sees the active zone; and the
counters of a coil and of the zone context, which return to 0. -/
theorem witness_ChannelIsReset_wire :
    let s : State := { driving with
      zcu := { driving.zcu with cnt := ⟨1, 2, 3, 4, 5, 6, 7, 8⟩ }
      wdc := { driving.wdc with coils := PerCoil.all { CoilUnit.fresh with missing := 9 } } }
    let t := wireReset s
    (field.guideSlot = some 1 ∧ field.stationSlot = some 2 ∧ State.reset.guideSlot = none ∧
        State.reset.stationSlot = none) ∧
      (s.mgt.zone = s.zcu.active ∧ s.mgt.zone = some 0 ∧ t.mgt.zone = none ∧ t.mgt.prox = 0) ∧
      (t.wdc.coils = PerCoil.all CoilUnit.fresh ∧ t.zcu.cnt = ⟨0, 0, 0, 0, 0, 0, 0, 0⟩) ∧
      (wireReset field).dkc.guide = ⟨.pending, .pending, .pending⟩ := by decide +kernel

/-- A DRIVE reset that aborts a D-link echo while a read is pending, of an idle transmitter: TEST_DONE is
being sent and the NODE_TIMEOUT waits, and the zeros are in the queue. -/
theorem witness_ChannelIsReset_drive :
    let s : State := { field with
      lbu := { field.lbu with kind := .dLinkEcho, status := .running, begun := true }
      dlc := { field.dlc with read := some ⟨0, [1#8], false, false⟩ }
      mrh := { field.mrh with outstanding := some (9#8, 3) } }
    let t := driveReset s
    (s.dEchoRunning = true ∧ s.dlc.read ≠ none) ∧
      (t.flag .testDone = some [2#8, 3#8] ∧ t.nli.sending.map (fun o => o.frame.kind) = some kindEvent ∧
        t.nli.answers.map (fun o => o.frame.payload) = [bytes [8]]) ∧
      t.dlc.queue.map (fun e => e.node) = [0, 1, 2] := by decide +kernel

/-- A DRIVE reset of a mower that drives: the zeros of every wheel and blade node are in the queue, the posts of
the evaluation stand behind them, recorded and counted, and the first joins the tail when its node's zero has
been answered. -/
theorem witness_ChannelIsReset_posts :
    let s : State := evaluate { driving with
      mem := [(50, 1#8), (51, 2#8), (52, 3#8), (53, 4#8)] ++ driving.mem }
    let t := driveReset s
    let zeros : List QEntry := [⟨1, .wheel 0, .nav, false, false⟩, ⟨2, .blade 0, .nav, false, false⟩]
    (t.dlc.queue = ⟨0, .wheel 0, .nav, true, false⟩ :: zeros ∧
        t.dlc.behind = [speed100 .nav, ⟨1, .wheel 100, .nav, false, false⟩]) ∧
      (t.mgt.posted = ⟨100, 100, 0, 0, 0, 0⟩ ∧ t.mgt.cnt.posts = s.mgt.cnt.posts + 2) ∧
      (t.dlc.answered.queue = zeros ++ [speed100 .nav] ∧
        t.dlc.answered.behind = [⟨1, .wheel 100, .nav, false, false⟩]) := by decide +kernel

/-- A DRIVE reset of a mower that drives, with a swap PENDING: the zeros make the safe point, so the swap is taken
before the evaluation, the blade that it takes away loses its zero, and the posts under the new bank stand behind
the zeros that stay; with a context held the swap waits (R150, R154). -/
theorem witness_ChannelIsReset_swap :
    let drives : State := evaluate { driving with
      mem := [(50, 1#8), (51, 2#8), (52, 3#8), (53, 4#8)] ++ driving.mem ++
        [(1588, 1#8), (1606, 1#8), (1634, 1#8), (1635, 2#8), (2032, 100#8)] }
    let s : State := { drives with
      tbs := { drives.tbs with
        swapPending := true, swapT := ⟨.running, 5, 9⟩, staged := PerSix.all ⟨true, none, 0⟩ } }
    let held : State := { s with rse := { s.rse with ctx1 := some ctx } }
    let t := driveReset s
    let zeros : List QEntry := [⟨0, .wheel 0, .nav, true, false⟩, ⟨1, .wheel 0, .nav, false, false⟩]
    (s.resetSwaps ∧ ¬ s.swapMayGo ∧ ¬ held.resetSwaps ∧ held.tbs.swapPending = true ∧
        (driveStilled s).swapDue = true ∧ (driveReset held).tbs.swapPending = true) ∧
      (t.tbs.cnt.swapsTaken = 1 ∧ t.tbs.activeHigh = true ∧ t.flag .swapDone = some [0#8]) ∧
      (t.dlc.queue = zeros ∧ t.dlc.cnt.discards = 1 ∧
        t.dlc.behind = [speed100 .nav, ⟨1, .wheel 100, .nav, false, false⟩]) ∧
      t.mgt.posted = ⟨100, 100, 0, 0, 0, 0⟩ := by
  unfold State.resetSwaps State.swapMayGo
  decide +kernel

/-- A set-point that finds the zero of its node in the queue, one that finds another behind that zero, and one
that finds neither. -/
theorem witness_EvaluationFollowsTheZeros :
    let zero : State := linked fun d => { d with queue := [⟨0, .wheel 0, .nav, true, false⟩] }
    let once := postBehind 0 (.wheel 100) .nav zero
    (once.dlc.behind = [speed100 .nav] ∧ once.dlc.queue = zero.dlc.queue) ∧
      ((postBehind 0 (.wheel 200) .nav once).dlc.behind = [⟨0, .wheel 200, .nav, false, false⟩] ∧
        (postBehind 0 (.wheel 200) .nav once).dlc.cnt.coalesce = 1) ∧
      (postBehind 1 (.wheel 100) .nav zero).dlc.queue =
        zero.dlc.queue ++ [⟨1, .wheel 100, .nav, false, false⟩] := by decide +kernel

/-- A WIRE reset that raises TILT_OVER: the active zone's slope max of 45 degrees goes, and the pitch
is above the default. -/
theorem witness_ChannelIsReset_tilts :
    let s : State := { tilted 201 false ⟨.stopped, 0⟩ with
      zcu := { field.zcu with active := some 0 } }
    s.zcu.active ≠ none ∧ s.defaultSlopeMax < 201 ∧ s.tiltPersistence = 0 ∧
      s.spu.tilt.st ≠ .running ∧ s.spu.tilt.st ≠ .spent ∧
      (wireReset s).rse.ctx3.isSome = true ∧ field.spu.settle ≠ none ∧ field.wireTest = none := by
  decide +kernel

/-! ### The properties that the steps keep hold of states other than the reset state -/

theorem witness_MemoryStaysCanonical : State.memLegal field := by
  unfold State.memLegal
  decide +kernel

theorem witness_RingStaysLegal : State.ringLegal (ringOf 4) := by
  unfold State.ringLegal RingEntry.same
  decide +kernel

theorem witness_ActiveZoneStaysLegal :
    State.zoneLegal { outside with
      zcu := { outside.zcu with loops := loopsOf .outside .inside, prox := 300 }
      mgt := { outside.mgt with zone := some 0, prox := 300 } } := by
  unfold State.zoneLegal
  decide +kernel

/-- A hazard at rest with a zero set-point waiting. -/
def resting : State :=
  { field with
    rse := { field.rse with ctx3 := some hazard, stopHazard := true }
    mgt := { field.mgt with source := .resp3 }
    dlc := { field.dlc with
      queue := [⟨0, .wheel 0, .resp3, false, false⟩], behind := [⟨0, .wheel 0, .nav, false, false⟩] } }

theorem witness_HazardStaysStill : resting.responsesLegal ∧ resting.hazardStill := by
  refine ⟨⟨by decide +kernel, by decide +kernel, ?_, ?_, ?_⟩,
    by unfold State.hazardStill State.posts; decide +kernel⟩
  · intro c h
    cases h
    exact ⟨rfl, rfl, rfl, rfl, rfl⟩
  · intro c h
    cases h
  · intro c h
    cases h

/-- The gate drives at its limits, and the values are posted. -/
def posting : State :=
  { field with
    mgt := { field.mgt with
      feff := 400, reff := 200, outL := 400, outR := -200, outBlade := 3000
      posted := ⟨400, -200, 3000, 0, 0, 0⟩ } }

theorem witness_OutputStaysWithinLimits : posting.outputLegal ∧ posting.postsLegal := by
  refine ⟨by unfold State.outputLegal; decide +kernel, ⟨?_, by decide +kernel⟩⟩
  intro _ n v h
  have key : ∀ n, (posting.dueAt n).all (fun v => posting.mgt.posted.get n == v.speed) = true := by
    decide +kernel
  have hn := key n
  rw [h] at hn
  exact eq_of_beq hn

theorem witness_DriveQueueStaysLegal :
    State.driveQueueLegal (linked fun d =>
      { d with
        queue := [⟨0, .wheel 5, .nav, true, false⟩, ⟨1, .wheel 5, .nav, false, false⟩,
            ⟨3, .relay true, .dock, false, false⟩] ++
          List.replicate 10 ⟨0, .param [], .pass, false, false⟩
        behind := [⟨1, .wheel 7, .nav, false, false⟩] }) := by
  unfold State.driveQueueLegal
  decide +kernel

theorem witness_LinkStaysLegal :
    State.linkLegal { echoing 4 with
      mrh := crowded.mrh
      nli := { (echoing 4).nli with
        events := [(.dockLost, []), (.hazard, [])], eventTag := 255, telemTag := 255 } } := by
  unfold State.linkLegal
  decide +kernel

/-- A state of each kind steps on. -/
theorem witness_StepsGoOn :
    (∃ t, step { field with pending := [.settleEnd 0] } = .next t) ∧
      ∃ t, step { resting with pending := [.telemetryTimerExpiry 100000] } = .next t :=
  ⟨⟨_, rfl⟩, ⟨_, rfl⟩⟩

end Sys2Proof.Tests
end

section
/-! Wire decoding: the judgement of a burst (R1 to R5), the step of a window (R12), and the stop of a
lane's window (R13, R14). -/

namespace Sys2Proof.Machine

/-! ### The judgement of a burst -/

/-- A part that RESET_N does not hold takes a burst as it meets it. -/
theorem exec_burstArrival {dt : Nat} {coil seq : Byte} {samples : List (BitVec 16)} {s : State}
    (h : s.resetHeld = false) :
    exec (.burstArrival dt coil seq samples) s = .next (burst coil seq samples (arrive dt s)) :=
  onEvent_of_running h

/-- R3: a burst is a duplicate of the expectation or of a burst of its coil that waits. -/
theorem duplicateBurst_iff (s : State) (c : Coil) (seq : Nat) :
    s.duplicateBurst c seq = true ↔
      (s.wdc.coils.get c).expect = some seq ∨ ∃ e ∈ s.wdc.ring, e.coil = c ∧ e.seq = seq := by
  simp [State.duplicateBurst]

section
variable {coil seq : Byte} {samples : List (BitVec 16)} {s : State} {c : Coil}

theorem burst_of_no_coil (hc : Coil.ofNat? coil.toNat = none) :
    burst coil seq samples s =
      { s with wdc := { s.wdc with malformed := bump s.wdc.malformed } } := by
  rw [burst, hc]
  rfl

theorem burst_of_underTest (hc : Coil.ofNat? coil.toNat = some c) (ht : s.underTest c = true) :
    burst coil seq samples s =
      onCoil c (fun u => { u with testDropped := bump u.testDropped }) s := by
  simp [burst, hc, ht]

/-- A burst of a coil that is not under test comes to the tests that follow (R1). -/
theorem burst_of_not_underTest (hc : Coil.ofNat? coil.toNat = some c)
    (ht : s.underTest c = false) :
    burst coil seq samples s = judgeBurst c seq.toNat (samples.map sample12) s := by
  simp [burst, hc, ht]

end

section
variable {c : Coil} {seq : Nat} {samples : List Int} {s : State}

theorem judgeBurst_of_wrong_length (hl : samples.length ≠ s.codeLength) :
    judgeBurst c seq samples s =
      { s with wdc := { s.wdc with malformed := bump s.wdc.malformed } } := by
  rw [judgeBurst, if_pos hl]
  rfl

theorem judgeBurst_of_duplicate (hl : samples.length = s.codeLength)
    (hd : s.duplicateBurst c seq = true) :
    judgeBurst c seq samples s = onCoil c (fun u => { u with duplicate := bump u.duplicate }) s := by
  simp [judgeBurst, hl, hd]

theorem judgeBurst_of_full_ring (hl : samples.length = s.codeLength)
    (hd : s.duplicateBurst c seq = false) (hr : 4 ≤ s.wdc.ring.length) :
    judgeBurst c seq samples s =
      setFlag .sampleOverrun [u8 (Coil.num c)]
        (onCoil c (fun u => { u with overrun := bump u.overrun }) s) := by
  simp [judgeBurst, hl, hd, hr]

theorem judgeBurst_of_passed (hl : samples.length = s.codeLength)
    (hd : s.duplicateBurst c seq = false) (hr : s.wdc.ring.length < 4) :
    judgeBurst c seq samples s = acceptBurst c seq samples s := by
  simp [judgeBurst, hl, hd, hr]

end

/-- Settles O7: the tests of R1 in their order, each drop by the equation of its own test. -/
theorem droppedBurstsAreCounted : Obligations.DroppedBurstsAreCounted := by
  intro dt coil seq samples s held
  rw [exec_burstArrival held]
  dsimp only
  refine ⟨fun hc => by rw [burst_of_no_coil hc], fun c hc => ?_⟩
  refine ⟨?underTest, ?malformed, ?duplicate, ?overrun⟩
  case underTest =>
    intro ht
    rw [burst_of_underTest hc ht]
  case malformed =>
    intro ht hl
    rw [burst_of_not_underTest hc ht, judgeBurst_of_wrong_length (by rwa [List.length_map])]
  case duplicate =>
    intro ht hl hd
    rw [burst_of_not_underTest hc ht,
      judgeBurst_of_duplicate (by rwa [List.length_map]) ((duplicateBurst_iff _ _ _).mpr hd)]
  case overrun =>
    intro ht hl hd hr
    rw [← duplicateBurst_iff, Bool.not_eq_true] at hd
    rw [burst_of_not_underTest hc ht,
      judgeBurst_of_full_ring (by rwa [List.length_map]) hd hr]

/-! ### The acceptance of a burst -/

/-- A burst that neither repeats nor directly follows the expectation lacks 1 to 254 bursts (R5): 0 would
make it the next one, and 255 the one before again. -/
theorem gapMark_range {e seq m : Nat} (he : e < 256) (hs : seq < 256) (hne : e ≠ seq)
    (h : gapMark (some e) seq = some m) : 1 ≤ m ∧ m ≤ 254 := by
  simp only [gapMark, Option.ite_none_left_eq_some, Option.some.injEq] at h
  omega

/-- Settles O8: no test drops the burst, so it is accepted, and `acceptBurst` is the statement's
own update; the expectation is not the burst's number, which bounds the gap mark. -/
theorem acceptedBurstJoinsTheRing : Obligations.AcceptedBurstJoinsTheRing := by
  intro dt coil seq samples s c held u x gap hc ht hl hx hring hr
  have hd : u.duplicateBurst c seq.toNat = false := by
    rw [← Bool.not_eq_true, duplicateBurst_iff]
    rintro (h | ⟨e, he, h⟩)
    · exact hx h
    · exact hring e he h
  refine ⟨?_, fun e m hexp he hm => ?_⟩
  · rw [exec_burstArrival held, burst_of_not_underTest hc ht,
      judgeBurst_of_passed (by rwa [List.length_map]) hd hr]
    rfl
  · have hne : e ≠ seq.toNat := fun h => hx (by rw [hexp, h])
    have hgap : gapMark (some e) seq.toNat = some m := by rw [← hexp]; exact hm
    exact gapMark_range he seq.isLt hne hgap

/-! ### The step of a window -/

/-- R12, step 3. -/
theorem periodPasses_iff (tPass : Nat) (v acc : Int) :
    periodPasses tPass v acc = true ↔ v ≠ 0 ∧ v.sign = acc.sign ∧ tPass ≤ v.natAbs := by
  simp [periodPasses, and_assoc]

/-- R12, step 4. -/
theorem periodMismatch_iff (k : Nat) (v acc : Int) :
    periodMismatch k v acc = true ↔ 2 ≤ k ∧ v ≠ 0 ∧ v.sign ≠ acc.sign := by
  simp [periodMismatch, and_assoc]

/-- Settles O11: the sums, the mean and the strength are R12's own, and the passes and mismatches turn on
the two tests of a period. -/
theorem windowIsStepped : Obligations.WindowIsStepped := by
  intro s code w v weight x
  refine ⟨rfl, rfl, rfl, ?passes, ?mismatches, rfl, rfl⟩
  case passes => exact if_congr (periodPasses_iff _ _ _) rfl rfl
  case mismatches => exact if_congr (periodMismatch_iff _ _ _) rfl rfl

/-! ### The bounds of a window -/

/-- A window whose last period is counted and not judged yet: it is at its first period with no mismatch,
or has fewer mismatches than judged periods (R11, R12). -/
def Window.Unjudged (w : Window) : Prop :=
  (w.k = 1 ∧ w.mismatches = 0) ∨ w.mismatches + 1 < w.k

@[simp] theorem stepWindow_k (s : State) (code : Nat) (w : Window) (v : Int) :
    (s.stepWindow code w v).k = w.k := rfl

/-- The first period of a window is no mismatch, and a later one adds one at most (R12, step 4). -/
theorem stepWindow_mismatches_lt (s : State) (code : Nat) {w : Window} (v : Int) (h : w.Unjudged) :
    (s.stepWindow code w v).mismatches < w.k := by
  have hstep : (s.stepWindow code w v).mismatches =
      if periodMismatch w.k v w.acc then w.mismatches + 1 else w.mismatches := rfl
  rw [hstep]
  unfold Window.Unjudged at h
  split
  · next hmis =>
    obtain ⟨h2, -, -⟩ := (periodMismatch_iff _ _ _).mp hmis
    omega
  · omega

/-- The window a legal lane steps is new or the open one with its period counted (R11). -/
theorem opened_bounds {s : State} {code : Nat} {l : Lane} (hmax : 1 ≤ s.kMax code)
    (hl : s.laneLegal code l) : l.opened.k ≤ s.kMax code ∧ l.opened.Unjudged := by
  unfold Lane.opened
  split
  · next w hw =>
    obtain ⟨hk, hm⟩ := hl w hw
    exact ⟨hk, .inr (Nat.succ_lt_succ hm)⟩
  · exact ⟨hmax, .inl ⟨rfl, rfl⟩⟩

theorem strength_le (w : Window) : w.strength ≤ 2047 := Nat.min_le_right _ _

/-! ### The stop criteria -/

section
variable {s : State} {code : Nat} {w : Window}

theorem qualifies_iff : s.qualifies code w = true ↔ s.lockQualifies code w := by
  simp [State.qualifies, State.lockQualifies]

/-- Criteria 1 and 2 of R13. -/
theorem locks_iff : s.locks code w = true ↔ s.lockStop code w := by
  simp [State.locks, State.lockStop, qualifies_iff, and_assoc]

/-- A window that meets no criterion stays open (R13). -/
theorem stopKind_of_open (hlock : ¬ s.lockStop code w) (hk : w.k ≠ s.kMax code) :
    s.stopKind code w = none := by
  simp [State.stopKind, locks_iff, hlock, hk]

/-- A window that meets a criterion stops (R13). -/
theorem stopKind_of_stop (h : s.lockStop code w ∨ w.k = s.kMax code) :
    ∃ kind, s.stopKind code w = some kind := by
  rw [← locks_iff] at h
  unfold State.stopKind
  split
  · exact ⟨_, rfl⟩
  · next hlock => exact ⟨_, if_pos (h.resolve_left hlock)⟩

/-- A mean that qualifies and is not above 0 is below 0. -/
theorem mean_neg_of_lockQualifies (h : s.lockQualifies code w) (hpos : ¬ 0 < w.mean) : w.mean < 0 :=
  lt_of_le_of_ne (not_lt.mp hpos) h.1

/-- A window that criterion 1 or 2 stops is LOCKED on the side of its mean (R14). -/
theorem kindAtStop_of_lockStop (hlock : s.lockStop code w) :
    s.kindAtStop code w (if 0 < w.mean then .lockedIn else .lockedOut) := by
  have ⟨_, hq, _⟩ := hlock
  split
  · next hpos => exact ⟨hlock, hpos⟩
  · next hpos => exact ⟨hlock, mean_neg_of_lockQualifies hq hpos⟩

/-- A window that K_max alone stops is WEAK on the side of its mean where it qualifies, and ABSENT where it
does not (R14). -/
theorem kindAtStop_of_not_lockStop (hlock : ¬ s.lockStop code w) :
    s.kindAtStop code w
      (if s.qualifies code w then (if 0 < w.mean then .weakIn else .weakOut) else .absent) := by
  split
  · next hqual =>
    have hq : s.lockQualifies code w := qualifies_iff.mp hqual
    split
    · next hpos => exact ⟨hlock, hq, hpos⟩
    · next hpos => exact ⟨hlock, hq, mean_neg_of_lockQualifies hq hpos⟩
  · next hqual => exact ⟨hlock, fun hq => hqual (qualifies_iff.mpr hq)⟩

/-- The kind of a stop is the one the table of R14 gives. -/
theorem kindAtStop_of_stopKind {kind : VerdictKind} (h : s.stopKind code w = some kind) :
    s.kindAtStop code w kind := by
  unfold State.stopKind at h
  split at h
  · next hlock =>
    obtain rfl := Option.some.inj h
    exact kindAtStop_of_lockStop (locks_iff.mp hlock)
  · next hlock =>
    split at h
    · obtain rfl := Option.some.inj h
      exact kindAtStop_of_not_lockStop fun hl => hlock (locks_iff.mpr hl)
    · cases h

/-- A LOCKED verdict comes of criterion 1 or 2 (R14). -/
theorem lockStop_of_locked {kind : VerdictKind} (h : s.kindAtStop code w kind)
    (hkind : kind = .lockedIn ∨ kind = .lockedOut) : s.lockStop code w := by
  obtain rfl | rfl := hkind <;> exact h.1

/-- A verdict of any other kind does not (R14). -/
theorem not_lockStop_of_not_locked {kind : VerdictKind} (h : s.kindAtStop code w kind)
    (hin : kind ≠ .lockedIn) (hout : kind ≠ .lockedOut) : ¬ s.lockStop code w := by
  cases kind with
  | lockedIn => exact absurd rfl hin
  | lockedOut => exact absurd rfl hout
  | weakIn => exact h.1
  | weakOut => exact h.1
  | absent => exact h.1

end

/-! ### The step of a lane -/

/-- The window of a lane, stepped with a burst in the code of the slot. -/
def State.steppedWindow (s : State) (i : Slot) (e : RingEntry) (l : Lane) : Window :=
  s.stepWindow (s.slotCode i) l.opened (s.periodValue (s.slotCode i) e.samples)

section
variable {s : State} {i : Slot} {e : RingEntry} {l : Lane}

theorem stepLane_of_open (h : s.stopKind (s.slotCode i) (s.steppedWindow i e l) = none) :
    s.stepLane i e l = ({ l with window := some (s.steppedWindow i e l) }, none) := by
  unfold State.steppedWindow at h
  simp only [State.stepLane, h]
  rfl

theorem stepLane_of_stop {kind : VerdictKind}
    (h : s.stopKind (s.slotCode i) (s.steppedWindow i e l) = some kind) :
    s.stepLane i e l =
      (l.published ((s.steppedWindow i e l).verdict kind e.seq),
        some ((s.steppedWindow i e l).verdict kind e.seq)) := by
  unfold State.steppedWindow at h
  simp only [State.stepLane, h]
  rfl

end

/-- Settles O12: a lane that meets no criterion keeps a window below K_max, and the verdict of one that
stops is the record of the window with the kind of its criterion. -/
theorem laneStopsByTheCriteria : Obligations.LaneStopsByTheCriteria := by
  intro s i e l code w hmax _ hl
  obtain ⟨hopen, hunjudged⟩ := opened_bounds hmax hl
  have hk : w.k ≤ s.kMax code := hopen
  have hm : w.mismatches < w.k := stepWindow_mismatches_lt s code _ hunjudged
  refine ⟨hk, hm, fun hlock hne => ⟨?_, ?_⟩, fun hstop => ?_⟩
  · exact stepLane_of_open (stopKind_of_open hlock hne)
  · rintro _ ⟨⟩
    exact ⟨lt_of_le_of_ne hk hne, hm⟩
  · obtain ⟨kind, hkind⟩ := stopKind_of_stop hstop
    have htable : s.kindAtStop code w kind := kindAtStop_of_stopKind hkind
    refine ⟨w.verdict kind e.seq, stepLane_of_stop hkind, htable, rfl, strength_le w, rfl, rfl, rfl,
      Nat.le_sub_one_of_lt hm, rfl, fun hlocked => ?_, fun hin hout => ?_⟩
    · exact (lockStop_of_locked htable hlocked).1
    · exact hstop.resolve_left (not_lockStop_of_not_locked htable hin hout)

end Sys2Proof.Machine
end

section
/-! Sense pins: what the Sense Pin Unit hands on where no condition changed (R54, R55, R57), the edges of a
counting and of a pulse pin (R48, R49), the end of a count window (R48) and the publication (R51). -/

namespace Sys2Proof.Machine

/-! ### A hand-off that changes nothing -/

theorem PerPin.any_toList {α : Type} (f : α → Bool) (p : PerPin α) :
    p.toList.any f = true ↔ ∃ i, f (p.get i) = true := by
  have hlist : p.toList = pins.map p.get := rfl
  simp [hlist]

/-- Whether any pin passes a test stays where the written one answers it as before. -/
theorem PerPin.any_set {α : Type} (f : α → Bool) (p : PerPin α) (i : Pin) {v : α}
    (h : f v = f (p.get i)) : (p.set i v).toList.any f = p.toList.any f := by
  rw [Bool.eq_iff_iff, PerPin.any_toList, PerPin.any_toList]
  refine exists_congr fun j => ?_
  rw [PerPin.get_set_ite]
  split
  · next hj => rw [hj, h]
  · rfl

/-- An event at the Dock Controller is its effect and what follows it (R126). -/
theorem dkcEvent_eq_dockHandOn (f : State → State) (s : State) : dkcEvent f s = dockHandOn s (f s) := by
  simp [dkcEvent, dockHandOn, Dkc.handsOn, or_assoc]

/-- The Dock Controller's turn at a change of the rain condition leaves the Sense Pin Unit as it was. -/
@[simp] theorem dockHandOn_takeRain_spu (rain : Bool) (s : State) :
    (dockHandOn s (takeRain rain s)).spu = s.spu := by
  rw [← dkcEvent_eq_dockHandOn]
  simp

/-- The rain condition is handed on where the Dock Controller has not taken it yet (R55). -/
def rainHandOn (s : State) : State :=
  if s.rainCond = s.dkc.rain then s else dockHandOn s (takeRain s.rainCond s)

@[simp] theorem rainHandOn_spu (s : State) : (rainHandOn s).spu = s.spu := by
  unfold rainHandOn
  split <;> simp

/-- Where neither the lift condition nor an axis changed, the rain condition alone is handed on
(R54, R55, R57). -/
theorem spuHandOff_of_quiet {u v : State} (hlift : v.liftCond = u.liftCond)
    (hpitch : v.spu.pitch = u.spu.pitch) (hroll : v.spu.roll = u.spu.roll) :
    spuHandOff u v = rainHandOn v := by
  have hslope : v.slope = u.slope := by simp [State.slope, hpitch, hroll]
  have hband : v.slopeBand = u.slopeBand := by
    simp [State.slopeBand, State.tiltUnknown, hslope, hpitch, hroll]
  have hafter : (rainHandOn v).slope = u.slope := by
    rw [← hslope]
    simp [State.slope]
  have hrain : (if v.rainCond != v.dkc.rain then dkcEvent (takeRain v.rainCond) v else v) =
      rainHandOn v := by
    simp [rainHandOn, dkcEvent_eq_dockHandOn]
  simp only [spuHandOff, hlift, hband, bne_self_eq_false, Bool.or_self, Bool.false_eq_true, if_false,
    hrain, hafter, if_true]

/-! ### An edge that leaves the debounced level -/

/-- The part with a new level at a pin, as the pin's unit meets its edge. -/
def State.withLevel (s : State) (p : Pin) (l : Level) : State :=
  onSpu (fun x => { x with levels := x.levels.set p l }) s

/-- The edge to level `l` at a measuring pin takes its unit to `y`, with the configuration and the debounced
level it had. -/
structure QuietEdge (p : Pin) (l : Level) (u : State) (y : PinUnit) : Prop where
  changes : u.spu.levels.get p ≠ l
  measures : (u.spu.units.get p).measuring = true
  edge : unitEdge p l (u.withLevel p l) = u.pinNow p l y
  cfg : y.cfg = (u.spu.units.get p).cfg
  deb : y.deb = (u.spu.units.get p).deb

/-- A measuring pin that changes level does what its unit's mode says, with the new level kept, and the
hand-offs follow (R46). -/
theorem pinChange_of_measuring {p : Pin} {l : Level} {s : State} (hl : s.spu.levels.get p ≠ l)
    (hm : (s.spu.units.get p).measuring = true) :
    pinChange p l s = spuHandOff s (unitEdge p l (s.withLevel p l)) := by
  simp [pinChange, State.withLevel, hl, hm]

/-- A part that RESET_N does not hold takes an edge as it meets it. -/
theorem exec_pinEdge {dt : Nat} {p : Pin} {l : Level} {s : State} (held : s.resetHeld = false) :
    exec (.pinEdge dt p l) s = .next (pinChange p l (arrive dt s)) := by
  change execPinEdge dt p l s = _
  simp [execPinEdge, held, onEvent_of_running held]

namespace QuietEdge

variable {p : Pin} {l : Level} {u : State} {y : PinUnit}

theorem liftCond_eq (h : QuietEdge p l u y) : (u.pinNow p l y).liftCond = u.liftCond :=
  PerPin.any_set _ u.spu.units p (by rw [h.cfg, h.deb])

theorem rainCond_eq (h : QuietEdge p l u y) : (u.pinNow p l y).rainCond = u.rainCond :=
  PerPin.any_set _ u.spu.units p (by rw [PinUnit.activeAs, PinUnit.activeAs, h.cfg, h.deb])

/-- Neither the lift condition nor an axis follows such an edge, so the rain condition alone is handed on. -/
theorem pinChange_eq (h : QuietEdge p l u y) : pinChange p l u = rainHandOn (u.pinNow p l y) := by
  rw [pinChange_of_measuring h.changes h.measures, h.edge, spuHandOff_of_quiet h.liftCond_eq rfl rfl]

theorem senseFrame (h : QuietEdge p l u y) : SenseFrame u (pinChange p l u) := by
  have hsettle : (pinChange p l u).spu.settle = u.spu.settle := by
    rw [h.pinChange_eq, rainHandOn_spu]
    rfl
  simp [SenseFrame, hsettle]

theorem endsQuietly (h : QuietEdge p l u y) :
    EndsQuietly (.next (pinChange p l u)) u (u.pinNow p l y) := by
  have hdkc : (u.pinNow p l y).dkc = u.dkc := rfl
  refine ⟨rfl, fun htaken => ?_, fun htaken => ?_⟩
  · rw [h.pinChange_eq, rainHandOn, h.rainCond_eq, hdkc, if_pos htaken]
  · rw [h.pinChange_eq, rainHandOn, h.rainCond_eq, hdkc, if_neg htaken]

/-- What a command that brings such an edge ends in. -/
theorem exec_ends {dt : Nat} {s : State} (held : s.resetHeld = false)
    (h : QuietEdge p l (arrive dt s) y) : ∃ t,
      exec (.pinEdge dt p l) s = .next t ∧ SenseFrame (arrive dt s) t ∧
      t.spu.levels = (arrive dt s).spu.levels.set p l ∧
      t.spu.units = (arrive dt s).spu.units.set p y ∧
      EndsQuietly (exec (.pinEdge dt p l) s) (arrive dt s) ((arrive dt s).pinNow p l y) := by
  have hspu : (pinChange p l (arrive dt s)).spu = ((arrive dt s).pinNow p l y).spu := by
    rw [h.pinChange_eq, rainHandOn_spu]
  rw [exec_pinEdge held]
  exact ⟨_, rfl, h.senseFrame, congrArg Spu.levels hspu, congrArg Spu.units hspu, h.endsQuietly⟩

end QuietEdge

/-! ### The publication of a result (R51) -/

section
variable (r : PinResult) (x : PinUnit)

@[simp] theorem publish_cfg : (x.publish r).cfg = x.cfg := by
  unfold PinUnit.publish
  dsimp only
  (repeat' split) <;> rfl

@[simp] theorem publish_deb : (x.publish r).deb = x.deb := by
  unfold PinUnit.publish
  dsimp only
  (repeat' split) <;> rfl

/-- A result that replaces an unread one of a GENERAL pin sets the overrun flag and is counted there. -/
theorem publish_of_unread (hrole : x.cfg.role = .general) (hready : x.ready = true) :
    x.publish r = { x with
      result := some r
      ready := true
      overrun := true
      sinceRestart := true
      results := bump x.results
      overruns := bump x.overruns } := by
  simp [PinUnit.publish, hrole, hready]

/-- Any other result leaves the overrun flag and its counter. -/
theorem publish_of_no_overrun (h : x.cfg.role ≠ .general ∨ x.ready = false) :
    x.publish r = { x with
      result := some r
      ready := true
      sinceRestart := true
      results := bump x.results } := by
  by_cases hrole : x.cfg.role = .general
  · have hready : x.ready = false := h.resolve_left (not_not_intro hrole)
    simp [PinUnit.publish, hrole, hready]
  · simp [PinUnit.publish, hrole]

end

theorem resultIsPublished : ResultIsPublished := fun r x =>
  ⟨publish_of_unread r x, publish_of_no_overrun r x⟩

/-! ### A counting pin (R48) -/

/-- Each edge of a measuring EDGE_COUNT pin counts, and the count saturates. -/
theorem quietEdge_of_edgeCount {p : Pin} {l : Level} {u : State}
    (hm : (u.spu.units.get p).measuring = true) (hmode : (u.spu.units.get p).cfg.mode = .edgeCount)
    (hl : u.spu.levels.get p ≠ l) :
    QuietEdge p l u
      { u.spu.units.get p with count := min ((u.spu.units.get p).count + 1) 65535 } where
  changes := hl
  measures := hm
  edge := by
    have hmode' : ((u.withLevel p l).spu.units.get p).cfg.mode = .edgeCount := hmode
    rw [unitEdge, hmode']
    rfl
  cfg := rfl
  deb := rfl

theorem edgeWindowDue_iff {p : Pin} {s : State} :
    s.edgeWindowDue p = true ↔
      (s.spu.units.get p).measuring = true ∧ (s.spu.units.get p).cfg.mode = .edgeCount ∧
        ms (s.spu.units.get p).cfg.param ≤ (s.spu.units.get p).window := by
  simp [State.edgeWindowDue, and_assoc]

/-- A count window that is over ends. -/
theorem exec_edgeWindowExpiry {dt : Nat} {p : Pin} {s : State} (held : s.resetHeld = false)
    (hdue : (arrive dt s).edgeWindowDue p = true) :
    exec (.edgeWindowExpiry dt p) s = .next (edgeWindowEnd p (arrive dt s)) := by
  change execEdgeWindowExpiry dt p s = _
  rw [execEdgeWindowExpiry, onEvent_of_running held, whenDue, if_pos hdue]

/-! ### A pulse pin (R49) -/

/-- A rising edge notes the start of a pulse, and a falling edge publishes the length of a pulse whose start
is noted. -/
theorem pulseEdge_cases (l : Level) (x : PinUnit) :
    x.pulseEdge l =
      match l, x.pulse with
      | .high, _ => { x with pulse := some 0 }
      | .low, some d => { x.publish (.num (min d 65535)) with pulse := none }
      | .low, none => x := by
  cases l with
  | high => rfl
  | low => unfold PinUnit.pulseEdge; cases x.pulse <;> rfl

@[simp] theorem pulseEdge_cfg (l : Level) (x : PinUnit) : (x.pulseEdge l).cfg = x.cfg := by
  unfold PinUnit.pulseEdge
  (repeat' split) <;> simp

@[simp] theorem pulseEdge_deb (l : Level) (x : PinUnit) : (x.pulseEdge l).deb = x.deb := by
  unfold PinUnit.pulseEdge
  (repeat' split) <;> simp

theorem quietEdge_of_pulseWidth {p : Pin} {l : Level} {u : State}
    (hm : (u.spu.units.get p).measuring = true) (hmode : (u.spu.units.get p).cfg.mode = .pulseWidth)
    (hl : u.spu.levels.get p ≠ l) : QuietEdge p l u ((u.spu.units.get p).pulseEdge l) where
  changes := hl
  measures := hm
  edge := by
    have hmode' : ((u.withLevel p l).spu.units.get p).cfg.mode = .pulseWidth := hmode
    rw [unitEdge, hmode']
    rfl
  cfg := pulseEdge_cfg l _
  deb := pulseEdge_deb l _

/-- Settles O18: the edge of either mode leaves the unit its configuration and its debounced level, so it ends
quietly; and the end of a window is the publication of its count. -/
theorem countAndPulsePins : Obligations.CountAndPulsePins := by
  refine ⟨resultIsPublished, ?pins⟩
  intro dt p s held u x hm
  refine ⟨fun hmode => ⟨fun l hl => ?edge, fun hover => ?windowEnd⟩, fun hmode l hl => ?pulse⟩
  case edge => exact (quietEdge_of_edgeCount hm hmode hl).exec_ends held
  case windowEnd =>
    exact exec_edgeWindowExpiry held (edgeWindowDue_iff.mpr ⟨hm, hmode, hover⟩)
  case pulse =>
    obtain ⟨t, hexec, hframe, hlevels, hunits, hends⟩ :=
      (quietEdge_of_pulseWidth hm hmode hl).exec_ends held
    exact ⟨t, x.pulseEdge l, hexec, hframe, hlevels, hunits, pulseEdge_cases l x, hends⟩

end Sys2Proof.Machine
end

section
/-! Motion gate: the truncated scaling of a speed, the side that the scaling of a wheel pair chooses, and the
pair that comes of the choice (R71). -/

namespace Sys2Proof.Machine

/-! ### A speed times a fraction -/

theorem natAbs_scaleBy (v : Int) (num den : Nat) :
    (scaleBy v num den).natAbs = v.natAbs * num / den := by
  rw [scaleBy, Int.natAbs_tdiv, Int.natAbs_mul, Int.natAbs_natCast, Int.natAbs_natCast]
  rfl

theorem scaleBy_nonneg {v : Int} (num den : Nat) (hv : 0 ≤ v) : 0 ≤ scaleBy v num den :=
  Int.tdiv_nonneg (Int.mul_nonneg hv (Int.natCast_nonneg num)) (Int.natCast_nonneg den)

theorem scaleBy_nonpos {v : Int} (num den : Nat) (hv : v ≤ 0) : scaleBy v num den ≤ 0 := by
  have hneg : 0 ≤ scaleBy (-v) num den := scaleBy_nonneg num den (Int.neg_nonneg_of_nonpos hv)
  rwa [scaleBy, Int.neg_mul, Int.neg_tdiv, Int.neg_nonneg] at hneg

/-- A speed scaled by a limit over its own magnitude has that limit as its magnitude. -/
theorem natAbs_scaleBy_self {v : Int} {limit : Nat} (hv : limit < v.natAbs) :
    (scaleBy v limit v.natAbs).natAbs = limit := by
  rw [natAbs_scaleBy]
  exact Nat.mul_div_cancel_left limit (Nat.zero_lt_of_lt hv)

/-! ### An output within the limit of its side -/

/-- The output `x` of a side with the speed `v` is within the side's own limit and keeps its sign. -/
structure FitsSide (f r : Nat) (v x : Int) : Prop where
  within : x.natAbs ≤ sideLimit f r v
  forward : 0 ≤ v → 0 ≤ x
  reverse : v < 0 → x ≤ 0

section
variable {f r : Nat} {v x : Int}

theorem FitsSide.sign (h : FitsSide f r v x) : 0 ≤ x * v := by
  rcases le_or_gt 0 v with hv | hv
  · exact mul_nonneg (h.forward hv) hv
  · exact mul_nonneg_of_nonpos_of_nonpos (h.reverse hv) hv.le

/-- The limit of the side is the one of the direction in which its output goes. -/
theorem FitsSide.bounds (h : FitsSide f r v x) : -(r : Int) ≤ x ∧ x ≤ f := by
  obtain ⟨within, forward, reverse⟩ := h
  rcases le_or_gt 0 v with hv | hv
  · rw [sideLimit, if_pos hv] at within
    have := forward hv
    omega
  · rw [sideLimit, if_neg (not_le.mpr hv)] at within
    have := reverse hv
    omega

theorem fitsSide_self (h : v.natAbs ≤ sideLimit f r v) : FitsSide f r v v :=
  ⟨h, id, le_of_lt⟩

/-- A side whose ratio of limit to speed is no smaller than the factor fits its limit. -/
theorem fitsSide_scaleBy {num den : Nat} (h : num * v.natAbs ≤ sideLimit f r v * den) :
    FitsSide f r v (scaleBy v num den) where
  within := by
    rw [natAbs_scaleBy, Nat.mul_comm]
    exact Nat.div_le_of_le_mul (by rwa [Nat.mul_comm den])
  forward := scaleBy_nonneg num den
  reverse hv := scaleBy_nonpos num den hv.le

end

/-! ### The side chosen -/

section
variable {f r : Nat} {vL vR : Int}

theorem overshoots_of_lt {v : Int} (h : sideLimit f r v < v.natAbs) : overshoots f r v = true :=
  decide_eq_true h

theorem overshoots_of_le {v : Int} (h : v.natAbs ≤ sideLimit f r v) : overshoots f r v = false :=
  decide_eq_false (not_lt.mpr h)

theorem chosenSide_of_neither (hL : vL.natAbs ≤ sideLimit f r vL) (hR : vR.natAbs ≤ sideLimit f r vR) :
    chosenSide f r vL vR = none := by
  simp [chosenSide, overshoots_of_le hL, overshoots_of_le hR]

theorem chosenSide_of_left_alone (hL : sideLimit f r vL < vL.natAbs)
    (hR : vR.natAbs ≤ sideLimit f r vR) : chosenSide f r vL vR = some .left := by
  simp [chosenSide, leftChosen, overshoots_of_lt hL, overshoots_of_le hR]

theorem chosenSide_of_right_alone (hL : vL.natAbs ≤ sideLimit f r vL)
    (hR : sideLimit f r vR < vR.natAbs) : chosenSide f r vL vR = some .right := by
  simp [chosenSide, leftChosen, overshoots_of_le hL, overshoots_of_lt hR]

theorem chosenSide_of_both (hL : sideLimit f r vL < vL.natAbs) (hR : sideLimit f r vR < vR.natAbs) :
    chosenSide f r vL vR =
      some (if sideLimit f r vL * vR.natAbs ≤ sideLimit f r vR * vL.natAbs then .left else .right) := by
  simp [chosenSide, leftChosen, overshoots_of_lt hL, overshoots_of_lt hR]

/-- The side chosen overshoots, and its ratio of limit to speed is no larger than the other side's, whether or
not the other side overshoots too. -/
theorem chosenSide_cases (f r : Nat) (vL vR : Int) :
    (chosenSide f r vL vR = none ∧
      vL.natAbs ≤ sideLimit f r vL ∧ vR.natAbs ≤ sideLimit f r vR) ∨
    (chosenSide f r vL vR = some .left ∧ sideLimit f r vL < vL.natAbs ∧
      sideLimit f r vL * vR.natAbs ≤ sideLimit f r vR * vL.natAbs) ∨
    (chosenSide f r vL vR = some .right ∧ sideLimit f r vR < vR.natAbs ∧
      sideLimit f r vR * vL.natAbs ≤ sideLimit f r vL * vR.natAbs) := by
  rcases le_or_gt vL.natAbs (sideLimit f r vL) with hL | hL <;>
    rcases le_or_gt vR.natAbs (sideLimit f r vR) with hR | hR
  case inl.inl => exact .inl ⟨chosenSide_of_neither hL hR, hL, hR⟩
  case inl.inr =>
    have hratio : sideLimit f r vR * vL.natAbs ≤ vR.natAbs * sideLimit f r vL :=
      Nat.mul_le_mul hR.le hL
    exact .inr (.inr ⟨chosenSide_of_right_alone hL hR, hR, by rwa [Nat.mul_comm (sideLimit f r vL)]⟩)
  case inr.inl =>
    have hratio : sideLimit f r vL * vR.natAbs ≤ vL.natAbs * sideLimit f r vR :=
      Nat.mul_le_mul hL.le hR
    exact .inr (.inl ⟨chosenSide_of_left_alone hL hR, hL, by rwa [Nat.mul_comm (sideLimit f r vR)]⟩)
  case inr.inr =>
    rcases le_or_gt (sideLimit f r vL * vR.natAbs) (sideLimit f r vR * vL.natAbs) with hle | hgt
    · exact .inr (.inl ⟨by rw [chosenSide_of_both hL hR, if_pos hle], hL, hle⟩)
    · exact .inr (.inr ⟨by rw [chosenSide_of_both hL hR, if_neg (not_le.mpr hgt)], hR, hgt.le⟩)

/-! ### The pair that comes of the choice -/

/-- Both speeds scaled by the limit of a side with the speed `v` over that speed. -/
def pairScaledBy (f r : Nat) (vL vR v : Int) : Int × Int :=
  (scaleBy vL (sideLimit f r v) v.natAbs, scaleBy vR (sideLimit f r v) v.natAbs)

/-- The pair posted is the one that the reported choice asks for. -/
theorem scalePair_eq_of_chosenSide (f r : Nat) (vL vR : Int) :
    scalePair f r vL vR =
      match chosenSide f r vL vR with
      | none => (vL, vR)
      | some .left => pairScaledBy f r vL vR vL
      | some .right => pairScaledBy f r vL vR vR := by
  unfold scalePair chosenSide
  split
  · rfl
  · cases leftChosen f r vL vR <;> rfl

theorem scalePair_of_none (h : chosenSide f r vL vR = none) : scalePair f r vL vR = (vL, vR) := by
  rw [scalePair_eq_of_chosenSide, h]

theorem scalePair_of_left (h : chosenSide f r vL vR = some .left) :
    scalePair f r vL vR = pairScaledBy f r vL vR vL := by
  rw [scalePair_eq_of_chosenSide, h]

theorem scalePair_of_right (h : chosenSide f r vL vR = some .right) :
    scalePair f r vL vR = pairScaledBy f r vL vR vR := by
  rw [scalePair_eq_of_chosenSide, h]

theorem scalePair_of_both (hL : sideLimit f r vL < vL.natAbs) (hR : sideLimit f r vR < vR.natAbs) :
    scalePair f r vL vR =
      if sideLimit f r vL * vR.natAbs ≤ sideLimit f r vR * vL.natAbs then pairScaledBy f r vL vR vL
      else pairScaledBy f r vL vR vR := by
  have hchosen := chosenSide_of_both hL hR
  split at hchosen
  · next hle => rw [if_pos hle, scalePair_of_left hchosen]
  · next hgt => rw [if_neg hgt, scalePair_of_right hchosen]

/-- Each side of the pair fits its own limit: the chosen one by its own ratio, the other one by a ratio that
is no smaller. -/
theorem scalePair_fits (f r : Nat) (vL vR : Int) :
    FitsSide f r vL (scalePair f r vL vR).1 ∧ FitsSide f r vR (scalePair f r vL vR).2 := by
  obtain ⟨hnone, hL, hR⟩ | ⟨hleft, -, hratio⟩ | ⟨hright, -, hratio⟩ := chosenSide_cases f r vL vR
  · rw [scalePair_of_none hnone]
    exact ⟨fitsSide_self hL, fitsSide_self hR⟩
  · rw [scalePair_of_left hleft]
    exact ⟨fitsSide_scaleBy le_rfl, fitsSide_scaleBy hratio⟩
  · rw [scalePair_of_right hright]
    exact ⟨fitsSide_scaleBy hratio, fitsSide_scaleBy le_rfl⟩

end

/-- Settles O23: the side chosen fixes the pair, and the ratio by which it is chosen keeps both sides within
their limits. -/
theorem wheelPairIsScaled : Obligations.WheelPairIsScaled := by
  intro f r vL vR limit out by'
  obtain ⟨fitL, fitR⟩ := scalePair_fits f r vL vR
  refine ⟨fun hL hR => scalePair_of_none (chosenSide_of_neither hL hR),
    fun hL hR => scalePair_of_left (chosenSide_of_left_alone hL hR),
    fun hL hR => scalePair_of_right (chosenSide_of_right_alone hL hR),
    scalePair_of_both, fitL.bounds.1, fitL.bounds.2, fitR.bounds.1, fitR.bounds.2, fitL.sign, fitR.sign,
    ?leftExact, ?rightExact, chosenSide_of_neither, chosenSide_of_left_alone, chosenSide_of_right_alone,
    chosenSide_of_both⟩
  case leftExact =>
    intro hout hL
    rw [hout]
    exact natAbs_scaleBy_self hL
  case rightExact =>
    intro hout hR
    rw [hout]
    exact natAbs_scaleBy_self hR

end Sys2Proof.Machine
end

section
/-! Steps: every command as the event it brings, what a step of a held part does, and how a property that
every part of a step keeps is one that every step keeps. -/

namespace Sys2Proof.Machine

/-! ### The event of a command -/

/-- The microseconds a command says have passed. -/
def timeOf : Instr → Nat
  | .burstArrival dt _ _ _ | .correlationEnd dt | .silenceExpiry dt _ | .outsideTimerExpiry dt
  | .pinEdge dt _ _ | .debounceExpiry dt _ | .edgeWindowExpiry dt _ | .dutyTimeoutExpiry dt _
  | .tiltTimerExpiry dt | .settleEnd dt | .nLinkFrame dt _ | .frameTruncation dt _ | .ageTimerExpiry dt
  | .pollDue dt _ | .dLinkFrame dt _ | .responseTimeout dt | .slipTimerExpiry dt _
  | .stallTimerExpiry dt _ | .jamTimerExpiry dt _ | .stepTimerExpiry dt | .batteryTimerExpiry dt
  | .rainTimerExpiry dt | .approachTimerExpiry dt | .relayTimerExpiry dt | .motionTimerExpiry dt
  | .swapTake dt | .swapTimerExpiry dt | .readStatus dt | .readVerdict dt | .readCounters dt
  | .ackEvents dt | .setReportMask dt | .writeTable dt | .readTable dt | .swapTables dt | .returnHome dt
  | .cancelReturn dt | .undock dt | .cancelResponse dt | .clearHazard dt | .senseRead dt | .startTest dt
  | .testResult dt | .channelReset dt | .fullReset dt | .unknownRequest dt | .passWrite dt | .passRead dt
  | .fullResetEffect dt _ _ | .upstreamFrameSent dt | .telemetryTimerExpiry dt | .nLinkEchoBegin dt
  | .nLinkEchoEnd dt | .dLinkEchoTakeLink dt | .patternBurstPlace dt | .resetNAssert dt
  | .resetNDeassert dt _ _ | .lengthOverrun dt _ => dt

/-- What a command does in a running part as it meets it. -/
def eventOf : Instr → State → State
  | .burstArrival _ coil seq samples => burst coil seq samples
  | .correlationEnd _ => correlationOver
  | .silenceExpiry _ c => whenDue (State.silenceDue c) (silence c)
  | .outsideTimerExpiry _ => whenDue State.outsideDue outsideExpired
  | .pinEdge _ p l => pinChange p l
  | .debounceExpiry _ p => whenDue (State.debounceDue p) (debounced p)
  | .edgeWindowExpiry _ p => whenDue (State.edgeWindowDue p) (edgeWindowEnd p)
  | .dutyTimeoutExpiry _ p => whenDue (State.dutyTimeoutDue p) (dutyTimedOut p)
  | .tiltTimerExpiry _ => whenDue (fun s => s.spu.tilt.due s.tiltPersistence) tiltRaise
  | .settleEnd _ => whenDue State.settleDue settleOver
  | .nLinkFrame _ bytes => takeBytes bytes
  | .frameTruncation _ bytes => fun s => truncate (takeBytes bytes s)
  | .ageTimerExpiry _ => whenDue State.ageDue ageExpired
  | .pollDue _ n => whenDue (fun s => (s.pollDueAge n).isSome) arbitrate
  | .dLinkFrame _ bytes => dLinkArrival bytes
  | .responseTimeout _ => whenDue State.responseDue responseExpired
  | .slipTimerExpiry _ n => whenDue (State.slipDue n) (slipExpired n)
  | .stallTimerExpiry _ n => whenDue (State.stallDue n) (stallExpired n)
  | .jamTimerExpiry _ n => whenDue (State.jamDue n) (jamExpired n)
  | .stepTimerExpiry _ => whenDue State.stepDue stepExpired
  | .batteryTimerExpiry _ => whenDue (fun s => s.dkc.batteryT.due) (dkcEvent batteryExpired)
  | .rainTimerExpiry _ => whenDue (fun s => s.dkc.rainT.due) (dkcEvent rainExpired)
  | .approachTimerExpiry _ => whenDue State.approachDue (dkcEvent approachExpired)
  | .relayTimerExpiry _ => whenDue State.relayDue (dkcEvent relayExpired)
  | .motionTimerExpiry _ => whenDue State.motionDue (dkcEvent motionExpired)
  | .swapTake _ => id
  | .swapTimerExpiry _ => whenDue State.swapTimeoutDue dropSwap
  | .readStatus _ => onRequest 0 fun p s => answerData (s.statusData p) s
  | .readVerdict _ => onRequest 1 fun p s => answerData (s.verdictData p) s
  | .readCounters _ => onRequest 2 fun p s => answerData (s.counterData p) s
  | .ackEvents _ => onRequest 3 ackEvents
  | .setReportMask _ => onRequest 4 setReportMask
  | .writeTable _ => onRequest 5 writeTable
  | .readTable _ => onRequest 6 fun p s => answerData (s.tableBytes p) s
  | .swapTables _ => onRequest 7 fun _ => swapTables
  | .returnHome _ => onRequest 8 fun _ => requestReturn
  | .cancelReturn _ => onRequest 9 fun _ => requestCancel
  | .undock _ => onRequest 10 fun _ => requestUndock
  | .cancelResponse _ => onRequest 11 cancelResponse
  | .clearHazard _ => onRequest 12 fun _ => clearHazard
  | .senseRead _ => onRequest 13 senseRead
  | .startTest _ => onRequest 14 requestTest
  | .testResult _ => onRequest 15 fun _ s => answer .ok s.testData s
  | .channelReset _ => onRequest 16 channelReset
  | .fullReset _ => onRequest 17 fun _ => answerThen .fullReset .ok []
  | .unknownRequest _ => whenDue headUnknown unknownRequest
  | .passWrite _ => whenDue (headPass .read) passHead
  | .passRead _ => whenDue (headPass .write) passHead
  | .fullResetEffect _ n d => whenDue (fun s => s.mrh.fullResetDue) (restart n d)
  | .upstreamFrameSent _ => frameSent
  | .telemetryTimerExpiry _ => whenDue State.telemetryDue formTelemetry
  | .nLinkEchoBegin _ => whenDue State.echoBeginDue nEchoBegin
  | .nLinkEchoEnd _ => whenDue State.echoEndDue (testOver .completed)
  | .dLinkEchoTakeLink _ => whenDue State.takeLinkDue takeLink
  | .patternBurstPlace _ => whenDue State.placeDue placeBurst
  | .resetNAssert _ => holdReset
  | .resetNDeassert _ _ _ => id
  | .lengthOverrun _ bytes => takeBytes bytes

/-- A command to a part that RESET_N does not hold: a due swap is taken, the time passes, and the command's
event comes about. -/
theorem exec_of_running (c : Instr) {s : State} (held : s.resetHeld = false) :
    exec c s = .next (eventOf c (arrive (timeOf c) s)) := by
  have hevent := @onEvent_of_running
  cases c
  case pinEdge dt p l => exact exec_pinEdge held
  case swapTake dt =>
    change execSwapTake dt s = _
    simp [execSwapTake, held, eventOf, timeOf, arrive]
  case resetNDeassert dt n d =>
    change execResetNDeassert dt n d s = _
    rw [execResetNDeassert, held]
    exact hevent held
  case frameTruncation dt bytes => exact hevent (f := fun u => truncate (takeBytes bytes u)) held
  all_goals exact hevent held

/-! ### A held part -/

/-- What a command does to a part that RESET_N holds (R167; log entries 10 and 26). -/
def heldEvent (c : Instr) (s : State) : State :=
  match c with
  | .resetNDeassert _ n d => restart n d s
  | .pinEdge _ p l => onSpu (fun x => { x with levels := x.levels.set p l }) s
  | _ => s

theorem exec_of_held (c : Instr) {s : State} (held : s.resetHeld = true) :
    exec c s = .next (heldEvent c s) := by
  cases c
  case pinEdge dt p l =>
    change execPinEdge dt p l s = _
    rw [execPinEdge, held]
    rfl
  case swapTake dt =>
    change execSwapTake dt s = _
    rw [execSwapTake, held]
    rfl
  case resetNDeassert dt n d =>
    change execResetNDeassert dt n d s = _
    rw [execResetNDeassert, held]
    rfl
  all_goals exact if_pos held

/-! ### A property that every step keeps -/

/-- An event that comes about when it is due keeps what it keeps when it comes about. -/
theorem whenDue_keeps {P : State → Prop} {due : State → Bool} {f : State → State} {s : State} (hs : P s)
    (hf : due s = true → P (f s)) : P (whenDue due f s) := by
  unfold whenDue
  split
  · next h => exact hf h
  · exact hs

/-- A request keeps what its carrying out keeps. -/
theorem onRequest_keeps {P : State → Prop} {n : Nat} {f : List Byte → State → State} {s : State} (hs : P s)
    (hf : P (f s.headParams s)) : P (onRequest n f s) :=
  whenDue_keeps hs fun _ => hf

/-- The parts of a step, each of which keeps a property. -/
structure KeptByParts (P : State → Prop) : Prop where
  pending : ∀ (l : List Instr) (s : State), P s → P (s.withPending l)
  level : ∀ (p : Pin) (l : Level) (s : State), P s → P (onSpu (fun x => { x with levels := x.levels.set p l }) s)
  restart : ∀ (n : NRate) (d : DRate) (s : State), P (restart n d s)
  swap : ∀ s : State, P s → P (takeDueSwap false s)
  time : ∀ (dt : Nat) (s : State), P s → P (advance dt s)
  event : ∀ (c : Instr) (s : State), P s → P (eventOf c s)

/-- A property that each part of a step keeps is one that every step keeps. -/
theorem stepKeeps_of_parts {P : State → Prop} (h : KeptByParts P) : StepKeeps P := by
  intro s t hs ht
  unfold step at ht
  split at ht
  · injection ht with e
    exact e ▸ hs
  · next c rest _ =>
    have hq : P (s.withPending rest) := h.pending rest s hs
    cases held : (s.withPending rest).resetHeld with
    | false =>
      rw [exec_of_running c held] at ht
      injection ht with e
      exact e ▸ h.event c _ (h.time _ _ (h.swap _ hq))
    | true =>
      rw [exec_of_held c held] at ht
      injection ht with e
      subst e
      unfold heldEvent
      split
      · exact h.restart _ _ _
      · exact h.level _ _ _ hq
      · exact hq

/-! ### The queue of commands and the held part -/

/-- Settles O1: a step is the command's execution by its definition. -/
theorem stepCarriesOutTheFront : Obligations.StepCarriesOutTheFront := by
  refine ⟨fun c rest s hq => ?_, fun s hq => ?_⟩
  · rw [step, hq]
    rfl
  · rw [step, hq]

/-- Settles O2, by what a held part does at each command. -/
theorem heldPartWaits : Obligations.HeldPartWaits := by
  intro c s held
  refine ⟨by simp [State.stopLine, held], ?_⟩
  rw [exec_of_held c held]
  cases c <;> rfl

end Sys2Proof.Machine
end

section
/-! The memory and the sample ring: every step keeps the memory canonical (log entry 6) and the ring legal (R6). -/

namespace Sys2Proof.Machine

/-! ### The memory -/

theorem memLegal_congr {s t : State} (h : t.mem = s.mem) (hs : s.memLegal) : t.memLegal := by
  unfold State.memLegal at hs ⊢
  rwa [h]

theorem takeSwap_memLegal (behind : Bool) {s : State} (hs : s.memLegal) : (takeSwap behind s).memLegal := by
  refine memLegal_congr (s := crossValidate (exchange s)) ?_ (crossValidate_wf _ (exchange_wf _ hs))
  simp [takeSwap]

theorem takeDueSwap_memLegal (behind : Bool) {s : State} (hs : s.memLegal) :
    (takeDueSwap behind s).memLegal := by
  unfold takeDueSwap
  split
  · exact takeSwap_memLegal behind hs
  · exact hs

theorem driveReset_memLegal {s : State} (hs : s.memLegal) : (driveReset s).memLegal := by
  refine memLegal_congr (s := takeDueSwap true (driveStilled s)) (by simp [driveReset]) ?_
  exact takeDueSwap_memLegal true (memLegal_congr (by simp) hs)

theorem channelReset_memLegal (p : List Byte) {s : State} (hs : s.memLegal) :
    (channelReset p s).memLegal := by
  unfold channelReset
  (repeat' split)
  case h_2 => exact memLegal_congr (by simp) (driveReset_memLegal hs)
  all_goals exact memLegal_congr (by simp) hs

theorem completeLoad_memLegal (t : Table) {s : State} (hs : s.memLegal) : (completeLoad t s).memLegal := by
  have hmem : (completeLoad t s).mem = (checkTable t ⟨s.mem, s.tableAddr .staged t 0, 0⟩).mem := by
    simp [completeLoad]
  unfold State.memLegal
  rw [hmem]
  exact completeLoad_wf t s hs

/-- A segment that fits its table is written within it. -/
theorem takeSegment_memLegal {t : Table} {pos : SegPos} {off : Nat} {data : List Byte} {s : State}
    (hfits : off + data.length ≤ t.size) (hs : s.memLegal) : (takeSegment t pos off data s).memLegal := by
  have hbase := t.base_add_size
  have hbank : s.bankBase .staged ≤ bankSize := by
    simp only [State.bankBase]
    split <;> omega
  have hwrite : State.memLegal { s with mem := Memory.writeBytes s.mem (s.tableAddr .staged t off) data } :=
    Memory.wf_writeBytes data hs (by simp only [State.tableAddr]; omega)
  unfold takeSegment
  dsimp only
  split
  · split
    · exact completeLoad_memLegal t (memLegal_congr (by simp) hwrite)
    · exact memLegal_congr (by simp) hwrite
  · exact memLegal_congr (by simp) hwrite

theorem writeTable_memLegal (p : List Byte) {s : State} (hs : s.memLegal) : (writeTable p s).memLegal := by
  unfold writeTable
  split
  · exact memLegal_congr (by simp) hs
  · split
    · next t pos _ _ =>
      dsimp only
      split
      · exact memLegal_congr (by simp) hs
      · split
        · next hfits =>
          simp only [State.segmentFits, Bool.and_eq_true, decide_eq_true_eq] at hfits
          exact takeSegment_memLegal hfits.1.2 hs
        · exact memLegal_congr (by simp) hs
    · exact memLegal_congr (by simp) hs

/-- The commands that write the memory keep it canonical, and every other leaves it as it was. -/
theorem eventOf_memLegal (c : Instr) {s : State} (hs : s.memLegal) : (eventOf c s).memLegal := by
  cases c
  case writeTable => exact onRequest_keeps hs (writeTable_memLegal _ hs)
  case channelReset => exact onRequest_keeps hs (channelReset_memLegal _ hs)
  case fullResetEffect => exact whenDue_keeps hs fun _ => State.reset_wf
  case swapTake => exact hs
  case resetNDeassert => exact hs
  all_goals first
    | exact whenDue_keeps hs fun _ => memLegal_congr (by simp) hs
    | exact onRequest_keeps hs (memLegal_congr (by simp) hs)
    | exact memLegal_congr (by simp [eventOf]) hs

/-- Settles O53, by the parts of a step: a swap and the commands that write the memory keep its form. -/
theorem memoryStaysCanonical : Obligations.MemoryStaysCanonical :=
  stepKeeps_of_parts
    { pending := fun _ _ hs => hs
      level := fun _ _ _ hs => hs
      restart := fun _ _ _ => State.reset_wf
      swap := fun _ hs => takeDueSwap_memLegal false hs
      time := fun _ _ hs => hs
      event := fun c _ hs => eventOf_memLegal c hs }

/-! ### The sample ring -/

theorem ringLegal_of_sublist {s t : State} (h : t.wdc.ring.Sublist s.wdc.ring) (hs : s.ringLegal) :
    t.ringLegal :=
  ⟨h.length_le.trans hs.1, hs.2.sublist h⟩

theorem ringLegal_congr {s t : State} (h : t.wdc.ring = s.wdc.ring) (hs : s.ringLegal) : t.ringLegal :=
  ringLegal_of_sublist (by rw [h]) hs

/-- A burst that repeats none that waits joins a ring with room. -/
theorem joinRing_ringLegal {e : RingEntry} {s : State} (hroom : s.wdc.ring.length < 4)
    (hnew : ∀ x ∈ s.wdc.ring, ¬ x.same e) (hs : s.ringLegal) : (joinRing e s).ringLegal := by
  have hring : (joinRing e s).wdc.ring = s.wdc.ring ++ [e] := rfl
  refine ⟨by rw [hring, List.length_append]; simpa using hroom, ?_⟩
  rw [hring, List.pairwise_append]
  refine ⟨hs.2, List.pairwise_singleton _ _, fun x hx y hy => ?_⟩
  rw [List.mem_singleton.mp hy]
  exact hnew x hx

/-- The correlator takes bursts out of the ring and puts none in. -/
theorem correlatorTake_ring (s : State) : (correlatorTake s).wdc.ring.Sublist s.wdc.ring := by
  unfold correlatorTake
  split
  · exact List.Sublist.refl _
  · split
    · split
      · exact List.Sublist.refl _
      · next e rest hring =>
        rw [hring]
        dsimp only
        split <;> exact List.sublist_cons_self e rest
    · exact List.nil_sublist _

theorem correlatorTake_ringLegal {s : State} (hs : s.ringLegal) : (correlatorTake s).ringLegal :=
  ringLegal_of_sublist (correlatorTake_ring s) hs

theorem dropBursts_ringLegal (c : Coil) {s : State} (hs : s.ringLegal) : (dropBursts c s).ringLegal :=
  ringLegal_of_sublist List.filter_sublist hs

theorem zoneUpdate_ringLegal (pub : Published) {s : State} (hs : s.ringLegal) :
    (zoneUpdate pub s).ringLegal :=
  ringLegal_congr (by simp) hs

theorem burst_ringLegal (coil seq : Byte) (samples : List (BitVec 16)) {s : State} (hs : s.ringLegal) :
    (burst coil seq samples s).ringLegal := by
  unfold burst
  split
  · exact hs
  · next c _ =>
    split
    · exact ringLegal_congr rfl hs
    · unfold judgeBurst
      split
      · exact ringLegal_congr rfl hs
      · split
        · exact ringLegal_congr rfl hs
        · next hdup =>
          split
          · exact ringLegal_congr (by simp; rfl) hs
          · next hroom =>
            refine zoneUpdate_ringLegal _ (correlatorTake_ringLegal (joinRing_ringLegal ?_ ?_ hs))
            · exact Nat.lt_of_not_le hroom
            · rintro x hx ⟨hcoil, hseq⟩
              exact hdup ((duplicateBurst_iff _ _ _).mpr (.inr ⟨x, hx, hcoil, hseq⟩))

theorem silence_ringLegal (c : Coil) {s : State} (hs : s.ringLegal) : (silence c s).ringLegal :=
  zoneUpdate_ringLegal _ (correlatorTake_ringLegal
    (dropBursts_ringLegal c (ringLegal_congr rfl hs) : State.ringLegal _))

/-- A synthesized burst is placed only where none of its coil waits and the ring has room (R171). -/
theorem placeBurst_ringLegal {s : State} (hdue : s.placeDue = true) (hs : s.ringLegal) :
    (placeBurst s).ringLegal := by
  unfold placeBurst
  split
  · next slot coil negative amplitude noise bursts hparams =>
    unfold State.placeDue at hdue
    split at hdue
    · next i c htest =>
      have hc : coil = c := by
        unfold State.wireTest at htest
        rw [hparams] at htest
        split at htest
        · simpa using (congrArg (Option.map Prod.snd) htest)
        · exact absurd htest (by simp)
      simp only [Bool.and_eq_true, Bool.not_eq_true', decide_eq_true_eq] at hdue
      obtain ⟨⟨-, hnone⟩, hroom⟩ := hdue
      refine zoneUpdate_ringLegal _ (correlatorTake_ringLegal (joinRing_ringLegal hroom ?_ hs))
      rintro x hx ⟨hcoil, -⟩
      rw [State.synthWaiting, List.any_eq_false] at hnone
      exact hnone x hx (by simpa [← hc] using hcoil)
    · exact absurd hdue (by simp)
  · exact hs

theorem startTest_ringLegal (p : TestParams) {s : State} (hs : s.ringLegal) : (startTest p s).ringLegal := by
  unfold startTest
  split
  · next slot c negative amplitude noise bursts =>
    dsimp only
    have hinto : State.ringLegal (coilIntoTest c (zoneFreeze (onRse (fun r => { r with stopTest := true })
        { s with lbu := (TestParams.wirePattern slot c negative amplitude noise bursts).started }))) :=
      zoneUpdate_ringLegal _ (correlatorTake_ringLegal (dropBursts_ringLegal c hs : State.ringLegal _))
    split
    · next hdue => exact placeBurst_ringLegal hdue hinto
    · exact hinto
  · exact hs
  · exact hs

theorem coilOutOfTest_ringLegal (c : Coil) {s : State} (hs : s.ringLegal) :
    (coilOutOfTest c s).ringLegal := by
  have hdrop : State.ringLegal (restartCoil c (dropBursts c s)) := dropBursts_ringLegal c hs
  exact zoneUpdate_ringLegal _ hdrop

theorem patternDone_ringLegal (c : Coil) {s : State} (hs : s.ringLegal) : (patternDone c s).ringLegal :=
  ringLegal_congr (by simp [patternDone]) (coilOutOfTest_ringLegal c hs)

theorem correlationOver_ringLegal {s : State} (hs : s.ringLegal) : (correlationOver s).ringLegal := by
  unfold correlationOver
  split
  · next e _ =>
    unfold correlationEnded
    have hlanes : State.ringLegal
        (zoneUpdate (s.publishedBy e) (recordVerdict (s.testedVerdict e) (stepLanes e s))) :=
      ringLegal_congr (by simp; rfl) hs
    refine correlatorTake_ringLegal ?_
    split
    · exact patternDone_ringLegal e.coil hlanes
    · exact hlanes
  · exact hs

theorem ringLegal_of_nil {s : State} (h : s.wdc.ring = []) : s.ringLegal := by
  simp [State.ringLegal, h]

theorem takeDueSwap_ringLegal (behind : Bool) {s : State} (hs : s.ringLegal) :
    (takeDueSwap behind s).ringLegal := by
  unfold takeDueSwap
  split
  · exact ringLegal_of_nil (by simp [takeSwap, handBank, wdcSwap])
  · exact hs

theorem channelReset_ringLegal (p : List Byte) {s : State} (hs : s.ringLegal) :
    (channelReset p s).ringLegal := by
  unfold channelReset
  (repeat' split)
  case h_1 => exact ringLegal_of_nil (by simp only [wireReset]; split <;> simp [zoneReset, wdcReset, Wdc.reset])
  case h_2 =>
    refine ringLegal_congr (s := takeDueSwap true (driveStilled s)) (by simp [driveReset]) ?_
    exact takeDueSwap_ringLegal true (ringLegal_congr (by simp) hs)
  all_goals exact ringLegal_congr (by simp) hs

theorem requestTest_ringLegal (p : List Byte) {s : State} (hs : s.ringLegal) :
    (requestTest p s).ringLegal := by
  unfold requestTest
  (repeat' split)
  case h_2.isTrue t _ _ => exact ringLegal_congr (by simp) (startTest_ringLegal t hs)
  all_goals exact ringLegal_congr (by simp) hs

/-- The commands of the Wire Decoder, the tests and the resets keep the ring legal, and every other leaves it as
it was. -/
theorem eventOf_ringLegal (c : Instr) {s : State} (hs : s.ringLegal) : (eventOf c s).ringLegal := by
  cases c
  case burstArrival => exact burst_ringLegal _ _ _ hs
  case correlationEnd => exact correlationOver_ringLegal hs
  case silenceExpiry => exact whenDue_keeps hs fun _ => silence_ringLegal _ hs
  case patternBurstPlace => exact whenDue_keeps hs fun hdue => placeBurst_ringLegal hdue hs
  case startTest => exact onRequest_keeps hs (requestTest_ringLegal _ hs)
  case channelReset => exact onRequest_keeps hs (channelReset_ringLegal _ hs)
  case fullResetEffect => exact whenDue_keeps hs fun _ => ringLegal_of_nil rfl
  case swapTake => exact hs
  case resetNDeassert => exact hs
  all_goals first
    | exact whenDue_keeps hs fun _ => ringLegal_congr (by simp) hs
    | exact onRequest_keeps hs (ringLegal_congr (by simp) hs)
    | exact ringLegal_congr (by simp [eventOf]) hs

/-- Settles O54, by the parts of a step: a burst joins only a ring with room that holds none it repeats. -/
theorem ringStaysLegal : Obligations.RingStaysLegal :=
  stepKeeps_of_parts
    { pending := fun _ _ hs => hs
      level := fun _ _ _ hs => hs
      restart := fun _ _ _ => ringLegal_of_nil rfl
      swap := fun _ hs => takeDueSwap_ringLegal false hs
      time := fun _ _ hs => hs
      event := fun c _ hs => eventOf_ringLegal c hs }

end Sys2Proof.Machine
end

section
/-! Resets: what RESET_N and FULL_RESET leave (R166, R167). -/

namespace Sys2Proof.Machine

/-! ### The built-in tables -/

/-- The STAGED bank of a reset part is the half that reads as zeros (R144). -/
theorem stagedByte_afterReset (l : List Instr) (k : Nat) (levels : PerPin Level) (n : NRate) (d : DRate)
    (tab : Table) (off : Nat) : (State.afterReset l k levels n d).tableByte .staged tab off = 0#8 := by
  have haddr : (State.afterReset l k levels n d).tableAddr .staged tab off = bankSize + tab.base + off := rfl
  have hread : (State.afterReset l k levels n d).tableByte .staged tab off =
      resetByte (bankSize + tab.base + off) := by
    rw [State.tableByte, haddr]
    rfl
  rw [hread, resetByte, if_neg (by omega)]

/-- The built-in defaults are those of Table 8-2. -/
theorem defaultsAreActive_reset : DefaultsAreActive State.reset := by
  unfold DefaultsAreActive
  refine ⟨by decide, by decide, by decide, by decide, by decide, by decide, by decide, by decide, by decide,
    by decide, by decide, by decide, by decide, by decide, by decide, by decide, by decide, by decide,
    by decide, by decide, by decide, by decide, by decide, by decide, by decide, by decide, by decide,
    by decide, by decide, by decide, ?codes, ?weights, by decide, ?bands, ?triggers, ?sequences⟩
  case codes =>
    intro c hc
    interval_cases c <;>
      exact ⟨by decide, by decide, by decide, by decide, by decide, by decide, by decide, by decide, by decide⟩
  case weights =>
    intro f w hf h1 h16
    interval_cases f <;> interval_cases w <;> decide
  case bands => decide
  case triggers => intro x _; cases x <;> exact ⟨by decide, by decide⟩
  case sequences => intro q hq; interval_cases q <;> decide

section
variable (l : List Instr) (k : Nat) (levels : PerPin Level) (n : NRate) (d : DRate)

/-- The tables of a reset part are the same whatever its inputs. -/
theorem defaultsAreActive_afterReset : DefaultsAreActive (State.afterReset l k levels n d) :=
  defaultsAreActive_reset

theorem sensingBegins_afterReset : SensingBegins (State.afterReset l k levels n d) := by
  unfold SensingBegins
  refine ⟨?lanes, ?coils, rfl, rfl, rfl, ?slots, rfl, rfl, rfl, rfl, rfl, rfl, rfl, rfl, rfl, rfl, rfl, rfl, rfl,
    rfl, rfl, rfl, rfl, rfl, ?pins⟩
  case lanes => intro i c; fin_cases i <;> cases c <;> rfl
  case coils => intro c; cases c <;> rfl
  case slots =>
    intro i
    refine ⟨?_, ?_, fun c => ?_⟩
    · fin_cases i <;> rfl
    · fin_cases i <;> rfl
    · fin_cases i <;> cases c <;> rfl
  case pins =>
    intro p
    fin_cases p <;>
      exact ⟨rfl, rfl, rfl, rfl, rfl, rfl, rfl, rfl, rfl, rfl, rfl, rfl, rfl, rfl, rfl, rfl, rfl, rfl, rfl, rfl⟩

theorem drivingBegins_afterReset : DrivingBegins (State.afterReset l k levels n d) := by
  unfold DrivingBegins
  have hblocking : State.reset.blocking = [false, false, false, false, false] := by decide
  refine ⟨rfl, rfl, rfl, rfl, rfl, rfl, rfl, rfl, rfl, rfl, rfl, rfl, rfl, rfl, rfl, ?posted, rfl, rfl, ?recs, rfl,
    rfl, rfl, rfl, rfl, rfl, rfl, rfl, rfl, rfl, rfl, rfl, rfl, rfl, hblocking, rfl⟩
  case posted => intro a; fin_cases a <;> rfl
  case recs => intro a; fin_cases a <;> rfl

theorem dockingBegins_afterReset : DockingBegins (State.afterReset l k levels n d) :=
  ⟨rfl, rfl, rfl, rfl, rfl, rfl, rfl, rfl, rfl, rfl, rfl, rfl, rfl, rfl, rfl, rfl, rfl, rfl, rfl, rfl, rfl, rfl, rfl⟩

theorem linkBegins_afterReset : LinkBegins (State.afterReset l k levels n d) := by
  unfold LinkBegins
  refine ⟨?staged, ?copy, rfl, rfl, rfl, rfl, rfl, ?flags, ?reports, rfl, rfl, rfl, rfl, rfl, rfl, rfl, rfl, rfl,
    rfl, rfl, rfl, rfl, rfl, rfl, rfl⟩
  case staged =>
    exact fun tab => ⟨by cases tab <;> rfl, fun off _ => stagedByte_afterReset l k levels n d tab off⟩
  case copy =>
    have hreset : ∀ i, State.reset.tbs.slotCopy.get i =
        (State.reset.tableByte .active .zones (32 * i.val),
          State.reset.tableByte .active .zones (32 * i.val + 17)) := by decide
    exact hreset
  case flags => intro f; cases f <;> rfl
  case reports =>
    have hreset : ∀ f : EventFlag, (BitVec.allOnes 19).getLsbD f.num = true := by
      intro f
      cases f <;> decide
    exact hreset

end

/-- Settles O4, block by block. -/
theorem resetLeaves : Obligations.ResetLeaves := fun l k levels n d =>
  ⟨rfl, rfl, rfl, rfl, rfl, defaultsAreActive_afterReset l k levels n d,
    sensingBegins_afterReset l k levels n d, drivingBegins_afterReset l k levels n d,
    dockingBegins_afterReset l k levels n d, linkBegins_afterReset l k levels n d,
    rfl, rfl, rfl, rfl, rfl, rfl, rfl, rfl, rfl⟩

/-- Settles O60: with empty queues and lists, no context and no active zone, each property asks nothing. -/
theorem resetHasEveryProperty : Obligations.ResetHasEveryProperty := by
  intro l k levels n d
  have hnode : ∀ a, State.reset.nodeKind a = .noNode := by decide
  refine ⟨rfl, ringLegal_of_nil rfl, ?zone, ?responses, ?hazard, ?output, ?posts, ?queue, ?link⟩
  case zone => exact ⟨fun i hi => (by cases hi), rfl, rfl⟩
  case responses =>
    exact ⟨fun h => (by cases h), rfl, fun c hc => (by cases hc), fun c hc => (by cases hc),
      fun c hc => (by cases hc)⟩
  case hazard => exact ⟨fun h => (by cases h), fun e he => (by cases he)⟩
  case output => exact ⟨Int.le_refl 0, Int.le_refl 0, Int.le_refl 0, Int.le_refl 0, Int.le_refl 0⟩
  case posts =>
    refine ⟨fun _ a v hv => ?_, fun h => (by cases h)⟩
    have hkind : (State.afterReset l k levels n d).nodeKind a = .noNode := hnode a
    rw [State.dueAt, hkind] at hv
    cases hv
  case queue =>
    exact ⟨Nat.zero_le _, Nat.zero_le _, List.Pairwise.nil, fun e he => (by cases he), List.Pairwise.nil,
      fun e he => (by cases he)⟩
  case link =>
    exact ⟨Nat.zero_le _, rfl, List.nodup_nil, Nat.zero_le _, show 0 < 256 by decide, show 0 < 256 by decide⟩

/-! ### RESET_N and FULL_RESET -/

/-- Settles O5: the reset holds the part as the command meets it, and a release of a part not held does nothing. -/
theorem resetNHoldsThePart : Obligations.ResetNHoldsThePart := by
  intro dt s held u
  refine ⟨holdReset u, exec_of_running _ held, by simp [holdReset, State.stopLine], rfl, fun n d => ?_⟩
  exact exec_of_running (.resetNDeassert dt n d) held

/-- Once the answer to a FULL_RESET has been sent the transmitter begins nothing (R166). -/
theorem txBegin_of_fullResetDue {s : State} (h : s.mrh.fullResetDue = true) : txBegin s = s := by
  simp [txBegin, h]

/-- Settles O6: the answer, its end and the effect are the three events in turn. -/
theorem fullResetBeginsAgain : Obligations.FullResetBeginsAgain := by
  intro dt n d s held u
  refine ⟨fun hhead => ?answer, fun f hsending => ?sent, fun hdue => ?effect⟩
  case answer =>
    rw [exec_of_running _ held]
    exact congrArg _ (if_pos hhead)
  case sent =>
    refine ⟨frameSent u, exec_of_running _ held, ?_⟩
    have hsent : frameSent u = sentEffect (.headAnswer .fullReset)
        (onNli (fun x => { x with sending := none, cnt := { x.cnt with framesSent := bump x.cnt.framesSent } }) u) := by
      rw [frameSent, hsending]
      exact txBegin_of_fullResetDue rfl
    rw [hsent]
    exact ⟨rfl, rfl, rfl, rfl⟩
  case effect =>
    rw [exec_of_running _ held]
    exact congrArg _ (if_pos hdue)

end Sys2Proof.Machine
end

section
/-! What the acts of the part keep. A property that is kept by each of a few acts (an event flag is set, the gate
evaluates, a relay command is posted, a hazard begins, ...) and that reads none of what the rest of the part
changes is kept by every operation: each operation is shown once to be made of those acts. -/

namespace Sys2Proof.Machine

-- Side by side, these many short proofs would wait for one another on as many threads, each with its own stack.
set_option Elab.async false

/-! ### What the properties of the gate, the drive link and the N-link read -/

/-- Where the tables in force are. -/
def State.bankView (s : State) : List Host.Cell × Bool := (s.mem, s.tbs.activeHigh)

/-- An address of the bank in force. -/
def State.inForce (s : State) (a : Nat) : Prop :=
  s.bankBase .active ≤ a ∧ a < s.bankBase .active + bankSize

/-- The active zone and its strength, at their owner and at the gate. -/
def State.zoneView (s : State) : Option Slot × PerSlot LoopState × Nat × Option Slot × Nat :=
  (s.zcu.active, s.zcu.loops, s.zcu.prox, s.mgt.zone, s.mgt.prox)

/-- The output of the gate's last evaluation, its limits, and the last posted values. -/
def State.gateView (s : State) : Source × (Int × Int × Int) × (Nat × Nat) × PerSix Int :=
  (s.mgt.source, (s.mgt.outL, s.mgt.outR, s.mgt.outBlade), (s.mgt.feff, s.mgt.reff), s.mgt.posted)

/-- What waits for the drive nodes. -/
def State.postView (s : State) : List QEntry × List QEntry := (s.dlc.queue, s.dlc.behind)

/-- The contexts held and the hazard reason of the STOP line. -/
def State.ctxView (s : State) : (Option Ctx × Option Ctx × Option Ctx) × Bool :=
  ((s.rse.ctx1, s.rse.ctx2, s.rse.ctx3), s.rse.stopHazard)

/-- The flags, the lists and the tags of the N-link, and the management queue. -/
def State.linkView (s : State) :
    List (Option (List Byte)) × List OutFrame × List (EventFlag × List Byte) × (Nat × Nat) × List Req :=
  (s.nli.flags, s.nli.answers, s.nli.events, (s.nli.eventTag, s.nli.telemTag), s.mrh.queue)

/-- The test: its status, kind and parameters. -/
def State.testView (s : State) : TestStatus × TestKind × TestParams :=
  (s.lbu.status, s.lbu.kind, s.lbu.params)

/-- From `s` to `t` nothing has changed that the properties read, but for the zone and the tables. -/
structure Calm (s t : State) : Prop where
  gate : t.gateView = s.gateView
  posts : t.postView = s.postView
  ctx : t.ctxView = s.ctxView
  link : t.linkView = s.linkView
  test : t.testView = s.testView

/-- From `s` to `t` nothing has changed that the properties read, but for the zone. -/
structure Zoned (s t : State) : Prop extends Calm s t where
  bank : t.bankView = s.bankView

/-- From `s` to `t` nothing has changed that the properties read. -/
structure Quiet (s t : State) : Prop extends Zoned s t where
  zone : t.zoneView = s.zoneView

/-- From `s` to `t` only the lists of the N-link and the management queue have changed, and they stay legal. -/
structure LinkMoves (s t : State) : Prop where
  gate : t.gateView = s.gateView
  posts : t.postView = s.postView
  ctx : t.ctxView = s.ctxView
  test : t.testView = s.testView
  bank : t.bankView = s.bankView
  zone : t.zoneView = s.zoneView
  legal : s.linkLegal → t.linkLegal

/-- The contexts of one Response Engine are legal, as `State.responsesLegal` says of the part's. -/
def Rse.Legal (r : Rse) : Prop :=
  (r.ctx3.isSome = true → r.ctx1 = none ∧ r.ctx2 = none) ∧ r.stopHazard = r.ctx3.isSome ∧
    (∀ c, r.ctx3 = some c → c.resting) ∧ (∀ c, r.ctx1 = some c → c.ordinary) ∧
    ∀ c, r.ctx2 = some c → c.ordinary

/-! ### The acts -/

/-- The acts that no operation outside a test, a swap and a reset goes beyond, each of which keeps `P`. -/
structure Kept (P : State → Prop) : Prop where
  quiet : ∀ {s t : State}, Quiet s t → P s → P t
  link : ∀ {s t : State}, LinkMoves s t → P s → P t
  flag : ∀ (f : EventFlag) (d : List Byte) {s : State}, P s → P (setFlag f d s)
  answerThen : ∀ (after : AfterSent) (code : RespCode) (data : List Byte) {s : State}, P s →
    P (answerThen after code data s)
  answerRead : ∀ (code : RespCode) (data : List Byte) {s : State}, P s → P (answerRead code data s)
  evaluate : ∀ {s : State}, P s → P (evaluate s)
  arbitrate : ∀ {s : State}, P s → P (arbitrate s)
  postRelay : ∀ (close : Bool) {s : State}, P s → P (postRelay close s)
  postParam : ∀ (n : Node) (bytes : List Byte) {s : State}, s.admitsPass = true → P s →
    P (joinTail ⟨n, .param bytes, .pass, false, false⟩ s)
  queueAnswered : ∀ {s : State}, P s → P (onDlc Dlc.answered s)
  queueFailed : ∀ {s : State}, P s → P (onDlc Dlc.failed s)
  hazardEntry : ∀ (t : Trig) (d : Option Nat) {s : State}, P s → P (hazardEntry t d s)
  hazardJoin : ∀ (t : Trig) (c : Ctx) {s : State}, s.rse.ctx3 = some c → P s → P (hazardJoin t c s)
  respond : ∀ {s : State} {r : Rse}, r.ctx3 = s.rse.ctx3 → (s.rse.Legal → r.Legal) → P s →
    P { s with rse := r }
  cleared : ∀ (f : RseCounters → RseCounters) {s : State}, P s →
    P (onRse (fun r => { r with ctx3 := none, stopHazard := false, cnt := f r.cnt }) s)
  testOver : ∀ (status : TestStatus) {s : State}, status ≠ .running →
    (s.lbu.kind = s.lbu.params.kind → s.dEchoRunning = false) → P s → P (testOver status s)
  dEchoOver : ∀ {s : State}, P s → P (dEchoOver s)
  testStarted : ∀ (p : TestParams) {s : State}, s.testRunning = false → P s → P { s with lbu := p.started }
  staged : ∀ {s : State} (m : List Host.Cell), (∀ a, s.inForce a → Memory.read m a = Memory.read s.mem a) → P s →
    P { s with mem := m }

namespace Kept

variable {P : State → Prop} {s : State}

/-! ### Changes that no property reads -/

/-- A change that no property reads, most often so by definition. -/
theorem still (h : Kept P) {t : State} (hs : P s)
    (q : Quiet s t := by exact ⟨⟨⟨rfl, rfl, rfl, rfl, rfl⟩, rfl⟩, rfl⟩) : P t :=
  h.quiet q hs

theorem onWdc (h : Kept P) (f : Wdc → Wdc) (hs : P s) : P (onWdc f s) := h.still hs

theorem onSpu (h : Kept P) (f : Spu → Spu) (hs : P s) : P (onSpu f s) := h.still hs

theorem onDkc (h : Kept P) (f : Dkc → Dkc) (hs : P s) : P (onDkc f s) := h.still hs

theorem countDkc (h : Kept P) (f : DkcCounters → DkcCounters) (hs : P s) : P (countDkc f s) := h.onDkc _ hs

theorem countDlc (h : Kept P) (f : DlcCounters → DlcCounters) (hs : P s) : P (countDlc f s) :=
  h.still hs

theorem countRse (h : Kept P) (f : RseCounters → RseCounters) (hs : P s) : P (countRse f s) :=
  h.still hs

theorem countMgt (h : Kept P) (f : MgtCounters → MgtCounters) (hs : P s) : P (countMgt f s) :=
  h.still hs

theorem countNli (h : Kept P) (f : NliCounters → NliCounters) (hs : P s) : P (countNli f s) :=
  h.still hs

theorem countTbs (h : Kept P) (f : TbsCounters → TbsCounters) (hs : P s) : P (countTbs f s) :=
  h.still hs

theorem onNode (h : Kept P) (n : Node) (f : NodeRec → NodeRec) (hs : P s) : P (onNode n f s) :=
  h.still hs

theorem onRecord (h : Kept P) (f : TestRecord → TestRecord) (hs : P s) : P (onRecord f s) :=
  h.still hs

theorem drawn (h : Kept P) (hs : P s) : P (drawn s) := h.still hs

theorem clearTx (h : Kept P) (hs : P s) : P (clearTx s) := h.still hs

theorem answer (h : Kept P) (code : RespCode) (data : List Byte) (hs : P s) : P (answer code data s) :=
  h.answerThen .nothing code data hs

/-! ### Hazards -/

theorem dkcHold (h : Kept P) (hs : P s) : P (dkcHold s) := h.onDkc _ hs

theorem raiseFixed (h : Kept P) (t : Trig) (d : Option Nat) (hs : P s) : P (raiseFixed t d s) := by
  have harrived : P (arrived t s) := h.countRse _ hs
  unfold Machine.raiseFixed
  split
  · next c hc => exact h.hazardJoin t c hc harrived
  · exact h.hazardEntry t d harrived

theorem wireLostTest (h : Kept P) (hs : P s) : P (wireLostTest s) := by
  unfold Machine.wireLostTest
  split
  · exact hs
  · exact h.raiseFixed _ _ (h.still hs)

theorem outsideRaise (h : Kept P) (i : Slot) (hs : P s) : P (outsideRaise i s) :=
  h.raiseFixed _ _ (h.still hs)

theorem outsideTest (h : Kept P) (hs : P s) : P (outsideTest s) := by
  unfold Machine.outsideTest
  split
  · exact h.outsideRaise _ hs
  · exact hs

/-! ### The Dock Controller -/

theorem formSteering (h : Kept P) (hs : P s) : P (formSteering s) := by
  unfold Machine.formSteering
  split
  · exact h.onDkc _ hs
  · exact h.flag _ _ (h.onDkc _ hs)

theorem enterContact (h : Kept P) (o : ContactOrigin) (hs : P s) : P (enterContact o s) :=
  h.postRelay _ (h.onDkc _ hs)

theorem enterApproach (h : Kept P) (hs : P s) : P (enterApproach s) := by
  have hsteer := h.formSteering (h.onDkc (s := s)
    (fun k => { k with
      dock := .approach
      approachT := s.timerStart
      cnt := { k.cnt with approaches := bump k.cnt.approaches } }) hs)
  unfold Machine.enterApproach
  dsimp only
  split
  · exact h.enterContact _ hsteer
  · exact hsteer

theorem stationTest (h : Kept P) (hs : P s) : P (stationTest s) := by
  unfold Machine.stationTest
  split
  · exact h.enterApproach hs
  · exact hs

theorem enterFollow (h : Kept P) (hs : P s) : P (enterFollow s) :=
  h.stationTest (h.formSteering (h.onDkc _ hs))

theorem seekTest (h : Kept P) (hs : P s) : P (seekTest s) := by
  unfold Machine.seekTest
  split
  · exact h.enterFollow hs
  · exact hs

theorem returnEntry (h : Kept P) (r : ReturnReason) (hs : P s) : P (returnEntry r s) :=
  h.seekTest (h.flag _ _ (h.onDkc _ hs))

theorem tryReturn (h : Kept P) (r : ReturnReason) (hs : P s) : P (tryReturn r s) := by
  unfold Machine.tryReturn
  split
  · exact h.returnEntry r hs
  · exact h.countDkc _ hs

theorem rainJudge (h : Kept P) (hs : P s) : P (rainJudge s) := by
  unfold Machine.rainJudge
  dsimp only
  split
  · exact h.tryReturn _ (h.onDkc _ hs)
  · exact h.onDkc _ hs

theorem enterUndocked (h : Kept P) (hs : P s) : P (enterUndocked s) := h.rainJudge (h.onDkc _ hs)

theorem enterBackoff (h : Kept P) (mark : Bool) (hs : P s) : P (enterBackoff mark s) := h.still hs

theorem enterDockFault (h : Kept P) (c : DockFaultCause) (hs : P s) : P (enterDockFault c s) :=
  h.flag _ _ (h.onDkc _ hs)

theorem enterDocked (h : Kept P) (hs : P s) : P (enterDocked s) := h.flag _ _ (h.onDkc _ hs)

theorem contactEstablished (h : Kept P) (hs : P s) : P (contactEstablished s) := by
  unfold Machine.contactEstablished
  split
  · exact h.enterContact _ hs
  · split
    · exact h.enterContact _ (h.onDkc _ hs)
    · exact hs
  · exact hs

theorem contactLost (h : Kept P) (hs : P s) : P (contactLost s) := by
  unfold Machine.contactLost
  split
  · have hopen := h.postRelay false (h.onDkc (fun k => { k with relayT := k.relayT.stop }) hs)
    unfold contactLostInContact
    dsimp only
    split
    · exact h.enterUndocked hopen
    · exact h.formSteering (h.onDkc _ hopen)
  · exact h.enterUndocked (h.flag _ _ (h.countDkc _ (h.postRelay _ hs)))
  · exact hs

theorem takeContact (h : Kept P) (present : Bool) (hs : P s) : P (takeContact present s) := by
  unfold Machine.takeContact
  dsimp only
  split
  · split
    · exact h.contactEstablished (h.onDkc (fun k => { k with
        present := min (k.present + 1) 15, absent := 0, established := true }) hs)
    · exact h.onDkc (fun k => { k with present := min (k.present + 1) 15, absent := 0 }) hs
  · split
    · exact h.contactLost (h.onDkc (fun k => { k with
        absent := min (k.absent + 1) 15, present := 0, established := false }) hs)
    · exact h.onDkc (fun k => { k with absent := min (k.absent + 1) 15, present := 0 }) hs

theorem takeRelay (h : Kept P) (closed : Bool) (hs : P s) : P (takeRelay closed s) := by
  unfold Machine.takeRelay
  split
  · split
    · exact h.enterDocked hs
    · exact hs
  · split
    · exact h.still hs
    · exact hs
  · exact hs

theorem takeBattery (h : Kept P) (mv : Nat) (hs : P s) : P (takeBattery mv s) := by
  unfold Machine.takeBattery
  dsimp only
  split
  · split
    · exact h.tryReturn _ (h.onDkc _ hs)
    · exact h.onDkc _ hs
  · exact hs

theorem takeButton (h : Kept P) (count : Nat) (hs : P s) : P (takeButton count s) := by
  unfold Machine.takeButton
  dsimp only
  split_ifs
  · exact h.flag _ _ (h.countDkc _ (h.onDkc _ hs))
  · exact h.onDkc _ hs

theorem takePower (h : Kept P) (contact closed : Bool) (mv button : Nat) (hs : P s) :
    P (takePower contact closed mv button s) :=
  h.takeButton _ (h.takeBattery _ (h.takeRelay _ (h.takeContact _ hs)))

theorem powerSilent (h : Kept P) (hs : P s) : P (powerSilent s) := h.onDkc _ hs

theorem takeGuide (h : Kept P) (g : GuideSeen) (hs : P s) : P (takeGuide g s) := by
  have hseen := h.onDkc (fun k => { k with guide := g }) hs
  unfold Machine.takeGuide
  dsimp only
  split
  · exact h.seekTest hseen
  · exact h.formSteering hseen
  · exact h.formSteering hseen
  · exact hseen

theorem takeStation (h : Kept P) (v : StationSeen) (hs : P s) : P (takeStation v s) :=
  h.stationTest (h.onDkc _ hs)

theorem takeRain (h : Kept P) (rain : Bool) (hs : P s) : P (takeRain rain s) := by
  unfold Machine.takeRain
  dsimp only
  split
  · exact h.rainJudge (h.onDkc _ hs)
  · exact h.onDkc _ hs

theorem approachExpired (h : Kept P) (hs : P s) : P (approachExpired s) :=
  h.enterBackoff _ (h.countDkc _ hs)

theorem relayExpired (h : Kept P) (hs : P s) : P (relayExpired s) := by
  unfold Machine.relayExpired
  split
  · exact h.enterBackoff _ (h.countDkc _ (h.postRelay _ hs))
  · exact h.enterDockFault _ hs
  · exact hs

theorem motionExpired (h : Kept P) (hs : P s) : P (motionExpired s) := by
  unfold Machine.motionExpired
  split
  · unfold backoffDone
    dsimp only
    split
    · exact h.enterFollow (h.onDkc _ (h.onDkc _ hs))
    · exact h.enterDockFault _ (h.onDkc _ hs)
  · exact h.enterUndocked hs
  · exact hs

theorem batteryExpired (h : Kept P) (hs : P s) : P (batteryExpired s) := h.tryReturn _ (h.onDkc _ hs)

theorem rainExpired (h : Kept P) (hs : P s) : P (rainExpired s) := h.tryReturn _ (h.onDkc _ hs)

theorem dockReturn (h : Kept P) (hs : P s) : P (dockReturn s) := by
  unfold Machine.dockReturn
  split
  · exact h.tryReturn _ hs
  · exact hs

theorem dockUndock (h : Kept P) (hs : P s) : P (dockUndock s) := h.postRelay _ (h.onDkc _ hs)

theorem dockCancel (h : Kept P) (hs : P s) : P (dockCancel s) := by
  unfold Machine.dockCancel
  dsimp only
  split
  · exact h.enterUndocked (h.postRelay _ (h.countDkc _ hs))
  · exact h.enterUndocked (h.countDkc _ hs)

theorem repostRelay (h : Kept P) (c : Option Bool) (hs : P s) : P (repostRelay c s) := by
  unfold Machine.repostRelay
  split
  · exact hs
  · split
    · exact h.countDkc _ (h.postRelay _ hs)
    · exact hs

theorem dkcResume (h : Kept P) (hs : P s) : P (dkcResume s) := by
  have hfree := h.onDkc (fun k => { k with
    approachT := if k.dock = .contact then k.approachT else k.approachT.unhold
    relayT := k.relayT.unhold
    motionT := k.motionT.unhold }) hs
  unfold Machine.dkcResume
  dsimp only
  refine h.repostRelay _ ?_
  split
  · exact h.stationTest (h.formSteering hfree)
  · exact h.formSteering hfree
  · exact hfree

/-- An event at the Dock Controller keeps what its own effect keeps. -/
theorem dkcEvent (h : Kept P) {f : State → State} (hf : P (f s)) : P (dkcEvent f s) := by
  have hgate : P (if (f s).dkc.handsOn s.dkc then Machine.evaluate (f s) else f s) := by
    split
    · exact h.evaluate hf
    · exact hf
  unfold Machine.dkcEvent
  dsimp only
  split
  · exact hgate
  · exact h.wireLostTest hgate

end Kept

end Sys2Proof.Machine
end

section
/-! What the acts of the part keep: the Response Engine and the Sense Pin Unit. -/

namespace Sys2Proof.Machine

-- Side by side, these many short proofs would wait for one another on as many threads, each with its own stack.
set_option Elab.async false

/-! ### The contexts of level 1 and 2 -/

/-- A context that enters a step of a sequence keeps its trigger, and that it runs a sequence. -/
theorem enterStep_ordinary (s : State) (q fuel : Nat) (c : Ctx) (j : Nat) {c' : Ctx}
    (hc : c.ordinary) (h : s.enterStep q fuel c j = some c') : c'.ordinary := by
  induction fuel generalizing c j with
  | zero => cases h
  | succ fuel ih =>
    have hpass : ∀ x : Ctx, x.ordinary →
        (match s.nextStep q j x.repeats with
          | some (k, rep) => s.enterStep q fuel { x with repeats := rep } k
          | none => none) = some c' → c'.ordinary := by
      intro x hx hnext
      split at hnext
      · refine ih _ _ ?_ hnext
        exact hx
      · cases hnext
    unfold State.enterStep at h
    dsimp only at h
    split at h
    · cases h
    · split at h
      · exact hpass _ (by exact hc) h
      · cases h
        exact hc
    · split at h
      · exact hpass _ (by exact hc) h
      · cases h
        exact hc
    · exact hpass { c with step := j, entered := true, bladeStop := true } hc h
    · cases h
      exact hc

theorem startCtx_ordinary {s : State} {t : Trig} {d : Option Nat} {c : Ctx} (ht : t.tabled = true)
    (h : s.startCtx t d = some c) : c.ordinary :=
  enterStep_ordinary s _ _ (s.newCtx t d) 0 ⟨rfl, ht⟩ h

theorem suspendedCtx_ordinary {s : State} {t : Trig} {d : Option Nat} (ht : t.tabled = true) :
    (s.suspendedCtx t d).ordinary := by
  unfold State.suspendedCtx
  dsimp only
  split <;> exact ⟨rfl, ht⟩

theorem leaveStep_ordinary {s : State} {c c' : Ctx} (hc : c.ordinary) (h : s.leaveStep c = some c') :
    c'.ordinary := by
  unfold State.leaveStep at h
  split at h
  · cases h
    exact hc
  · split at h
    · refine enterStep_ordinary s _ _ _ _ ?_ h
      exact hc
    · cases h

theorem advance_ordinary {c : Ctx} (dt : Nat) (hc : c.ordinary) : (c.advance dt).ordinary := hc

/-- A level-1 context in place of the one that was held, where no level-3 context is held. -/
theorem Rse.Legal.setCtx1 {r : Rse} {c : Option Ctx} (h : r.Legal) (h3 : c.isSome = true → r.ctx3 = none)
    (hc : ∀ x, c = some x → x.ordinary) : Rse.Legal { r with ctx1 := c } := by
  obtain ⟨halone, hstop, hrest, -, hord2⟩ := h
  refine ⟨fun hsome => ⟨?_, (halone hsome).2⟩, hstop, hrest, hc, hord2⟩
  cases c with
  | none => rfl
  | some x =>
    have hnone : r.ctx3 = none := h3 rfl
    simp [hnone] at hsome

/-- A level-2 context in place of the one that was held, where no level-3 context is held. -/
theorem Rse.Legal.setCtx2 {r : Rse} {c : Option Ctx} (h : r.Legal) (h3 : c.isSome = true → r.ctx3 = none)
    (hc : ∀ x, c = some x → x.ordinary) : Rse.Legal { r with ctx2 := c } := by
  obtain ⟨halone, hstop, hrest, hord1, -⟩ := h
  refine ⟨fun hsome => ⟨(halone hsome).1, ?_⟩, hstop, hrest, hord1, hc⟩
  cases c with
  | none => rfl
  | some x =>
    have hnone : r.ctx3 = none := h3 rfl
    simp [hnone] at hsome

/-- No level-3 context is held beside one of level 1. -/
theorem Rse.Legal.ctx3_of_ctx1 {r : Rse} {c : Ctx} (h : r.Legal) (h1 : r.ctx1 = some c) : r.ctx3 = none := by
  cases h3 : r.ctx3 with
  | none => rfl
  | some x => simp [(h.1 (by simp [h3])).1] at h1

/-- No level-3 context is held beside one of level 2. -/
theorem Rse.Legal.ctx3_of_ctx2 {r : Rse} {c : Ctx} (h : r.Legal) (h2 : r.ctx2 = some c) : r.ctx3 = none := by
  cases h3 : r.ctx3 with
  | none => rfl
  | some x => simp [(h.1 (by simp [h3])).2] at h2

theorem Rse.Legal.count {r : Rse} (c : RseCounters) (h : r.Legal) : Rse.Legal { r with cnt := c } := h

namespace Kept

variable {P : State → Prop} {s : State}

/-! ### The Response Engine -/

theorem setCtx1 (h : Kept P) {c : Option Ctx} (h3 : s.rse.Legal → c.isSome = true → s.rse.ctx3 = none)
    (hc : s.rse.Legal → ∀ x, c = some x → x.ordinary) (hs : P s) : P (setCtx1 c s) :=
  h.respond rfl (fun hl => hl.setCtx1 (h3 hl) (hc hl)) hs

theorem setCtx2 (h : Kept P) {c : Option Ctx} (h3 : s.rse.Legal → c.isSome = true → s.rse.ctx3 = none)
    (hc : s.rse.Legal → ∀ x, c = some x → x.ordinary) (hs : P s) : P (setCtx2 c s) :=
  h.respond rfl (fun hl => hl.setCtx2 (h3 hl) (hc hl)) hs

theorem resumeCtx1 (h : Kept P) (hs : P s) : P (resumeCtx1 s) := by
  unfold Machine.resumeCtx1
  split
  · exact hs
  · next c hctx =>
    dsimp only
    split
    · exact h.countRse _ hs
    · split
      · next q hq =>
        refine h.setCtx1 (fun hl _ => hl.ctx3_of_ctx1 hctx) (fun hl x hx => ?_) (h.countRse _ hs)
        exact enterStep_ordinary _ _ _ c _ (hl.2.2.2.1 c hctx) hx
      · exact h.countRse _ hs

theorem putCtx2 (h : Kept P) {c : Option Ctx} (h3 : s.rse.Legal → c.isSome = true → s.rse.ctx3 = none)
    (hc : s.rse.Legal → ∀ x, c = some x → x.ordinary) (hs : P s) : P (putCtx2 c s) := by
  unfold Machine.putCtx2
  split
  · exact h.setCtx2 h3 hc hs
  · exact h.resumeCtx1 (h.setCtx2 (fun _ hx => nomatch hx) (fun _ _ hx => nomatch hx) hs)

theorem noneLate (h : Kept P) (hs : P s) : P (noneLate s) :=
  h.outsideTest (h.dkcEvent (h.dkcResume hs))

theorem noneEarly (h : Kept P) (i : Slot) (hs : P s) : P (noneEarly i s) :=
  h.dkcHold (h.dkcEvent (h.dkcResume (h.outsideRaise i hs)))

theorem toldNone (h : Kept P) (hs : P s) : P (toldNone s) := by
  have hgate := h.evaluate hs
  unfold Machine.toldNone
  dsimp only
  split
  · exact h.noneLate hgate
  · split
    · exact h.noneEarly _ (h.drawn hgate)
    · exact h.noneLate (h.drawn hgate)

theorem rseHandOff (h : Kept P) (held : Bool) (hs : P s) : P (rseHandOff held s) := by
  unfold Machine.rseHandOff
  split
  · split
    · exact h.evaluate hs
    · exact h.dkcHold (h.evaluate hs)
  · split
    · exact h.toldNone hs
    · exact h.evaluate hs

theorem setResponse (h : Kept P) (t : Trig) (d : Option Nat) (hs : P s) : P (setResponse t d s) :=
  h.flag _ _ hs

theorem takeSuspended (h : Kept P) {t : Trig} (d : Option Nat) (ht : t.tabled = true)
    (h3 : s.rse.ctx3 = none) (hs : P s) : P (takeSuspended t d s) := by
  refine h.setResponse t d (h.respond rfl (fun hl => ?_) hs)
  refine Rse.Legal.count _ (hl.setCtx1 (fun _ => h3) fun x hx => ?_)
  cases hx
  exact suspendedCtx_ordinary ht

theorem takeLevel1 (h : Kept P) {t : Trig} (d : Option Nat) (ht : t.tabled = true)
    (h3 : s.rse.ctx3 = none) (hs : P s) : P (takeLevel1 t d s) := by
  refine h.rseHandOff _ (h.setResponse t d (h.respond rfl (fun hl => ?_) hs))
  exact Rse.Legal.count _ (hl.setCtx1 (fun _ => h3) fun x hx => startCtx_ordinary ht hx)

theorem takeLevel2 (h : Kept P) {t : Trig} (d : Option Nat) (ht : t.tabled = true)
    (h3 : s.rse.ctx3 = none) (hs : P s) : P (takeLevel2 t d s) := by
  refine h.rseHandOff _ (h.putCtx2 (fun _ _ => ?_) (fun _ x hx => startCtx_ordinary ht hx)
    (h.setResponse t d (h.respond rfl (fun hl => Rse.Legal.count _ hl) hs)))
  simpa [Machine.setResponse] using h3

theorem raise (h : Kept P) (t : Trig) (d : Option Nat) (hs : P s) : P (raise t d s) := by
  unfold Machine.raise
  split
  · next ht =>
    have harrived : P (arrived t s) := h.countRse _ hs
    unfold raiseTabled
    dsimp only
    split
    · exact h.countRse _ harrived
    · split
      · exact h.countRse _ harrived
      · next hnone =>
        have h3 : (arrived t s).rse.ctx3 = none := by simpa using hnone
        split
        · exact h.countRse _ harrived
        · split
          · split
            · exact h.takeSuspended d ht h3 harrived
            · exact h.takeLevel1 d ht h3 harrived
          · exact h.takeLevel2 d ht h3 harrived
  · exact h.raiseFixed t d hs

theorem raiseAll (h : Kept P) (l : List (Trig × Option Nat)) (hs : P s) : P (raiseAll l s) := by
  unfold Machine.raiseAll
  induction l generalizing s with
  | nil => exact hs
  | cons e rest ih => exact ih (h.raise e.1 e.2 hs)

theorem stepExpired (h : Kept P) (hs : P s) : P (stepExpired s) := by
  unfold Machine.stepExpired
  split
  · next c h2 =>
    exact h.rseHandOff _ (h.putCtx2 (fun hl _ => hl.ctx3_of_ctx2 h2)
      (fun hl _ hx => leaveStep_ordinary (hl.2.2.2.2 c h2) hx) hs)
  · split
    · next c h1 =>
      exact h.rseHandOff _ (h.setCtx1 (fun hl _ => hl.ctx3_of_ctx1 h1)
        (fun hl _ hx => leaveStep_ordinary (hl.2.2.2.1 c h1) hx) hs)
    · exact hs

theorem cancelLevel1 (h : Kept P) (hs : P s) : P (cancelLevel1 s) := by
  have hgone : P (Machine.setCtx1 none (Machine.countRse (fun c => { c with cancels := bump c.cancels }) s)) :=
    h.setCtx1 (fun _ hx => nomatch hx) (fun _ _ hx => nomatch hx) (h.countRse _ hs)
  unfold Machine.cancelLevel1
  dsimp only
  split
  · exact hgone
  · exact h.rseHandOff _ hgone

theorem cancelLevel2 (h : Kept P) (hs : P s) : P (cancelLevel2 s) :=
  h.rseHandOff _ (h.putCtx2 (fun _ hx => nomatch hx) (fun _ _ hx => nomatch hx) (h.countRse _ hs))

theorem clearAccepted (h : Kept P) (hs : P s) : P (clearAccepted s) := 
  h.rseHandOff _ (h.cleared (fun k => { k with clearsAccepted := bump k.clearsAccepted }) hs)

/-! ### The Sense Pin Unit -/

theorem setUnit (h : Kept P) (p : Pin) (u : PinUnit) (hs : P s) : P (setUnit p u s) := h.onSpu _ hs

theorem setAxis (h : Kept P) (r : PinRole) (a : Axis) (hs : P s) : P (setAxis r a s) := by
  unfold Machine.setAxis
  split
  · exact h.onSpu _ hs
  · exact h.onSpu _ hs
  · exact hs

theorem tiltRaise (h : Kept P) (hs : P s) : P (tiltRaise s) := h.raiseFixed _ _ (h.onSpu _ hs)

theorem tiltTest (h : Kept P) (hs : P s) : P (tiltTest s) := by
  unfold Machine.tiltTest
  split
  · split
    · exact hs
    · exact hs
    · split
      · exact h.tiltRaise hs
      · exact h.onSpu _ hs
  · split
    · exact h.onSpu _ hs
    · exact h.onSpu _ hs
    · exact hs

theorem tiltSwapTest (h : Kept P) (hs : P s) : P (tiltSwapTest s) := by
  unfold Machine.tiltSwapTest
  dsimp only
  split
  · exact h.tiltRaise (h.tiltTest hs)
  · exact h.tiltTest hs

theorem spuHandOff (h : Kept P) (before : State) (hs : P s) : P (spuHandOff before s) := by
  have hgate : ∀ {t : State} (b : Bool), P t → P (if b then Machine.evaluate t else t) := by
    intro t b ht
    split
    · exact h.evaluate ht
    · exact ht
  have hrain : ∀ {t : State} (b r : Bool), P t →
      P (if b then Machine.dkcEvent (Machine.takeRain r) t else t) := by
    intro t b r ht
    split
    · exact h.dkcEvent (h.takeRain _ ht)
    · exact ht
  unfold Machine.spuHandOff
  extract_lets t u
  have htaken : P u := hrain _ _ (hgate _ hs)
  split
  · exact htaken
  · exact h.tiltTest htaken

theorem enterFault (h : Kept P) (p : Pin) (hs : P s) : P (enterFault p s) := by
  unfold Machine.enterFault
  dsimp only
  split
  · exact hs
  · split
    · exact h.flag _ _ (h.setAxis _ _ (h.setUnit _ _ hs))
    · exact h.setUnit _ _ hs

theorem takeDuty (h : Kept P) (p : Pin) (d : Nat) (hs : P s) : P (takeDuty p d s) := by
  unfold Machine.takeDuty
  dsimp only
  split
  · split
    · exact h.setAxis _ _ (h.setUnit _ _ hs)
    · exact h.enterFault p hs
  · exact h.setUnit _ _ hs

theorem dutyEdge (h : Kept P) (p : Pin) (l : Level) (hs : P s) : P (dutyEdge p l s) := by
  unfold Machine.dutyEdge
  split
  · unfold dutyRise
    dsimp only
    split
    · exact h.takeDuty _ _ (h.setUnit _ _ hs)
    · exact h.setUnit _ _ hs
  · dsimp only
    split
    · exact h.setUnit _ _ hs
    · exact hs

theorem unitEdge (h : Kept P) (p : Pin) (l : Level) (hs : P s) : P (unitEdge p l s) := by
  unfold Machine.unitEdge
  dsimp only
  split
  · exact hs
  · exact h.setUnit _ _ hs
  · exact h.setUnit _ _ hs
  · exact h.setUnit _ _ hs
  · exact h.dutyEdge p l hs

theorem pinChange (h : Kept P) (p : Pin) (l : Level) (hs : P s) : P (pinChange p l s) := by
  unfold Machine.pinChange
  dsimp only
  split
  · exact hs
  · split
    · exact h.spuHandOff _ (h.unitEdge p l (h.onSpu _ hs))
    · exact h.onSpu _ hs

theorem raiseRole (h : Kept P) (p : Pin) (r : PinRole) (hs : P s) : P (raiseRole p r s) := by
  unfold Machine.raiseRole
  split
  · split
    · exact h.onSpu _ hs
    · exact h.onSpu _ hs
    · exact h.onSpu _ hs
    · exact h.raise _ _ hs
  · exact h.raise _ _ hs
  · exact h.raise _ _ hs
  · exact hs

theorem debounced (h : Kept P) (p : Pin) (hs : P s) : P (debounced p s) := by
  unfold Machine.debounced
  dsimp only
  split
  · exact h.raiseRole _ _ (h.spuHandOff _ (h.setUnit _ _ hs))
  · exact h.spuHandOff _ (h.setUnit _ _ hs)

theorem edgeWindowEnd (h : Kept P) (p : Pin) (hs : P s) : P (edgeWindowEnd p s) := h.setUnit _ _ hs

theorem dutyTimedOut (h : Kept P) (p : Pin) (hs : P s) : P (dutyTimedOut p s) :=
  h.spuHandOff _ (h.enterFault p (h.setUnit _ _ hs))

theorem settleOver (h : Kept P) (hs : P s) : P (settleOver s) := h.spuHandOff _ (h.still hs)

theorem senseReset (h : Kept P) (hs : P s) : P (senseReset s) := h.spuHandOff _ (h.still hs)

theorem spuSwapHandOff (h : Kept P) (hs : P s) : P (spuSwapHandOff s) := by
  unfold Machine.spuSwapHandOff
  split
  · exact h.tiltSwapTest (h.dkcEvent (h.takeRain _ hs))
  · exact h.tiltSwapTest hs

theorem consumeResult (h : Kept P) (p : Pin) (hs : P s) : P (consumeResult p s) := by
  unfold Machine.consumeResult
  dsimp only
  split
  · exact h.setUnit _ _ hs
  · exact hs

theorem outsideExpired (h : Kept P) (hs : P s) : P (outsideExpired s) := by
  unfold Machine.outsideExpired
  split
  · split
    · exact h.still hs
    · exact h.outsideRaise _ hs
  · exact hs

end Kept

end Sys2Proof.Machine
end

section
/-! The lists of the N-link: what a flag, an answer, a frame sent and a request taken make of them (R158, R160,
R161, R163, R169). -/

namespace Sys2Proof.Machine

/-! ### The transmitter begins a frame -/

theorem txBegin_flags (s : State) : (txBegin s).nli.flags = s.nli.flags := by
  unfold txBegin
  (repeat' split) <;> rfl

theorem txBegin_tags (s : State) :
    (txBegin s).nli.eventTag = s.nli.eventTag ∧ (txBegin s).nli.telemTag = s.nli.telemTag := by
  unfold txBegin
  (repeat' split) <;> exact ⟨rfl, rfl⟩

/-- The transmitter takes an answer off its list, and puts none there. -/
theorem txBegin_answers (s : State) : (txBegin s).nli.answers.Sublist s.nli.answers := by
  unfold txBegin
  split
  · exact List.Sublist.refl _
  · split
    · exact List.Sublist.refl _
    · split
      · next f rest hlist =>
        rw [hlist]
        exact List.sublist_cons_self f rest
      · (repeat' split) <;> exact List.Sublist.refl _

/-- The transmitter takes an event off its list, and puts none there. -/
theorem txBegin_events (s : State) : (txBegin s).nli.events.Sublist s.nli.events := by
  unfold txBegin
  split
  · exact List.Sublist.refl _
  · split
    · exact List.Sublist.refl _
    · split
      · exact List.Sublist.refl _
      · split
        · next f d rest hlist =>
          rw [hlist]
          exact List.sublist_cons_self (f, d) rest
        · split <;> exact List.Sublist.refl _

/-- What the lists of the N-link may become: fewer frames on them, the tags and the management queue as legal. -/
theorem linkLegal_of_sublists {s t : State} (hqueue : t.mrh.queue.length ≤ s.mrh.queue.length)
    (hflags : t.nli.flags.length = s.nli.flags.length)
    (hevents : (t.nli.events.map Prod.fst).Sublist (s.nli.events.map Prod.fst))
    (hanswers : t.nli.answers.Sublist s.nli.answers)
    (heventTag : t.nli.eventTag = s.nli.eventTag ∨ t.nli.eventTag < 256)
    (htelemTag : t.nli.telemTag = s.nli.telemTag ∨ t.nli.telemTag < 256)
    (hs : s.linkLegal) : t.linkLegal := by
  obtain ⟨hroom, hnineteen, hnodup, hecho, hevent, htelem⟩ := hs
  refine ⟨hqueue.trans hroom, hflags.trans hnineteen, hnodup.sublist hevents, ?_, ?_, ?_⟩
  · exact (List.Sublist.length_le (List.Sublist.filter _ hanswers)).trans hecho
  · rcases heventTag with h | h
    · rwa [h]
    · exact h
  · rcases htelemTag with h | h
    · rwa [h]
    · exact h

theorem linkLegal_congr {s t : State} (h : t.linkView = s.linkView) (hs : s.linkLegal) : t.linkLegal := by
  simp only [State.linkView, Prod.mk.injEq] at h
  obtain ⟨hflags, hanswers, hevents, ⟨heventTag, htelemTag⟩, hqueue⟩ := h
  exact linkLegal_of_sublists (by rw [hqueue]) (by rw [hflags]) (by rw [hevents]) (by rw [hanswers])
    (.inl heventTag) (.inl htelemTag) hs

theorem txBegin_linkLegal {s : State} (hs : s.linkLegal) : (txBegin s).linkLegal :=
  linkLegal_of_sublists (by simp) (by rw [txBegin_flags]) ((txBegin_events s).map _) (txBegin_answers s)
    (.inl (txBegin_tags s).1) (.inl (txBegin_tags s).2) hs

/-- An answer that is no echoed frame joins the list. -/
theorem pushAnswer_linkLegal {o : OutFrame} {s : State} (ho : o.cls ≠ .echoed) (hs : s.linkLegal) :
    (pushAnswer o s).linkLegal := by
  obtain ⟨hroom, hnineteen, hnodup, hecho, htags⟩ := hs
  refine txBegin_linkLegal ⟨hroom, hnineteen, hnodup, ?_, htags⟩
  have hfilter : (s.nli.answers ++ [o]).filter (fun x => x.cls == .echoed) =
      s.nli.answers.filter (fun x => x.cls == .echoed) := by
    simp [List.filter_append, ho]
  unfold State.echoedWaiting
  rw [hfilter]
  exact hecho

/-! ### Flags, answers and requests -/

theorem map_fst_replaceEvent (f : EventFlag) (d : List Byte) (l : List (EventFlag × List Byte)) :
    (replaceEvent f d l).map Prod.fst = l.map Prod.fst := by
  rw [replaceEvent, List.map_map]
  refine List.map_congr_left fun e _ => ?_
  by_cases he : e.1 = f <;> simp [he]

theorem hasEvent_iff (f : EventFlag) (l : List (EventFlag × List Byte)) :
    hasEvent f l = true ↔ f ∈ l.map Prod.fst := by
  simp only [hasEvent, List.any_eq_true, beq_iff_eq, List.mem_map]

theorem setFlag_linkLegal (f : EventFlag) (d : List Byte) {s : State} (hs : s.linkLegal) :
    (setFlag f d s).linkLegal := by
  have ⟨hroom, hnineteen, hnodup, hecho, htags⟩ := hs
  have hflags : (s.nli.flags.set f.num (some d)).length = 19 := by rw [List.length_set, hnineteen]
  unfold setFlag
  split
  · exact hs
  · dsimp only
    split
    · split
      · refine ⟨hroom, hflags, ?_, hecho, htags⟩
        rwa [map_fst_replaceEvent]
      · next hnew =>
        refine txBegin_linkLegal ⟨hroom, hflags, ?_, hecho, htags⟩
        rw [Bool.not_eq_true, ← Bool.not_eq_true, hasEvent_iff] at hnew
        rw [List.map_append]
        exact List.nodup_append'.mpr ⟨hnodup, List.nodup_singleton _, by simpa using hnew⟩
    · exact ⟨hroom, hflags, hnodup, hecho, htags⟩

theorem answerThen_linkLegal (after : AfterSent) (code : RespCode) (data : List Byte) {s : State}
    (hs : s.linkLegal) : (answerThen after code data s).linkLegal := by
  unfold answerThen
  split
  · exact hs
  · exact pushAnswer_linkLegal (fun h => nomatch h) hs

theorem answerRead_linkLegal (code : RespCode) (data : List Byte) {s : State} (hs : s.linkLegal) :
    (answerRead code data s).linkLegal := by
  unfold answerRead
  split
  · exact hs
  · exact pushAnswer_linkLegal (fun h => nomatch h) hs

/-- An echoed frame joins the list only where fewer than four wait (R169). -/
theorem echoFrame_linkLegal (f : NFrame) {s : State} (hs : s.linkLegal) : (echoFrame f s).linkLegal := by
  have ⟨hroom, hnineteen, hnodup, hecho, htags⟩ := hs
  unfold echoFrame
  split
  · next hfew =>
    refine txBegin_linkLegal ⟨hroom, hnineteen, hnodup, ?_, htags⟩
    have hlength : ((s.nli.answers ++ [(⟨.echoed, f⟩ : OutFrame)]).filter (fun o => o.cls == .echoed)).length =
        s.echoedWaiting + 1 := by
      simp [List.filter_append, State.echoedWaiting]
    exact hlength.trans_le hfew
  · exact hs

theorem queueRequest_linkLegal (f : NFrame) {s : State} (hs : s.linkLegal) : (queueRequest f s).linkLegal := by
  have ⟨hroom, hrest⟩ := hs
  unfold queueRequest
  split
  · next hfew =>
    refine ⟨?_, hrest⟩
    have hlength : (s.mrh.queue ++ [(⟨f.kind == kindPass, f.tag, f.src, f.payload⟩ : Req)]).length =
        s.mrh.queue.length + 1 := by simp
    exact hlength.trans_le hfew
  · exact setFlag_linkLegal _ _ hs

theorem clearFlags_length (mask i : Nat) (l : List (Option (List Byte))) :
    (clearFlags mask i l).length = l.length := by
  induction l generalizing i with
  | nil => rfl
  | cons f rest ih => simp [clearFlags, ih]

/-! ### The end of a frame -/

theorem popHead_linkLegal {s : State} (hs : s.linkLegal) : (popHead s).linkLegal :=
  linkLegal_of_sublists (s := s) (by simp [popHead]) rfl (List.Sublist.refl _) (List.Sublist.refl _) (.inl rfl) (.inl rfl) hs

theorem sentEffect_linkLegal (cls : OutClass) {s : State} (hs : s.linkLegal) : (sentEffect cls s).linkLegal := by
  have hevent : (s.nli.eventTag + 1) % 256 < 256 := Nat.mod_lt _ (by decide)
  have htelem : (s.nli.telemTag + 1) % 256 < 256 := Nat.mod_lt _ (by decide)
  unfold sentEffect
  split
  · exact popHead_linkLegal hs
  · exact linkLegal_congr (s := popHead s) rfl (popHead_linkLegal hs)
  · exact linkLegal_congr (s := popHead s) rfl (popHead_linkLegal hs)
  · exact hs
  · exact hs
  · exact linkLegal_of_sublists (s := s) le_rfl rfl (List.Sublist.refl _) (List.Sublist.refl _) (.inr hevent) (.inl rfl) hs
  · exact linkLegal_of_sublists (s := s) le_rfl rfl (List.Sublist.refl _) (List.Sublist.refl _) (.inl rfl) (.inr htelem) hs

theorem frameSent_linkLegal {s : State} (hs : s.linkLegal) : (frameSent s).linkLegal := by
  unfold frameSent
  split
  · exact hs
  · exact txBegin_linkLegal (sentEffect_linkLegal _ (linkLegal_congr rfl hs))

theorem formTelemetry_linkLegal {s : State} (hs : s.linkLegal) : (formTelemetry s).linkLegal := by
  unfold formTelemetry
  exact txBegin_linkLegal (linkLegal_congr rfl hs)

theorem holdRead_linkLegal {s : State} (hs : s.linkLegal) : (holdRead s).linkLegal := by
  unfold holdRead
  split
  · exact hs
  · next r rest hqueue =>
    refine linkLegal_of_sublists (s := s) ?_ rfl (List.Sublist.refl _) (List.Sublist.refl _) (.inl rfl) (.inl rfl) hs
    rw [hqueue]
    exact Nat.le_succ _

end Sys2Proof.Machine
end

section
/-! What the acts of the part keep: the links, the NAV command and the requests. -/

namespace Sys2Proof.Machine

/-- A change of the N-link's lists and the management queue alone, beside the record and the marks of a test. -/
theorem LinkMoves.of_blocks {s t : State} (hmgt : t.mgt = s.mgt) (hdlc : t.dlc = s.dlc) (hrse : t.rse = s.rse)
    (htest : t.testView = s.testView) (hbank : t.bankView = s.bankView) (hzcu : t.zcu = s.zcu)
    (hlegal : s.linkLegal → t.linkLegal) : LinkMoves s t where
  gate := by rw [State.gateView, hmgt]; rfl
  posts := by rw [State.postView, hdlc]; rfl
  ctx := by rw [State.ctxView, hrse]; rfl
  test := htest
  bank := hbank
  zone := by rw [State.zoneView, hmgt, hzcu]; rfl
  legal := hlegal

theorem LinkMoves.of_quiet {s t : State} (q : Quiet s t) : LinkMoves s t :=
  ⟨q.gate, q.posts, q.ctx, q.test, q.bank, q.zone, linkLegal_congr q.link⟩

/-- An address of the bank in force lies outside every table of the other bank. -/
theorem State.inForce_outside_staged (s : State) {a : Nat} (ha : s.inForce a) (t : Table) :
    a < s.tableAddr .staged t 0 ∨ s.tableAddr .staged t 0 + t.size ≤ a := by
  have hbase := t.base_add_size
  obtain ⟨hfrom, hto⟩ := ha
  simp only [State.tableAddr]
  cases hhigh : s.tbs.activeHigh <;> simp only [State.bankBase, hhigh] at hfrom hto ⊢ <;> simp at * <;> omega

namespace Kept

variable {P : State → Prop} {s : State}

/-- One of two states, each of which has the property. -/
theorem either (c : Prop) [Decidable c] {t u : State} (ht : P t) (hu : P u) : P (if c then t else u) := by
  split
  · exact ht
  · exact hu

/-! ### The lists of the N-link -/

theorem echoFrame (h : Kept P) (f : NFrame) (hs : P s) : P (echoFrame f s) := by
  refine h.link (LinkMoves.of_blocks ?_ ?_ ?_ ?_ ?_ ?_ (echoFrame_linkLegal f)) hs
  all_goals
    unfold Machine.echoFrame
    split <;> simp [pushAnswer, Machine.onRecord, onLbu, State.testView, State.bankView]

theorem formTelemetry (h : Kept P) (hs : P s) : P (formTelemetry s) := by
  refine h.link (LinkMoves.of_blocks ?_ ?_ ?_ ?_ ?_ ?_ formTelemetry_linkLegal) hs
  all_goals simp [Machine.formTelemetry, State.testView, State.bankView]

theorem frameSent (h : Kept P) (hs : P s) : P (frameSent s) := by
  refine h.link (LinkMoves.of_blocks ?_ ?_ ?_ ?_ ?_ ?_ frameSent_linkLegal) hs
  all_goals
    unfold Machine.frameSent
    split
    · rfl
    · unfold sentEffect
      split <;> simp [popHead, onLbu, State.testView, State.bankView]

theorem holdRead (h : Kept P) (hs : P s) : P (holdRead s) := by
  refine h.link (LinkMoves.of_blocks ?_ ?_ ?_ ?_ ?_ ?_ holdRead_linkLegal) hs
  all_goals
    unfold Machine.holdRead
    split <;> rfl

theorem linkError (h : Kept P) (cause : LinkCause) (hs : P s) : P (linkError cause s) :=
  h.flag _ _ (h.countNli _ hs)

theorem queueRequest (h : Kept P) (f : NFrame) (hs : P s) : P (queueRequest f s) := by
  by_cases hfew : s.mrh.queue.length < 4
  · refine h.link (LinkMoves.of_blocks ?_ ?_ ?_ ?_ ?_ ?_ (queueRequest_linkLegal f)) hs
    all_goals
      rw [Machine.queueRequest, if_pos hfew]
      rfl
  · rw [Machine.queueRequest, if_neg hfew]
    exact h.linkError _ hs

/-! ### The NAV command and the receive framer -/

theorem motionFrame (h : Kept P) (p : List Byte) (hs : P s) : P (motionFrame p s) := by
  unfold Machine.motionFrame
  split
  · exact h.countMgt _ hs
  · split
    · exact h.countMgt _ hs
    · exact h.evaluate (h.still hs)

theorem goStale (h : Kept P) (hs : P s) : P (goStale s) := by
  unfold Machine.goStale
  split
  · exact hs
  · exact h.flag _ _ (h.still hs)

theorem ageExpired (h : Kept P) (hs : P s) : P (ageExpired s) := h.evaluate (h.goStale hs)

theorem dispatch (h : Kept P) (f : NFrame) (hs : P s) : P (dispatch f s) :=
  either _ (h.motionFrame _ hs) (either _ (h.queueRequest f hs) (h.linkError _ hs))

theorem received (h : Kept P) (f : NFrame) (hs : P s) : P (received f s) := by
  have hcounted : P (Machine.countNli (fun c => { c with received := bump c.received }) s) := h.countNli _ hs
  exact either _ (h.countNli _ hcounted) (either _ (h.echoFrame f hcounted) (h.dispatch f hcounted))

theorem setFramer (h : Kept P) (st : FramerState) (bytes : List Byte) (hs : P s) : P (setFramer st bytes s) :=
  h.still hs

theorem frameDone (h : Kept P) (bytes : List Byte) (hs : P s) : P (frameDone bytes s) :=
  either _ (h.received _ (h.setFramer _ _ hs)) (h.linkError _ (h.setFramer _ _ hs))

theorem headerDone (h : Kept P) (bytes : List Byte) (hs : P s) : P (headerDone bytes s) :=
  either _ (h.linkError _ (h.setFramer _ _ hs)) (either _ (h.setFramer _ _ hs) (h.setFramer _ _ hs))

theorem takeByte (h : Kept P) (b : Byte) (hs : P s) : P (takeByte s b) := by
  unfold Machine.takeByte
  dsimp only
  split
  · exact either _ (h.setFramer _ _ hs) hs
  · exact either _ (h.headerDone _ hs) (h.setFramer _ _ hs)
  · exact either _ (h.setFramer _ _ hs) (h.setFramer _ _ hs)
  · exact either _ (h.frameDone _ hs) (h.setFramer _ _ hs)

theorem takeBytes (h : Kept P) (bytes : List Byte) (hs : P s) : P (takeBytes bytes s) := by
  unfold Machine.takeBytes
  induction bytes generalizing s with
  | nil => exact hs
  | cons b rest ih => exact ih (h.takeByte b hs)

theorem truncate (h : Kept P) (hs : P s) : P (truncate s) :=
  either _ hs (h.linkError _ (h.setFramer _ _ hs))

/-! ### The drive link -/

theorem beginTx (h : Kept P) (n : Node) (c : Carried) (hs : P s) : P (beginTx n c s) := h.still hs

theorem nodeAnswered (h : Kept P) (n : Node) (hs : P s) : P (nodeAnswered n s) := h.still hs

theorem slipRaise (h : Kept P) (n : Node) (hs : P s) : P (slipRaise n s) :=
  h.raise _ _ (h.flag _ _ (h.countDlc _ hs))

theorem stallRaise (h : Kept P) (n : Node) (hs : P s) : P (stallRaise n s) := h.raise _ _ (h.countDlc _ hs)

theorem jamRaise (h : Kept P) (n : Node) (hs : P s) : P (jamRaise n s) := h.raise _ _ (h.countDlc _ hs)

theorem wheelStatus (h : Kept P) (n : Node) (speed : Int) (current : Nat) (hs : P s) :
    P (wheelStatus n speed current s) := by
  unfold Machine.wheelStatus
  split
  · exact hs
  · extract_lets slip stall t u
    have ht : P t := h.onNode _ _ hs
    have hu : P u := either _ (h.slipRaise n ht) ht
    exact either _ (h.stallRaise n hu) hu

theorem bladeStatus (h : Kept P) (n : Node) (speed current : Nat) (hs : P s) :
    P (bladeStatus n speed current s) := by
  unfold Machine.bladeStatus
  split
  · exact hs
  · extract_lets jam t
    have ht : P t := h.onNode _ _ hs
    exact either _ (h.jamRaise n ht) ht

theorem powerStatus (h : Kept P) (n : Node) (mv : Nat) (contact closed : Bool) (charge button : Nat) (hs : P s) :
    P (powerStatus n mv contact closed charge button s) :=
  h.dkcEvent (h.takePower _ _ _ _ (h.onNode _ _ hs))

theorem takeStatus (h : Kept P) (n : Node) (kind : NodeKind) (p : List Byte) (hs : P s) :
    P (takeStatus n kind p s) := by
  unfold Machine.takeStatus
  split
  · exact h.wheelStatus _ _ _ hs
  · exact h.wheelStatus _ _ _ hs
  · exact h.bladeStatus _ _ _ hs
  · exact h.powerStatus _ _ _ _ _ _ hs
  · exact hs

theorem takeAnswer (h : Kept P) (t : Transaction) (p : List Byte) (hs : P s) : P (takeAnswer t p s) := by
  have hnode : P (Machine.nodeAnswered t.node s) := h.nodeAnswered _ hs
  unfold Machine.takeAnswer
  split
  · exact h.countDlc _ hs
  · dsimp only
    split
    · exact hnode
    · exact h.takeStatus _ _ _ (h.onNode _ _ hnode)
    · exact h.takeStatus _ _ _ hnode
    · exact hnode
    · exact hnode

theorem refuseRead (h : Kept P) (hs : P s) : P (refuseRead s) :=
  h.answerRead _ _ (h.countDlc _ (h.still hs))

theorem endRead (h : Kept P) (code : RespCode) (data : List Byte) (hs : P s) : P (endRead code data s) := by
  unfold Machine.endRead
  split
  · exact hs
  · split
    · exact h.refuseRead hs
    · exact h.answerRead _ _ (h.still hs)

/-! ### The D-link echo -/

theorem echoSend (h : Kept P) (hs : P s) : P (echoSend s) := by
  unfold Machine.echoSend
  split
  · exact h.still hs
  · exact hs

theorem takeLink (h : Kept P) (hs : P s) : P (takeLink s) := h.echoSend (h.still hs)

theorem echoNext (h : Kept P) (hs : P s) : P (echoNext s) := either _ (h.echoSend hs) (h.dEchoOver hs)

theorem echoAnswered (h : Kept P) (sent p : List Byte) (hs : P s) : P (echoAnswered sent p s) :=
  h.onRecord _ hs

theorem nEchoBegin (h : Kept P) (hs : P s) : P (nEchoBegin s) := h.still hs

/-! ### The end of a transaction -/

theorem answered (h : Kept P) (t : Transaction) (p : List Byte) (hs : P s) : P (answered t p s) := by
  have htaken : P (Machine.takeAnswer t p s) := h.takeAnswer t p hs
  unfold Machine.answered
  dsimp only
  split
  · exact h.arbitrate (h.clearTx (h.queueAnswered htaken))
  · exact h.arbitrate (h.clearTx htaken)
  · exact h.arbitrate (h.clearTx (h.endRead _ _ htaken))
  · exact h.echoNext (h.echoAnswered _ _ (h.clearTx htaken))

theorem dLinkArrival (h : Kept P) (bytes : List Byte) (hs : P s) : P (dLinkArrival bytes s) := by
  unfold Machine.dLinkArrival
  split
  · exact h.countDlc _ hs
  · split
    · exact h.answered _ _ hs
    · exact h.countDlc _ hs

theorem retry (h : Kept P) (t : Transaction) (hs : P s) : P (retry t s) := h.still hs

theorem loseNode (h : Kept P) (n : Node) (hs : P s) : P (loseNode n s) := h.countDlc _ (h.onNode _ _ hs)

theorem losePower (h : Kept P) (n : Node) (hs : P s) : P (losePower n s) := h.powerSilent (h.flag _ _ hs)

theorem failTx (h : Kept P) (t : Transaction) (hs : P s) : P (failTx t s) := by
  unfold Machine.failTx
  extract_lets counted aged lost
  have hcounted : P counted := h.countDlc _ hs
  have haged : P aged := either _ hcounted (h.onNode _ _ hcounted)
  have hlost : P lost := either _ (h.loseNode _ haged) haged
  split
  · exact h.clearTx (h.queueFailed hlost)
  · exact h.clearTx (h.endRead _ _ hlost)
  · exact h.clearTx hlost

theorem nodeLostRaise (h : Kept P) (n : Node) (hs : P s) : P (nodeLostRaise n s) :=
  either _ (h.raise _ _ (h.arbitrate (h.drawn hs))) (h.arbitrate (h.raise _ _ (h.drawn hs)))

theorem secondTimeout (h : Kept P) (t : Transaction) (hs : P s) : P (secondTimeout t s) :=
  either _ (either _ (h.arbitrate (h.losePower _ (h.failTx t hs))) (h.nodeLostRaise _ (h.failTx t hs)))
    (h.arbitrate (h.failTx t hs))

theorem echoTimeout (h : Kept P) (t : Transaction) (hs : P s) : P (echoTimeout t s) :=
  h.echoNext (h.onRecord _ (h.clearTx (h.onNode _ _ (h.countDlc _ hs))))

theorem responseExpired (h : Kept P) (hs : P s) : P (responseExpired s) := by
  unfold Machine.responseExpired
  split
  · exact hs
  · split
    · exact h.echoTimeout _ hs
    · exact either _ (h.secondTimeout _ hs) (h.retry _ hs)

theorem slipExpired (h : Kept P) (n : Node) (hs : P s) : P (slipExpired n s) := h.slipRaise n (h.onNode _ _ hs)

theorem stallExpired (h : Kept P) (n : Node) (hs : P s) : P (stallExpired n s) :=
  h.stallRaise n (h.onNode _ _ hs)

theorem jamExpired (h : Kept P) (n : Node) (hs : P s) : P (jamExpired n s) := h.jamRaise n (h.onNode _ _ hs)

/-! ### Pass-through -/

theorem refusePass (h : Kept P) (code : RespCode) (hs : P s) : P (refusePass code s) :=
  h.answer _ _ (h.countDlc _ hs)

theorem passWrite (h : Kept P) (n : Node) (bytes : List Byte) (hs : P s) : P (passWrite n bytes s) := by
  unfold Machine.passWrite
  split
  · exact h.refusePass _ hs
  · split
    · exact h.refusePass _ hs
    · next hroom =>
      have hadmits : s.admitsPass = true := by simpa using hroom
      exact h.answer _ _ (h.postParam n bytes hadmits (h.countDlc _ hs))

theorem passRead (h : Kept P) (n : Node) (bytes : List Byte) (hs : P s) : P (passRead n bytes s) :=
  either _ (h.refusePass _ hs)
    (either _ (h.refusePass _ hs) (h.arbitrate (h.still (h.holdRead hs))))

theorem passHead (h : Kept P) (hs : P s) : P (passHead s) := by
  unfold Machine.passHead
  split
  · unfold passRequest
    split
    · exact h.refusePass _ hs
    · exact h.passWrite _ _ hs
    · exact h.passRead _ _ hs
  · exact hs

/-! ### The requests -/

theorem answerData (h : Kept P) (d : Option (List Byte)) (hs : P s) : P (answerData d s) := by
  unfold Machine.answerData
  split
  · exact h.answer _ _ hs
  · exact h.answer _ _ hs

theorem ackEvents (h : Kept P) (p : List Byte) (hs : P s) : P (ackEvents p s) := by
  unfold Machine.ackEvents
  split
  · exact h.answer _ _ hs
  · refine h.answer _ _ (h.link (LinkMoves.of_blocks (s := s) rfl rfl rfl rfl rfl rfl fun hlegal => ?_) hs)
    obtain ⟨hroom, hnineteen, hrest⟩ := hlegal
    exact ⟨hroom, (clearFlags_length _ 0 s.nli.flags).trans hnineteen, hrest⟩

theorem setReportMask (h : Kept P) (p : List Byte) (hs : P s) : P (setReportMask p s) :=
  either _ (h.answer _ _ hs) (h.answer _ _ (h.still hs))

theorem swapTables (h : Kept P) (hs : P s) : P (swapTables s) :=
  either _ (h.answer _ _ hs)
    (either _ (h.answer _ _ (h.countTbs _ hs)) (h.answer _ _ (h.still hs)))

theorem dropSwap (h : Kept P) (hs : P s) : P (dropSwap s) := h.flag _ _ (h.still hs)

theorem requestReturn (h : Kept P) (hs : P s) : P (requestReturn s) :=
  h.answer _ _ (h.dkcEvent (h.dockReturn hs))

theorem requestCancel (h : Kept P) (hs : P s) : P (requestCancel s) :=
  either _ (h.answer _ _ (h.dkcEvent (h.dockCancel hs))) (h.answer _ _ hs)

theorem requestUndock (h : Kept P) (hs : P s) : P (requestUndock s) :=
  either _ (h.answer _ _ (h.dkcEvent (h.dockUndock hs))) (h.answer _ _ hs)

theorem cancelResponse (h : Kept P) (p : List Byte) (hs : P s) : P (cancelResponse p s) := by
  unfold Machine.cancelResponse
  split
  · exact either _ (h.answer _ _ (h.cancelLevel1 hs)) (h.answer _ _ hs)
  · exact either _ (h.answer _ _ (h.cancelLevel2 hs)) (h.answer _ _ hs)
  · exact h.answer _ _ hs

theorem clearHazard (h : Kept P) (hs : P s) : P (clearHazard s) := by
  unfold Machine.clearHazard
  split
  · exact h.answer _ _ hs
  · exact either _ (h.answer _ _ (h.countRse _ hs)) (h.answer _ _ (h.clearAccepted hs))

theorem senseRead (h : Kept P) (p : List Byte) (hs : P s) : P (senseRead p s) := by
  unfold Machine.senseRead
  split
  · exact h.answer _ _ hs
  · split
    · exact h.answer _ _ (h.consumeResult _ hs)
    · exact h.answer _ _ hs

theorem unknownRequest (h : Kept P) (hs : P s) : P (unknownRequest s) := h.answer _ _ (h.countNli _ hs)

theorem holdReset (h : Kept P) (hs : P s) : P (holdReset s) := h.still hs

/-! ### Loading a table -/

theorem refuseSegment (h : Kept P) (hs : P s) : P (refuseSegment s) := h.answer _ _ (h.countTbs _ hs)

theorem setStaged (h : Kept P) (t : Table) (v : StagedTable) (hs : P s) : P (setStaged t v s) := h.still hs

theorem completeLoad (h : Kept P) (t : Table) (hs : P s) : P (completeLoad t s) := by
  have hchecked := h.staged (checkTable t ⟨s.mem, s.tableAddr .staged t 0, 0⟩).mem
    (fun a ha => (checkTable_within t _).2.1 a (s.inForce_outside_staged ha t)) hs
  exact h.answer _ _ (h.setStaged _ _ (h.countTbs _ hchecked))

theorem incompleteLoad (h : Kept P) (t : Table) (got : Nat) (hs : P s) : P (incompleteLoad t got s) :=
  h.answer _ _ (h.setStaged _ _ (h.countTbs _ hs))

/-- A segment that fits its table is written to the bank that is not in force. -/
theorem takeSegment (h : Kept P) {t : Table} (pos : SegPos) {off : Nat} {data : List Byte}
    (hfits : off + data.length ≤ t.size) (hs : P s) : P (takeSegment t pos off data s) := by
  have hwritten := h.staged (Memory.writeBytes s.mem (s.tableAddr .staged t off) data)
    (fun a ha => by
      have houtside := s.inForce_outside_staged ha t
      rw [Memory.read_writeBytes, if_neg]
      simp only [State.tableAddr] at houtside ⊢
      omega) hs
  unfold Machine.takeSegment
  extract_lets mark got _ u
  have hu : P u := h.setStaged _ _ hwritten
  exact either _ (either _ (h.completeLoad t hu) (h.incompleteLoad t _ hu)) (h.answer _ _ hu)

theorem writeTable (h : Kept P) (p : List Byte) (hs : P s) : P (writeTable p s) := by
  unfold Machine.writeTable
  split
  · exact h.answer _ _ hs
  · split
    · next t pos _ _ =>
      dsimp only
      split
      · exact h.refuseSegment hs
      · split
        · next hfits =>
          simp only [State.segmentFits, Bool.and_eq_true, decide_eq_true_eq] at hfits
          exact h.takeSegment pos hfits.1.2 hs
        · exact h.refuseSegment (h.setStaged _ _ hs)
    · exact h.refuseSegment hs

end Kept

end Sys2Proof.Machine
end

section
/-! What the acts of the part keep: the wire, the zone context, the tests, time, and so every step. -/

namespace Sys2Proof.Machine

/-- The acts of a part whose zone context takes updates, each of which keeps `P`. -/
structure KeptZone (P : State → Prop) : Prop extends Kept P where
  stages : ∀ (m : PerSlot (PerCoil MirrorLane)) (now : PerSlot LoopState) {s : State}, P s → P (zoneStages m now s)
  recompute : ∀ {s : State}, P s → P (zoneRecompute s)
  zoneReset : ∀ {s : State}, P s → P (zoneReset s)

/-- The acts of the whole part, each of which keeps `P`. -/
structure KeptByActs (P : State → Prop) : Prop extends KeptZone P where
  swap : ∀ {s : State}, s.swapDue = true → P s → P (takeSwap false s)
  driveReset : ∀ {s : State}, P s → P (driveReset s)
  restart : ∀ (n : NRate) (d : DRate) (s : State), P (restart n d s)

namespace Kept

variable {P : State → Prop} {s : State}

/-! ### The Wire Decoder's own records -/

theorem mapLanes (h : Kept P) (c : Coil) (f : Lane → Lane) (hs : P s) : P (mapLanes c f s) := h.onWdc _ hs

theorem onCoil (h : Kept P) (c : Coil) (f : CoilUnit → CoilUnit) (hs : P s) : P (onCoil c f s) := h.onWdc _ hs

theorem abortWindows (h : Kept P) (c : Coil) (hs : P s) : P (abortWindows c s) := by
  unfold Machine.abortWindows
  exact h.onCoil _ _ (h.mapLanes _ _ hs)

theorem dropBursts (h : Kept P) (c : Coil) (hs : P s) : P (dropBursts c s) := h.onWdc _ hs

theorem correlatorTake (h : Kept P) (hs : P s) : P (correlatorTake s) := by
  unfold Machine.correlatorTake
  split
  · exact hs
  · split
    · split
      · exact hs
      · exact either _ (h.abortWindows _ (h.onWdc _ hs)) (h.onWdc _ hs)
    · exact h.onWdc _ hs

theorem restartCoil (h : Kept P) (c : Coil) (hs : P s) : P (restartCoil c s) := h.onCoil _ _ (h.mapLanes _ _ hs)

theorem recordVerdict (h : Kept P) (v : Option Verdict) (hs : P s) : P (recordVerdict v s) := by
  unfold Machine.recordVerdict
  split
  · exact h.onRecord _ hs
  · exact hs

/-! ### The zone context's hand-offs to the Dock Controller, and its freeze -/

theorem zoneToDock (h : Kept P) (guide station : Bool) (hs : P s) : P (zoneToDock guide station s) := by
  unfold Machine.zoneToDock
  dsimp only
  have hguide := either (guide = true) (h.dkcEvent (h.takeGuide s.guideNow hs)) hs
  exact either _ (h.dkcEvent (h.takeStation _ hguide)) hguide

theorem stopForTest (h : Kept P) (hs : P s) : P (onRse (fun r => { r with stopTest := true }) s) := h.still hs

theorem zoneFreeze (h : Kept P) (hs : P s) : P (zoneFreeze s) := h.still hs

theorem telemetryRestart (h : Kept P) (hs : P s) : P (telemetryRestart s) := h.still hs

/-! ### Time -/

theorem rse_advance_ctx3 (dt : Nat) (r : Rse) : (r.advance dt).ctx3 = r.ctx3 := by
  unfold Rse.advance
  split
  · rfl
  · split <;> rfl

theorem rse_advance_legal (dt : Nat) {r : Rse} (hr : r.Legal) : (r.advance dt).Legal := by
  obtain ⟨halone, hstop, hrest, hord1, hord2⟩ := hr
  unfold Rse.advance
  split
  · exact ⟨halone, hstop, hrest, hord1, hord2⟩
  · next h3 =>
    split
    · next c h2 =>
      refine ⟨fun hsome => ?_, hstop, hrest, hord1, fun x hx => ?_⟩
      · simp [h3] at hsome
      · cases hx
        exact advance_ordinary dt (hord2 c h2)
    · next h2 =>
      refine ⟨fun hsome => ?_, hstop, hrest, fun x hx => ?_, hord2⟩
      · simp [h3] at hsome
      · obtain ⟨c, h1, rfl⟩ := Option.map_eq_some_iff.mp hx
        exact advance_ordinary dt (hord1 c h1)

theorem advance (h : Kept P) (dt : Nat) (hs : P s) : P (advance dt s) :=
  h.still (s := { s with rse := s.rse.advance dt })
    (h.respond (rse_advance_ctx3 dt _) (rse_advance_legal dt) hs)

end Kept

/-! ### The wire and the tests -/

namespace KeptZone

variable {P : State → Prop} {s : State}

theorem zoneUpdate (h : KeptZone P) (pub : Published) (hs : P s) : P (zoneUpdate pub s) := by
  unfold Machine.zoneUpdate
  split
  · dsimp only
    split
    · exact h.still hs
    · exact h.stages _ _ hs
  · exact hs

theorem burst (h : KeptZone P) (coil seq : Byte) (samples : List (BitVec 16)) (hs : P s) :
    P (burst coil seq samples s) := by
  unfold Machine.burst
  split
  · exact h.onWdc _ hs
  · split
    · exact h.onCoil _ _ hs
    · unfold judgeBurst
      split
      · exact h.onWdc _ hs
      · split
        · exact h.onCoil _ _ hs
        · split
          · exact h.flag _ _ (h.onCoil _ _ hs)
          · exact h.zoneUpdate _ (h.correlatorTake (h.onWdc _ (h.mapLanes _ _ (h.onCoil _ _ hs))))

theorem silence (h : KeptZone P) (c : Coil) (hs : P s) : P (silence c s) :=
  h.zoneUpdate _ (h.correlatorTake (h.onCoil _ _ (h.dropBursts _ (h.mapLanes _ _ (h.abortWindows _ hs)))))

theorem coilIntoTest (h : KeptZone P) (c : Coil) (hs : P s) : P (coilIntoTest c s) :=
  h.zoneUpdate _ (h.correlatorTake (h.onCoil _ _ (h.mapLanes _ _ (h.dropBursts _ hs))))

theorem coilOutOfTest (h : KeptZone P) (c : Coil) (hs : P s) : P (coilOutOfTest c s) :=
  h.zoneUpdate _ (h.restartCoil _ (h.dropBursts _ hs))

theorem placeBurst (h : KeptZone P) (hs : P s) : P (placeBurst s) := by
  unfold Machine.placeBurst
  split
  · extract_lets level samples e t
    have ht : P t := h.still hs
    exact h.zoneUpdate _ (h.correlatorTake (h.onWdc _ (h.mapLanes _ _ ht)))
  · exact hs

/-- While a wire pattern test runs, its kind is that of no D-link echo. -/
theorem dEchoRunning_of_wireTest (hw : s.wireTest.isSome = true) (hk : s.lbu.kind = s.lbu.params.kind) :
    s.dEchoRunning = false := by
  unfold State.wireTest at hw
  split at hw
  · split at hw
    · next hp => simp [State.dEchoRunning, hk, hp, TestParams.kind]
    · simp at hw
  · simp at hw

/-- The end of a wire pattern test, whose test runs in `t` as it did in `s`. -/
theorem wireTestOver (h : KeptZone P) {t : State} (status : TestStatus) (hne : status ≠ .running)
    (hw : s.wireTest.isSome = true) (hlbu : t.lbu = s.lbu) (ht : P t) : P (testOver status t) := by
  refine h.testOver status hne (fun hk => ?_) ht
  rw [hlbu] at hk
  have hstill := dEchoRunning_of_wireTest hw hk
  rwa [State.dEchoRunning, State.testRunning, hlbu]

theorem wireTest_of_patternOver {e : RingEntry} (hover : s.patternOver e = true) : s.wireTest.isSome = true := by
  unfold State.patternOver at hover
  split at hover
  · next hw => rw [hw]; rfl
  · cases hover

theorem correlationOver (h : KeptZone P) (hs : P s) : P (correlationOver s) := by
  unfold Machine.correlationOver
  split
  · next e _ =>
    unfold correlationEnded
    extract_lets t
    have ht : P t := h.zoneUpdate _ (h.recordVerdict _ (h.onWdc _ hs))
    refine h.correlatorTake ?_
    split
    · next hover =>
      exact h.wireTestOver .completed (by decide) (wireTest_of_patternOver hover) (by simp)
        (h.recompute (h.coilOutOfTest _ ht))
    · exact ht
  · exact hs

theorem startTest (h : KeptZone P) (p : TestParams) (hfree : s.testRunning = false) (hs : P s) :
    P (startTest p s) := by
  have hstarted : P { s with lbu := p.started } := h.testStarted p hfree hs
  unfold Machine.startTest
  dsimp only
  split
  · next slot c _ _ _ _ =>
    have hfrozen := h.coilIntoTest c (h.zoneFreeze (h.stopForTest hstarted))
    exact Kept.either _ (h.placeBurst hfrozen) hfrozen
  · exact h.stopForTest hstarted
  · exact hstarted

theorem requestTest (h : KeptZone P) (p : List Byte) (hs : P s) : P (requestTest p s) := by
  unfold Machine.requestTest
  split
  · exact h.answer _ _ hs
  · next hfree =>
    have hnone : s.testRunning = false := by simpa using hfree
    split
    · exact h.answer _ _ hs
    · split
      · exact h.answerThen _ _ _ (h.startTest _ hnone hs)
      · exact h.answer _ _ hs

theorem wireReset (h : KeptZone P) (hs : P s) : P (wireReset s) := by
  have hreset : P (Machine.zoneReset (wdcReset s)) := h.zoneReset (h.still hs)
  unfold Machine.wireReset
  dsimp only
  split
  · next hw => exact h.wireTestOver .aborted (by decide) hw (by simp [wdcReset]) hreset
  · exact hreset

theorem echoEnd (h : KeptZone P) (hdue : s.echoEndDue = true) (hs : P s) : P (testOver .completed s) := by
  refine h.testOver .completed (by decide) (fun _ => ?_) hs
  simp only [State.echoEndDue, State.nEchoing, Bool.and_eq_true, beq_iff_eq] at hdue
  simp [State.dEchoRunning, hdue.1.1.2]

end KeptZone

/-! ### Every step -/

namespace KeptByActs

variable {P : State → Prop} {s : State}

theorem channelReset (h : KeptByActs P) (p : List Byte) (hs : P s) : P (channelReset p s) := by
  unfold Machine.channelReset
  split
  · exact h.answer _ _ hs
  · split
    · exact h.answer _ _ (h.wireReset hs)
    · exact h.answer _ _ (h.driveReset hs)
    · exact h.answer _ _ (h.senseReset hs)
    · exact h.answer _ _ hs

theorem event (h : KeptByActs P) (c : Instr) (hs : P s) : P (eventOf c s) := by
  cases c
  all_goals unfold eventOf
  case burstArrival => exact h.burst _ _ _ hs
  case correlationEnd => exact h.correlationOver hs
  case silenceExpiry => exact whenDue_keeps hs fun _ => h.silence _ hs
  case outsideTimerExpiry => exact whenDue_keeps hs fun _ => h.outsideExpired hs
  case pinEdge => exact h.pinChange _ _ hs
  case debounceExpiry => exact whenDue_keeps hs fun _ => h.debounced _ hs
  case edgeWindowExpiry => exact whenDue_keeps hs fun _ => h.edgeWindowEnd _ hs
  case dutyTimeoutExpiry => exact whenDue_keeps hs fun _ => h.dutyTimedOut _ hs
  case tiltTimerExpiry => exact whenDue_keeps hs fun _ => h.tiltRaise hs
  case settleEnd => exact whenDue_keeps hs fun _ => h.settleOver hs
  case nLinkFrame => exact h.takeBytes _ hs
  case frameTruncation => exact h.truncate (h.takeBytes _ hs)
  case ageTimerExpiry => exact whenDue_keeps hs fun _ => h.ageExpired hs
  case pollDue => exact whenDue_keeps hs fun _ => h.arbitrate hs
  case dLinkFrame => exact h.dLinkArrival _ hs
  case responseTimeout => exact whenDue_keeps hs fun _ => h.responseExpired hs
  case slipTimerExpiry => exact whenDue_keeps hs fun _ => h.slipExpired _ hs
  case stallTimerExpiry => exact whenDue_keeps hs fun _ => h.stallExpired _ hs
  case jamTimerExpiry => exact whenDue_keeps hs fun _ => h.jamExpired _ hs
  case stepTimerExpiry => exact whenDue_keeps hs fun _ => h.stepExpired hs
  case batteryTimerExpiry => exact whenDue_keeps hs fun _ => h.dkcEvent (h.batteryExpired hs)
  case rainTimerExpiry => exact whenDue_keeps hs fun _ => h.dkcEvent (h.rainExpired hs)
  case approachTimerExpiry => exact whenDue_keeps hs fun _ => h.dkcEvent (h.approachExpired hs)
  case relayTimerExpiry => exact whenDue_keeps hs fun _ => h.dkcEvent (h.relayExpired hs)
  case motionTimerExpiry => exact whenDue_keeps hs fun _ => h.dkcEvent (h.motionExpired hs)
  case swapTake => exact hs
  case swapTimerExpiry => exact whenDue_keeps hs fun _ => h.dropSwap hs
  case readStatus => exact onRequest_keeps hs (h.answerData _ hs)
  case readVerdict => exact onRequest_keeps hs (h.answerData _ hs)
  case readCounters => exact onRequest_keeps hs (h.answerData _ hs)
  case ackEvents => exact onRequest_keeps hs (h.ackEvents _ hs)
  case setReportMask => exact onRequest_keeps hs (h.setReportMask _ hs)
  case writeTable => exact onRequest_keeps hs (h.writeTable _ hs)
  case readTable => exact onRequest_keeps hs (h.answerData _ hs)
  case swapTables => exact onRequest_keeps hs (h.swapTables hs)
  case returnHome => exact onRequest_keeps hs (h.requestReturn hs)
  case cancelReturn => exact onRequest_keeps hs (h.requestCancel hs)
  case undock => exact onRequest_keeps hs (h.requestUndock hs)
  case cancelResponse => exact onRequest_keeps hs (h.cancelResponse _ hs)
  case clearHazard => exact onRequest_keeps hs (h.clearHazard hs)
  case senseRead => exact onRequest_keeps hs (h.senseRead _ hs)
  case startTest => exact onRequest_keeps hs (h.requestTest _ hs)
  case testResult => exact onRequest_keeps hs (h.answer _ _ hs)
  case channelReset => exact onRequest_keeps hs (h.channelReset _ hs)
  case fullReset => exact onRequest_keeps hs (h.answerThen _ _ _ hs)
  case unknownRequest => exact whenDue_keeps hs fun _ => h.unknownRequest hs
  case passWrite => exact whenDue_keeps hs fun _ => h.passHead hs
  case passRead => exact whenDue_keeps hs fun _ => h.passHead hs
  case fullResetEffect => exact whenDue_keeps hs fun _ => h.restart _ _ _
  case upstreamFrameSent => exact h.frameSent hs
  case telemetryTimerExpiry => exact whenDue_keeps hs fun _ => h.formTelemetry hs
  case nLinkEchoBegin => exact whenDue_keeps hs fun _ => h.nEchoBegin hs
  case nLinkEchoEnd => exact whenDue_keeps hs fun hdue => h.echoEnd hdue hs
  case dLinkEchoTakeLink => exact whenDue_keeps hs fun _ => h.takeLink hs
  case patternBurstPlace => exact whenDue_keeps hs fun _ => h.placeBurst hs
  case resetNAssert => exact h.holdReset hs
  case resetNDeassert => exact hs
  case lengthOverrun => exact h.takeBytes _ hs

/-- A property that the acts of the part keep is one that every step keeps. -/
theorem stepKeeps (h : KeptByActs P) : StepKeeps P :=
  stepKeeps_of_parts
    { pending := fun _ _ hs => h.still hs
      level := fun _ _ _ hs => h.onSpu _ hs
      restart := h.restart
      swap := fun s hs => by
        unfold takeDueSwap
        split
        · next hdue => exact h.swap hdue hs
        · exact hs
      time := fun dt _ hs => h.advance dt hs
      event := fun c _ hs => h.event c hs }

end KeptByActs

end Sys2Proof.Machine
end

section
/-! What the acts of the part keep: a property that reads neither the zone nor the tables is kept by an update
of the zone context, by a swap and by a DRIVE channel reset where it is kept by the acts on the drive posts
that these bring. -/

namespace Sys2Proof.Machine

/-- The acts of the part, each of which keeps `P`, which does not read the zone. -/
structure KeptZoned (P : State → Prop) : Prop extends Kept P where
  zoned : ∀ {s t : State}, Zoned s t → P s → P t

/-- The acts of a swap and of a DRIVE channel reset on the drive posts, each of which keeps `P`, which reads
neither the zone nor the tables. -/
structure KeptCalmly (P : State → Prop) : Prop extends Kept P where
  calm : ∀ {s t : State}, Calm s t → P s → P t
  swapPosts : ∀ (before : PerSix NodeKind) {s : State}, P s → P (swapZeroPosts before s)
  swapDlc : ∀ (before : PerSix NodeKind) {s : State}, P s → P { s with dlc := s.swapDlc before }
  freshDlc : ∀ {s : State}, P s → P { s with dlc := s.freshDlc }
  resetPosts : ∀ {s : State}, P s → P (resetZeroPosts s)
  evaluateBehind : ∀ {s : State}, P s → P (evaluateBehind s)

namespace KeptZoned

variable {P : State → Prop} {s : State}

/-- A change of the zone alone, most often so by definition. -/
theorem still (h : KeptZoned P) {t : State} (hs : P s)
    (q : Zoned s t := by exact ⟨⟨rfl, rfl, rfl, rfl, rfl⟩, rfl⟩) : P t := h.zoned q hs

/-! ### The zone context -/

theorem gateTakesZone (h : KeptZoned P) (hs : P s) : P (gateTakesZone s) := h.evaluate (h.still hs)

theorem gateTakesStrength (h : KeptZoned P) (hs : P s) : P (gateTakesStrength s) := by
  have htaken : P (onMgt (fun m => { m with prox := s.zcu.prox }) s) := h.still hs
  exact Kept.either _ htaken (h.evaluate htaken)

theorem zoneToGate (h : KeptZoned P) (before : State) (hs : P s) : P (zoneToGate before s) :=
  h.gateTakesStrength (Kept.either _ hs (h.tiltTest (h.gateTakesZone hs)))

theorem raiseInUpdate (h : KeptZoned P) (trigs : List (Trig × Option Nat)) (z : Zcu) (hs : P s) :
    P (raiseInUpdate trigs z s) := by
  have hz : P { s with zcu := { z with outTimer := z.outTimer.stop } } := h.still hs
  exact h.still (h.raiseAll trigs hz)

theorem zoneCarried (h : KeptZoned P) (trigs : List (Trig × Option Nat)) (z : Zcu) (guide station : Bool)
    (hs : P s) : P (zoneCarried trigs z guide station s) :=
  h.outsideTest (h.zoneToDock _ _ (h.zoneToGate _ (h.raiseInUpdate _ _ hs)))

theorem zoneStages (h : KeptZoned P) (m : PerSlot (PerCoil MirrorLane)) (now : PerSlot LoopState) (hs : P s) :
    P (zoneStages m now s) := h.zoneCarried _ _ _ _ hs

theorem zoneRecompute (h : KeptZoned P) (hs : P s) : P (zoneRecompute s) := by
  have hthawed : P (onZcu (fun z => { z with frozen := false }) s) := h.still hs
  unfold Machine.zoneRecompute
  exact h.zoneCarried _ _ _ _ hthawed

theorem zoneReset (h : KeptZoned P) (hs : P s) : P (zoneReset s) := by
  have hfresh : P { s with zcu := s.zoneFresh ZcuCounters.zero } := h.still hs
  unfold Machine.zoneReset
  exact h.zoneToDock _ _ (h.zoneToGate _ hfresh)

end KeptZoned

namespace KeptCalmly

variable {P : State → Prop} {s : State}

/-- A change of the zone and the tables alone, most often so by definition. -/
theorem still (h : KeptCalmly P) {t : State} (hs : P s)
    (q : Calm s t := by exact ⟨rfl, rfl, rfl, rfl, rfl⟩) : P t := h.calm q hs

theorem toKeptZoned (h : KeptCalmly P) : KeptZoned P := { toKept := h.toKept, zoned := fun q => h.calm q.toCalm }

/-! ### A swap -/

theorem exchange (h : KeptCalmly P) (hs : P s) : P (exchange s) :=
  h.still hs (by
    refine ⟨?_, ?_, ?_, ?_, ?_⟩ <;>
      simp [State.gateView, State.postView, State.ctxView, State.linkView, State.testView])

theorem crossValidate (h : KeptCalmly P) (hs : P s) : P (crossValidate s) :=
  h.still hs (by
    refine ⟨?_, ?_, ?_, ?_, ?_⟩ <;>
      simp [State.gateView, State.postView, State.ctxView, State.linkView, State.testView])

theorem wdcSwap (h : KeptCalmly P) (hs : P s) : P (wdcSwap s) := h.onWdc _ (h.restartCoil _ (h.restartCoil _ hs))

theorem spuSwapUnits (h : KeptCalmly P) (hs : P s) : P (spuSwapUnits s) := by
  unfold Machine.spuSwapUnits
  exact Kept.either _ hs (h.onSpu _ hs)

theorem dlcSwap (h : KeptCalmly P) (before : PerSix NodeKind) (power : Option Node) (hs : P s) :
    P (dlcSwap before power s) := by
  have hread : P (swapRead { s with dlc := s.swapDlc before }) := by
    have hswap := h.swapDlc before hs
    unfold swapRead
    split
    · exact hswap
    · exact Kept.either _ hswap (Kept.either _ (h.still hswap) (h.refuseRead hswap))
  exact Kept.either _ hread (h.powerSilent hread)

theorem swapStale (h : KeptCalmly P) (hs : P s) : P (swapStale s) := Kept.either _ (h.goStale hs) hs

theorem evaluateAs (h : KeptCalmly P) (behind : Bool) (hs : P s) : P (evaluateAs behind s) :=
  Kept.either _ (h.evaluateBehind hs) (h.evaluate hs)

theorem gateSwap (h : KeptCalmly P) (behind : Bool) (before : PerSix NodeKind) (hs : P s) :
    P (gateSwap behind before s) := h.evaluateAs _ (h.swapPosts _ (h.swapStale hs))

theorem handBank (h : KeptCalmly P) (behind : Bool) (before : PerSix NodeKind) (power : Option Node) (hs : P s) :
    P (handBank behind before power s) := by
  have hzone : P (zoneSwap (Machine.wdcSwap s)) := h.still (h.wdcSwap hs)
  have hgate := h.gateSwap behind before (h.dlcSwap before power (h.spuSwapUnits hzone))
  unfold Machine.handBank
  exact h.telemetryRestart (h.spuSwapHandOff (h.zoneToDock _ _ hgate))

theorem takeSwap (h : KeptCalmly P) (behind : Bool) (hs : P s) : P (takeSwap behind s) :=
  h.arbitrate (h.flag _ _ (h.handBank _ _ _ (h.crossValidate (h.exchange hs))))

theorem takeDueSwap (h : KeptCalmly P) (behind : Bool) (hs : P s) : P (takeDueSwap behind s) :=
  Kept.either _ (h.takeSwap behind hs) hs

/-! ### The DRIVE channel reset -/

theorem abortDEcho (hover : ∀ (status : TestStatus) {s : State}, P s → P (testOver status s))
    (hs : P s) : P (abortDEcho s) := Kept.either _ (hover _ hs) hs

theorem driveStilled (h : KeptCalmly P) (hover : ∀ (status : TestStatus) {s : State}, P s → P (testOver status s))
    (hs : P s) : P (driveStilled s) := by
  unfold Machine.driveStilled
  extract_lets aborted answered
  have haborted : P aborted := KeptCalmly.abortDEcho hover hs
  have hanswered : P answered := Kept.either _ (h.answerRead _ _ haborted) haborted
  exact h.resetPosts (h.powerSilent (h.freshDlc hanswered))

theorem driveReset (h : KeptCalmly P) (hover : ∀ (status : TestStatus) {s : State}, P s → P (testOver status s))
    (hs : P s) : P (driveReset s) :=
  h.arbitrate (h.evaluateBehind (h.takeDueSwap true (h.driveStilled hover hs)))

/-- Every step keeps a property that reads neither the zone nor the tables and that the acts keep, the end of a
test among them. -/
theorem stepKeeps (h : KeptCalmly P) (hover : ∀ (status : TestStatus) {s : State}, P s → P (testOver status s))
    (hrestart : ∀ (n : NRate) (d : DRate) (s : State), P (restart n d s)) : StepKeeps P :=
  KeptByActs.stepKeeps
    { toKept := h.toKept
      stages := fun m now _ hs => h.toKeptZoned.zoneStages m now hs
      recompute := h.toKeptZoned.zoneRecompute
      zoneReset := h.toKeptZoned.zoneReset
      swap := fun _ hs => h.takeSwap false hs
      driveReset := h.driveReset hover
      restart := hrestart }

end KeptCalmly

end Sys2Proof.Machine
end

section
/-! The lists of the N-link stay legal (R158, R160, R161, R163, R169). -/

namespace Sys2Proof.Machine

theorem testOver_linkLegal (status : TestStatus) {s : State} (hs : s.linkLegal) : (testOver status s).linkLegal :=
  setFlag_linkLegal _ _ (linkLegal_congr (s := s) rfl hs)

theorem hazardDiscard_linkLegal {s : State} (hs : s.linkLegal) : (hazardDiscard s).linkLegal := by
  unfold hazardDiscard
  extract_lets removed t
  have ht : t.linkLegal := linkLegal_congr (s := s) rfl hs
  exact Kept.either _ (setFlag_linkLegal _ _ ht) ht

theorem hazardEntry_linkLegal (t : Trig) (d : Option Nat) {s : State} (hs : s.linkLegal) :
    (hazardEntry t d s).linkLegal := by
  have hcreated : (hazardCreate t d s).linkLegal := linkLegal_congr (s := s) rfl hs
  have hdiscarded := hazardDiscard_linkLegal (setFlag_linkLegal .hazard (trigDetail t d) hcreated)
  exact linkLegal_congr (by simp [hazardEntry, State.linkView]) hdiscarded

/-- The acts of the part keep the lists of the N-link legal. -/
theorem keptCalmly_linkLegal : KeptCalmly State.linkLegal where
  quiet q := linkLegal_congr q.link
  calm q := linkLegal_congr q.link
  link q := q.legal
  flag f d _ hs := setFlag_linkLegal f d hs
  answerThen after code data _ hs := answerThen_linkLegal after code data hs
  answerRead code data _ hs := answerRead_linkLegal code data hs
  evaluate hs := linkLegal_congr (by simp [State.linkView]) hs
  arbitrate hs := linkLegal_congr (by simp [State.linkView]) hs
  postRelay _ _ hs := linkLegal_congr (by simp [State.linkView]) hs
  postParam _ _ _ _ hs := linkLegal_congr (by simp [State.linkView]) hs
  queueAnswered hs := linkLegal_congr (by simp [State.linkView]) hs
  queueFailed hs := linkLegal_congr (by simp [State.linkView]) hs
  hazardEntry t d _ hs := hazardEntry_linkLegal t d hs
  hazardJoin _ _ _ _ hs := linkLegal_congr rfl hs
  respond _ _ hs := linkLegal_congr rfl hs
  cleared _ _ hs := linkLegal_congr rfl hs
  testOver status _ _ _ hs := testOver_linkLegal status hs
  dEchoOver {s} hs :=
    linkLegal_congr (s := testOver .completed s) (by simp [dEchoOver, State.linkView]) (testOver_linkLegal _ hs)
  testStarted _ _ _ hs := linkLegal_congr rfl hs
  staged _ _ hs := linkLegal_congr rfl hs
  swapPosts _ _ hs := linkLegal_congr (by simp [State.linkView]) hs
  swapDlc _ _ hs := linkLegal_congr rfl hs
  freshDlc hs := linkLegal_congr rfl hs
  resetPosts hs := linkLegal_congr (by simp [State.linkView]) hs
  evaluateBehind hs := linkLegal_congr (by simp [State.linkView]) hs

theorem restart_linkLegal (n : NRate) (d : DRate) (s : State) : (restart n d s).linkLegal := by
  obtain ⟨-, -, -, -, -, -, -, -, hlink⟩ := resetHasEveryProperty s.pending s.freeCount s.spu.levels n d
  exact hlink

/-- Settles O59: each act of the part keeps the lists of the N-link legal. -/
theorem linkStaysLegal : Obligations.LinkStaysLegal :=
  keptCalmly_linkLegal.stepKeeps (fun status _ hs => testOver_linkLegal status hs) restart_linkLegal

end Sys2Proof.Machine
end

section
/-! The drive post queue stays legal (R77, R89 to R92; log entry 45): what posting, sending, leaving and joining
make of the entries that wait. -/

namespace Sys2Proof.Machine

/-! ### Set-points and their places -/

/-- A WHEEL_SET or BLADE_SET. -/
def PostValue.isSet (v : PostValue) : Bool := v.coalesces v

/-- Two entries take one place: they are set-points of a kind for a node. -/
def QEntry.shares (a b : QEntry) : Prop := a.node = b.node ∧ a.val.coalesces b.val = true

/-- Two entries stand alike: for one node, with values of one kind. -/
def QEntry.alike (a b : QEntry) : Prop := a.node = b.node ∧ a.val.kindNum = b.val.kindNum

theorem coalesces_iff (v w : PostValue) : v.coalesces w = true ↔ v.kindNum = w.kindNum ∧ v.kindNum < 2 := by
  cases v <;> cases w <;> simp [PostValue.coalesces, PostValue.kindNum]

theorem isSet_iff (v : PostValue) : v.isSet = true ↔ v.kindNum < 2 := by simp [PostValue.isSet, coalesces_iff]

theorem isRelay_iff (v : PostValue) : v.isRelay = true ↔ v.kindNum = 2 := by
  cases v <;> simp [PostValue.isRelay, PostValue.kindNum]

theorem isPass_iff (v : PostValue) : v.isPass = true ↔ v.kindNum = 3 := by
  cases v <;> simp [PostValue.isPass, PostValue.kindNum]

theorem isRelay_of_isSet {v : PostValue} (h : v.isSet = true) : v.isRelay = false := by
  cases v <;> first | rfl | cases h

theorem isPass_of_isSet {v : PostValue} (h : v.isSet = true) : v.isPass = false := by
  cases v <;> first | rfl | cases h

theorem matches_iff (n : Node) (v : PostValue) (e : QEntry) :
    e.matches n v = true ↔ e.node = n ∧ e.val.coalesces v = true := by
  simp [QEntry.matches]

theorem any_matches_iff (e : QEntry) (l : List QEntry) :
    l.any (QEntry.matches e.node e.val) = true ↔ ∃ x ∈ l, x.shares e := by
  simp [List.any_eq_true, matches_iff, QEntry.shares]

theorem shares_of_alike {a b c d : QEntry} (hac : a.alike c) (hbd : b.alike d) (h : a.shares b) : c.shares d := by
  obtain ⟨hnode, hsame⟩ := h
  rw [coalesces_iff] at hsame
  refine ⟨hac.1.symm.trans (hnode.trans hbd.1), ?_⟩
  rw [coalesces_iff, ← hac.2, ← hbd.2]
  exact hsame

theorem QEntry.shares.symm {a b : QEntry} (h : a.shares b) : b.shares a := by
  obtain ⟨hnode, hsame⟩ := h
  rw [coalesces_iff] at hsame
  refine ⟨hnode.symm, ?_⟩
  rw [coalesces_iff, ← hsame.1]
  exact ⟨rfl, hsame.2⟩

/-! ### What waits -/

/-- The rules of the entries that wait, but that what stands behind the zeros waits for one of them. -/
structure Loose (q b : List QEntry) : Prop where
  relay : (q.filter fun e => e.val.isRelay).length ≤ 1
  pass : (q.filter fun e => e.val.isPass).length ≤ 10
  apart : q.Pairwise fun x y => ¬ x.shares y
  onlyHead : ∀ e ∈ q.tail, e.inFlight = false
  apartBehind : b.Pairwise fun x y => ¬ x.shares y
  plain : ∀ e ∈ b, e.inFlight = false ∧ e.resend = false ∧ e.val.isSet = true

/-- The rules of the entries that wait (R77, R89 to R92). -/
structure Waiting (q b : List QEntry) : Prop extends Loose q b where
  waits : ∀ e ∈ b, ∃ x ∈ q, x.shares e

theorem driveQueueLegal_iff (s : State) : s.driveQueueLegal ↔ Waiting s.dlc.queue s.dlc.behind := by
  constructor
  · rintro ⟨hrelay, hpass, hapart, honly, hbehind, hplain⟩
    refine ⟨⟨hrelay, hpass, hapart, honly, hbehind, fun e he => ?_⟩, fun e he => (hplain e he).2.2⟩
    obtain ⟨hflight, hresend, x, -, -, hx⟩ := hplain e he
    refine ⟨hflight, hresend, ?_⟩
    rw [coalesces_iff] at hx
    rw [isSet_iff]
    omega
  · rintro ⟨⟨hrelay, hpass, hapart, honly, hbehind, hplain⟩, hwaits⟩
    exact ⟨hrelay, hpass, hapart, honly, hbehind, fun e he => ⟨(hplain e he).1, (hplain e he).2.1, hwaits e he⟩⟩

theorem waiting_nil : Waiting [] [] where
  relay := Nat.zero_le _
  pass := Nat.zero_le _
  apart := .nil
  onlyHead := by simp
  apartBehind := .nil
  plain := by simp
  waits := by simp

/-! ### Leaving -/

/-- Fewer entries are loose too. -/
theorem Loose.sublist {q b q' b' : List QEntry} (h : Loose q b) (hq : q'.Sublist q) (hb : b'.Sublist b) :
    Loose q' b' where
  relay := ((hq.filter _).length_le).trans h.relay
  pass := ((hq.filter _).length_le).trans h.pass
  apart := h.apart.sublist hq
  onlyHead e he := h.onlyHead e (hq.tail.subset he)
  apartBehind := h.apartBehind.sublist hb
  plain e he := h.plain e (hb.subset he)

theorem filter_eq_nil_of_isSet {l : List QEntry} (p : QEntry → Bool) (hset : ∀ e ∈ l, e.val.isSet = true)
    (hp : ∀ e : QEntry, e.val.isSet = true → p e = false) : l.filter p = [] := by
  rw [List.filter_eq_nil_iff]
  intro e he
  simp [hp e (hset e he)]

/-- What no longer waits joins the queue, and what is left behind waits for an entry of it. -/
theorem joinBehind_waiting {d : Dlc} (h : Loose d.queue d.behind) :
    Waiting (joinBehind d).queue (joinBehind d).behind := by
  have hjoins : ∀ e ∈ d.behind.filter (fun e => !d.waits e), e ∈ d.behind ∧ ¬ ∃ x ∈ d.queue, x.shares e := by
    intro e he
    obtain ⟨hmem, hfree⟩ := List.mem_filter.mp he
    rw [← any_matches_iff]
    exact ⟨hmem, by simpa [Dlc.waits] using hfree⟩
  have hset : ∀ e ∈ d.behind.filter (fun e => !d.waits e), e.val.isSet = true :=
    fun e he => (h.plain e (hjoins e he).1).2.2
  have hflight : ∀ e ∈ d.behind.filter (fun e => !d.waits e), e.inFlight = false :=
    fun e he => (h.plain e (hjoins e he).1).1
  refine ⟨⟨?_, ?_, ?_, ?_, ?_, ?_⟩, ?_⟩
  · show ((d.queue ++ d.behind.filter fun e => !d.waits e).filter fun e => e.val.isRelay).length ≤ 1
    rw [List.filter_append, filter_eq_nil_of_isSet _ hset fun _ => isRelay_of_isSet, List.append_nil]
    exact h.relay
  · show ((d.queue ++ d.behind.filter fun e => !d.waits e).filter fun e => e.val.isPass).length ≤ 10
    rw [List.filter_append, filter_eq_nil_of_isSet _ hset fun _ => isPass_of_isSet, List.append_nil]
    exact h.pass
  · refine List.pairwise_append.mpr ⟨h.apart, h.apartBehind.sublist List.filter_sublist, fun x hx y hy hxy => ?_⟩
    exact (hjoins y hy).2 ⟨x, hx, hxy⟩
  · intro e he
    change e ∈ (d.queue ++ d.behind.filter fun e => !d.waits e).tail at he
    cases hq : d.queue with
    | nil =>
      rw [hq] at he
      exact hflight e (List.mem_of_mem_tail he)
    | cons x rest =>
      rw [hq] at he
      rcases List.mem_append.mp he with hrest | hjoin
      · exact h.onlyHead e (by rwa [hq])
      · exact hflight e hjoin
  · exact h.apartBehind.sublist List.filter_sublist
  · exact fun e he => h.plain e (List.mem_filter.mp he).1
  · intro e he
    exact (any_matches_iff e _).mp (joinBehind_waits he)

/-! ### Joining -/

/-- An entry that shares no place joins the tail: a RELAY entry where none is queued, a PASS_WRITE entry where
fewer than ten are. -/
theorem Waiting.append {q b : List QEntry} {e : QEntry} (h : Waiting q b) (hflight : e.inFlight = false)
    (hrelay : e.val.isRelay = true → q.any (fun x => x.val.isRelay) = false)
    (hpass : e.val.isPass = true → (q.filter fun x => x.val.isPass).length < 10)
    (hshare : ¬ ∃ x ∈ q, x.shares e) : Waiting (q ++ [e]) b where
  relay := by
    rw [List.filter_append, List.length_append]
    by_cases he : e.val.isRelay = true
    · have hnone : q.filter (fun x => x.val.isRelay) = [] := by
        simpa [List.filter_eq_nil_iff, List.any_eq_false] using hrelay he
      simp [hnone, he]
    · simpa [he] using h.relay
  pass := by
    rw [List.filter_append, List.length_append]
    by_cases he : e.val.isPass = true
    · have := hpass he
      simp only [he, List.filter_cons_of_pos, List.filter_nil, List.length_singleton]
      omega
    · simpa [he] using h.pass
  apart := by
    refine List.pairwise_append.mpr ⟨h.apart, List.pairwise_singleton _ _, fun x hx y hy hxy => ?_⟩
    rw [List.mem_singleton.mp hy] at hxy
    exact hshare ⟨x, hx, hxy⟩
  onlyHead x hx := by
    cases hq : q with
    | nil => simp [hq] at hx
    | cons y rest =>
      rw [hq] at hx
      rcases List.mem_append.mp hx with hrest | hlast
      · exact h.onlyHead x (by rwa [hq])
      · rwa [List.mem_singleton.mp hlast]
  apartBehind := h.apartBehind
  plain := h.plain
  waits x hx := by
    obtain ⟨y, hy, hyx⟩ := h.waits x hx
    exact ⟨y, List.mem_append_left _ hy, hyx⟩

/-- A set-point joins what stands behind the zeros where one of its place is queued and none stands there. -/
theorem Waiting.appendBehind {q b : List QEntry} {e : QEntry} (h : Waiting q b) (hflight : e.inFlight = false)
    (hresend : e.resend = false) (hset : e.val.isSet = true) (hqueued : ∃ x ∈ q, x.shares e)
    (hnew : ¬ ∃ x ∈ b, x.shares e) : Waiting q (b ++ [e]) where
  toLoose :=
    { h.toLoose with
      apartBehind := by
        refine List.pairwise_append.mpr ⟨h.apartBehind, List.pairwise_singleton _ _, fun x hx y hy hxy => ?_⟩
        rw [List.mem_singleton.mp hy] at hxy
        exact hnew ⟨x, hx, hxy⟩
      plain := fun x hx => by
        rcases List.mem_append.mp hx with hb | hlast
        · exact h.plain x hb
        · rw [List.mem_singleton.mp hlast]
          exact ⟨hflight, hresend, hset⟩ }
  waits x hx := by
    rcases List.mem_append.mp hx with hb | hlast
    · exact h.waits x hb
    · rwa [List.mem_singleton.mp hlast]

/-! ### Entries that change where they stand -/

theorem length_filter_map_alike {f : QEntry → QEntry} {p : QEntry → Bool} (l : List QEntry)
    (hp : ∀ e, p (f e) = p e) : ((l.map f).filter p).length = (l.filter p).length := by
  have hcomp : p ∘ f = p := funext hp
  rw [List.filter_map, List.length_map, hcomp]

theorem length_filter_cons_congr {p : QEntry → Bool} {a b : QEntry} (l : List QEntry) (hp : p a = p b) :
    ((a :: l).filter p).length = ((b :: l).filter p).length := by
  simp only [List.filter_cons, hp]
  split <;> rfl

theorem isRelay_of_alike {a b : QEntry} (h : a.alike b) : a.val.isRelay = b.val.isRelay := by
  rw [Bool.eq_iff_iff, isRelay_iff, isRelay_iff, h.2]

theorem isPass_of_alike {a b : QEntry} (h : a.alike b) : a.val.isPass = b.val.isPass := by
  rw [Bool.eq_iff_iff, isPass_iff, isPass_iff, h.2]

/-- Entries of the queue change where they stand, and keep their node, their kind and, but for the head, whether
they are in flight. -/
theorem Waiting.mapQueue {q b : List QEntry} {f : QEntry → QEntry} (h : Waiting q b) (halike : ∀ e, (f e).alike e)
    (hflight : ∀ e ∈ q.tail, (f e).inFlight = e.inFlight) : Waiting (q.map f) b where
  relay := by
    rw [length_filter_map_alike q fun e => isRelay_of_alike (halike e)]
    exact h.relay
  pass := by
    rw [length_filter_map_alike q fun e => isPass_of_alike (halike e)]
    exact h.pass
  apart := List.pairwise_map.mpr
    (h.apart.imp fun hxy hshare => hxy (shares_of_alike (halike _) (halike _) hshare))
  onlyHead e he := by
    rw [← List.map_tail] at he
    obtain ⟨x, hx, rfl⟩ := List.mem_map.mp he
    rw [hflight x hx]
    exact h.onlyHead x hx
  apartBehind := h.apartBehind
  plain := h.plain
  waits e he := by
    obtain ⟨x, hx, hxe⟩ := h.waits e he
    obtain ⟨hnode, hkind⟩ := halike x
    exact ⟨f x, List.mem_map_of_mem hx, shares_of_alike ⟨hnode.symm, hkind.symm⟩ ⟨rfl, rfl⟩ hxe⟩

/-- Set-points behind the zeros change where they stand, and keep their node and their kind. -/
theorem Waiting.mapBehind {q b : List QEntry} {f : QEntry → QEntry} (h : Waiting q b) (halike : ∀ e, (f e).alike e)
    (hplain : ∀ e ∈ b, (f e).inFlight = false ∧ (f e).resend = false) : Waiting q (b.map f) where
  toLoose :=
    { h.toLoose with
      apartBehind := List.pairwise_map.mpr
        (h.apartBehind.imp fun hxy hshare => hxy (shares_of_alike (halike _) (halike _) hshare))
      plain := fun e he => by
        obtain ⟨x, hx, rfl⟩ := List.mem_map.mp he
        obtain ⟨hflight, hresend⟩ := hplain x hx
        refine ⟨hflight, hresend, ?_⟩
        rw [isSet_iff, (halike x).2, ← isSet_iff]
        exact (h.plain x hx).2.2 }
  waits e he := by
    obtain ⟨x, hx, rfl⟩ := List.mem_map.mp he
    obtain ⟨y, hy, hyx⟩ := h.waits x hx
    obtain ⟨hnode, hkind⟩ := halike x
    exact ⟨y, hy, shares_of_alike ⟨rfl, rfl⟩ ⟨hnode.symm, hkind.symm⟩ hyx⟩

/-- The head changes where it stands, and keeps its node and its kind. -/
theorem Waiting.setHead {e e' : QEntry} {rest b : List QEntry} (h : Waiting (e :: rest) b) (halike : e'.alike e) :
    Waiting (e' :: rest) b := by
  have hrelay := isRelay_of_alike halike
  have hpass := isPass_of_alike halike
  obtain ⟨hhead, hapart⟩ := List.pairwise_cons.mp h.apart
  refine ⟨⟨?_, ?_, ?_, h.onlyHead, h.apartBehind, h.plain⟩, fun x hx => ?_⟩
  · rw [length_filter_cons_congr (p := fun x => x.val.isRelay) rest hrelay]
    exact h.relay
  · rw [length_filter_cons_congr (p := fun x => x.val.isPass) rest hpass]
    exact h.pass
  · exact List.pairwise_cons.mpr
      ⟨fun x hx hshare => hhead x hx (shares_of_alike halike ⟨rfl, rfl⟩ hshare), hapart⟩
  · obtain ⟨y, hy, hyx⟩ := h.waits x hx
    rcases List.mem_cons.mp hy with rfl | hrest
    · exact ⟨e', List.mem_cons_self, shares_of_alike ⟨halike.1.symm, halike.2.symm⟩ ⟨rfl, rfl⟩ hyx⟩
    · exact ⟨y, List.mem_cons_of_mem _ hrest, hyx⟩

theorem replaced_alike {n : Node} {v : PostValue} (o : Origin) {e : QEntry} (h : e.matches n v = true) :
    (e.replaced v o).alike e := by
  obtain ⟨-, hsame⟩ := (matches_iff n v e).mp h
  exact ⟨rfl, ((coalesces_iff _ _).mp hsame).1.symm⟩

/-- The entry that a set-point for a node leaves of one that waits. -/
def QEntry.reposted (n : Node) (v : PostValue) (o : Origin) (e : QEntry) : QEntry :=
  if e.matches n v then e.replaced v o else e

theorem replaceIn_eq_map (n : Node) (v : PostValue) (o : Origin) (l : List QEntry) :
    replaceIn n v o l = l.map (QEntry.reposted n v o) := rfl

theorem reposted_alike (n : Node) (v : PostValue) (o : Origin) (e : QEntry) : (e.reposted n v o).alike e := by
  unfold QEntry.reposted
  split
  · next h => exact replaced_alike o h
  · exact ⟨rfl, rfl⟩

theorem reposted_inFlight (n : Node) (v : PostValue) (o : Origin) (e : QEntry) :
    (e.reposted n v o).inFlight = e.inFlight := by
  unfold QEntry.reposted
  split <;> rfl

theorem reposted_resend {n : Node} {v : PostValue} {o : Origin} {e : QEntry} (hflight : e.inFlight = false)
    (hresend : e.resend = false) : (e.reposted n v o).resend = false := by
  unfold QEntry.reposted
  split
  · exact hflight
  · exact hresend

/-! ### What follows a leaving -/

theorem afterLeaving_waiting {d : Dlc} (h : Loose d.queue d.behind) :
    Waiting (afterLeaving d).queue (afterLeaving d).behind := by
  unfold afterLeaving
  extract_lets t
  have hjoined : Waiting t.queue t.behind := by
    refine joinBehind_waiting ?_
    split <;> exact h
  split
  · split
    · exact hjoined
    · next hnone =>
      refine hjoined.append rfl (fun _ => by simpa using hnone) (fun hpass => by cases hpass) ?_
      rintro ⟨x, -, -, hx⟩
      simp only [coalesces_iff, PostValue.kindNum] at hx
      omega
  · exact hjoined

end Sys2Proof.Machine
end

section
/-! The drive post queue stays legal (R77, R89 to R92; log entry 45): the acts of the part. -/

namespace Sys2Proof.Machine

variable {s : State}

/-! ### The acts on the queue -/

theorem driveQueueLegal_congr {s t : State} (h : t.postView = s.postView) (hs : s.driveQueueLegal) :
    t.driveQueueLegal := by
  simp only [State.postView, Prod.mk.injEq] at h
  rw [driveQueueLegal_iff] at hs ⊢
  rwa [h.1, h.2]

theorem sendHead_driveQueueLegal (hs : s.driveQueueLegal) : (sendHead s).driveQueueLegal := by
  unfold sendHead
  split
  · exact hs
  · next e rest hq =>
    rw [driveQueueLegal_iff] at hs ⊢
    rw [hq] at hs
    exact hs.setHead (e' := { e with inFlight := true }) ⟨rfl, rfl⟩

theorem arbitrate_driveQueueLegal (hs : s.driveQueueLegal) : (arbitrate s).driveQueueLegal := by
  unfold arbitrate
  split
  · exact hs
  · split
    · exact sendHead_driveQueueLegal hs
    · split
      · exact driveQueueLegal_congr (s := s) rfl hs
      · split
        · unfold sendRead
          split
          · exact hs
          · exact driveQueueLegal_congr (s := s) rfl hs
        · exact sendHead_driveQueueLegal hs

/-- An entry that shares no place joins the tail: a RELAY entry where none is queued, a PASS_WRITE entry where
fewer than ten are. -/
theorem joinTail_driveQueueLegal {e : QEntry} (hflight : e.inFlight = false)
    (hrelay : e.val.isRelay = true → s.relayQueued = false)
    (hpass : e.val.isPass = true → (s.dlc.queue.filter fun x => x.val.isPass).length < 10)
    (hshare : ¬ ∃ x ∈ s.dlc.queue, x.shares e) (hs : s.driveQueueLegal) : (joinTail e s).driveQueueLegal := by
  have hjoined : (onDlc (fun d => { d with queue := d.queue ++ [e] }) s).driveQueueLegal := by
    rw [driveQueueLegal_iff] at hs ⊢
    exact hs.append hflight hrelay hpass hshare
  exact Kept.either _ (arbitrate_driveQueueLegal hjoined) hjoined

/-- An entry that is no set-point shares no place. -/
theorem not_shares_of_not_set {e : QEntry} (he : e.val.isSet = false) (l : List QEntry) :
    ¬ ∃ x ∈ l, x.shares e := by
  rintro ⟨x, -, hx⟩
  have hset : e.val.isSet = true := by
    have hsame := (coalesces_iff _ _).mp hx.2
    rw [isSet_iff, ← hsame.1]
    exact hsame.2
  simp [he] at hset

theorem postRelay_driveQueueLegal (close : Bool) (hs : s.driveQueueLegal) : (postRelay close s).driveQueueLegal := by
  unfold postRelay
  split
  · exact hs
  · split
    · exact driveQueueLegal_congr (s := s) rfl hs
    · next hnone =>
      exact joinTail_driveQueueLegal rfl (fun _ => by simpa using hnone) (fun hp => by cases hp)
        (not_shares_of_not_set rfl _) hs

theorem postParam_driveQueueLegal (n : Node) (bytes : List Byte) (hroom : s.admitsPass = true)
    (hs : s.driveQueueLegal) : (joinTail ⟨n, .param bytes, .pass, false, false⟩ s).driveQueueLegal := by
  simp only [State.admitsPass, Bool.and_eq_true, decide_eq_true_eq] at hroom
  exact joinTail_driveQueueLegal rfl (fun hr => by cases hr) (fun _ => hroom.2) (not_shares_of_not_set rfl _) hs

theorem answered_driveQueueLegal (hs : s.driveQueueLegal) : (onDlc Dlc.answered s).driveQueueLegal := by
  rw [driveQueueLegal_iff] at hs ⊢
  show Waiting (Dlc.answered s.dlc).queue (Dlc.answered s.dlc).behind
  unfold Dlc.answered
  split
  · next e rest hq =>
    rw [hq] at hs
    split
    · split
      · exact hs.setHead (e' := { e with inFlight := false, resend := false }) ⟨rfl, rfl⟩
      · exact afterLeaving_waiting (hs.toLoose.sublist (List.sublist_cons_self e rest) (.refl _))
    · rwa [hq]
  · exact hs

theorem failed_driveQueueLegal (hs : s.driveQueueLegal) : (onDlc Dlc.failed s).driveQueueLegal := by
  rw [driveQueueLegal_iff] at hs ⊢
  show Waiting (Dlc.failed s.dlc).queue (Dlc.failed s.dlc).behind
  unfold Dlc.failed
  split
  · next e rest hq =>
    rw [hq] at hs
    split
    · exact afterLeaving_waiting (hs.toLoose.sublist (List.sublist_cons_self e rest) (.refl _))
    · rwa [hq]
  · exact hs

/-! ### The gate's posts -/

theorem postSet_driveQueueLegal (n : Node) {v : PostValue} (o : Origin) (hv : v.isSet = true)
    (hs : s.driveQueueLegal) : (postSet n v o s).driveQueueLegal := by
  have hw := (driveQueueLegal_iff s).mp hs
  unfold postSet
  split
  · rw [driveQueueLegal_iff]
    refine hw.mapBehind (reposted_alike n v o) fun e he => ?_
    obtain ⟨hflight, hresend, -⟩ := hw.plain e he
    exact ⟨(reposted_inFlight n v o e).trans hflight, reposted_resend hflight hresend⟩
  · split
    · rw [driveQueueLegal_iff]
      exact hw.mapQueue (reposted_alike n v o) fun e _ => reposted_inFlight n v o e
    · next hnew =>
      refine joinTail_driveQueueLegal rfl (fun hr => ?_) (fun hp => ?_) (fun hshare => ?_) hs
      · simp [isRelay_of_isSet hv] at hr
      · simp [isPass_of_isSet hv] at hp
      · exact hnew ((any_matches_iff ⟨n, v, o, false, false⟩ _).mpr hshare)

theorem postBehind_driveQueueLegal (n : Node) {v : PostValue} (o : Origin) (hv : v.isSet = true)
    (hs : s.driveQueueLegal) : (postBehind n v o s).driveQueueLegal := by
  unfold postBehind
  split
  · next hplace =>
    simp only [Bool.and_eq_true, Bool.not_eq_true', Bool.eq_false_iff] at hplace
    rw [driveQueueLegal_iff] at hs ⊢
    have hiff := any_matches_iff ⟨n, v, o, false, false⟩
    exact hs.appendBehind rfl rfl hv ((hiff _).mp hplace.1) fun h => hplace.2 ((hiff _).mpr h)
  · exact postSet_driveQueueLegal n o hv hs

theorem dueAt_isSet {n : Node} {v : PostValue} (h : s.dueAt n = some v) : v.isSet = true := by
  unfold State.dueAt at h
  split at h <;> cases h <;> rfl

theorem zeroAt_isSet {n : Node} {v : PostValue} (h : s.zeroAt n = some v) : v.isSet = true := by
  unfold State.zeroAt at h
  split at h <;> cases h <;> rfl

theorem gatePost_driveQueueLegal (n : Node) {v : PostValue} (o : Origin) (hv : v.isSet = true)
    (hs : s.driveQueueLegal) : (gatePost n v o s).driveQueueLegal :=
  driveQueueLegal_congr (s := postSet n v o s) rfl (postSet_driveQueueLegal n o hv hs)

theorem evaluate_driveQueueLegal (hs : s.driveQueueLegal) : (evaluate s).driveQueueLegal := by
  have hfigures : State.driveQueueLegal { s with mgt := s.evaluated } := driveQueueLegal_congr (s := s) rfl hs
  unfold evaluate postDue
  refine Kept.either _ hfigures (List.foldlRecOn nodes postIfDue hfigures fun t ht n _ => ?_)
  unfold postIfDue
  split
  · next v hv => exact Kept.either _ ht (gatePost_driveQueueLegal n _ (dueAt_isSet hv) ht)
  · exact ht

theorem evaluateBehind_driveQueueLegal (hs : s.driveQueueLegal) : (evaluateBehind s).driveQueueLegal := by
  have hfigures : State.driveQueueLegal { s with mgt := s.evaluated } := driveQueueLegal_congr (s := s) rfl hs
  refine List.foldlRecOn nodes postBehindIfDue hfigures fun t ht n _ => ?_
  unfold postBehindIfDue
  split
  · next v hv =>
    refine Kept.either _ ht ?_
    exact driveQueueLegal_congr (s := postBehind n v t.mgt.source.origin t) rfl
      (postBehind_driveQueueLegal n _ (dueAt_isSet hv) ht)
  · exact ht

theorem hazardZeroPosts_driveQueueLegal (hs : s.driveQueueLegal) : (hazardZeroPosts s).driveQueueLegal := by
  refine List.foldlRecOn nodes _ hs fun t ht n _ => ?_
  split
  · next v hv => exact gatePost_driveQueueLegal n _ (zeroAt_isSet hv) ht
  · exact ht

theorem resetZeroPosts_driveQueueLegal (hs : s.driveQueueLegal) : (resetZeroPosts s).driveQueueLegal := by
  rw [resetZeroPosts_eq]
  refine List.foldlRecOn nodes stillOne hs fun t ht n _ => ?_
  unfold stillOne
  split
  · next v hv =>
    exact driveQueueLegal_congr (s := postSet n v t.mgt.source.origin t) rfl
      (postSet_driveQueueLegal n _ (zeroAt_isSet hv) ht)
  · exact ht

theorem swapZeroPosts_driveQueueLegal (before : PerSix NodeKind) (hs : s.driveQueueLegal) :
    (swapZeroPosts before s).driveQueueLegal := by
  refine List.foldlRecOn nodes _ hs fun t ht n _ => ?_
  split
  · exact ht
  · split
    · next v hv => exact gatePost_driveQueueLegal n _ (zeroAt_isSet hv) ht
    · exact driveQueueLegal_congr (s := t) rfl ht

/-! ### What leaves the queue at a hazard, a swap and a reset -/

theorem hazardDiscard_driveQueueLegal (hs : s.driveQueueLegal) : (hazardDiscard s).driveQueueLegal := by
  unfold hazardDiscard
  extract_lets removed t
  have ht : t.driveQueueLegal := by
    rw [driveQueueLegal_iff] at hs ⊢
    exact afterLeaving_waiting (hs.toLoose.sublist List.filter_sublist List.filter_sublist)
  exact Kept.either _ (driveQueueLegal_congr (by simp [State.postView]) ht) ht

theorem hazardEntry_driveQueueLegal (t : Trig) (d : Option Nat) (hs : s.driveQueueLegal) :
    (hazardEntry t d s).driveQueueLegal := by
  have hset : (setFlag .hazard (trigDetail t d) (hazardCreate t d s)).driveQueueLegal :=
    driveQueueLegal_congr (s := s) (by simp [State.postView, hazardCreate, Machine.onRse]) hs
  have hgate := evaluate_driveQueueLegal (hazardZeroPosts_driveQueueLegal (hazardDiscard_driveQueueLegal hset))
  exact driveQueueLegal_congr (by simp [hazardEntry, gateHazard, State.postView]) hgate

theorem swapDlc_driveQueueLegal (before : PerSix NodeKind) (hs : s.driveQueueLegal) :
    State.driveQueueLegal { s with dlc := s.swapDlc before } := by
  rw [driveQueueLegal_iff] at hs ⊢
  exact afterLeaving_waiting (hs.toLoose.sublist List.filter_sublist List.filter_sublist)

theorem testOver_driveQueueLegal (status : TestStatus) (hs : s.driveQueueLegal) :
    (testOver status s).driveQueueLegal :=
  driveQueueLegal_congr (s := s) (by simp [State.postView, testOver, onLbu, onRse]) hs

/-! ### Every step -/

/-- The acts of the part keep the drive post queue legal. -/
theorem keptCalmly_driveQueueLegal : KeptCalmly State.driveQueueLegal where
  quiet q := driveQueueLegal_congr q.posts
  calm q := driveQueueLegal_congr q.posts
  link q := driveQueueLegal_congr q.posts
  flag _ _ _ hs := driveQueueLegal_congr (by simp [State.postView]) hs
  answerThen _ _ _ _ hs := driveQueueLegal_congr (by simp [State.postView]) hs
  answerRead _ _ _ hs := driveQueueLegal_congr (by simp [State.postView]) hs
  evaluate := evaluate_driveQueueLegal
  arbitrate := arbitrate_driveQueueLegal
  postRelay close _ := postRelay_driveQueueLegal close
  postParam n bytes _ := postParam_driveQueueLegal n bytes
  queueAnswered := answered_driveQueueLegal
  queueFailed := failed_driveQueueLegal
  hazardEntry t d _ := hazardEntry_driveQueueLegal t d
  hazardJoin _ _ _ _ hs := driveQueueLegal_congr rfl hs
  respond _ _ hs := driveQueueLegal_congr rfl hs
  cleared _ _ hs := driveQueueLegal_congr rfl hs
  testOver status _ _ _ hs := testOver_driveQueueLegal status hs
  dEchoOver hs := evaluate_driveQueueLegal (arbitrate_driveQueueLegal (testOver_driveQueueLegal _ hs))
  testStarted _ _ _ hs := driveQueueLegal_congr rfl hs
  staged _ _ hs := driveQueueLegal_congr rfl hs
  swapPosts before _ := swapZeroPosts_driveQueueLegal before
  swapDlc before _ := swapDlc_driveQueueLegal before
  freshDlc _ := (driveQueueLegal_iff _).mpr waiting_nil
  resetPosts := resetZeroPosts_driveQueueLegal
  evaluateBehind := evaluateBehind_driveQueueLegal

/-- Settles O58: each act of the part keeps the drive post queue legal. -/
theorem driveQueueStaysLegal : Obligations.DriveQueueStaysLegal :=
  keptCalmly_driveQueueLegal.stepKeeps (fun status _ => testOver_driveQueueLegal status)
    fun _ _ _ => (driveQueueLegal_iff _).mpr waiting_nil

end Sys2Proof.Machine
end

section
/-! A hazard keeps the gate still (R72, R75, R98, R108, R112, R122): while a level-3 context is held the output is
zero, and so is every set-point that waits. -/

namespace Sys2Proof.Machine

variable {s : State} {held : Bool}

/-! ### What waits -/

/-- An entry carries no nonzero set-point where a level-3 context is held, and where it is a hazard's own. -/
def QEntry.still (held : Bool) (e : QEntry) : Prop := held = true ∨ e.origin = .resp3 → e.val.speed = 0

/-- Each entry that waits is still. -/
def State.postsStill (held : Bool) (s : State) : Prop := ∀ e ∈ s.posts, e.still held

/-- The output of the gate is zero under the source RESP3. -/
def State.gateStill (s : State) : Prop :=
  s.mgt.source = .resp3 ∧ s.mgt.outL = 0 ∧ s.mgt.outR = 0 ∧ s.mgt.outBlade = 0

theorem hazardStill_iff (s : State) :
    s.hazardStill ↔ (s.rse.ctx3.isSome = true → s.gateStill) ∧ s.postsStill s.rse.ctx3.isSome := by
  constructor
  · rintro ⟨hheld, hown⟩
    refine ⟨fun h => ?_, fun e he h => ?_⟩
    · obtain ⟨hsource, hL, hR, hblade, -⟩ := hheld h
      exact ⟨hsource, hL, hR, hblade⟩
    · rcases h with h | h
      · exact (hheld h).2.2.2.2 e he
      · exact hown e he h
  · rintro ⟨hgate, hposts⟩
    refine ⟨fun h => ?_, fun e he h => hposts e he (.inr h)⟩
    obtain ⟨hsource, hL, hR, hblade⟩ := hgate h
    exact ⟨hsource, hL, hR, hblade, fun e he => hposts e he (.inl h)⟩

theorem still_of_speed {e : QEntry} (h : e.val.speed = 0) : e.still held := fun _ => h

theorem postsStill_congr {t : State} (h : t.postView = s.postView) (hs : s.postsStill held) : t.postsStill held := by
  simp only [State.postView, Prod.mk.injEq] at h
  unfold State.postsStill State.posts
  rw [h.1, h.2]
  exact hs

/-- The entries of `s`, and others that carry no set-point but 0. -/
theorem postsStill_of_posts {t : State} (h : ∀ e ∈ t.posts, e ∈ s.posts ∨ e.still held) (hs : s.postsStill held) :
    t.postsStill held := fun e he => (h e he).elim (hs e) id

theorem sendHead_postsStill (hs : s.postsStill held) : (sendHead s).postsStill held := by
  unfold sendHead
  split
  · exact hs
  · next e rest hq =>
    intro x hx
    have hposts : s.posts = e :: (rest ++ s.dlc.behind) := by rw [State.posts, hq]; rfl
    rcases List.mem_cons.mp (show x ∈ { e with inFlight := true } :: (rest ++ s.dlc.behind) from hx) with rfl | hrest
    · exact hs e (by rw [hposts]; exact List.mem_cons_self)
    · exact hs x (by rw [hposts]; exact List.mem_cons_of_mem _ hrest)

theorem arbitrate_postsStill (hs : s.postsStill held) : (arbitrate s).postsStill held := by
  unfold arbitrate
  split
  · exact hs
  · split
    · exact sendHead_postsStill hs
    · split
      · exact postsStill_congr (s := s) rfl hs
      · split
        · unfold sendRead
          split
          · exact hs
          · exact postsStill_congr (s := s) rfl hs
        · exact sendHead_postsStill hs

theorem joinTail_postsStill {e : QEntry} (he : e.still held) (hs : s.postsStill held) :
    (joinTail e s).postsStill held := by
  have hjoined : (onDlc (fun d => { d with queue := d.queue ++ [e] }) s).postsStill held := by
    refine postsStill_of_posts (s := s) (fun x hx => ?_) hs
    simp only [State.posts, onDlc, List.mem_append, List.mem_singleton] at hx ⊢
    rcases hx with (hqueue | rfl) | hbehind
    · exact .inl (.inl hqueue)
    · exact .inr he
    · exact .inl (.inr hbehind)
  exact Kept.either _ (arbitrate_postsStill hjoined) hjoined

theorem postRelay_postsStill (close : Bool) (hs : s.postsStill held) : (postRelay close s).postsStill held := by
  unfold postRelay
  split
  · exact hs
  · split
    · exact postsStill_congr (s := s) rfl hs
    · exact joinTail_postsStill (still_of_speed rfl) hs

theorem mem_replaceIn {n : Node} {v : PostValue} {o : Origin} {e : QEntry} {l : List QEntry}
    (he : e ∈ replaceIn n v o l) : e ∈ l ∨ e.val = v ∧ e.origin = o := by
  obtain ⟨x, hx, rfl⟩ := List.mem_map.mp he
  split
  · exact .inr ⟨rfl, rfl⟩
  · exact .inl hx

theorem postSet_postsStill {n : Node} {v : PostValue} {o : Origin}
    (hv : held = true ∨ o = .resp3 → v.speed = 0) (hs : s.postsStill held) : (postSet n v o s).postsStill held := by
  have hreposted : ∀ {e : QEntry} {l : List QEntry}, e ∈ replaceIn n v o l → e ∈ l ∨ e.still held := by
    intro e l he
    refine (mem_replaceIn he).imp_right fun ⟨hval, horigin⟩ => ?_
    unfold QEntry.still
    rwa [hval, horigin]
  unfold postSet
  split
  · refine postsStill_of_posts (s := s) (fun e he => ?_) hs
    rcases List.mem_append.mp he with hqueue | hbehind
    · exact .inl (List.mem_append_left _ hqueue)
    · exact (hreposted hbehind).imp_left (List.mem_append_right _)
  · split
    · refine postsStill_of_posts (s := s) (fun e he => ?_) hs
      rcases List.mem_append.mp he with hqueue | hbehind
      · exact (hreposted hqueue).imp_left (List.mem_append_left _)
      · exact .inl (List.mem_append_right _ hbehind)
    · exact joinTail_postsStill hv hs

theorem postBehind_postsStill {n : Node} {v : PostValue} {o : Origin}
    (hv : held = true ∨ o = .resp3 → v.speed = 0) (hs : s.postsStill held) :
    (postBehind n v o s).postsStill held := by
  unfold postBehind
  split
  · refine postsStill_of_posts (s := s) (fun x hx => ?_) hs
    simp only [State.posts, onDlc, List.mem_append, List.mem_singleton] at hx ⊢
    rcases hx with hqueue | hbehind | rfl
    · exact .inl (.inl hqueue)
    · exact .inl (.inr hbehind)
    · exact .inr hv
  · exact postSet_postsStill hv hs

/-- What follows a leaving brings no set-point but those that waited. -/
theorem afterLeaving_still {d : Dlc} (h : ∀ e ∈ d.queue ++ d.behind, e.still held) :
    ∀ e ∈ (afterLeaving d).queue ++ (afterLeaving d).behind, e.still held := by
  unfold afterLeaving
  extract_lets t
  have ht : ∀ e ∈ t.queue ++ t.behind, e.still held := by
    intro e he
    refine h e ?_
    have hposts := (joinBehind_posts _ e).mp he
    split at hposts <;> exact hposts
  split
  · split
    · exact ht
    · intro e he
      simp only [List.mem_append, List.mem_singleton] at he ht
      rcases he with (hqueue | rfl) | hbehind
      · exact ht e (.inl hqueue)
      · exact still_of_speed rfl
      · exact ht e (.inr hbehind)
  · exact ht

theorem answered_postsStill (hs : s.postsStill held) : (onDlc Dlc.answered s).postsStill held := by
  show ∀ e ∈ (Dlc.answered s.dlc).queue ++ (Dlc.answered s.dlc).behind, e.still held
  unfold Dlc.answered
  split
  · next e rest hq =>
    have hposts : s.posts = e :: (rest ++ s.dlc.behind) := by rw [State.posts, hq]; rfl
    split
    · split
      · intro x hx
        rcases List.mem_cons.mp hx with rfl | hrest
        · exact hs e (by rw [hposts]; exact List.mem_cons_self)
        · exact hs x (by rw [hposts]; exact List.mem_cons_of_mem _ hrest)
      · exact afterLeaving_still fun x hx => hs x (by rw [hposts]; exact List.mem_cons_of_mem _ hx)
    · exact hs
  · exact hs

theorem failed_postsStill (hs : s.postsStill held) : (onDlc Dlc.failed s).postsStill held := by
  show ∀ e ∈ (Dlc.failed s.dlc).queue ++ (Dlc.failed s.dlc).behind, e.still held
  unfold Dlc.failed
  split
  · next e rest hq =>
    have hposts : s.posts = e :: (rest ++ s.dlc.behind) := by rw [State.posts, hq]; rfl
    split
    · exact afterLeaving_still fun x hx => hs x (by rw [hposts]; exact List.mem_cons_of_mem _ hx)
    · exact hs
  · exact hs

/-- Entries that leave by a filter leave no other still to be seen. -/
theorem filtered_still {p : QEntry → Bool} {q b : List QEntry} (h : ∀ e ∈ q ++ b, p e = true → e.still held) :
    ∀ e ∈ q.filter p ++ b.filter p, e.still held := by
  intro e he
  rw [← List.filter_append] at he
  obtain ⟨hmem, hp⟩ := List.mem_filter.mp he
  exact h e hmem hp

/-- The hazard discard keeps a hazard's own entries alone. -/
theorem hazardDiscard_postsStill (hs : s.postsStill held) : (hazardDiscard s).postsStill true := by
  unfold hazardDiscard
  extract_lets removed t
  have ht : t.postsStill true := by
    refine afterLeaving_still (filtered_still fun e he hkept => still_of_speed ?_)
    exact hs e he (.inr (by simpa [QEntry.kept] using hkept))
  exact Kept.either _ (postsStill_congr (by simp [State.postView]) ht) ht

theorem zeroAt_speed {n : Node} {v : PostValue} (h : s.zeroAt n = some v) : v.speed = 0 := by
  unfold State.zeroAt at h
  split at h <;> cases h <;> rfl

theorem hazardZeroPosts_postsStill (hs : s.postsStill held) : (hazardZeroPosts s).postsStill held := by
  refine List.foldlRecOn nodes _ hs fun t ht n _ => ?_
  split
  · next v hv => exact postsStill_congr rfl (postSet_postsStill (fun _ => zeroAt_speed hv) ht)
  · exact ht

theorem resetZeroPosts_postsStill (hs : s.postsStill held) : (resetZeroPosts s).postsStill held := by
  rw [resetZeroPosts_eq]
  refine List.foldlRecOn nodes stillOne hs fun t ht n _ => ?_
  unfold stillOne
  split
  · next v hv => exact postsStill_congr rfl (postSet_postsStill (fun _ => zeroAt_speed hv) ht)
  · exact ht

theorem swapZeroPosts_postsStill (before : PerSix NodeKind) (hs : s.postsStill held) :
    (swapZeroPosts before s).postsStill held := by
  refine List.foldlRecOn nodes _ hs fun t ht n _ => ?_
  split
  · exact ht
  · split
    · next v hv => exact postsStill_congr rfl (postSet_postsStill (fun _ => zeroAt_speed hv) ht)
    · exact postsStill_congr rfl ht

theorem swapDlc_postsStill (before : PerSix NodeKind) (hs : s.postsStill held) :
    State.postsStill held { s with dlc := s.swapDlc before } :=
  afterLeaving_still (filtered_still fun e he _ => hs e he)

/-! ### The zeros leave the output as it was -/

/-- The output of the gate's last evaluation with its source and its limits. -/
def State.outView (s : State) : Source × (Int × Int × Int) × (Nat × Nat) :=
  (s.mgt.source, (s.mgt.outL, s.mgt.outR, s.mgt.outBlade), (s.mgt.feff, s.mgt.reff))

theorem outView_of_gateView {t : State} (h : t.gateView = s.gateView) : t.outView = s.outView := by
  simp only [State.gateView, Prod.mk.injEq] at h
  obtain ⟨hsource, hout, hlimits, -⟩ := h
  simp only [State.outView, hsource, hout, hlimits]

theorem swapZeroPosts_outView (before : PerSix NodeKind) (s : State) :
    (swapZeroPosts before s).outView = s.outView := by
  refine foldl_keeps _ State.outView (fun t n => ?_) nodes s
  split
  · rfl
  · split
    · simp [State.outView, gatePost, recordPost, onMgt]
    · rfl

theorem resetZeroPosts_outView (s : State) : (resetZeroPosts s).outView = s.outView := by
  rw [resetZeroPosts_eq]
  refine foldl_keeps stillOne State.outView (fun t n => ?_) nodes s
  unfold stillOne
  split
  · simp [State.outView, onMgt]
  · rfl

/-! ### The gate's evaluation -/

/-- The gate and what waits, as an evaluation leaves them: the output is zero where a level-3 context is held, and
the source is RESP3 only there. -/
structure EvaluatedStill (held : Bool) (s : State) : Prop where
  gate : held = true → s.gateStill
  source : s.mgt.source = .resp3 → held = true
  posts : s.postsStill held

theorem EvaluatedStill.due {n : Node} {v : PostValue} (h : EvaluatedStill held s) (hv : s.dueAt n = some v) :
    held = true ∨ s.mgt.source.origin = .resp3 → v.speed = 0 := by
  intro hcase
  have hheld : held = true := by
    rcases hcase with hheld | horigin
    · exact hheld
    · refine h.source ?_
      cases hsource : s.mgt.source <;> simp [hsource, Source.origin] at horigin
      rfl
  obtain ⟨-, hL, hR, hblade⟩ := h.gate hheld
  unfold State.dueAt at hv
  split at hv <;> cases hv <;> assumption

theorem EvaluatedStill.recordPost {n : Node} {v : PostValue} (h : EvaluatedStill held s) :
    EvaluatedStill held (recordPost n v s) := ⟨h.gate, h.source, h.posts⟩

theorem EvaluatedStill.of_mgt {t : State} (hmgt : t.mgt = s.mgt) (hposts : t.postsStill held)
    (h : EvaluatedStill held s) : EvaluatedStill held t := by
  refine ⟨fun hheld => ?_, fun hsource => h.source (hmgt ▸ hsource), hposts⟩
  unfold State.gateStill
  rw [hmgt]
  exact h.gate hheld

theorem EvaluatedStill.postIfDue (h : EvaluatedStill held s) (n : Node) : EvaluatedStill held (postIfDue s n) := by
  unfold Machine.postIfDue
  split
  · next v hv =>
    have hposted : EvaluatedStill held (postSet n v s.mgt.source.origin s) :=
      h.of_mgt (by simp) (postSet_postsStill (h.due hv) h.posts)
    exact Kept.either _ h hposted.recordPost
  · exact h

theorem EvaluatedStill.postBehindIfDue (h : EvaluatedStill held s) (n : Node) :
    EvaluatedStill held (postBehindIfDue s n) := by
  unfold Machine.postBehindIfDue
  split
  · next v hv =>
    have hposted : EvaluatedStill held (postBehind n v s.mgt.source.origin s) :=
      h.of_mgt (by simp) (postBehind_postsStill (h.due hv) h.posts)
    exact Kept.either _ h hposted.recordPost
  · exact h

theorem scalePair_zero (f r : Nat) : scalePair f r 0 0 = (0, 0) := by simp [scalePair, overshoots]

theorem selectedSource_of_ctx3 {c : Ctx} (h : s.rse.ctx3 = some c) : s.selectedSource = .resp3 := by
  simp [State.selectedSource, State.runningCtx, h, Source.ofLevel]

theorem ctx3_of_selectedSource (h : s.selectedSource = .resp3) : s.rse.ctx3.isSome = true := by
  unfold State.selectedSource State.runningCtx at h
  split at h
  · next l c hrun =>
    split at hrun
    · next h3 => rw [h3]; rfl
    · split at hrun
      · cases hrun
        cases h
      · obtain ⟨x, -, hx⟩ := Option.map_eq_some_iff.mp hrun
        cases hx
        cases h
  · split at h <;> cases h

theorem bladeValue_resp3 : s.bladeValue .resp3 = 0 := by
  unfold State.bladeValue
  split <;> simp [State.bladeSource]

theorem evaluated_still (hlegal : s.rse.Legal) (hposts : s.postsStill s.rse.ctx3.isSome) :
    EvaluatedStill s.rse.ctx3.isSome { s with mgt := s.evaluated } where
  gate hheld := by
    obtain ⟨c, hc⟩ := Option.isSome_iff_exists.mp hheld
    obtain ⟨-, -, hrest, -⟩ := hlegal
    obtain ⟨-, -, -, hleft, hright⟩ := hrest c hc
    have hpair : s.sourcePair .resp3 = (0, 0) := by
      simp [State.sourcePair, State.runningCtx, hc, hleft, hright]
    simp [State.gateStill, State.evaluated, selectedSource_of_ctx3 hc, hpair, scalePair_zero, bladeValue_resp3]
  source hsource := ctx3_of_selectedSource hsource
  posts := hposts

/-! ### The property that every step keeps -/

/-- The responses are legal and a hazard keeps the gate still. -/
def State.hazardLegal (s : State) : Prop := s.responsesLegal ∧ s.hazardStill

theorem hazardLegal_of (hlegal : s.rse.Legal) (hgate : s.rse.ctx3.isSome = true → s.gateStill)
    (hposts : s.postsStill s.rse.ctx3.isSome) : s.hazardLegal :=
  ⟨hlegal, (hazardStill_iff s).mpr ⟨hgate, hposts⟩⟩

theorem State.hazardLegal.gate (h : s.hazardLegal) : s.rse.ctx3.isSome = true → s.gateStill :=
  ((hazardStill_iff s).mp h.2).1

theorem State.hazardLegal.posts (h : s.hazardLegal) : s.postsStill s.rse.ctx3.isSome :=
  ((hazardStill_iff s).mp h.2).2

/-- A change of the drive posts and of the last posted values alone. -/
theorem hazardLegal_of_posts {t : State} (hrse : t.rse = s.rse) (hmgt : t.outView = s.outView)
    (hposts : ∀ held, s.postsStill held → t.postsStill held) (h : s.hazardLegal) : t.hazardLegal := by
  simp only [State.outView, Prod.mk.injEq] at hmgt
  obtain ⟨hsource, ⟨hL, hR, hblade⟩, -⟩ := hmgt
  refine hazardLegal_of (by rw [hrse]; exact h.1) (fun hheld => ?_) ?_
  · rw [hrse] at hheld
    unfold State.gateStill
    rw [hsource, hL, hR, hblade]
    exact h.gate hheld
  · rw [hrse]
    exact hposts _ h.posts

theorem hazardLegal_of_calm {t : State} (hgate : t.gateView = s.gateView) (hposts : t.postView = s.postView)
    (hctx : t.ctxView = s.ctxView) (h : s.hazardLegal) : t.hazardLegal := by
  simp only [State.ctxView, Prod.mk.injEq] at hctx
  obtain ⟨⟨h1, h2, h3⟩, hstop⟩ := hctx
  have hwaits : s.hazardLegal → State.hazardLegal { t with rse := s.rse } :=
    hazardLegal_of_posts rfl (outView_of_gateView hgate) fun held => postsStill_congr hposts
  obtain ⟨hlegal, hstill⟩ := hwaits h
  refine ⟨?_, ?_⟩
  · unfold State.responsesLegal at hlegal ⊢
    rw [h1, h2, h3, hstop]
    exact hlegal
  · unfold State.hazardStill at hstill ⊢
    rw [h3]
    exact hstill

theorem evaluate_hazardLegal_of (hlegal : s.rse.Legal) (hposts : s.postsStill s.rse.ctx3.isSome) :
    (evaluate s).hazardLegal := by
  have hdone : EvaluatedStill s.rse.ctx3.isSome (evaluate s) := by
    have hfigures := evaluated_still hlegal hposts
    exact Kept.either _ hfigures (List.foldlRecOn nodes postIfDue hfigures fun t ht n _ => ht.postIfDue n)
  have hrse : (evaluate s).rse = s.rse := by simp
  exact hazardLegal_of (by rwa [hrse]) (by rw [hrse]; exact hdone.gate) (by rw [hrse]; exact hdone.posts)

theorem evaluate_hazardLegal (h : s.hazardLegal) : (evaluate s).hazardLegal := evaluate_hazardLegal_of h.1 h.posts

theorem evaluateBehind_hazardLegal (h : s.hazardLegal) : (evaluateBehind s).hazardLegal := by
  have hdone : EvaluatedStill s.rse.ctx3.isSome (evaluateBehind s) :=
    List.foldlRecOn nodes postBehindIfDue (evaluated_still h.1 h.posts) fun t ht n _ => ht.postBehindIfDue n
  have hrse : (evaluateBehind s).rse = s.rse := by simp
  exact hazardLegal_of (by rw [hrse]; exact h.1) (by rw [hrse]; exact hdone.gate) (by rw [hrse]; exact hdone.posts)

theorem hazardCreate_legal (t : Trig) (d : Option Nat) : (hazardCreate t d s).rse.Legal := by
  have hnone : ∀ c : Ctx, none = some c → c.ordinary := fun c hc => (by cases hc)
  refine ⟨fun _ => ⟨rfl, rfl⟩, rfl, fun c hc => ?_, hnone, hnone⟩
  cases hc
  exact ⟨rfl, rfl, rfl, rfl, rfl⟩

theorem hazardEntry_hazardLegal (t : Trig) (d : Option Nat) (h : s.hazardLegal) :
    (hazardEntry t d s).hazardLegal := by
  have hwaits : (setFlag .hazard (trigDetail t d) (hazardCreate t d s)).postsStill s.rse.ctx3.isSome :=
    postsStill_congr (s := s) (by simp [State.postView, hazardCreate, onRse]) h.posts
  have hzeros := hazardZeroPosts_postsStill (hazardDiscard_postsStill hwaits)
  have hrse : (hazardZeroPosts (hazardDiscard (setFlag .hazard (trigDetail t d) (hazardCreate t d s)))).rse =
      (hazardCreate t d s).rse := by simp
  have hgate := evaluate_hazardLegal_of (by rw [hrse]; exact hazardCreate_legal t d) (by rw [hrse]; exact hzeros)
  exact hazardLegal_of_calm (by simp [hazardEntry, gateHazard, State.gateView])
    (by simp [hazardEntry, gateHazard, State.postView]) (by simp [hazardEntry, gateHazard, State.ctxView]) hgate

theorem hazardJoin_hazardLegal (t : Trig) {c : Ctx} (hc : s.rse.ctx3 = some c) (h : s.hazardLegal) :
    (hazardJoin t c s).hazardLegal := by
  have hsome : s.rse.ctx3.isSome = true := by rw [hc]; rfl
  have hposts : s.postsStill true := by
    have := h.posts
    rwa [hsome] at this
  obtain ⟨halone, hstop, hrest, hord1, hord2⟩ := h.1
  refine hazardLegal_of ⟨fun _ => halone hsome, hstop.trans hsome, fun x hx => ?_, hord1, hord2⟩
    (fun _ => h.gate hsome) (postsStill_congr (s := s) rfl hposts)
  cases hx
  exact hrest c hc

theorem cleared_hazardLegal (f : RseCounters → RseCounters) (h : s.hazardLegal) :
    (onRse (fun r => { r with ctx3 := none, stopHazard := false, cnt := f r.cnt }) s).hazardLegal := by
  obtain ⟨-, -, -, hord1, hord2⟩ := h.1
  have hnone : ∀ c : Ctx, none = some c → c.resting := fun c hc => (by cases hc)
  refine hazardLegal_of ⟨fun hsome => (by cases hsome), rfl, hnone, hord1, hord2⟩
    (fun hsome => (by cases hsome)) fun e he hcase => ?_
  exact h.posts e he (.inr (hcase.resolve_left Bool.false_ne_true))

theorem respond_hazardLegal {r : Rse} (h3 : r.ctx3 = s.rse.ctx3) (hlegal : s.rse.Legal → r.Legal)
    (h : s.hazardLegal) : State.hazardLegal { s with rse := r } := by
  refine hazardLegal_of (hlegal h.1) (fun hsome => ?_) ?_
  · exact h.gate (h3 ▸ hsome)
  · show State.postsStill r.ctx3.isSome _
    rw [h3]
    exact h.posts

theorem testOver_hazardLegal (status : TestStatus) (h : s.hazardLegal) : (testOver status s).hazardLegal :=
  hazardLegal_of_calm (s := s) (by simp [State.gateView, testOver]) (by simp [State.postView, testOver])
    (by simp [State.ctxView, testOver, onRse, onLbu]) h

/-- The acts of the part keep a hazard still. -/
theorem keptCalmly_hazardLegal : KeptCalmly State.hazardLegal where
  quiet q := hazardLegal_of_calm q.gate q.posts q.ctx
  calm q := hazardLegal_of_calm q.gate q.posts q.ctx
  link q := hazardLegal_of_calm q.gate q.posts q.ctx
  flag _ _ _ h := hazardLegal_of_calm (by simp [State.gateView]) (by simp [State.postView]) (by simp [State.ctxView]) h
  answerThen _ _ _ _ h :=
    hazardLegal_of_calm (by simp [State.gateView]) (by simp [State.postView]) (by simp [State.ctxView]) h
  answerRead _ _ _ h :=
    hazardLegal_of_calm (by simp [State.gateView]) (by simp [State.postView]) (by simp [State.ctxView]) h
  evaluate := evaluate_hazardLegal
  arbitrate := hazardLegal_of_posts (by simp) (by simp [State.outView]) fun _ => arbitrate_postsStill
  postRelay close _ :=
    hazardLegal_of_posts (by simp) (by simp [State.outView]) fun _ => postRelay_postsStill close
  postParam _ _ _ _ :=
    hazardLegal_of_posts (by simp) (by simp [State.outView]) fun _ => joinTail_postsStill (still_of_speed rfl)
  queueAnswered := hazardLegal_of_posts (by simp [onDlc]) rfl fun _ => answered_postsStill
  queueFailed := hazardLegal_of_posts (by simp [onDlc]) rfl fun _ => failed_postsStill
  hazardEntry t d _ := hazardEntry_hazardLegal t d
  hazardJoin t _ _ hc := hazardJoin_hazardLegal t hc
  respond h3 hlegal := respond_hazardLegal h3 hlegal
  cleared f _ := cleared_hazardLegal f
  testOver status _ _ _ := testOver_hazardLegal status
  dEchoOver h := evaluate_hazardLegal
    (hazardLegal_of_posts (by simp) (by simp [State.outView]) (fun _ => arbitrate_postsStill)
      (testOver_hazardLegal _ h))
  testStarted _ _ _ := hazardLegal_of_calm rfl rfl rfl
  staged _ _ := hazardLegal_of_calm rfl rfl rfl
  swapPosts before _ :=
    hazardLegal_of_posts (by simp) (swapZeroPosts_outView before _) fun _ => swapZeroPosts_postsStill before
  swapDlc before _ := hazardLegal_of_posts rfl rfl fun _ => swapDlc_postsStill before
  freshDlc := hazardLegal_of_posts rfl rfl fun _ _ e he => by cases he
  resetPosts := hazardLegal_of_posts (by simp) (resetZeroPosts_outView _) fun _ => resetZeroPosts_postsStill
  evaluateBehind := evaluateBehind_hazardLegal

theorem restart_hazardLegal (n : NRate) (d : DRate) (s : State) : (restart n d s).hazardLegal := by
  obtain ⟨-, -, -, hresponses, hstill, -⟩ := resetHasEveryProperty s.pending s.freeCount s.spu.levels n d
  exact ⟨hresponses, hstill⟩

/-- Settles O56: each act of the part keeps the responses legal and a hazard still. -/
theorem hazardStaysStill : Obligations.HazardStaysStill :=
  keptCalmly_hazardLegal.stepKeeps (fun status _ => testOver_hazardLegal status) restart_hazardLegal

end Sys2Proof.Machine
end

section
/-! The gate's output stays within its limits, and the last posted values stay equal to it (R71, R72, R74, R76). -/

namespace Sys2Proof.Machine

variable {s : State}

/-! ### What is posted, and what is due -/

/-- The last posted value of an address is the one due there. -/
def State.postedAsDue (s : State) (n : Node) : Prop := ∀ v, s.dueAt n = some v → s.mgt.posted.get n = v.speed

/-- A running test's kind is that of its parameters. -/
def State.testKindLegal (s : State) : Prop := s.testRunning = true → s.lbu.kind = s.lbu.params.kind

theorem dueAt_congr {t : State} {n : Node} (hkind : t.nodeKind n = s.nodeKind n) (hout : t.outView = s.outView) :
    t.dueAt n = s.dueAt n := by
  simp only [State.outView, Prod.mk.injEq] at hout
  obtain ⟨-, ⟨hL, hR, hblade⟩, -⟩ := hout
  simp only [State.dueAt, hkind, hL, hR, hblade]

theorem nodeKind_of_bank {t : State} (h : t.bankView = s.bankView) (n : Node) : t.nodeKind n = s.nodeKind n := by
  simp only [State.bankView, Prod.mk.injEq] at h
  simp only [State.nodeKind, State.gen8, State.tableByte, State.tableAddr, State.bankBase, h.1, h.2]

theorem dEchoRunning_congr {t : State} (h : t.testView = s.testView) : t.dEchoRunning = s.dEchoRunning := by
  simp only [State.testView, Prod.mk.injEq] at h
  simp only [State.dEchoRunning, State.testRunning, h.1, h.2.1]

theorem testKindLegal_congr {t : State} (h : t.testView = s.testView) (hs : s.testKindLegal) : t.testKindLegal := by
  simp only [State.testView, Prod.mk.injEq] at h
  unfold State.testKindLegal State.testRunning
  rw [h.1, h.2.1, h.2.2]
  exact hs

theorem outputLegal_congr {t : State} (h : t.outView = s.outView) (hs : s.outputLegal) : t.outputLegal := by
  simp only [State.outView, Prod.mk.injEq] at h
  obtain ⟨-, ⟨hL, hR, hblade⟩, hfeff, hreff⟩ := h
  unfold State.outputLegal
  rw [hL, hR, hblade, hfeff, hreff]
  exact hs

/-! ### Posting what is due -/

/-- An address posts what is due there: its last posted value becomes that, and the output stays. -/
structure PostsDue (f : State → Node → State) : Prop where
  out : ∀ s n, (f s n).outView = s.outView
  bank : ∀ s n, (f s n).bankView = s.bankView
  other : ∀ s n m, m ≠ n → (f s n).mgt.posted.get m = s.mgt.posted.get m
  due : ∀ s n v, s.dueAt n = some v → (f s n).mgt.posted.get n = v.speed

theorem PostsDue.dueAt {f : State → Node → State} (h : PostsDue f) (s : State) (n m : Node) :
    (f s n).dueAt m = s.dueAt m := dueAt_congr (nodeKind_of_bank (h.bank s n) m) (h.out s n)

/-- Once each of a list of addresses has posted, each of them has posted what is due there. -/
theorem PostsDue.foldl {f : State → Node → State} (h : PostsDue f) (l : List Node) (s : State) (m : Node)
    (hm : m ∈ l ∨ s.postedAsDue m) : (l.foldl f s).postedAsDue m := by
  induction l generalizing s with
  | nil => exact hm.resolve_left (List.not_mem_nil)
  | cons n rest ih =>
    refine ih (f s n) ?_
    by_cases hrest : m ∈ rest
    · exact .inl hrest
    · refine .inr fun v hv => ?_
      rw [h.dueAt] at hv
      by_cases he : m = n
      · subst he
        exact h.due s m v hv
      · rw [h.other s n m he]
        exact (hm.resolve_left (by simp [he, hrest])) v hv

theorem postsDue_postIfDue : PostsDue postIfDue where
  out s n := by
    unfold postIfDue
    split
    · split
      · rfl
      · simp [State.outView, gatePost, recordPost, onMgt]
    · rfl
  bank s n := by simp [State.bankView]
  other s n m hm := by
    unfold postIfDue
    split
    · split
      · rfl
      · simp [gatePost, recordPost, onMgt, PerSix.get_set_ite, hm]
    · rfl
  due s n v hv := by
    unfold postIfDue
    rw [hv]
    dsimp only
    split
    · assumption
    · simp [gatePost, recordPost, onMgt]

theorem postsDue_postBehindIfDue : PostsDue postBehindIfDue where
  out s n := by
    unfold postBehindIfDue
    split
    · split
      · rfl
      · simp [State.outView, recordPost, onMgt]
    · rfl
  bank s n := by simp [State.bankView]
  other s n m hm := by
    unfold postBehindIfDue
    split
    · split
      · rfl
      · simp [recordPost, onMgt, PerSix.get_set_ite, hm]
    · rfl
  due s n v hv := by
    unfold postBehindIfDue
    rw [hv]
    dsimp only
    split
    · assumption
    · simp [recordPost, onMgt]

theorem PostsDue.foldl_out {f : State → Node → State} (h : PostsDue f) (l : List Node) (s : State) :
    (l.foldl f s).outView = s.outView := foldl_keeps f State.outView h.out l s

/-! ### The evaluation -/

/-- The output of the part is legal, and posted where no D-link echo holds the posting. -/
def State.gateLegal (s : State) : Prop := s.outputLegal ∧ s.postsLegal

theorem gateLegal_of (hout : s.outputLegal) (hposted : s.dEchoRunning = false → ∀ n, s.postedAsDue n)
    (hkind : s.testKindLegal) : s.gateLegal := ⟨hout, hposted, hkind⟩

theorem gateLegal_congr {t : State} (hgate : t.gateView = s.gateView) (hbank : ∀ n, t.nodeKind n = s.nodeKind n)
    (htest : t.testView = s.testView) (hs : s.gateLegal) : t.gateLegal := by
  obtain ⟨hout, hposted, hkind⟩ := hs
  have hview := outView_of_gateView hgate
  refine gateLegal_of (outputLegal_congr hview hout) (fun hnone n v hv => ?_) (testKindLegal_congr htest hkind)
  rw [dEchoRunning_congr htest] at hnone
  rw [dueAt_congr (hbank n) hview] at hv
  simp only [State.gateView, Prod.mk.injEq] at hgate
  rw [hgate.2.2.2]
  exact hposted hnone n v hv

/-- The figures of an evaluation are within its limits. -/
theorem evaluated_outputLegal (s : State) : State.outputLegal { s with mgt := s.evaluated } := by
  have hfits := scalePair_fits s.evaluated.feff s.evaluated.reff (s.sourcePair s.selectedSource).1
    (s.sourcePair s.selectedSource).2
  obtain ⟨hL, hR⟩ := hfits
  exact ⟨hL.bounds.1, hL.bounds.2, hR.bounds.1, hR.bounds.2, Int.natCast_nonneg _⟩

theorem mem_nodes_all (n : Node) : n ∈ nodes := mem_nodes n

/-- An evaluation makes the output legal and posts it, whatever stood there. -/
theorem evaluate_gateLegal (hkind : s.testKindLegal) : (evaluate s).gateLegal := by
  have htest : (evaluate s).testView = s.testView := by simp [State.testView]
  have hview : (evaluate s).outView = State.outView { s with mgt := s.evaluated } := by
    unfold evaluate postDue
    split
    · rfl
    · exact postsDue_postIfDue.foldl_out nodes _
  refine gateLegal_of (outputLegal_congr hview (evaluated_outputLegal s)) (fun hnone n => ?_)
    (testKindLegal_congr htest hkind)
  rw [dEchoRunning_congr htest] at hnone
  have hfree : State.dEchoRunning { s with mgt := s.evaluated } = false := hnone
  unfold evaluate postDue
  rw [if_neg (by simp [hfree])]
  exact postsDue_postIfDue.foldl nodes _ n (.inl (mem_nodes n))

/-- So does an evaluation behind the zeros of a DRIVE channel reset. -/
theorem evaluateBehind_gateLegal (hkind : s.testKindLegal) : (evaluateBehind s).gateLegal := by
  have htest : (evaluateBehind s).testView = s.testView := by simp [State.testView]
  have hview : (evaluateBehind s).outView = State.outView { s with mgt := s.evaluated } :=
    postsDue_postBehindIfDue.foldl_out nodes _
  exact gateLegal_of (outputLegal_congr hview (evaluated_outputLegal s))
    (fun _ n => postsDue_postBehindIfDue.foldl nodes _ n (.inl (mem_nodes n))) (testKindLegal_congr htest hkind)

theorem evaluateAs_gateLegal (behind : Bool) (hkind : s.testKindLegal) : (evaluateAs behind s).gateLegal :=
  Kept.either _ (evaluateBehind_gateLegal hkind) (evaluate_gateLegal hkind)

theorem State.gateLegal.testKind (h : s.gateLegal) : s.testKindLegal := h.2.2

/-! ### The other acts -/

theorem nodeKind_of_staged {m : List Host.Cell}
    (hm : ∀ a, s.inForce a → Memory.read m a = Memory.read s.mem a) (n : Node) :
    State.nodeKind { s with mem := m } n = s.nodeKind n := by
  have haddr : s.inForce (s.tableAddr .active .general (50 + n.val)) := by
    have hn := n.isLt
    simp only [State.inForce, State.tableAddr, Table.base, bankSize]
    omega
  have hbyte : State.tableByte { s with mem := m } .active .general (50 + n.val) =
      s.tableByte .active .general (50 + n.val) := hm _ haddr
  simp only [State.nodeKind, State.gen8, hbyte]

/-- An act that changes neither the gate, nor the tables, nor a test. -/
theorem gateLegal_of_frame {t : State} (hmgt : t.mgt = s.mgt) (hmem : t.mem = s.mem) (htbs : t.tbs = s.tbs)
    (hlbu : t.lbu = s.lbu) : s.gateLegal → t.gateLegal :=
  gateLegal_congr (by rw [State.gateView, hmgt]; rfl)
    (nodeKind_of_bank (by rw [State.bankView, hmem, htbs]; rfl)) (by rw [State.testView, hlbu]; rfl)

theorem hazardEntry_gateLegal (t : Trig) (d : Option Nat) (hs : s.gateLegal) : (hazardEntry t d s).gateLegal := by
  have htest : (hazardZeroPosts (hazardDiscard (setFlag .hazard (trigDetail t d) (hazardCreate t d s)))).testView =
      s.testView := by simp [State.testView, hazardCreate]
  have hgate := evaluate_gateLegal (testKindLegal_congr htest hs.testKind)
  exact gateLegal_of_frame (by simp [hazardEntry, gateHazard]) (by simp [hazardEntry, gateHazard])
    (by simp [hazardEntry, gateHazard]) (by simp [hazardEntry, gateHazard]) hgate

theorem testOver_gateLegal {status : TestStatus} (hne : status ≠ .running)
    (hfree : s.lbu.kind = s.lbu.params.kind → s.dEchoRunning = false) (hs : s.gateLegal) :
    (testOver status s).gateLegal := by
  obtain ⟨hout, hposted, hkind⟩ := hs
  have hnone : s.dEchoRunning = false := by
    cases hrun : s.testRunning with
    | false => simp [State.dEchoRunning, hrun]
    | true => exact hfree (hkind hrun)
  have hgate : (testOver status s).gateView = s.gateView := by simp [State.gateView, testOver]
  have hstopped : (testOver status s).testRunning = false := by
    simpa [testOver, State.testRunning, onLbu] using hne
  refine gateLegal_of (outputLegal_congr (outView_of_gateView hgate) hout) (fun _ n v hv => ?_) fun hrun => ?_
  · rw [dueAt_congr (s := s) (nodeKind_of_bank (by simp [State.bankView, testOver]) n) (outView_of_gateView hgate)] at hv
    simp only [State.gateView, Prod.mk.injEq] at hgate
    rw [hgate.2.2.2]
    exact hposted hnone n v hv
  · simp [hstopped] at hrun

theorem testOver_testKindLegal {status : TestStatus} (hne : status ≠ .running) : (testOver status s).testKindLegal := by
  intro hrun
  simp [testOver, State.testRunning, onLbu, hne] at hrun

theorem testStarted_gateLegal (p : TestParams) (hfree : s.testRunning = false) (hs : s.gateLegal) :
    State.gateLegal { s with lbu := p.started } := by
  obtain ⟨hout, hposted, -⟩ := hs
  exact gateLegal_of hout (fun _ => hposted (by simp [State.dEchoRunning, hfree])) fun _ => rfl

/-- The acts of the part keep the output legal. -/
theorem keptZoned_gateLegal : KeptZoned State.gateLegal where
  zoned q := gateLegal_congr q.gate (nodeKind_of_bank q.bank) q.test
  quiet q := gateLegal_congr q.gate (nodeKind_of_bank q.bank) q.test
  link q := gateLegal_congr q.gate (nodeKind_of_bank q.bank) q.test
  flag _ _ _ := gateLegal_of_frame (by simp) (by simp) (by simp) (by simp)
  answerThen _ _ _ _ := gateLegal_of_frame (by simp) (by simp) (by simp) (by simp)
  answerRead _ _ _ := gateLegal_of_frame (by simp) (by simp) (by simp) (by simp)
  evaluate hs := evaluate_gateLegal hs.testKind
  arbitrate := gateLegal_of_frame (by simp) (by simp) (by simp) (by simp)
  postRelay _ _ := gateLegal_of_frame (by simp) (by simp) (by simp) (by simp)
  postParam _ _ _ _ := gateLegal_of_frame (by simp) (by simp) (by simp) (by simp)
  queueAnswered := gateLegal_of_frame rfl rfl rfl rfl
  queueFailed := gateLegal_of_frame rfl rfl rfl rfl
  hazardEntry t d _ := hazardEntry_gateLegal t d
  hazardJoin _ _ _ _ := gateLegal_of_frame rfl rfl rfl rfl
  respond _ _ := gateLegal_of_frame rfl rfl rfl rfl
  cleared _ _ := gateLegal_of_frame rfl rfl rfl rfl
  testOver _ _ := testOver_gateLegal
  dEchoOver {s} _ := evaluate_gateLegal
    (testKindLegal_congr (s := testOver .completed s) (by simp [State.testView]) (testOver_testKindLegal (by decide)))
  testStarted p _ := testStarted_gateLegal p
  staged _ hm := gateLegal_congr rfl (nodeKind_of_staged hm) rfl

/-! ### A swap, and a DRIVE channel reset -/

theorem takeSwap_gateLegal (behind : Bool) (hkind : s.testKindLegal) : (takeSwap behind s).gateLegal := by
  have hkept := keptZoned_gateLegal
  unfold takeSwap
  extract_lets t u gone
  have hgate : ∀ {before power}, (gateSwap behind before (dlcSwap before power (spuSwapUnits (zoneSwap (wdcSwap u))))).gateLegal := by
    intro before power
    exact evaluateAs_gateLegal behind (testKindLegal_congr (s := s) (by simp [State.testView, u, t, zoneSwap]) hkind)
  refine hkept.arbitrate (hkept.flag _ _ ?_)
  unfold handBank
  exact hkept.telemetryRestart (hkept.spuSwapHandOff (hkept.zoneToDock _ _ hgate))

theorem driveStilled_testKindLegal (hkind : s.testKindLegal) : (driveStilled s).testKindLegal := by
  have hlbu : (driveStilled s).testView = (abortDEcho s).testView := by
    unfold driveStilled
    dsimp only
    split <;> simp [State.testView]
  refine testKindLegal_congr hlbu ?_
  exact Kept.either _ (testOver_testKindLegal (by decide)) hkind

theorem driveReset_gateLegal (hs : s.gateLegal) : (driveReset s).gateLegal := by
  refine keptZoned_gateLegal.arbitrate (evaluateBehind_gateLegal ?_)
  exact testKindLegal_congr (by simp [State.testView]) (driveStilled_testKindLegal hs.testKind)

theorem restart_gateLegal (n : NRate) (d : DRate) (s : State) : (restart n d s).gateLegal := by
  obtain ⟨-, -, -, -, -, hout, hposts, -⟩ := resetHasEveryProperty s.pending s.freeCount s.spu.levels n d
  exact ⟨hout, hposts⟩

/-- Settles O57: each act of the part keeps the output within its limits and posted. -/
theorem outputStaysWithinLimits : Obligations.OutputStaysWithinLimits :=
  KeptByActs.stepKeeps
    { toKept := keptZoned_gateLegal.toKept
      stages := fun m now _ => keptZoned_gateLegal.zoneStages m now
      recompute := keptZoned_gateLegal.zoneRecompute
      zoneReset := keptZoned_gateLegal.zoneReset
      swap := fun _ hs => takeSwap_gateLegal false (State.gateLegal.testKind hs)
      driveReset := driveReset_gateLegal
      restart := restart_gateLegal }

end Sys2Proof.Machine
end

section
/-! The active zone stays legal, and the gate sees it (R31, R39, R40). -/

namespace Sys2Proof.Machine

variable {s : State}

/-! ### Acts that leave the zone as it was -/

/-- What the state says of the zone: what stands and what the gate sees of it, and the kinds of the slots. -/
abbrev ZoneRule := Option Slot × PerSlot LoopState × Nat × Option Slot × Nat → (Slot → SlotKind) → Prop

theorem slotKind_of_bank {t : State} (h : t.bankView = s.bankView) : t.slotKind = s.slotKind := by
  simp only [State.bankView, Prod.mk.injEq] at h
  funext i
  simp only [State.slotKind, State.zone8, State.tableByte, State.tableAddr, State.bankBase, h.1, h.2]

theorem slotKind_of_staged {m : List Host.Cell}
    (hm : ∀ a, s.inForce a → Memory.read m a = Memory.read s.mem a) :
    State.slotKind { s with mem := m } = s.slotKind := by
  funext i
  have haddr : s.inForce (s.tableAddr .active .zones (32 * i.val)) := by
    have hi := i.isLt
    simp only [State.inForce, State.tableAddr, Table.base, bankSize]
    omega
  have hbyte : State.tableByte { s with mem := m } .active .zones (32 * i.val + 0) =
      s.tableByte .active .zones (32 * i.val + 0) := hm _ haddr
  simp only [State.slotKind, State.zone8, hbyte]

theorem zoneView_of_seen {t : State} (hzcu : t.zcu = s.zcu) (hzone : t.mgt.zone = s.mgt.zone)
    (hprox : t.mgt.prox = s.mgt.prox) : t.zoneView = s.zoneView := by
  simp only [State.zoneView, hzcu, hzone, hprox]

section
variable {R : ZoneRule}

theorem zoneRule_of_seen {t : State} (hzcu : t.zcu = s.zcu) (hzone : t.mgt.zone = s.mgt.zone)
    (hprox : t.mgt.prox = s.mgt.prox) (hmem : t.mem = s.mem) (htbs : t.tbs = s.tbs)
    (hs : R s.zoneView s.slotKind) : R t.zoneView t.slotKind := by
  have hbank : t.bankView = s.bankView := by rw [State.bankView, hmem, htbs]; rfl
  rw [zoneView_of_seen hzcu hzone hprox, slotKind_of_bank hbank]
  exact hs

theorem zoneRule_of_views {t : State} (hzone : t.zoneView = s.zoneView) (hbank : t.bankView = s.bankView)
    (hs : R s.zoneView s.slotKind) : R t.zoneView t.slotKind := by
  rw [hzone, slotKind_of_bank hbank]
  exact hs

theorem testOver_zoneRule (status : TestStatus) (hs : R s.zoneView s.slotKind) :
    R (testOver status s).zoneView (testOver status s).slotKind :=
  zoneRule_of_seen (by simp [testOver]) (by simp [testOver]) (by simp [testOver]) (by simp [testOver])
    (by simp [testOver]) hs

theorem hazardEntry_zoneRule (t : Trig) (d : Option Nat) (hs : R s.zoneView s.slotKind) :
    R (hazardEntry t d s).zoneView (hazardEntry t d s).slotKind :=
  zoneRule_of_seen (by simp [hazardEntry, gateHazard]) (by simp [hazardEntry, gateHazard])
    (by simp [hazardEntry, gateHazard]) (by simp [hazardEntry, gateHazard]) (by simp [hazardEntry, gateHazard]) hs

/-- What the state says of the zone is kept by the acts of the part. -/
theorem kept_zoneRule : Kept fun s => R s.zoneView s.slotKind where
  quiet q := zoneRule_of_views q.zone q.bank
  link q := zoneRule_of_views q.zone q.bank
  flag _ _ _ := zoneRule_of_seen (by simp) (by simp) (by simp) (by simp) (by simp)
  answerThen _ _ _ _ := zoneRule_of_seen (by simp) (by simp) (by simp) (by simp) (by simp)
  answerRead _ _ _ := zoneRule_of_seen (by simp) (by simp) (by simp) (by simp) (by simp)
  evaluate := zoneRule_of_seen (by simp) (by simp) (by simp) (by simp) (by simp)
  arbitrate := zoneRule_of_seen (by simp) (by simp) (by simp) (by simp) (by simp)
  postRelay _ _ := zoneRule_of_seen (by simp) (by simp) (by simp) (by simp) (by simp)
  postParam _ _ _ _ := zoneRule_of_seen (by simp) (by simp) (by simp) (by simp) (by simp)
  queueAnswered := zoneRule_of_seen rfl rfl rfl rfl rfl
  queueFailed := zoneRule_of_seen rfl rfl rfl rfl rfl
  hazardEntry t d _ := hazardEntry_zoneRule t d
  hazardJoin _ _ _ _ := zoneRule_of_seen rfl rfl rfl rfl rfl
  respond _ _ := zoneRule_of_seen rfl rfl rfl rfl rfl
  cleared _ _ := zoneRule_of_seen rfl rfl rfl rfl rfl
  testOver status _ _ _ := testOver_zoneRule status
  dEchoOver {s} hs := zoneRule_of_seen (s := testOver .completed s) (by simp [dEchoOver]) (by simp [dEchoOver])
    (by simp [dEchoOver]) (by simp [dEchoOver]) (by simp [dEchoOver]) (testOver_zoneRule _ hs)
  testStarted _ _ _ := zoneRule_of_seen rfl rfl rfl rfl rfl
  staged _ hm hs := by
    rw [slotKind_of_staged hm]
    exact hs

end

/-! ### The legal zone -/

/-- The active zone is NONE, or a PERIMETER slot whose loop state lets it stay (R31). -/
def State.activeLegal (s : State) : Prop :=
  ∀ i, s.zcu.active = some i → s.slotKind i = .perimeter ∧ (s.zcu.loops.get i).holdsZone = true

theorem holdsZone_iff (l : LoopState) : l.holdsZone = true ↔ l = .inside ∨ l = .straddle ∨ l = .outside := by
  cases l <;> simp [LoopState.holdsZone]

theorem zoneLegal_iff (s : State) :
    s.zoneLegal ↔ s.activeLegal ∧ s.mgt.zone = s.zcu.active ∧ s.mgt.prox = s.zcu.prox := by
  simp only [State.zoneLegal, State.activeLegal, holdsZone_iff]

/-- The rule of the legal zone. -/
def zoneLegalRule : ZoneRule := fun (active, loops, prox, zone, seen) kind =>
  (∀ i, active = some i → kind i = .perimeter ∧
    (loops.get i = .inside ∨ loops.get i = .straddle ∨ loops.get i = .outside)) ∧ zone = active ∧ seen = prox

theorem kept_zoneLegal : Kept State.zoneLegal := kept_zoneRule (R := zoneLegalRule)

/-- No active zone is a legal one. -/
theorem activeLegal_of_none (h : s.zcu.active = none) : s.activeLegal := by
  intro i hi
  rw [h] at hi
  cases hi

theorem insideSlot_legal {loops : PerSlot LoopState} {ok : Slot → Bool} {j : Slot}
    (h : s.insideSlot loops ok = some j) : s.slotKind j = .perimeter ∧ loops.get j = .inside := by
  have hj := List.find?_some h
  simp only [Bool.and_eq_true, beq_iff_eq] at hj
  exact hj.1

/-- The zone an update settles is a PERIMETER slot whose new loop state lets it stay (R31 to R33). -/
theorem settledZone_legal (hs : s.activeLegal) {prior now : PerSlot LoopState} {j : Slot}
    (h : s.settledZone prior now = some j) : s.slotKind j = .perimeter ∧ (now.get j).holdsZone = true := by
  have hinside : ∀ {ok}, s.insideSlot now ok = some j →
      s.slotKind j = .perimeter ∧ (now.get j).holdsZone = true := by
    intro ok hj
    obtain ⟨hkind, hin⟩ := insideSlot_legal hj
    exact ⟨hkind, by rw [hin]; rfl⟩
  unfold State.settledZone at h
  split at h
  · exact hinside h
  · next i hactive =>
    split at h
    · next k hpass =>
      cases h
      unfold State.passageTo at hpass
      split at hpass
      · exact hinside hpass
      · cases hpass
    · split at h
      · next hholds =>
        rw [Option.some.injEq] at h
        rw [← h]
        exact ⟨(hs i hactive).1, hholds⟩
      · exact hinside h

/-! ### The hand-offs -/

theorem gateTakesStrength_seen (s : State) :
    (gateTakesStrength s).mgt.zone = s.mgt.zone ∧ (gateTakesStrength s).mgt.prox = s.zcu.prox := by
  unfold gateTakesStrength
  dsimp only
  split <;> simp [onMgt]

/-- What the gate sees, once the zone context has handed on an active zone that the gate had seen unless it
changed. -/
theorem zoneToGate_zoneLegal {before : State} (hactive : s.activeLegal)
    (hseen : s.zcu.active = before.zcu.active → s.mgt.zone = s.zcu.active) :
    (zoneToGate before s).zoneLegal := by
  have hkind : (zoneToGate before s).slotKind = s.slotKind := slotKind_of_bank (by simp [State.bankView])
  have hzcu : (zoneToGate before s).zcu = s.zcu := by simp
  have hzone : (zoneToGate before s).mgt.zone = s.zcu.active := by
    unfold zoneToGate
    rw [(gateTakesStrength_seen _).1]
    split
    · next he => exact hseen he
    · simp [gateTakesZone, onMgt]
  have hprox : (zoneToGate before s).mgt.prox = s.zcu.prox := by
    unfold zoneToGate
    rw [(gateTakesStrength_seen _).2]
    split <;> simp
  rw [zoneLegal_iff, hzcu]
  refine ⟨fun i hi => ?_, hzone, hprox⟩
  rw [hkind, hzcu]
  rw [hzcu] at hi
  exact hactive i hi

theorem zoneCarried_zoneLegal (trigs : List (Trig × Option Nat)) (z : Zcu) (guide station : Bool)
    (hz : State.activeLegal { s with zcu := z }) (hs : s.mgt.zone = s.zcu.active) :
    (zoneCarried trigs z guide station s).zoneLegal := by
  have hkept := kept_zoneLegal
  have hraised : (raiseInUpdate trigs z s).zoneView = State.zoneView { s with zcu := z } ∧
      (raiseInUpdate trigs z s).slotKind = s.slotKind :=
    (kept_zoneRule (R := fun v k => v = State.zoneView { s with zcu := z } ∧ k = s.slotKind)).raiseAll trigs
      (s := { s with zcu := { z with outTimer := z.outTimer.stop } }) ⟨rfl, rfl⟩
  obtain ⟨hview, hkind⟩ := hraised
  simp only [State.zoneView, Prod.mk.injEq] at hview
  obtain ⟨hactive, hloops, -, hzone, -⟩ := hview
  refine hkept.outsideTest (hkept.zoneToDock _ _ (zoneToGate_zoneLegal (fun i hi => ?_) fun he => ?_))
  · rw [hkind, hloops]
    rw [hactive] at hi
    exact hz i hi
  · rw [he, hzone]
    exact hs

theorem zoneStages_zoneLegal (m : PerSlot (PerCoil MirrorLane)) (now : PerSlot LoopState) (hs : s.zoneLegal) :
    (zoneStages m now s).zoneLegal := by
  obtain ⟨hactive, hzone, -⟩ := (zoneLegal_iff s).mp hs
  exact zoneCarried_zoneLegal _ _ _ _ (fun i hi => settledZone_legal hactive hi) hzone

theorem zoneRecompute_zoneLegal (hs : s.zoneLegal) : (zoneRecompute s).zoneLegal := by
  obtain ⟨hactive, hzone, -⟩ := (zoneLegal_iff s).mp hs
  have hthawed : State.activeLegal (onZcu (fun z => { z with frozen := false }) s) := hactive
  unfold zoneRecompute
  exact zoneCarried_zoneLegal _ _ _ _ (fun i hi => settledZone_legal hthawed hi) hzone

theorem zoneReset_zoneLegal (hs : s.zoneLegal) : (zoneReset s).zoneLegal := by
  obtain ⟨-, hzone, -⟩ := (zoneLegal_iff s).mp hs
  unfold zoneReset
  refine kept_zoneLegal.zoneToDock _ _ (zoneToGate_zoneLegal (activeLegal_of_none rfl) fun he => ?_)
  exact hzone.trans he.symm

/-! ### A swap, and a DRIVE channel reset -/

/-- What the gate sees of the zone context. -/
def State.seenView (s : State) : Option Slot × Nat := (s.mgt.zone, s.mgt.prox)

theorem swapZeroPosts_seen (before : PerSix NodeKind) (s : State) :
    (swapZeroPosts before s).mgt.zone = s.mgt.zone ∧ (swapZeroPosts before s).mgt.prox = s.mgt.prox := by
  have hkeeps : (swapZeroPosts before s).seenView = s.seenView := by
    refine foldl_keeps _ State.seenView (fun t n => ?_) nodes s
    split
    · rfl
    · split
      · simp [State.seenView]
      · rfl
  exact Prod.mk.inj hkeeps

theorem resetZeroPosts_seen (s : State) :
    (resetZeroPosts s).mgt.zone = s.mgt.zone ∧ (resetZeroPosts s).mgt.prox = s.mgt.prox := by
  have hkeeps : (resetZeroPosts s).seenView = s.seenView := by
    rw [resetZeroPosts_eq]
    refine foldl_keeps stillOne State.seenView (fun t n => ?_) nodes s
    unfold stillOne
    split
    · simp [State.seenView, onMgt]
    · rfl
  exact Prod.mk.inj hkeeps

theorem evaluateBehind_zoneLegal (hs : s.zoneLegal) : (evaluateBehind s).zoneLegal :=
  zoneRule_of_seen (R := zoneLegalRule) (by simp) (by simp) (by simp) (by simp) (by simp) hs

theorem evaluateAs_zoneLegal (behind : Bool) (hs : s.zoneLegal) : (evaluateAs behind s).zoneLegal :=
  Kept.either _ (evaluateBehind_zoneLegal hs) (kept_zoneLegal.evaluate hs)

theorem gateSwap_zoneLegal (behind : Bool) (before : PerSix NodeKind) (hs : s.zoneLegal) :
    (gateSwap behind before s).zoneLegal := by
  have hstale : (swapStale s).zoneLegal := Kept.either _ (kept_zoneLegal.goStale hs) hs
  obtain ⟨hzone, hprox⟩ := swapZeroPosts_seen before (swapStale s)
  exact evaluateAs_zoneLegal behind
    (zoneRule_of_seen (R := zoneLegalRule) (by simp) hzone hprox (by simp) (by simp) hstale)

theorem zoneSwap_zoneLegal (s : State) : (zoneSwap s).zoneLegal :=
  (zoneLegal_iff _).mpr ⟨activeLegal_of_none rfl, rfl, rfl⟩

theorem takeSwap_zoneLegal (behind : Bool) (s : State) : (takeSwap behind s).zoneLegal := by
  have hkept := kept_zoneLegal
  unfold takeSwap
  extract_lets t u gone
  have hblocks : (dlcSwap s.nodeKinds s.powerNode (spuSwapUnits (zoneSwap (wdcSwap u)))).zoneLegal :=
    zoneRule_of_seen (R := zoneLegalRule) (s := zoneSwap (wdcSwap u)) (by simp) (by simp) (by simp) (by simp)
      (by simp) (zoneSwap_zoneLegal _)
  refine hkept.arbitrate (hkept.flag _ _ ?_)
  unfold handBank
  exact hkept.telemetryRestart (hkept.spuSwapHandOff (hkept.zoneToDock _ _ (gateSwap_zoneLegal _ _ hblocks)))

theorem driveStilled_zoneLegal (hs : s.zoneLegal) : (driveStilled s).zoneLegal := by
  have hkept := kept_zoneLegal
  unfold driveStilled
  extract_lets aborted answered
  have haborted : aborted.zoneLegal := Kept.either _ (testOver_zoneRule (R := zoneLegalRule) _ hs) hs
  have hanswered : answered.zoneLegal := Kept.either _ (hkept.answerRead _ _ haborted) haborted
  obtain ⟨hzone, hprox⟩ := resetZeroPosts_seen (powerSilent { answered with dlc := answered.freshDlc })
  exact zoneRule_of_seen (R := zoneLegalRule) (by simp) hzone hprox (by simp) (by simp) hanswered

theorem driveReset_zoneLegal (hs : s.zoneLegal) : (driveReset s).zoneLegal := by
  have hswapped : (takeDueSwap true (driveStilled s)).zoneLegal :=
    Kept.either _ (takeSwap_zoneLegal true _) (driveStilled_zoneLegal hs)
  exact kept_zoneLegal.arbitrate (evaluateBehind_zoneLegal hswapped)

theorem restart_zoneLegal (n : NRate) (d : DRate) (s : State) : (restart n d s).zoneLegal := by
  obtain ⟨-, -, hzone, -⟩ := resetHasEveryProperty s.pending s.freeCount s.spu.levels n d
  exact hzone

/-- Settles O55: the acts of the part leave the zone as it was, and an update, a reset and a swap of the zone
context hand the gate what stands. -/
theorem activeZoneStaysLegal : Obligations.ActiveZoneStaysLegal :=
  KeptByActs.stepKeeps
    { toKept := kept_zoneLegal
      stages := fun m now _ => zoneStages_zoneLegal m now
      recompute := zoneRecompute_zoneLegal
      zoneReset := zoneReset_zoneLegal
      swap := fun _ _ => takeSwap_zoneLegal false _
      driveReset := driveReset_zoneLegal
      restart := restart_zoneLegal }

end Sys2Proof.Machine
end

section
/-! The passing of time, and the commands that are not due (log entries 1, 3 and 79). -/

namespace Sys2Proof.Machine

/-- The contexts after a time: only the running one's step time falls (R111). -/
theorem rse_advance_eq (dt : Nat) (r : Rse) :
    r.advance dt = { r with
      ctx1 := if r.ctx2 = none ∧ r.ctx3 = none then r.ctx1.map (Ctx.advance dt) else r.ctx1
      ctx2 := if r.ctx3 = none then r.ctx2.map (Ctx.advance dt) else r.ctx2 } := by
  obtain ⟨c1, c2, c3, stopHazard, stopSettle, stopTest, cnt⟩ := r
  cases c3 with
  | some c => simp [Rse.advance]
  | none =>
    cases c2 with
    | some c => simp [Rse.advance]
    | none => simp [Rse.advance]

/-! ### Commands that are not due -/

theorem whenDue_of_not_due {due : State → Bool} {f : State → State} {u : State} (h : due u = false) :
    whenDue due f u = u := if_neg (by simp [h])

theorem whenDue_of_due {due : State → Bool} {f : State → State} {u : State} (h : due u = true) :
    whenDue due f u = f u := if_pos h

/-- The request with a code is carried out when it is the head's. -/
theorem requestCommands_event {dt k : Nat} {c : Instr} (h : (requestCommands dt)[k]? = some c) :
    timeOf c = dt ∧ ∃ f, eventOf c = onRequest k f := by
  have hk : k < 18 := by
    obtain ⟨hlt, -⟩ := List.getElem?_eq_some_iff.mp h
    exact hlt
  interval_cases k <;> (cases h; unfold eventOf; exact ⟨rfl, _, rfl⟩)

theorem not_debounceDue {p : Pin} {u : State} (h : (u.spu.units.get p).measuring = false ∨
    (u.spu.units.get p).cfg.mode ≠ .level ∨ (u.spu.units.get p).debTimer ≠ some (ms (u.spu.units.get p).cfg.param)) :
    u.debounceDue p = false := by
  rcases h with h | h | h <;> simp [State.debounceDue, h]

theorem not_edgeWindowDue {p : Pin} {u : State} (h : (u.spu.units.get p).measuring = false ∨
    (u.spu.units.get p).cfg.mode ≠ .edgeCount ∨ (u.spu.units.get p).window < ms (u.spu.units.get p).cfg.param) :
    u.edgeWindowDue p = false := by
  rcases h with h | h | h <;> simp [State.edgeWindowDue, h]

theorem not_dutyTimeoutDue {p : Pin} {u : State} (h : (u.spu.units.get p).measuring = false ∨
    (u.spu.units.get p).cfg.mode ≠ .duty ∨ (u.spu.units.get p).dutyTimer < ms (u.spu.units.get p).cfg.param) :
    u.dutyTimeoutDue p = false := by
  rcases h with h | h | h <;> simp [State.dutyTimeoutDue, h]

theorem not_responseDue {u : State} (h : ∀ t, u.dlc.tx = some t → t.elapsed < t.timeout) : u.responseDue = false := by
  unfold State.responseDue
  split
  · next t ht => simpa using h t ht
  · rfl

theorem not_stepDue {u : State} (h : ∀ l c, u.runningCtx = some (l, c) → c.remaining ≠ some 0) :
    u.stepDue = false := by
  unfold State.stepDue
  split
  · next l c hrun => simpa using h l c hrun
  · rfl

/-- A timer of a node's record is not due where no record has one that is. -/
theorem not_nodeDue {n : Node} {u : State} {f : NodeRec → LimitTimer}
    (h : ∀ r, u.dlc.recs.get n = some r → (f r).due = false) :
    (match u.dlc.recs.get n with
      | some r => (f r).due
      | none => false) = false := by
  split
  · next r hr => exact h r hr
  · rfl

theorem not_echoEndDue {u : State} (h : u.nEchoing = false ∨
    ∃ sec, u.lbu.params = .nLinkEcho sec ∧ u.lbu.echoTime < ms (1000 * sec)) : u.echoEndDue = false := by
  rcases h with h | ⟨sec, hparams, hsoon⟩
  · simp [State.echoEndDue, h]
  · simp [State.echoEndDue, hparams, hsoon]

theorem not_takeLinkDue {u : State} (h : u.dEchoRunning = false ∨ u.lbu.begun = true ∨ u.dlc.tx ≠ none) :
    u.takeLinkDue = false := by
  rcases h with h | h | h
  · simp [State.takeLinkDue, h]
  · simp [State.takeLinkDue, h]
  · have hbusy : u.dlc.tx.isNone = false := by simpa [Option.isSome_iff_ne_none] using h
    simp [State.takeLinkDue, hbusy]

theorem not_echoBeginDue {u : State} (h : u.lbu.status ≠ .running ∨ u.lbu.kind ≠ .nLinkEcho ∨ u.lbu.beginDue = false) :
    u.echoBeginDue = false := by
  rcases h with h | h | h <;> simp [State.echoBeginDue, State.testRunning, h]

theorem not_placeDue {u : State} (h : u.wireTest = none ∨ u.lbu.left = 0 ∨ 4 ≤ u.wdc.ring.length ∨
    ∃ i c, u.wireTest = some (i, c) ∧ ∃ e ∈ u.wdc.ring, e.coil = c) : u.placeDue = false := by
  unfold State.placeDue
  split
  · next i c hw =>
    rcases h with h | h | h | ⟨j, d, hwire, e, he, hcoil⟩
    · simp [hw] at h
    · simp [h]
    · simp [h]
    · have hwait : u.synthWaiting c = true := by
        obtain ⟨-, rfl⟩ := Prod.mk.inj (Option.some.inj (hw.symm.trans hwire))
        exact List.any_eq_true.mpr ⟨e, he, by simp [hcoil]⟩
      simp [hwait]
  · rfl

theorem not_approachDue {u : State} (h : u.dkc.dock ≠ .approach ∨ u.dkc.approachT.due u.approachTimeout = false) :
    u.approachDue = false := by
  rcases h with h | h <;> simp [State.approachDue, h]

theorem not_swapTimeoutDue {u : State} (h : u.tbs.swapPending = false ∨ u.tbs.swapT.due = false) :
    u.swapTimeoutDue = false := by
  rcases h with h | h <;> simp [State.swapTimeoutDue, h]

theorem notDueLetsTimePass {dt : Nat} {s : State} (held : s.resetHeld = false) :
    NotDueLetsTimePass dt s (arrive dt s) := by
  have hrest : ∀ c : Instr, timeOf c = dt → eventOf c (arrive dt s) = arrive dt s →
      exec c s = .next (arrive dt s) := by
    intro c htime hevent
    rw [exec_of_running c held, htime, hevent]
  have hidle : ∀ {due : State → Bool} {f : State → State} (c : Instr), timeOf c = dt →
      due (arrive dt s) = false → eventOf c = whenDue due f → exec c s = .next (arrive dt s) := by
    intro due f c htime hdue hevent
    exact hrest c htime (by rw [hevent]; exact whenDue_of_not_due hdue)
  generalize arrive dt s = u at hrest hidle ⊢
  unfold NotDueLetsTimePass
  extract_lets idle unit noTimer
  refine ⟨?correlation, ?silence, ?outside, ?debounce, ?window, ?duty, ?tilt, ?settle, ?age, ?poll, ?response,
    ?slip, ?stall, ?jam, ?step, ?battery, ?rain, ?approach, ?relay, ?motion, ?swap, ?swapTimer, ?telemetry, ?sent,
    ?fullReset, ?echoBegin, ?echoEnd, ?takeLink, ?place, ?request, ?unknown, ?passWrite, ?passRead⟩
  case correlation => exact fun h => hrest _ rfl (by simp [eventOf, correlationOver, h])
  case silence => exact fun c h => hidle _ rfl h rfl
  case outside => exact fun h => hidle _ rfl h rfl
  case debounce => exact fun p h => hidle _ rfl (not_debounceDue h) rfl
  case window => exact fun p h => hidle _ rfl (not_edgeWindowDue h) rfl
  case duty => exact fun p h => hidle _ rfl (not_dutyTimeoutDue h) rfl
  case tilt => exact fun h => hidle (due := fun s => s.spu.tilt.due s.tiltPersistence) _ rfl h rfl
  case settle => exact fun h => hidle (due := State.settleDue) _ rfl (by simp [State.settleDue, h]) rfl
  case age => exact fun h => hidle _ rfl h rfl
  case poll => exact fun n h => hidle (due := fun s => (s.pollDueAge n).isSome) _ rfl (by simp [h]) rfl
  case response => exact fun h => hidle _ rfl (not_responseDue h) rfl
  case slip => exact fun n h => hidle (due := State.slipDue n) _ rfl (not_nodeDue h) rfl
  case stall => exact fun n h => hidle (due := State.stallDue n) _ rfl (not_nodeDue h) rfl
  case jam => exact fun n h => hidle (due := State.jamDue n) _ rfl (not_nodeDue h) rfl
  case step => exact fun h => hidle _ rfl (not_stepDue h) rfl
  case battery => exact fun h => hidle (due := fun s => s.dkc.batteryT.due) _ rfl h rfl
  case rain => exact fun h => hidle (due := fun s => s.dkc.rainT.due) _ rfl h rfl
  case approach => exact fun h => hidle _ rfl (not_approachDue h) rfl
  case relay => exact fun h => hidle _ rfl h rfl
  case motion => exact fun h => hidle _ rfl h rfl
  case swap => exact hrest _ rfl rfl
  case swapTimer => exact fun h => hidle _ rfl (not_swapTimeoutDue h) rfl
  case telemetry => exact fun h => hidle _ rfl h rfl
  case sent => exact fun h => hrest _ rfl (by simp [eventOf, frameSent, h])
  case fullReset => exact fun h n d => hidle (due := fun s => s.mrh.fullResetDue) _ rfl h rfl
  case echoBegin => exact fun h => hidle _ rfl (not_echoBeginDue h) rfl
  case echoEnd => exact fun h => hidle _ rfl (not_echoEndDue h) rfl
  case takeLink => exact fun h => hidle _ rfl (not_takeLinkDue h) rfl
  case place => exact fun h => hidle _ rfl (not_placeDue h) rfl
  case request =>
    intro k c hc hhead
    obtain ⟨htime, f, hevent⟩ := requestCommands_event hc
    exact hidle (due := headIs k) c htime hhead hevent
  case unknown => exact fun h => hidle _ rfl h rfl
  case passWrite => exact fun h => hidle (due := headPass .read) _ rfl h rfl
  case passRead => exact fun h => hidle (due := headPass .write) _ rfl h rfl

/-- Settles O3: what time makes of each block, and the commands that are not due one by one. -/
theorem onlyTimersMoveWithTime : Obligations.OnlyTimersMoveWithTime := by
  intro dt s held u on run runOwn falls
  refine ⟨?blocks, ?coils, ?pins, ?nodes, ?ageState, ?ageRuns, ?ageExpired, ?ageStands, ?echo, ?noEcho, ?only,
    notDueLetsTimePass held⟩
  case blocks =>
    have hrse : u.rse = s.rse.advance dt := rfl
    rw [rse_advance_eq] at hrse
    exact congrArg (fun r => { u with rse := r }) hrse
  case coils => exact fun c => PerCoil.get_map _ _ c
  case pins => exact fun p => PerPin.get_map _ _ p
  case nodes => exact fun n => PerSix.get_map _ _ n
  case ageState =>
    show (ageAdvance s.ageLimit dt s.mgt.age).st = _
    unfold ageAdvance
    split <;> rfl
  case ageRuns =>
    intro h
    show (ageAdvance s.ageLimit dt s.mgt.age).elapsed = _
    rw [ageAdvance, h]
    rfl
  case ageExpired =>
    intro h
    show (ageAdvance s.ageLimit dt s.mgt.age).elapsed = _
    rw [ageAdvance, h]
    rfl
  case ageStands =>
    intro hrun hexpired
    show ageAdvance s.ageLimit dt s.mgt.age = _
    unfold ageAdvance
    split
    · exact absurd ‹_› hrun
    · exact absurd ‹_› hexpired
    · rfl
  case echo =>
    intro sec hecho hparams
    show (if s.nEchoing then _ else s.lbu.echoTime) = _
    rw [if_pos hecho, hparams]
    rfl
  case noEcho =>
    intro h
    show (if s.nEchoing then _ else s.lbu.echoTime) = _
    rcases h with h | h
    · rw [if_neg (by simp [h])]
    · split
      · split
        · exact absurd ‹_› (h _)
        · rfl
      · rfl
  case only =>
    intro h
    refine arrive_of_not_due ?_
    rcases h with h | h | h <;> simp [State.swapDue, h]

end Sys2Proof.Machine
end

section
/-! The Wire Decoder: the correlator, the period value and the silence of a coil (R7, R8, R10, R15). -/

namespace Sys2Proof.Machine

variable {s u : State}

/-! ### The correlator -/

theorem any_enabled_eq_false (h : ∀ i, s.enabled i = false) : slots.any s.enabled = false := by
  simp [List.any_eq_false, h]

theorem any_enabled_eq_true (h : ∃ i, s.enabled i = true) : slots.any s.enabled = true := by
  obtain ⟨i, hi⟩ := h
  exact List.any_eq_true.mpr ⟨i, mem_slots i, hi⟩

/-- With no enabled slot every waiting burst ends at once (R7). -/
theorem correlatorTake_of_none_enabled (hidle : s.wdc.inCorr = none) (h : ∀ i, s.enabled i = false) :
    correlatorTake s = { s with wdc := { s.wdc with ring := [] } } := by
  simp [correlatorTake, hidle, any_enabled_eq_false h, onWdc]

theorem correlatorTake_of_empty (hidle : s.wdc.inCorr = none) (h : ∃ i, s.enabled i = true)
    (hring : s.wdc.ring = []) : correlatorTake s = s := by
  simp [correlatorTake, hidle, any_enabled_eq_true h, hring]

/-- The oldest burst is taken, and a gap-marked one aborts the open windows of its coil (R15). -/
theorem correlatorTake_of_waiting (hidle : s.wdc.inCorr = none) (h : ∃ i, s.enabled i = true) {e : RingEntry}
    {rest : List RingEntry} (hring : s.wdc.ring = e :: rest) :
    correlatorTake s = if e.gap = none then onWdc (fun w => { w with ring := rest, inCorr := some e }) s
      else abortWindows e.coil (onWdc (fun w => { w with ring := rest, inCorr := some e }) s) := by
  simp only [correlatorTake, hidle, any_enabled_eq_true h, hring]
  cases e.gap <;> rfl

/-- Without a wire pattern test the end of a correlation steps the lanes, hands the verdicts on and takes the
next burst. -/
theorem correlationOver_of_burst {e : RingEntry} (hburst : u.wdc.inCorr = some e) (hfree : u.wireTest = none) :
    correlationOver u = correlatorTake (zoneUpdate (u.publishedBy e) (stepLanes e u)) := by
  have hverdict : u.testedVerdict e = none := by simp [State.testedVerdict, hfree]
  have hpattern : ∀ v : State, v.lbu = u.lbu → v.patternOver e = false := by
    intro v hv
    have hwire : v.wireTest = none := by
      unfold State.wireTest State.testRunning at hfree ⊢
      rwa [hv]
    simp [State.patternOver, hwire]
  rw [correlationOver, hburst]
  simp only [correlationEnded, hverdict, recordVerdict]
  rw [hpattern _ (by simp [stepLanes, onWdc])]
  rfl

/-- The lanes a burst steps are those of its coil that belong to an enabled slot (R7). -/
theorem stepLanes_lane (e : RingEntry) (u : State) (i : Slot) (c : Coil) :
    ((stepLanes e u).wdc.lanes.get i).get c =
      if c = e.coil ∧ u.enabled i = true then (u.stepLane i e ((u.wdc.lanes.get i).get c)).1
      else (u.wdc.lanes.get i).get c := by
  have hlanes : (stepLanes e u).wdc.lanes.get i = (u.wdc.lanes.get i).set e.coil (u.laneStep e i).1 :=
    PerSlot.get_of _ i
  rw [hlanes, PerCoil.get_set_ite]
  by_cases hc : c = e.coil
  · subst hc
    cases henabled : u.enabled i <;> simp [State.laneStep, henabled]
  · simp [hc]

theorem publishedBy_eq (e : RingEntry) (u : State) :
    u.publishedBy e = ⟨e.coil, ([0, 1, 2, 3] : List Slot).filter fun i =>
      u.enabled i && (u.stepLane i e ((u.wdc.lanes.get i).get e.coil)).2.isSome⟩ := by
  have hlane : ∀ i, (u.laneStep e i).2.isSome =
      (u.enabled i && (u.stepLane i e ((u.wdc.lanes.get i).get e.coil)).2.isSome) := by
    intro i
    cases henabled : u.enabled i <;> simp [State.laneStep, henabled]
  simp only [State.publishedBy, hlane, slots]

/-- Settles O9: what an idle correlator takes, and the lanes and verdicts of the burst whose correlation ends. -/
theorem correlationStepsTheLanes : Obligations.CorrelationStepsTheLanes := by
  refine ⟨fun s hidle => ⟨correlatorTake_of_none_enabled hidle, correlatorTake_of_empty hidle,
    fun e rest henabled hring => ?_⟩, fun dt s held => ?_⟩
  · intro x n
    rw [correlatorTake_of_waiting hidle henabled hring]
    split <;> rfl
  intro u
  refine ⟨fun hnone => ?_, fun e hburst hfree => ?_⟩
  · rw [exec_of_running _ held]
    show Host.Outcome.next (correlationOver u) = .next u
    rw [correlationOver, hnone]
  · refine ⟨stepLanes e u, ?_, publishedBy_eq e u, rfl, stepLanes_lane e u⟩
    rw [exec_of_running _ held]
    show Host.Outcome.next (correlationOver u) = _
    rw [correlationOver_of_burst hburst hfree]

/-! ### The period value -/

/-- The sum of the samples times the chips from chip `i` on, sample by sample. -/
theorem chipSum_eq (s : State) (code i : Nat) (x : List Int) :
    s.chipSum code i x = ((List.range x.length).map fun k => x.getD k 0 * s.chip code (i + k)).sum := by
  induction x generalizing i with
  | nil => rfl
  | cons y rest ih =>
    have hshift : ∀ k, (y :: rest).getD (k + 1) 0 * s.chip code (i + (k + 1)) =
        rest.getD k 0 * s.chip code (i + 1 + k) := by
      intro k
      rw [List.getD_cons_succ, Nat.add_assoc, Nat.add_comm 1 k]
    rw [State.chipSum, ih, List.length_cons, List.range_succ_eq_map, List.map_cons, List.sum_cons, List.map_map]
    congr 1
    exact congrArg List.sum (List.map_congr_left fun k _ => (hshift k).symm)

theorem chip_cases (s : State) (code i : Nat) : s.chip code i = 1 ∨ s.chip code i = -1 := by
  unfold State.chip
  dsimp only
  split
  · exact .inl rfl
  · exact .inr rfl

/-- A sample of 12 bits times a chip, which reaches 2048 only for -2048 times -1. -/
theorem sample_mul_chip (s : State) (code i : Nat) {y : Int} (hlo : -2048 ≤ y) (hhi : y ≤ 2047) :
    -2048 ≤ y * s.chip code i ∧ y * s.chip code i ≤ 2048 ∧
      (y * s.chip code i = 2048 → y = -2048 ∧ s.chip code i = -1) := by
  rcases chip_cases s code i with h | h <;> rw [h] <;> omega

/-- A sum of terms within a bound is within the bound times their number, and reaches it only where each term
does. -/
theorem sum_bounds {B : Int} (l : List Int) (h : ∀ y ∈ l, -B ≤ y ∧ y ≤ B) :
    -(B * l.length) ≤ l.sum ∧ l.sum ≤ B * l.length ∧ (l.sum = B * l.length → ∀ y ∈ l, y = B) := by
  induction l with
  | nil => simp
  | cons y rest ih =>
    obtain ⟨hy, hrest⟩ := List.forall_mem_cons.mp h
    obtain ⟨hlo, hhi, hall⟩ := ih hrest
    simp only [List.sum_cons, List.length_cons, Nat.cast_add, Nat.cast_one, mul_add, mul_one]
    refine ⟨by omega, by omega, fun hsum => ?_⟩
    exact List.forall_mem_cons.mpr ⟨by omega, hall (by omega)⟩

/-- A quotient truncated toward zero is within a bound where the dividend is within that many divisors, and
reaches the bound only where the dividend does. -/
theorem tdiv_bounds {z : Int} {B n : Nat} (hB : 0 < B) (hlo : -(B * n : Int) ≤ z) (hhi : z ≤ (B * n : Int)) :
    -(B : Int) ≤ z.tdiv n ∧ z.tdiv n ≤ B ∧ (z.tdiv n = B → z = (B * n : Int)) := by
  have habs : (z.tdiv n).natAbs = z.natAbs / n := Int.natAbs_tdiv z n
  have hbound : z.natAbs ≤ B * n := by
    have hcast : ((B * n : Nat) : Int) = (B : Int) * n := Nat.cast_mul B n
    omega
  have hquotient : z.natAbs / n ≤ B := Nat.div_le_of_le_mul (by rwa [Nat.mul_comm])
  refine ⟨by omega, by omega, fun hreached => ?_⟩
  have hfull : B * n ≤ z.natAbs := by
    have hmul := Nat.div_mul_le_self z.natAbs n
    rwa [show z.natAbs / n = B by omega] at hmul
  have hnonneg : 0 ≤ z := by
    by_contra hneg
    have hopposite : 0 ≤ (-z).tdiv n := Int.tdiv_nonneg (by omega) (Int.natCast_nonneg n)
    rw [Int.neg_tdiv] at hopposite
    omega
  have hcast : ((B * n : Nat) : Int) = (B : Int) * n := Nat.cast_mul B n
  omega

/-- Settles O10: the period value is a quotient of a sum of samples, each of which is bounded. -/
theorem periodValueIsBounded : Obligations.PeriodValueIsBounded := by
  intro s code x hx
  have hsum : s.chipSum code 0 x = ((List.range x.length).map fun i => x.getD i 0 * s.chip code i).sum := by
    rw [chipSum_eq]
    simp only [Nat.zero_add]
  refine ⟨by rw [State.periodValue, hsum], fun hsamples => ?_⟩
  have hterm : ∀ i < x.length, -2048 ≤ x.getD i 0 * s.chip code i ∧ x.getD i 0 * s.chip code i ≤ 2048 ∧
      (x.getD i 0 * s.chip code i = 2048 → x.getD i 0 = -2048 ∧ s.chip code i = -1) := by
    intro i hi
    obtain ⟨hlo, hhi⟩ := hsamples (x.getD i 0) (by rw [List.getD_eq_getElem _ _ hi]; exact List.getElem_mem hi)
    exact sample_mul_chip s code i hlo hhi
  obtain ⟨hlo, hhi, hall⟩ := sum_bounds (B := 2048)
    ((List.range x.length).map fun i => x.getD i 0 * s.chip code i) (fun y hy => by
      obtain ⟨i, hi, rfl⟩ := List.mem_map.mp hy
      obtain ⟨hle, hge, -⟩ := hterm i (List.mem_range.mp hi)
      exact ⟨hle, hge⟩)
  rw [List.length_map, List.length_range, ← hsum, hx] at hlo hhi hall
  obtain ⟨hmin, hmax, hreach⟩ := tdiv_bounds (B := 2048) (n := s.codeLength) (by decide) hlo hhi
  refine ⟨hmin, hmax, fun heq i hi => ?_⟩
  have hfull := hall (hreach heq) _ (List.mem_map_of_mem (List.mem_range.mpr (hx ▸ hi)))
  exact (hterm i hi).2.2 hfull

/-! ### Silence -/

/-- A coil that falls silent, in the Wire Decoder (R8). -/
theorem silence_eq (c : Coil) (u : State) :
    let x := u.wdc.coils.get c
    let n := (slots.filter fun i => ((u.wdc.lanes.get i).get c).window.isSome).length
    silence c u = zoneUpdate Published.none (correlatorTake { u with
      wdc := { u.wdc with
        coils := u.wdc.coils.set c { x with
          silent := true
          timer := { x.timer with st := .stopped }
          silences := bump x.silences
          aborted := bumpBy n x.aborted }
        lanes := u.wdc.lanes.map fun l =>
          l.set c { l.get c with window := none, verdict := none, silentSince := true }
        ring := u.wdc.ring.filter fun e => e.coil != c
        inCorr := u.wdc.inCorr.filter fun e => e.coil != c } }) := by
  cases c <;> rfl

/-- Settles O13: the timer is due, and the coil is dropped from the Wire Decoder. -/
theorem silenceDropsTheCoil : Obligations.SilenceDropsTheCoil := by
  intro dt c s held u x n hrun hlimit
  rw [exec_of_running _ held]
  have hdue : u.silenceDue c = true := by
    simp [State.silenceDue, Timer.due, x, hrun, hlimit]
  exact congrArg Host.Outcome.next ((whenDue_of_due hdue).trans (silence_eq c u))

end Sys2Proof.Machine
end

section
/-! The active zone that an update settles, and the outside timer (R31 to R33, R38). -/

namespace Sys2Proof.Machine

variable {s : State}

/-! ### The lowest slot with a property -/

theorem slots_getElem (i : Nat) (h : i < slots.length) : slots[i] = ⟨i, h⟩ := by
  change i < 4 at h
  interval_cases i <;> rfl

theorem isLowest_find (p : Slot → Bool) : IsLowest (fun j => p j = true) (slots.find? p) := by
  refine ⟨fun j hj => ?_, fun hnone j hp => ?_⟩
  · obtain ⟨hp, i, hi, hij, hbelow⟩ := List.find?_eq_some_iff_getElem.mp hj
    rw [slots_getElem] at hij
    refine ⟨hp, fun k hk hpk => ?_⟩
    have hki : k.val < i := by
      subst hij
      exact hk
    have hfalse := hbelow k.val hki
    rw [slots_getElem] at hfalse
    simp [hpk] at hfalse
  · exact List.find?_eq_none.mp hnone j (mem_slots j) hp

theorem IsLowest.congr {p q : Slot → Prop} {z : Option Slot} (h : IsLowest p z) (hpq : ∀ j, p j ↔ q j) :
    IsLowest q z := by
  have hsame : p = q := funext fun j => propext (hpq j)
  exact hsame ▸ h

theorem insideSlot_isLowest (s : State) (now : PerSlot LoopState) (ok : Slot → Bool) :
    IsLowest (fun j => (s.slotKind j = .perimeter ∧ now.get j = .inside) ∧ ok j = true)
      (s.insideSlot now ok) :=
  (isLowest_find _).congr fun j => by simp only [Bool.and_eq_true, beq_iff_eq]

/-- With a slot of the property the lowest is found. -/
theorem IsLowest.isSome {p : Slot → Prop} {z : Option Slot} (h : IsLowest p z) {j : Slot} (hj : p j) :
    ∃ i, z = some i := by
  cases hz : z with
  | none => exact absurd hj (h.2 hz j)
  | some i => exact ⟨i, rfl⟩

/-! ### The settled zone -/

section
variable {prior now : PerSlot LoopState} {i : Slot}

theorem settledZone_of_none (h : s.zcu.active = none) :
    s.settledZone prior now = s.insideSlot now fun _ => true := by
  simp only [State.settledZone, h]

/-- Passage takes the zone where the active slot goes from IN to OUT and a slot of its mask is IN (R33). -/
theorem settledZone_of_passage (h : s.zcu.active = some i) (hin : prior.get i = .inside)
    (hout : now.get i = .outside) {j : Slot} (hj : s.slotKind j = .perimeter ∧ now.get j = .inside)
    (hpass : s.passage i j = true) : s.settledZone prior now = s.insideSlot now (s.passage i) := by
  obtain ⟨k, hk⟩ := (insideSlot_isLowest s now (s.passage i)).isSome ⟨hj, hpass⟩
  simp only [State.settledZone, h, State.passageTo, hin, hout, true_and, if_true, hk]

/-- Without passage the zone stays where the loop state of the active slot lets it, and else passes to another. -/
theorem settledZone_of_no_passage (h : s.zcu.active = some i)
    (hpass : ¬ (prior.get i = .inside ∧ now.get i = .outside ∧
      ∃ j, (s.slotKind j = .perimeter ∧ now.get j = .inside) ∧ s.passage i j = true)) :
    s.settledZone prior now =
      if (now.get i).holdsZone then some i else s.insideSlot now fun j => j != i := by
  have hnone : s.passageTo prior now i = none := by
    unfold State.passageTo
    split
    · next hmove =>
      cases hslot : s.insideSlot now (s.passage i) with
      | none => rfl
      | some j =>
        have hlow := insideSlot_isLowest s now (s.passage i)
        rw [hslot] at hlow
        exact absurd ⟨hmove.1, hmove.2, j, (hlow.1 j rfl).1⟩ hpass
    · rfl
  simp only [State.settledZone, h, hnone]

/-- A zone that an update makes active is IN (R31 to R33). -/
theorem inside_of_newly_active {j : Slot} (hj : s.settledZone prior now = some j) (hnew : s.zcu.active ≠ some j) :
    now.get j = .inside := by
  unfold State.settledZone at hj
  split at hj
  · exact (insideSlot_legal hj).2
  · next i hactive =>
    split at hj
    · next k hpass =>
      rw [Option.some.injEq] at hj
      subst hj
      unfold State.passageTo at hpass
      split at hpass
      · exact (insideSlot_legal hpass).2
      · cases hpass
    · split at hj
      · rw [← hj] at hnew
        exact absurd hactive hnew
      · exact (insideSlot_legal hj).2

end

/-- Settles O14, by the three ways in which a zone is settled. -/
theorem activeZoneSettles : Obligations.ActiveZoneSettles := by
  intro s prior now z isIn
  refine ⟨fun hnone => ?_, fun j hj hnew => inside_of_newly_active hj hnew, fun i hactive => ?_⟩
  · have hz : z = s.insideSlot now fun _ => true := settledZone_of_none hnone
    rw [hz]
    exact (insideSlot_isLowest s now _).congr fun j => by simp [isIn]
  · intro passes holds
    refine ⟨fun ⟨hin, hout, j, hj, hpass⟩ => ?_, fun hpass hholds => ?_, fun hpass hleft => ?_⟩
    · have hz : z = s.insideSlot now (s.passage i) := settledZone_of_passage hactive hin hout hj hpass
      rw [hz]
      exact insideSlot_isLowest s now _
    · have hz : z = _ := settledZone_of_no_passage hactive hpass
      rw [hz, if_pos ((holdsZone_iff _).mpr hholds)]
    · have hz : z = _ := settledZone_of_no_passage hactive hpass
      rw [hz, if_neg fun h => hleft ((holdsZone_iff _).mp h)]
      exact (insideSlot_isLowest s now _).congr fun j => by simp [isIn]

/-! ### The outside timer -/

theorem ctxHeld_eq_false_iff (s : State) :
    s.ctxHeld = false ↔ s.rse.ctx1 = none ∧ s.rse.ctx2 = none ∧ s.rse.ctx3 = none := by
  simp [State.ctxHeld, and_assoc]

theorem outsideHeldDue_iff (s : State) (i : Slot) :
    s.outsideHeldDue = some i ↔ s.zcu.outTimer.st = .held ∧ s.zcu.active = some i ∧ s.zcu.frozen = false ∧
      s.rse.ctx1 = none ∧ s.rse.ctx2 = none ∧ s.rse.ctx3 = none := by
  rw [← ctxHeld_eq_false_iff, State.outsideHeldDue]
  split
  · next h =>
    simp only [Bool.and_eq_true, beq_iff_eq, Bool.not_eq_true'] at h
    simp [h]
  · next h =>
    simp only [Bool.and_eq_true, beq_iff_eq, Bool.not_eq_true', not_and] at h
    simp only [reduceCtorEq, false_iff, not_and]
    exact fun hheld _ hthawed hfree => h ⟨hheld, hthawed⟩ hfree

theorem heldTimerRaises : HeldTimerRaises := by
  refine fun s => ⟨outsideHeldDue_iff s, fun _ => rfl, fun i hdue => ?_, fun hdue => ?_⟩
  · simp only [outsideTest, hdue]
  · simp only [outsideTest, hdue]

theorem outsideExpired_of_active {i : Slot} (h : s.zcu.active = some i) :
    outsideExpired s =
      if s.ctxHeld then onZcu (fun z => { z with outTimer := { z.outTimer with st := .held } }) s
      else outsideRaise i s := by
  rw [outsideExpired, h]

/-- Settles O16: the timer is due, and a response context decides between HELD and the trigger. -/
theorem outsideTimerExpires : Obligations.OutsideTimerExpires := by
  refine ⟨heldTimerRaises, fun dt s i held => ?_⟩
  intro u timer hactive hrun hlimit
  have hdue : u.outsideDue = true := by simp [State.outsideDue, Timer.due, hrun, hlimit]
  have hevent : exec (.outsideTimerExpiry dt) s = .next (outsideExpired u) := by
    rw [exec_of_running _ held]
    exact congrArg Host.Outcome.next (whenDue_of_due hdue)
  rw [hevent, ← ctxHeld_eq_false_iff]
  refine ⟨fun hfree => ?_, fun hheld => ?_⟩
  · rw [outsideExpired_of_active hactive, if_neg (by simp [hfree])]
    rfl
  · rw [outsideExpired_of_active hactive, if_pos (by simpa using hheld)]
    rfl

end Sys2Proof.Machine
end

section
/-! The boundary triggers of an update, and what it leaves and hands on (R17 to R20, R30 to R42). -/

namespace Sys2Proof.Machine

variable {s : State} {prior now : PerSlot LoopState} {i : Slot}

/-! ### The conditions of the triggers -/

/-- A loop state that is IN or STRADDLE. -/
def LoopState.near (l : LoopState) : Prop := l = .inside ∨ l = .straddle

theorem passageNear_iff (s : State) (now : PerSlot LoopState) (i : Slot) :
    s.passageNear now i = true ↔ ∃ j, s.slotKind j = .perimeter ∧ s.passage i j = true ∧ (now.get j).near := by
  simp [State.passageNear, LoopState.near, and_assoc]

theorem nearStation_iff (d : DockState) :
    d.nearStation = true ↔ d = .approach ∨ d = .contact ∨ d = .departing := by
  cases d <;> simp [DockState.nearStation]

theorem stationWithholds_iff (s : State) (now : PerSlot LoopState) :
    s.stationWithholds now = true ↔
      (s.dkc.dock = .approach ∨ s.dkc.dock = .contact ∨ s.dkc.dock = .departing) ∧
        ∃ j, s.stationSlot = some j ∧ (now.get j).near := by
  rw [State.stationWithholds, Bool.and_eq_true, nearStation_iff]
  cases s.stationSlot <;> simp [LoopState.near]

/-- The active slot leaves IN while it stays the active zone and its exit arm is set (R34). -/
def State.exitLeaves (s : State) (prior now : PerSlot LoopState) (i : Slot) : Prop :=
  s.zcu.active = some i ∧ s.settledZone prior now = some i ∧ s.zcu.exitArm = true ∧ prior.get i = .inside ∧
    (now.get i = .straddle ∨ now.get i = .outside)

theorem exitOf_of_leaves (h : s.exitLeaves prior now i) :
    s.exitOf prior now =
      if s.passageNear now i then .withheld else if s.stationWithholds now then .withheldByStation else .raised := by
  obtain ⟨hactive, hstays, harm, hin, hout⟩ := h
  simp [State.exitOf, State.exitOutcome, hactive, hstays, harm, hin, hout]

/-- Without a slot that leaves IN there is no exit. -/
theorem exitOf_of_not_leaves (h : ∀ i, ¬ s.exitLeaves prior now i) : s.exitOf prior now = .noExit := by
  unfold State.exitOf
  split
  · rfl
  · next i hactive =>
    split
    · next hstays =>
      unfold State.exitOutcome
      rw [if_neg]
      intro hmove
      simp only [Bool.and_eq_true, Bool.or_eq_true, beq_iff_eq] at hmove
      obtain ⟨⟨harm, hin⟩, hout⟩ := hmove
      exact h i ⟨hactive, hstays, harm, hin, hout⟩
    · rfl

/-- An outcome other than none is that of the one slot that leaves IN. -/
theorem exitOf_iff {o : ExitOutcome} (ho : o ≠ .noExit) :
    s.exitOf prior now = o ↔ ∃ i, s.exitLeaves prior now i ∧
      (if s.passageNear now i then .withheld
        else if s.stationWithholds now then .withheldByStation else .raised) = o := by
  by_cases h : ∃ i, s.exitLeaves prior now i
  · obtain ⟨i, hi⟩ := h
    rw [exitOf_of_leaves hi]
    refine ⟨fun he => ⟨i, hi, he⟩, fun ⟨j, hj, he⟩ => ?_⟩
    obtain rfl : i = j := Option.some.inj (hi.1.symm.trans hj.1)
    exact he
  · rw [exitOf_of_not_leaves fun i hi => h ⟨i, hi⟩]
    exact ⟨fun he => absurd he.symm ho, fun ⟨i, hi, _⟩ => absurd ⟨i, hi⟩ h⟩

theorem exit_raised_iff (s : State) (prior now : PerSlot LoopState) :
    s.exitOf prior now = .raised ↔ ∃ i, s.exitLeaves prior now i ∧ ¬ s.passageNear now i = true ∧
      ¬ s.stationWithholds now = true := by
  rw [exitOf_iff (by simp)]
  refine exists_congr fun i => and_congr_right fun _ => ?_
  split
  · simp [*]
  · split <;> simp [*]

theorem exit_withheld_iff (s : State) (prior now : PerSlot LoopState) :
    s.exitOf prior now = .withheld ↔ ∃ i, s.exitLeaves prior now i ∧ s.passageNear now i = true := by
  rw [exitOf_iff (by simp)]
  refine exists_congr fun i => and_congr_right fun _ => ?_
  split
  · simp [*]
  · split <;> simp [*]

theorem exit_byStation_iff (s : State) (prior now : PerSlot LoopState) :
    s.exitOf prior now = .withheldByStation ↔ ∃ i, s.exitLeaves prior now i ∧ ¬ s.passageNear now i = true ∧
      s.stationWithholds now = true := by
  rw [exitOf_iff (by simp)]
  refine exists_congr fun i => and_congr_right fun _ => ?_
  split
  · simp [*]
  · split <;> simp [*]

theorem keepoutEntered_iff (s : State) (prior now : PerSlot LoopState) (i : Slot) :
    s.keepoutEntered prior now i = true ↔
      s.slotKind i = .keepout ∧ s.zcu.entryArm.get i = true ∧ prior.get i ≠ now.get i ∧ (now.get i).near := by
  simp only [State.keepoutEntered, Bool.and_eq_true, Bool.or_eq_true, beq_iff_eq, bne_iff_ne, LoopState.near, and_assoc,
    or_comm]

theorem wireLostCondOf_iff (s : State) (now : PerSlot LoopState) :
    s.wireLostCondOf now = true ↔
      (∃ i, s.slotKind i = .perimeter) ∧ ∀ i, s.slotKind i = .perimeter → now.get i = .lost := by
  simp only [State.wireLostCondOf, Bool.and_eq_true, List.any_eq_true, List.all_eq_true, Bool.or_eq_true, beq_iff_eq,
    bne_iff_ne, mem_slots, true_and, forall_true_left]
  exact and_congr_right fun _ => forall_congr' fun i => or_iff_not_imp_left.trans (by rw [not_not])

theorem wireLostDue_iff (s : State) (now : PerSlot LoopState) :
    s.wireLostDue now = true ↔
      ((∃ i, s.slotKind i = .perimeter) ∧ ∀ i, s.slotKind i = .perimeter → now.get i = .lost) ∧
        s.zcu.wireLostArm = true ∧ s.dkc.dock ≠ .docked := by
  rw [State.wireLostDue, Bool.and_eq_true, Bool.and_eq_true, wireLostCondOf_iff, bne_iff_ne, and_assoc]

theorem passed_iff (s : State) (prior now : PerSlot LoopState) :
    s.passed prior now = true ↔ ∃ i j, s.zcu.active = some i ∧ prior.get i = .inside ∧ now.get i = .outside ∧
      s.slotKind j = .perimeter ∧ now.get j = .inside ∧ s.passage i j = true := by
  unfold State.passed
  split
  · next hnone => simp [hnone]
  · next i hactive =>
    have hlow := insideSlot_isLowest s now (s.passage i)
    constructor
    · intro h
      obtain ⟨j, hj⟩ := Option.isSome_iff_exists.mp h
      unfold State.passageTo at hj
      split at hj
      · next hmove =>
        obtain ⟨⟨hkind, hin⟩, hpass⟩ := (hlow.1 j hj).1
        exact ⟨i, j, hactive, hmove.1, hmove.2, hkind, hin, hpass⟩
      · cases hj
    · rintro ⟨k, j, hk, hin, hout, hkind, hinside, hpass⟩
      obtain rfl : i = k := Option.some.inj (hactive.symm.trans hk)
      obtain ⟨m, hm⟩ := hlow.isSome (j := j) ⟨⟨hkind, hinside⟩, hpass⟩
      rw [State.passageTo, if_pos ⟨hin, hout⟩, hm]
      rfl

/-! ### The triggers -/

theorem mem_slotTriggers (s : State) (prior now : PerSlot LoopState) (i : Slot) (e : Trig × Option Nat) :
    e ∈ s.slotTriggers prior now i ↔
      (s.zcu.active = some i ∧ s.exitOf prior now = .raised) ∧ e = (Trig.perimeterExit, some i.val) ∨
        s.keepoutEntered prior now i = true ∧ e = (Trig.keepoutEntry, some i.val) := by
  unfold State.slotTriggers
  rw [List.mem_append]
  refine or_congr ?_ ?_
  · split <;> simp [*]
  · split <;> simp [*]

theorem mem_updateTriggers (s : State) (prior now : PerSlot LoopState) (e : Trig × Option Nat) :
    e ∈ s.updateTriggers prior now ↔
      (∃ i, e ∈ s.slotTriggers prior now i) ∨ s.wireLostDue now = true ∧ e = (Trig.wireLost, none) := by
  unfold State.updateTriggers
  rw [List.mem_append, List.mem_flatMap]
  refine or_congr (by simp) ?_
  split <;> simp [*]

theorem perimeterExit_mem_iff (s : State) (prior now : PerSlot LoopState) (i : Slot) :
    (Trig.perimeterExit, some i.val) ∈ s.updateTriggers prior now ↔
      s.exitLeaves prior now i ∧ ¬ s.passageNear now i = true ∧ ¬ s.stationWithholds now = true := by
  simp only [mem_updateTriggers, mem_slotTriggers, Prod.mk.injEq, reduceCtorEq, false_and, and_false, or_false,
    true_and, Option.some.injEq, Fin.val_inj, exit_raised_iff]
  constructor
  · rintro ⟨j, ⟨hactive, k, hk, hfree⟩, rfl⟩
    obtain rfl : i = k := Option.some.inj (hactive.symm.trans hk.1)
    exact ⟨hk, hfree⟩
  · rintro ⟨hleaves, hfree⟩
    exact ⟨i, ⟨hleaves.1, i, hleaves, hfree⟩, rfl⟩

theorem keepoutEntry_mem_iff (s : State) (prior now : PerSlot LoopState) (i : Slot) :
    (Trig.keepoutEntry, some i.val) ∈ s.updateTriggers prior now ↔ s.keepoutEntered prior now i = true := by
  simp [mem_updateTriggers, mem_slotTriggers, Fin.val_inj]

theorem wireLost_mem_iff (s : State) (prior now : PerSlot LoopState) :
    (Trig.wireLost, none) ∈ s.updateTriggers prior now ↔ s.wireLostDue now = true := by
  simp [mem_updateTriggers, mem_slotTriggers]

/-- Every trigger an update can raise, in the order of R30. -/
def allTriggers : List (Trig × Option Nat) :=
  slots.flatMap (fun i => [(Trig.perimeterExit, some i.val), (Trig.keepoutEntry, some i.val)]) ++
    [(Trig.wireLost, none)]

theorem ite_singleton_sublist {α : Type} (c : Prop) [Decidable c] (a : α) :
    List.Sublist (if c then [a] else []) [a] := by
  split
  · exact List.Sublist.refl _
  · exact List.nil_sublist _

theorem flatMap_sublist {α β : Type} {f g : α → List β} (h : ∀ a, (f a).Sublist (g a)) (l : List α) :
    (l.flatMap f).Sublist (l.flatMap g) := by
  induction l with
  | nil => exact List.Sublist.refl _
  | cons a rest ih => exact (h a).append ih

theorem updateTriggers_sublist (s : State) (prior now : PerSlot LoopState) :
    (s.updateTriggers prior now).Sublist allTriggers :=
  (flatMap_sublist (fun _ => (ite_singleton_sublist _ _).append (ite_singleton_sublist _ _)) slots).append
    (ite_singleton_sublist _ _)

/-! ### The counters -/

theorem counts_of_iff {happens : Prop} {c : Bool} (before : Nat) (h : c = true ↔ happens) :
    (happens → (if c then bump before else before) = bump before) ∧
      (¬ happens → (if c then bump before else before) = before) := by
  refine ⟨fun hp => if_pos (h.mpr hp), fun hn => if_neg fun hc => hn (h.mp hc)⟩

theorem counts_of_decidable {happens p : Prop} [Decidable p] (before : Nat) (h : p ↔ happens) :
    (happens → (if p then bump before else before) = bump before) ∧
      (¬ happens → (if p then bump before else before) = before) :=
  ⟨fun hp => if_pos (h.mpr hp), fun hn => if_neg fun hc => hn (h.mp hc)⟩

theorem updateIsCounted (s : State) (now : PerSlot LoopState) :
    UpdateIsCounted s now s.zcu.cnt (s.zoneCounts s.zcu.loops now) := by
  unfold UpdateIsCounted
  extract_lets prior a near counts leaves nextYard station enters
  refine ⟨?changes, counts_of_iff _ (passed_iff s prior now), ?exits, ?withheld, ?byStation, ?keepouts,
    ?wireLost, rfl⟩
  case changes => exact ⟨fun h => if_neg h, fun h => if_pos (not_not.mp h)⟩
  case exits =>
    refine counts_of_decidable _ ((exit_raised_iff s prior now).trans (exists_congr fun i => ?_))
    rw [passageNear_iff, stationWithholds_iff]
    rfl
  case withheld =>
    refine counts_of_decidable _ ((exit_withheld_iff s prior now).trans (exists_congr fun i => ?_))
    rw [passageNear_iff]
    rfl
  case byStation =>
    refine counts_of_decidable _ ((exit_byStation_iff s prior now).trans (exists_congr fun i => ?_))
    rw [passageNear_iff, stationWithholds_iff]
    rfl
  case keepouts =>
    refine ⟨slots.filter (s.keepoutEntered prior now), (by decide : slots.Nodup).filter _, fun i => ?_, rfl⟩
    rw [List.mem_filter, keepoutEntered_iff]
    exact and_iff_right (mem_slots i)
  case wireLost =>
    refine counts_of_iff _ ((wireLostDue_iff s now).trans ?_)
    rw [and_assoc]

/-! ### The zone context -/

theorem exitArmAfter_of_none (h : s.settledZone prior now = none) : s.exitArmAfter prior now = false := by
  rw [State.exitArmAfter, h]

theorem exitArmAfter_of_some (h : s.settledZone prior now = some i) :
    s.exitArmAfter prior now =
      if s.zcu.active = some i then
        if now.get i = .inside then true else if prior.get i = .inside then false else s.zcu.exitArm
      else true := by
  rw [State.exitArmAfter, h]

theorem outTimerAfter_of_none (h : s.settledZone prior now = none) :
    s.outTimerAfter prior now = s.zcu.outTimer.stop := by
  rw [State.outTimerAfter, h]

theorem outTimerAfter_of_some (h : s.settledZone prior now = some i) :
    s.outTimerAfter prior now =
      if s.zcu.active = some i then
        if now.get i = .outside then
          if prior.get i = .outside then s.zcu.outTimer
          else if s.outsideLimit = 0 then s.zcu.outTimer else ⟨.running, 0⟩
        else s.zcu.outTimer.stop
      else s.zcu.outTimer.stop := by
  rw [State.outTimerAfter, h]

theorem entryArmAfter_of_keepout (h : s.slotKind i = .keepout) :
    s.entryArmAfter prior now i =
      match now.get i with
      | .outside => true
      | .lost => true
      | .pending => true
      | _ => if s.keepoutEntered prior now i then false else s.zcu.entryArm.get i := if_pos h

theorem entryArmAfter_of_near (h : s.slotKind i = .keepout) (hnear : (now.get i).near) :
    s.entryArmAfter prior now i = if s.keepoutEntered prior now i then false else s.zcu.entryArm.get i := by
  rw [entryArmAfter_of_keepout h]
  rcases hnear with hn | hn <;> rw [hn]

theorem zoneIsSettled (s : State) (m : PerSlot (PerCoil MirrorLane)) (now : PerSlot LoopState) :
    ZoneIsSettled s m now := by
  have hentry : ∀ i, (s.zoneAfter m now).entryArm.get i = s.entryArmAfter s.zcu.loops now i :=
    fun i => PerSlot.get_of _ i
  unfold ZoneIsSettled
  extract_lets prior a z near allLost stopped
  have hlost : s.wireLostCondOf now = true ↔ allLost := wireLostCondOf_iff s now
  refine ⟨rfl, rfl, rfl, rfl, rfl, rfl, ?none, ?newly, ?stays, ?plain, ?keepout, ?notLost, ?lost, ?docked,
    updateIsCounted s now⟩
  case none => exact fun h => ⟨exitArmAfter_of_none h, outTimerAfter_of_none h⟩
  case newly =>
    intro i hi hnew
    exact ⟨(exitArmAfter_of_some hi).trans (if_neg hnew), (outTimerAfter_of_some hi).trans (if_neg hnew)⟩
  case stays =>
    intro i hi hactive
    refine ⟨(exitArmAfter_of_some hi).trans (if_pos hactive), (outTimerAfter_of_some hi).trans ?_⟩
    rw [if_pos hactive]
    by_cases hout : now.get i = .outside
    · by_cases hwas : prior.get i = .outside
      · simp [hout, hwas, prior]
      · by_cases hlimit : s.outsideLimit = 0 <;> simp [hout, hwas, hlimit, prior]
    · rw [if_neg hout, if_pos hout]
      rfl
  case plain =>
    intro i hi
    rw [hentry]
    exact if_neg hi
  case keepout =>
    intro i hi
    rw [hentry]
    refine ⟨fun hfar => ?_, fun hnear hmove => ?_, fun hnear hstill => ?_⟩
    · rw [entryArmAfter_of_keepout hi]
      rcases hfar with h | h | h <;> rw [h]
    · rw [entryArmAfter_of_near hi hnear]
      cases harm : s.zcu.entryArm.get i with
      | false => simp
      | true => rw [if_pos ((keepoutEntered_iff s _ now i).mpr ⟨hi, harm, hmove, hnear⟩)]
    · rw [entryArmAfter_of_near hi hnear, if_neg]
      exact fun hentered => ((keepoutEntered_iff s _ now i).mp hentered).2.2.1 hstill
  case notLost =>
    intro h
    exact if_neg (mt hlost.mp h)
  case lost =>
    intro h hdock
    refine (if_pos (hlost.mpr h)).trans ?_
    cases harm : s.zcu.wireLostArm with
    | false => rfl
    | true => rw [(wireLostDue_iff s now).mpr ⟨h, harm, hdock⟩]; rfl
  case docked =>
    intro h hdock
    refine (if_pos (hlost.mpr h)).trans ?_
    have hnone : s.wireLostDue now = false := by
      rw [← Bool.not_eq_true, wireLostDue_iff]
      exact fun hdue => hdue.2.2 hdock
    rw [hnone]
    simp

end Sys2Proof.Machine
end

section
/-! The lane classes, the hand-offs of the zone context, and its updates (R17 to R20, R39 to R42). -/

namespace Sys2Proof.Machine

/-! ### Lane classes and loop states -/

theorem cls_of_verdict {l : Lane} {v : Verdict} {limit : Nat} (hv : l.verdict = some v)
    (hfresh : l.burstsSince ≤ limit) : l.cls false limit = v.kind.cls := by
  simp [Lane.cls, hv, hfresh]

theorem cls_of_aged {l : Lane} {v : Verdict} {limit : Nat} (hv : l.verdict = some v)
    (haged : limit < l.burstsSince) : l.cls false limit = .noClass := by
  simp [Lane.cls, hv, Nat.not_le.mpr haged]

theorem cls_of_no_verdict {l : Lane} {limit : Nat} (hv : l.verdict = none) :
    l.cls false limit =
      if l.verdictSince = false ∧ l.silentSince = false ∧ l.burstsSince < limit then .pending else .noClass := by
  simp [Lane.cls, hv, and_assoc]

theorem loopOf_comm (a b : LaneClass) : loopOf a b = loopOf b a := by
  cases a <;> cases b <;> rfl

theorem counted_eq (x : MirrorLane) :
    x.counted = if x.cls = .inside ∨ x.cls = .outside then x.strength else 0 := by
  unfold MirrorLane.counted
  cases x.cls <;> simp

theorem lanesAreClassed : LanesAreClassed := by
  refine ⟨fun s i c => ?_, loopOf_comm, rfl, rfl, rfl, rfl, rfl, rfl, fun b hb => ?_, fun m => ⟨rfl, fun i => ?_⟩⟩
  · intro l silent cls
    refine ⟨fun hsilent => ?_, fun v hawake hv hfresh => ?_, fun v hawake hv haged => ?_, fun hawake hv => ?_,
      fun v hv => ?_, fun hv => ?_⟩
    · show l.cls silent (s.lossLimit i) = .noClass
      rw [hsilent]
      rfl
    · have hcls : cls = v.kind.cls := by
        rw [← cls_of_verdict hv hfresh, ← hawake]
        rfl
      rw [hcls]
      refine ⟨fun h => ?_, fun h => ?_, fun h => ?_⟩
      · rcases h with h | h <;> rw [h] <;> rfl
      · rcases h with h | h <;> rw [h] <;> rfl
      · rw [h]
        rfl
    · show l.cls silent (s.lossLimit i) = .noClass
      rw [hawake]
      exact cls_of_aged hv haged
    · have hcls : cls = l.cls false (s.lossLimit i) := by
        rw [← hawake]
        rfl
      rw [hcls, cls_of_no_verdict hv]
      exact ⟨fun h => if_pos h, fun h => if_neg h⟩
    · simp only [State.laneStrength, show ((s.wdc.lanes.get i).get c).verdict = some v from hv]
    · simp only [State.laneStrength, show ((s.wdc.lanes.get i).get c).verdict = none from hv]
  · rcases hb with rfl | rfl <;> exact ⟨rfl, rfl⟩
  · simp only [slotStrength, counted_eq]

/-! ### The hand-offs -/

/-- What the Dock Controller does with the guide loop it has just been handed (R131, R132). -/
def guideSeen (y : State) : State :=
  if y.dkc.dock = .returnSeek then
    if y.dkc.guide.loop = .straddle then
      stationTest (formSteering { y with dkc := { y.dkc with dock := .follow } })
    else y
  else if y.dkc.dock = .follow ∨ y.dkc.dock = .approach then formSteering y
  else y

theorem takeGuide_eq (g : GuideSeen) (s : State) :
    takeGuide g s = guideSeen { s with dkc := { s.dkc with guide := g } } := by
  show takeGuide g s = guideSeen (onDkc (fun k => { k with guide := g }) s)
  unfold takeGuide
  dsimp only
  generalize onDkc (fun k => { k with guide := g }) s = y
  unfold guideSeen
  split
  · next h =>
    rw [if_pos h, seekTest]
    exact if_congr (and_iff_right h) rfl rfl
  · next h => rw [if_neg (by simp [h]), if_pos (.inl h)]
  · next h => rw [if_neg (by simp [h]), if_pos (.inr h)]
  · next hseek hfollow happroach =>
    rw [if_neg hseek, if_neg]
    exact fun h => h.elim hfollow happroach

theorem zoneIsHandedOn : ZoneIsHandedOn := by
  refine ⟨fun before s => ?_, fun guide station s => ?_⟩
  · intro seen told t
    have htold : told.zcu = s.zcu := by
      simp only [told]
      split
      · rfl
      · simp [seen]
    have ht : onMgt (fun m => { m with prox := told.zcu.prox }) told = t := by rw [htold]; rfl
    have hgate : zoneToGate before s =
        if t.nearWirePercent t.selectedSource = t.mgt.pn then t else evaluate t := by
      rw [← ht]
      rfl
    rw [hgate]
    exact ⟨fun h => if_pos h, fun h => if_neg h⟩
  · intro atGuide atStation steered g
    have hguide : (if guide then dkcEvent (takeGuide s.guideNow) s else s) = g := by
      rw [dkcEvent_eq_dockHandOn, takeGuide_eq]
      rfl
    unfold zoneToDock
    dsimp only
    rw [hguide, dkcEvent_eq_dockHandOn]
    rfl

/-! ### Updates -/

section
variable {s : State} {pub : Published} {i : Slot}

theorem laneNamed_iff (s : State) (pub : Published) (i : Slot) (c : Coil) :
    s.laneNamed pub i c = true ↔ s.enabled i = true ∧
      (s.laneClass i c ≠ ((s.zcu.mirror.get i).get c).cls ∨
        (pub.coil = c ∧ i ∈ pub.slots ∧ s.laneStrength i c ≠ ((s.zcu.mirror.get i).get c).strength)) := by
  simp [State.laneNamed, and_assoc]

theorem slotNamed_iff (s : State) (pub : Published) (i : Slot) :
    s.slotNamed pub i = true ↔ ∃ c, s.laneNamed pub i c = true := by
  rw [State.slotNamed, Bool.or_eq_true]
  constructor
  · rintro (h | h)
    · exact ⟨.left, h⟩
    · exact ⟨.right, h⟩
  · rintro ⟨c, h⟩
    cases c
    · exact .inl h
    · exact .inr h

theorem any_slotNamed_iff (s : State) (pub : Published) :
    slots.any (s.slotNamed pub) = true ↔ ∃ i, ∃ c, s.laneNamed pub i c = true := by
  simp [List.any_eq_true, slotNamed_iff]

theorem mirrored_get (s : State) (pub : Published) (i : Slot) (c : Coil) :
    ((s.mirrored pub).get i).get c = s.mirrorLane pub i c := by
  unfold State.mirrored
  rw [PerSlot.get_of]
  cases c <;> rfl

theorem mirrorLane_eq (s : State) (pub : Published) (i : Slot) (c : Coil) :
    s.mirrorLane pub i c =
      if s.laneNamed pub i c = true then
        ⟨s.laneClass i c,
          if pub.coil = c ∧ i ∈ pub.slots then s.laneStrength i c else ((s.zcu.mirror.get i).get c).strength⟩
      else (s.zcu.mirror.get i).get c := by
  simp [State.mirrorLane]

theorem enabled_of_named (h : s.slotNamed pub i = true) : s.enabled i = true := by
  obtain ⟨c, hc⟩ := (slotNamed_iff s pub i).mp h
  exact ((laneNamed_iff s pub i c).mp hc).1

theorem lanesDiffer_iff (a b : PerSlot (PerCoil MirrorLane)) (o : Option Slot) :
    lanesDiffer a b o = true ↔ ∃ i, o = some i ∧ ∃ c, ((b.get i).get c).cls ≠ ((a.get i).get c).cls := by
  cases o with
  | none => simp [lanesDiffer]
  | some i =>
    have hcoils : (∃ c, ((b.get i).get c).cls ≠ ((a.get i).get c).cls) ↔
        (b.get i).left.cls ≠ (a.get i).left.cls ∨ (b.get i).right.cls ≠ (a.get i).right.cls := by
      constructor
      · rintro ⟨c, hc⟩
        cases c
        · exact .inl hc
        · exact .inr hc
      · rintro (h | h)
        · exact ⟨.left, h⟩
        · exact ⟨.right, h⟩
    simp only [lanesDiffer, Bool.or_eq_true, bne_iff_ne, Option.some.injEq, exists_eq_left', hcoils]
    exact or_congr ne_comm ne_comm

end

/-- The loop states after an update: those of the slots it names, by their mirrored lanes (R18). -/
def State.loopsAfter (s : State) (pub : Published) : PerSlot LoopState :=
  PerSlot.of fun i => if s.slotNamed pub i then s.loopFrom (s.mirrored pub) i else s.zcu.loops.get i

theorem loopsAfter_get (s : State) (pub : Published) (i : Slot) :
    (s.loopsAfter pub).get i =
      if s.slotNamed pub i then loopOf ((s.mirrored pub).get i).left.cls ((s.mirrored pub).get i).right.cls
      else s.zcu.loops.get i := by
  have hget : (s.loopsAfter pub).get i =
      if s.slotNamed pub i then s.loopFrom (s.mirrored pub) i else s.zcu.loops.get i := PerSlot.get_of _ i
  rw [hget]
  split
  · next h => rw [State.loopFrom, if_pos (enabled_of_named h)]
  · rfl

/-- An update that names a lane, outside a freeze: the triggers, the hand-offs and the outside timer. -/
theorem zoneUpdate_of_named {pub : Published} {s : State} (hnamed : slots.any (s.slotNamed pub) = true)
    (hthawed : s.zcu.frozen = false) :
    zoneUpdate pub s = zoneStages (s.mirrored pub) (s.loopsAfter pub) s := by
  unfold zoneUpdate
  rw [if_pos hnamed]
  dsimp only
  rw [if_neg (by simp [hthawed])]
  rfl

theorem updateIsTaken (pub : Published) (s : State) : UpdateIsTaken pub s := by
  unfold UpdateIsTaken
  extract_lets m named
  refine ⟨laneNamed_iff s pub, fun i c => (mirrored_get s pub i c).trans (mirrorLane_eq s pub i c), fun hnone => ?_,
    fun hsome => ⟨fun hfrozen => ?_, fun hthawed => ?_⟩⟩
  · have hany : ¬ slots.any (s.slotNamed pub) = true := by
      rw [any_slotNamed_iff]
      exact fun ⟨i, hi⟩ => hnone i hi
    exact if_neg hany
  · have hany := (any_slotNamed_iff s pub).mpr hsome
    unfold zoneUpdate
    rw [if_pos hany]
    exact if_pos hfrozen
  · have hany := (any_slotNamed_iff s pub).mpr hsome
    refine ⟨s.loopsAfter pub, lanesDiffer s.zcu.mirror m s.guideSlot,
      lanesDiffer s.zcu.mirror m s.stationSlot || slotStrength m s.stationSlot != s.zcu.station,
      fun i => ⟨fun h => ?_, fun h => ?_⟩, lanesDiffer_iff _ _ _, ?_, zoneIsSettled s m _, ?_⟩
    · rw [loopsAfter_get, if_neg (mt (slotNamed_iff s pub i).mp h)]
    · rw [loopsAfter_get, if_pos ((slotNamed_iff s pub i).mpr h)]
    · rw [Bool.or_eq_true, lanesDiffer_iff, bne_iff_ne, or_comm]
    · intro v
      have hupdate : zoneUpdate pub s = outsideTest v := zoneUpdate_of_named hany hthawed
      obtain ⟨-, -, hraise, hquiet⟩ := heldTimerRaises v
      exact ⟨fun h => hupdate.trans (hquiet h), fun i h => hupdate.trans (hraise i h)⟩

/-- Settles O15: each trigger by its condition, in the order of all that an update can raise, with the context it
leaves and what it hands on. -/
theorem updateRaisesTheBoundaryTriggers : Obligations.UpdateRaisesTheBoundaryTriggers := by
  refine ⟨fun s m now => ?_, lanesAreClassed, zoneIsHandedOn, updateIsTaken⟩
  intro prior near place
  have hsub := updateTriggers_sublist s prior now
  refine ⟨fun i => ?exit, fun i => ?entry, ?lost, fun e he => ?only, hsub.nodup (by decide), ?order,
    zoneIsSettled s m now⟩
  case exit =>
    rw [perimeterExit_mem_iff, passageNear_iff, stationWithholds_iff]
    simp only [State.exitLeaves, and_assoc]
    rfl
  case entry =>
    rw [keepoutEntry_mem_iff, keepoutEntered_iff]
    rfl
  case lost => rw [wireLost_mem_iff, wireLostDue_iff, and_assoc]
  case only =>
    rcases (mem_updateTriggers s prior now e).mp he with ⟨i, hi⟩ | ⟨-, hlost⟩
    · rcases (mem_slotTriggers s prior now i e).mp hi with ⟨-, hexit⟩ | ⟨-, hentry⟩
      · exact .inl ⟨i, .inl hexit⟩
      · exact .inl ⟨i, .inr hentry⟩
    · exact .inr hlost
  case order => exact List.Pairwise.sublist (hsub.map place) (by decide)

end Sys2Proof.Machine
end

section
/-! Sense pins: what the Sense Pin Unit hands on after an event (R54, R55, R57, R70), an edge that no unit
measures (R46), and a LEVEL pin with its debounce (R47, R53, R54). -/

namespace Sys2Proof.Machine

/-! ### The conditions of the Sense Pin Unit -/

theorem somePin_iff {s : State} {f : PinUnit → Bool} {role : PinRole} {is : PinUnit → Prop}
    (h : ∀ x, f x = true ↔ x.cfg.mode = .level ∧ x.cfg.role = role ∧ is x) :
    s.spu.units.toList.any f = true ↔ s.somePin role is := by
  rw [PerPin.any_toList]
  exact exists_congr fun p => h _

theorem liftCond_iff (s : State) :
    s.liftCond = true ↔ s.somePin .lift fun x => x.deb = some x.cfg.active ∨ x.deb = none :=
  somePin_iff fun x => by simp [and_assoc]

theorem rainCond_iff (s : State) :
    s.rainCond = true ↔ s.somePin .rain fun x => x.deb = some x.cfg.active :=
  somePin_iff fun x => by simp [PinUnit.activeAs, and_assoc]

theorem axisUnknown_iff (a : AxisState) : a.unknown = true ↔ a = .pending ∨ a = .fault := by
  cases a <;> simp [AxisState.unknown]

theorem slopeBand_eq_bandNow (s : State) : s.slopeBand = s.bandNow := by
  simp only [State.slopeBand, State.bandNow, State.tiltUnknown, Bool.or_eq_true, axisUnknown_iff]
  rfl

/-! ### What the unit hands on -/

/-- The test of the slope changes the tilt timer alone of the Sense Pin Unit. -/
theorem tiltTest_spu (s : State) : (tiltTest s).spu = { s.spu with tilt := (tiltTest s).spu.tilt } := by
  unfold tiltTest tiltRaise
  (repeat' split) <;> simp

/-- The lift condition and the slope band are handed to the gate, in one evaluation (R54, R70). -/
def gateHandOn (before s : State) : State :=
  if s.liftCond ≠ before.liftCond ∨ s.bandNow ≠ before.bandNow then evaluate s else s

@[simp] theorem gateHandOn_spu (before s : State) : (gateHandOn before s).spu = s.spu := by
  unfold gateHandOn
  split <;> simp

@[simp] theorem gateHandOn_dkc (before s : State) : (gateHandOn before s).dkc = s.dkc := by
  unfold gateHandOn
  split <;> simp

theorem rainCond_congr {s t : State} (h : s.spu = t.spu) : s.rainCond = t.rainCond := by
  simp only [State.rainCond, h]

/-- The order in which a changed condition is handed on: the gate, the Dock Controller, the test of the
slope. -/
theorem spuHandOff_eq (before s : State) :
    spuHandOff before s =
      if s.slope = before.slope then rainHandOn (gateHandOn before s)
      else tiltTest (rainHandOn (gateHandOn before s)) := by
  have hgate : (if s.liftCond != before.liftCond || s.slopeBand != before.slopeBand then evaluate s else s) =
      gateHandOn before s := by
    simp only [gateHandOn, slopeBand_eq_bandNow, Bool.or_eq_true, bne_iff_ne]
  have hrain (x : State) :
      (if x.rainCond != x.dkc.rain then dkcEvent (takeRain x.rainCond) x else x) = rainHandOn x := by
    simp [rainHandOn, dkcEvent_eq_dockHandOn]
  have hslope : (rainHandOn (gateHandOn before s)).slope = s.slope := by simp [State.slope]
  simp only [spuHandOff, hgate, hrain, hslope]

/-- Handing on changes the tilt timer alone of the Sense Pin Unit. -/
theorem spuHandOff_spu (before s : State) :
    (spuHandOff before s).spu = { s.spu with tilt := (spuHandOff before s).spu.tilt } := by
  rw [spuHandOff_eq]
  split
  · simp
  · rw [tiltTest_spu]
    simp

theorem spuHandOff_senseFrame (before s : State) : SenseFrame s (spuHandOff before s) := by
  have hsettle : (spuHandOff before s).spu.settle = s.spu.settle := by rw [spuHandOff_spu]
  simp [SenseFrame, hsettle]

theorem rainHandOn_gateHandOn (before s : State) :
    rainHandOn (gateHandOn before s) =
      if s.rainCond = s.dkc.rain then gateHandOn before s
      else dockHandOn (gateHandOn before s) (takeRain s.rainCond (gateHandOn before s)) := by
  have hrain : (gateHandOn before s).rainCond = s.rainCond := rainCond_congr (by simp)
  rw [rainHandOn, hrain, gateHandOn_dkc]

theorem senseIsHandedOn : SenseIsHandedOn := by
  refine ⟨fun s => ⟨liftCond_iff s, rainCond_iff s⟩, fun before s => ⟨?_, ?_, ?_⟩⟩
  · rw [spuHandOff_eq, rainHandOn_gateHandOn]
    rfl
  · exact spuHandOff_senseFrame before s
  · exact spuHandOff_spu before s

/-- Where no condition changed and the Dock Controller has taken the rain condition, nothing is handed on. -/
theorem rainHandOn_of_taken {s : State} (h : s.rainCond = s.dkc.rain) : rainHandOn s = s := if_pos h

theorem rainHandOn_of_not_taken {s : State} (h : s.rainCond ≠ s.dkc.rain) :
    rainHandOn s = dockHandOn s (takeRain s.rainCond s) := if_neg h

/-! ### An edge that no unit measures -/

theorem pinChange_same {p : Pin} {l : Level} {s : State} (hl : s.spu.levels.get p = l) :
    pinChange p l s = s := if_pos hl

theorem pinChange_of_not_measuring {p : Pin} {l : Level} {s : State} (hl : s.spu.levels.get p ≠ l)
    (hm : (s.spu.units.get p).measuring = false) : pinChange p l s = s.withLevel p l := by
  simp [pinChange, State.withLevel, hl, hm]

theorem unitEdge_of_off {p : Pin} {l : Level} {s : State} (hmode : (s.spu.units.get p).cfg.mode = .off) :
    unitEdge p l s = s := by
  rw [unitEdge, hmode]

theorem unseenEdge : UnseenEdge := by
  intro dt p l s held u x v
  rw [exec_pinEdge held]
  refine ⟨fun hl => ?same, fun hl hm => ?idle, fun hl hm hoff => ⟨?off, fun htaken => ?quiet⟩⟩
  case same => rw [pinChange_same hl]
  case idle => exact congrArg Host.Outcome.next (pinChange_of_not_measuring hl hm)
  case off =>
    have hoff' : ((u.withLevel p l).spu.units.get p).cfg.mode = .off := hoff
    rw [pinChange_of_measuring hl hm, unitEdge_of_off hoff']
    rfl
  case quiet =>
    exact (spuHandOff_of_quiet (v := v) rfl rfl rfl).trans (rainHandOn_of_taken htaken)

/-! ### A LEVEL pin (R47) -/

/-- An edge of a LEVEL unit leaves the debounced level and what the unit is configured for. -/
theorem levelEdge_cfg (l : Level) (x : PinUnit) : (x.levelEdge l).cfg = x.cfg := by
  unfold PinUnit.levelEdge
  split <;> rfl

theorem levelEdge_deb (l : Level) (x : PinUnit) : (x.levelEdge l).deb = x.deb := by
  unfold PinUnit.levelEdge
  split <;> rfl

theorem quietEdge_of_level {p : Pin} {l : Level} {u : State}
    (hm : (u.spu.units.get p).measuring = true) (hmode : (u.spu.units.get p).cfg.mode = .level)
    (hl : u.spu.levels.get p ≠ l) : QuietEdge p l u ((u.spu.units.get p).levelEdge l) where
  changes := hl
  measures := hm
  edge := by
    have hmode' : ((u.withLevel p l).spu.units.get p).cfg.mode = .level := hmode
    rw [unitEdge, hmode']
    rfl
  cfg := levelEdge_cfg l _
  deb := levelEdge_deb l _

theorem debounceDue_of {p : Pin} {s : State} (hm : (s.spu.units.get p).measuring = true)
    (hmode : (s.spu.units.get p).cfg.mode = .level)
    (ht : (s.spu.units.get p).debTimer = some (ms (s.spu.units.get p).cfg.param)) :
    s.debounceDue p = true := by
  simp [State.debounceDue, hm, hmode, ht]

/-- A unit whose candidate becomes its debounced level, published (R47, R51). -/
def PinUnit.debounce (x : PinUnit) : PinUnit :=
  { x.publish (.lvl x.cand) with deb := some x.cand, debTimer := none }

@[simp] theorem debounce_cfg (x : PinUnit) : x.debounce.cfg = x.cfg := publish_cfg (.lvl x.cand) x

/-- A LIFT trigger leaves a level-3 context held: it joins the hazard's or makes it (R118). -/
theorem raiseFixed_ctx3 (t : Trig) (d : Option Nat) (s : State) : (raiseFixed t d s).rse.ctx3.isSome = true := by
  unfold raiseFixed
  split
  · simp [hazardJoin]
  · simp [hazardEntry, gateHazard, hazardCreate]

theorem raiseRole_bumpFront_suppressed {p : Pin} {s : State}
    (h : s.dkc.dock = .approach ∨ s.dkc.dock = .contact ∨ s.dkc.dock = .docked) :
    raiseRole p .bumpFront s =
      { s with spu := { s.spu with bumpsSuppressed := bump s.spu.bumpsSuppressed } } := by
  rcases h with h | h | h <;> simp only [raiseRole, h] <;> rfl

theorem raiseRole_bumpFront_raised {p : Pin} {s : State} (happroach : s.dkc.dock ≠ .approach)
    (hcontact : s.dkc.dock ≠ .contact) (hdocked : s.dkc.dock ≠ .docked) :
    raiseRole p .bumpFront s = raise .bumpFront (some p.val) s := by
  unfold raiseRole
  cases h : s.dkc.dock <;> first | rfl | contradiction

theorem raiseRole_of_other {p : Pin} {r : PinRole} {s : State} (hfront : r ≠ .bumpFront)
    (hrear : r ≠ .bumpRear) (hlift : r ≠ .lift) : raiseRole p r s = s := by
  cases r <;> first | rfl | contradiction

/-- The trigger of a role changes no more of the Sense Pin Unit than the count of suppressed bumps. -/
theorem raiseRole_spu (p : Pin) (r : PinRole) (s : State) :
    (raiseRole p r s).spu =
      { s.spu with bumpsSuppressed := (raiseRole p r s).spu.bumpsSuppressed } := by
  unfold raiseRole
  (repeat' split) <;> simp

theorem raiseRole_senseFrame (p : Pin) (r : PinRole) (s : State) : SenseFrame s (raiseRole p r s) := by
  unfold raiseRole SenseFrame
  (repeat' split) <;> simp

theorem SenseFrame.trans {s t u : State} (h : SenseFrame s t) (h' : SenseFrame t u) : SenseFrame s u := by
  obtain ⟨h1, h2, h3, h4, h5, h6, h7, h8⟩ := h
  obtain ⟨g1, g2, g3, g4, g5, g6, g7, g8⟩ := h'
  exact ⟨g1.trans h1, g2.trans h2, g3.trans h3, g4.trans h4, g5.trans h5, g6.trans h6, g7.trans h7,
    g8.trans h8⟩

/-- A pin unit that is neither a LIFT nor a RAIN pin has no part in the two conditions. -/
theorem setUnit_liftCond {p : Pin} {y : PinUnit} {s : State} (hcfg : y.cfg = (s.spu.units.get p).cfg)
    (hrole : (s.spu.units.get p).cfg.role ≠ .lift) : (setUnit p y s).liftCond = s.liftCond :=
  PerPin.any_set _ s.spu.units p (by simp [hcfg, beq_false_of_ne hrole])

theorem setUnit_rainCond {p : Pin} {y : PinUnit} {s : State} (hcfg : y.cfg = (s.spu.units.get p).cfg)
    (hrole : (s.spu.units.get p).cfg.role ≠ .rain) : (setUnit p y s).rainCond = s.rainCond :=
  PerPin.any_set _ s.spu.units p (by simp [PinUnit.activeAs, hcfg, beq_false_of_ne hrole])

/-- The debounce of a pin ends in its debounced level, with the hand-offs and the trigger of its role. -/
theorem debounced_eq (p : Pin) (s : State) :
    debounced p s =
      if (s.spu.units.get p).cand = (s.spu.units.get p).cfg.active then
        raiseRole p (s.spu.units.get p).cfg.role
          (spuHandOff s (setUnit p (s.spu.units.get p).debounce s))
      else spuHandOff s (setUnit p (s.spu.units.get p).debounce s) := rfl

theorem debounced_of_active {p : Pin} {s : State}
    (h : (s.spu.units.get p).cand = (s.spu.units.get p).cfg.active) :
    debounced p s = raiseRole p (s.spu.units.get p).cfg.role
      (spuHandOff s (setUnit p (s.spu.units.get p).debounce s)) := if_pos h

theorem debounced_of_inactive {p : Pin} {s : State}
    (h : (s.spu.units.get p).cand ≠ (s.spu.units.get p).cfg.active) :
    debounced p s = spuHandOff s (setUnit p (s.spu.units.get p).debounce s) := if_neg h

theorem debounced_senseFrame (p : Pin) (s : State) : SenseFrame s (debounced p s) := by
  have hoff : SenseFrame s (spuHandOff s (setUnit p (s.spu.units.get p).debounce s)) :=
    spuHandOff_senseFrame s (setUnit p (s.spu.units.get p).debounce s)
  rw [debounced_eq]
  split
  · exact hoff.trans (raiseRole_senseFrame p _ _)
  · exact hoff

theorem debounced_units (p : Pin) (s : State) :
    (debounced p s).spu.levels = s.spu.levels ∧
      (debounced p s).spu.units = s.spu.units.set p (s.spu.units.get p).debounce := by
  rw [debounced_eq]
  split
  · rw [raiseRole_spu, spuHandOff_spu]
    exact ⟨rfl, rfl⟩
  · rw [spuHandOff_spu]
    exact ⟨rfl, rfl⟩

/-- Settles O17: an edge leaves the configuration and the debounced level, so it ends quietly; the expiry is
`debounced`, whose trigger follows from the role. -/
theorem levelPinIsDebounced : Obligations.LevelPinIsDebounced := by
  refine ⟨senseIsHandedOn, unseenEdge, ?pins⟩
  intro dt p s held u x hm hmode
  refine ⟨fun l hl => (quietEdge_of_level hm hmode hl).exec_ends held, fun ht => ?expiry⟩
  case expiry =>
  intro role units v w ends
  have hevent : ends (debounced p u) := by
    change exec _ s = _
    rw [exec_of_running _ held]
    exact congrArg Host.Outcome.next (whenDue_of_due (debounceDue_of hm hmode ht))
  have hv : v = setUnit p x.debounce u := rfl
  refine ⟨⟨_, hevent, debounced_senseFrame p u, (debounced_units p u).1, (debounced_units p u).2, ?hazard⟩,
    ?silent, fun hactive => ?triggers, ?quiet⟩
  case hazard =>
    intro hrole hactive
    rw [debounced_of_active hactive, show (u.spu.units.get p).cfg.role = .lift from hrole]
    exact raiseFixed_ctx3 .lift (some p.val) _
  case silent =>
    intro h
    by_cases hactive : x.cand = x.cfg.active
    · obtain ⟨hfront, hrear, hlift⟩ := h.resolve_left (not_not_intro hactive)
      rw [debounced_of_active hactive, raiseRole_of_other hfront hrear hlift] at hevent
      exact hevent
    · rw [debounced_of_inactive hactive] at hevent
      exact hevent
  case triggers =>
    have htrigger : ends (raiseRole p role w) := by rwa [debounced_of_active hactive] at hevent
    refine ⟨fun hrole => ?lift, fun hrole => ?rear, fun hrole => ⟨fun hdock => ?suppressed, ?front⟩⟩
    case lift => rwa [hrole] at htrigger
    case rear => rwa [hrole] at htrigger
    case suppressed => rwa [hrole, raiseRole_bumpFront_suppressed hdock] at htrigger
    case front =>
      intro happroach hcontact hdocked
      rwa [hrole, raiseRole_bumpFront_raised happroach hcontact hdocked] at htrigger
  case quiet =>
    intro hlift hrain
    have hcond : v.rainCond = u.rainCond := setUnit_rainCond (debounce_cfg x) hrain
    have hw : w = rainHandOn v := spuHandOff_of_quiet (setUnit_liftCond (debounce_cfg x) hlift) rfl rfl
    refine ⟨fun htaken => ?_, fun htaken => ?_⟩
    · rw [hw, rainHandOn_of_taken (by rw [hcond]; exact htaken)]
    · rw [hw, rainHandOn_of_not_taken (by rw [hcond]; exact htaken), hcond]

end Sys2Proof.Machine
end

section
/-! Sense pins: the tilt timer (R58), a DUTY pin and its axis (R50, R56), the end of the settle (R46, R60,
R122) and the read of a pin (R52). -/

namespace Sys2Proof.Machine

/-! ### The tilt timer (R58) -/

/-- The part with another tilt timer. -/
def State.withTilt (s : State) (t : Timer) : State := { s with spu := { s.spu with tilt := t } }

section
variable {s : State}

theorem tiltTest_of_steep_stopped (hsteep : s.overSlope = true) (hst : s.spu.tilt.st = .stopped)
    (hlong : 0 < s.tiltPersistence) : tiltTest s = s.withTilt ⟨.running, 0⟩ := by
  rw [tiltTest, if_pos hsteep, hst]
  exact if_neg hlong.ne'

theorem tiltTest_of_steep_at_once (hsteep : s.overSlope = true) (hst : s.spu.tilt.st = .stopped)
    (hnone : s.tiltPersistence = 0) :
    tiltTest s = raiseFixed .tiltOver none (s.withTilt { s.spu.tilt with st := .spent }) := by
  rw [tiltTest, if_pos hsteep, hst]
  exact if_pos hnone

theorem tiltTest_of_steep_judged (hsteep : s.overSlope = true)
    (hst : s.spu.tilt.st = .running ∨ s.spu.tilt.st = .spent) : tiltTest s = s := by
  rw [tiltTest, if_pos hsteep]
  rcases hst with hst | hst <;> rw [hst]

theorem tiltTest_of_level_judged (hlevel : ¬ s.overSlope = true)
    (hst : s.spu.tilt.st = .running ∨ s.spu.tilt.st = .spent) :
    tiltTest s = s.withTilt { s.spu.tilt with st := .stopped } := by
  rw [tiltTest, if_neg hlevel]
  rcases hst with hst | hst <;> rw [hst] <;> rfl

theorem tiltTest_of_level_stopped (hlevel : ¬ s.overSlope = true) (hst : s.spu.tilt.st = .stopped) :
    tiltTest s = s := by
  rw [tiltTest, if_neg hlevel, hst]

end

/-- Settles O21: the branches of the test, and the expiry of a timer that is due. -/
theorem tiltTimerJudgesTheSlope : Obligations.TiltTimerJudgesTheSlope := by
  refine ⟨fun s => ?table, ?expiry⟩
  case table =>
    intro timer steep
    have hover : s.overSlope = true ↔ steep := decide_eq_true_iff
    exact ⟨fun h => tiltTest_of_steep_stopped (hover.mpr h), fun h => tiltTest_of_steep_at_once (hover.mpr h),
      fun h => tiltTest_of_steep_judged (hover.mpr h),
      fun h => tiltTest_of_level_judged (mt hover.mp h), fun h => tiltTest_of_level_stopped (mt hover.mp h)⟩
  case expiry =>
    intro dt s held u hst hlong
    have hdue : u.spu.tilt.due u.tiltPersistence = true := by simp [Timer.due, hst, hlong]
    rw [exec_of_running _ held]
    exact congrArg Host.Outcome.next
      (whenDue_of_due (due := fun s => s.spu.tilt.due s.tiltPersistence) (f := tiltRaise) hdue)

/-! ### Quiet ends -/

/-- An event of a pin unit that leaves both conditions and both axes ends quietly. -/
theorem endsQuietly_of_same {u v : State} (hspu : v = { u with spu := v.spu })
    (hlift : v.liftCond = u.liftCond) (hrain : v.rainCond = u.rainCond)
    (hpitch : v.spu.pitch = u.spu.pitch) (hroll : v.spu.roll = u.spu.roll) :
    EndsQuietly (.next (spuHandOff u v)) u v := by
  have hdkc : v.dkc = u.dkc := by rw [hspu]
  rw [spuHandOff_of_quiet hlift hpitch hroll, rainHandOn, hrain, hdkc]
  exact ⟨hspu, fun h => by rw [if_pos h], fun h => by rw [if_neg h]⟩

/-! ### A DUTY pin (R50, R56) -/

@[simp] theorem publish_fault (r : PinResult) (x : PinUnit) : (x.publish r).fault = x.fault := by
  unfold PinUnit.publish
  dsimp only
  (repeat' split) <;> rfl

theorem setUnit_setUnit (p : Pin) (y z : PinUnit) (s : State) :
    setUnit p z (setUnit p y s) = setUnit p z s := by
  simp [setUnit, onSpu]

theorem setUnit_unit (p : Pin) (y : PinUnit) (s : State) : (setUnit p y s).spu.units.get p = y := by
  simp [setUnit]

/-- The axis that a tilt role serves takes a value, and the other one stays. -/
theorem setAxis_of_tilt {r : PinRole} (hr : r = .tiltPitch ∨ r = .tiltRoll) (a : Axis) (s : State) :
    setAxis r a s = { s with
      spu := { s.spu with
        pitch := if r = .tiltPitch then a else s.spu.pitch
        roll := if r = .tiltRoll then a else s.spu.roll } } := by
  rcases hr with rfl | rfl <;> rfl

/-- A unit with a tilt role or another one, in the terms of the model's test. -/
theorem tilts_iff {x : PinUnit} (hmode : x.cfg.mode = .duty) :
    (x.tilts .tiltPitch || x.tilts .tiltRoll) = true ↔ x.cfg.role = .tiltPitch ∨ x.cfg.role = .tiltRoll := by
  simp [PinUnit.tilts, hmode]

section
variable {p : Pin} {y : PinUnit} {s : State}

theorem enterFault_of_fault (hf : y.fault = true) : enterFault p (setUnit p y s) = setUnit p y s := by
  rw [enterFault, setUnit_unit]
  exact if_pos hf

/-- A unit in FAULT, counted. -/
def PinUnit.faulted (y : PinUnit) : PinUnit := { y with fault := true, faults := bump y.faults }

theorem enterFault_of_tilt (hmode : y.cfg.mode = .duty)
    (hrole : y.cfg.role = .tiltPitch ∨ y.cfg.role = .tiltRoll) (hf : y.fault = false) :
    enterFault p (setUnit p y s) =
      setFlag .senseFault [u8 p.val] (setAxis y.cfg.role ⟨.fault, 0⟩ (setUnit p y.faulted s)) := by
  simp only [enterFault, setUnit_unit, hf, (tilts_iff hmode).mpr hrole, setUnit_setUnit]
  rfl

theorem enterFault_of_other (hmode : y.cfg.mode = .duty) (hpitch : y.cfg.role ≠ .tiltPitch)
    (hroll : y.cfg.role ≠ .tiltRoll) (hf : y.fault = false) :
    enterFault p (setUnit p y s) = setUnit p y.faulted s := by
  have htilts : (y.tilts .tiltPitch || y.tilts .tiltRoll) = false :=
    Bool.eq_false_iff.mpr fun h => ((tilts_iff hmode).mp h).elim hpitch hroll
  simp only [enterFault, setUnit_unit, hf, htilts, setUnit_setUnit]
  rfl

theorem takeDuty_of_other {d : Nat} (hmode : y.cfg.mode = .duty) (hpitch : y.cfg.role ≠ .tiltPitch)
    (hroll : y.cfg.role ≠ .tiltRoll) :
    takeDuty p d (setUnit p y s) = setUnit p { y with fault := false } s := by
  have htilts : (y.tilts .tiltPitch || y.tilts .tiltRoll) = false :=
    Bool.eq_false_iff.mpr fun h => ((tilts_iff hmode).mp h).elim hpitch hroll
  simp only [takeDuty, setUnit_unit, htilts, setUnit_setUnit]
  rfl

theorem takeDuty_of_valid {d : Nat} (hmode : y.cfg.mode = .duty)
    (hrole : y.cfg.role = .tiltPitch ∨ y.cfg.role = .tiltRoll) (hlo : 50 ≤ d) (hhi : d ≤ 950) :
    takeDuty p d (setUnit p y s) =
      setAxis y.cfg.role ⟨.valid, angleOf d⟩ (setUnit p { y with fault := false } s) := by
  have hvalid : dutyValid d = true := by simp [dutyValid, hlo, hhi]
  simp only [takeDuty, setUnit_unit, (tilts_iff hmode).mpr hrole, hvalid, setUnit_setUnit]
  rfl

theorem takeDuty_of_invalid {d : Nat} (hmode : y.cfg.mode = .duty)
    (hrole : y.cfg.role = .tiltPitch ∨ y.cfg.role = .tiltRoll) (hd : d < 50 ∨ 950 < d) :
    takeDuty p d (setUnit p y s) = enterFault p (setUnit p y s) := by
  have hvalid : dutyValid d = false := by
    simp only [dutyValid, Bool.and_eq_false_iff, decide_eq_false_iff_not]
    omega
  simp only [takeDuty, setUnit_unit, (tilts_iff hmode).mpr hrole, hvalid]
  rfl

end

/-- The unit of a DUTY pin at the end of a complete period: the duty published, and the timeout begun again. -/
def PinUnit.periodEnd (x : PinUnit) (q : Nat) : PinUnit :=
  { ({ x with period := some 0, high := none } : PinUnit).publish (.num q) with dutyTimer := 0 }

@[simp] theorem periodEnd_cfg (x : PinUnit) (q : Nat) : (x.periodEnd q).cfg = x.cfg :=
  publish_cfg (.num q) { x with period := some 0, high := none }

@[simp] theorem periodEnd_deb (x : PinUnit) (q : Nat) : (x.periodEnd q).deb = x.deb :=
  publish_deb (.num q) { x with period := some 0, high := none }

@[simp] theorem periodEnd_fault (x : PinUnit) (q : Nat) : (x.periodEnd q).fault = x.fault :=
  publish_fault (.num q) { x with period := some 0, high := none }

section
variable {p : Pin} {u : State}

theorem unitEdge_of_rise (hmode : (u.spu.units.get p).cfg.mode = .duty) :
    unitEdge p .high (u.withLevel p .high) = dutyRise p (u.withLevel p .high) := by
  have hmode' : ((u.withLevel p .high).spu.units.get p).cfg.mode = .duty := hmode
  rw [unitEdge, hmode']
  rfl

theorem unitEdge_of_fall (hmode : (u.spu.units.get p).cfg.mode = .duty) :
    unitEdge p .low (u.withLevel p .low) = dutyEdge p .low (u.withLevel p .low) := by
  have hmode' : ((u.withLevel p .low).spu.units.get p).cfg.mode = .duty := hmode
  rw [unitEdge, hmode']

/-- A rising edge that ends a complete period takes its duty. -/
theorem unitEdge_of_period {h d : Nat} (hmode : (u.spu.units.get p).cfg.mode = .duty)
    (hh : (u.spu.units.get p).high = some h) (hd : (u.spu.units.get p).period = some d) (hpos : 0 < d) :
    unitEdge p .high (u.withLevel p .high) =
      takeDuty p (h * 1000 / d)
        (setUnit p ((u.spu.units.get p).periodEnd (h * 1000 / d)) (u.withLevel p .high)) := by
  have hcomplete : ((u.withLevel p .high).spu.units.get p).complete = some (h, d) := by
    have hsame : (u.withLevel p .high).spu.units.get p = u.spu.units.get p := rfl
    rw [hsame, PinUnit.complete, hh, hd]
  have hduty : dutyOf h d = h * 1000 / d := if_neg hpos.ne'
  simp only [unitEdge_of_rise hmode, dutyRise, hcomplete, hduty]
  rfl

/-- A rising edge that ends none begins one. -/
theorem unitEdge_of_first_rise (hmode : (u.spu.units.get p).cfg.mode = .duty)
    (hnone : (u.spu.units.get p).period = none ∨ (u.spu.units.get p).high = none) :
    unitEdge p .high (u.withLevel p .high) =
      u.pinNow p .high { u.spu.units.get p with period := some 0, high := none } := by
  have hcomplete : ((u.withLevel p .high).spu.units.get p).complete = none := by
    have hsame : (u.withLevel p .high).spu.units.get p = u.spu.units.get p := rfl
    rw [hsame]
    unfold PinUnit.complete
    rcases hnone with h | h
    · rw [h]
    · rw [h]
      cases (u.spu.units.get p).period <;> rfl
  simp only [unitEdge_of_rise hmode, dutyRise, hcomplete]
  rfl

/-- The unit of a DUTY pin after a falling edge: the high time is the part of the period that is past. -/
def PinUnit.fell (x : PinUnit) : PinUnit :=
  match x.period with
  | some d => { x with high := some d }
  | none => x

theorem fell_of_period {x : PinUnit} {d : Nat} (hd : x.period = some d) : x.fell = { x with high := some d } := by
  unfold PinUnit.fell
  split
  · next e he => rw [Option.some.inj (hd.symm.trans he)]
  · next he => exact absurd (hd.symm.trans he) nofun

theorem fell_of_none {x : PinUnit} (hd : x.period = none) : x.fell = x := by
  unfold PinUnit.fell
  split
  · next e he => exact absurd (hd.symm.trans he) nofun
  · rfl

theorem fell_cfg (x : PinUnit) : x.fell.cfg = x.cfg := by
  unfold PinUnit.fell
  split <;> rfl

theorem fell_deb (x : PinUnit) : x.fell.deb = x.deb := by
  unfold PinUnit.fell
  split <;> rfl

theorem dutyEdge_low (p : Pin) (s : State) : dutyEdge p .low s = setUnit p (s.spu.units.get p).fell s := by
  unfold dutyEdge
  dsimp only
  split
  · next d hd => rw [fell_of_period hd]
  · next hd => simp [fell_of_none hd, setUnit, onSpu]

theorem unitEdge_of_fell (hmode : (u.spu.units.get p).cfg.mode = .duty) :
    unitEdge p .low (u.withLevel p .low) = u.pinNow p .low (u.spu.units.get p).fell := by
  rw [unitEdge_of_fall hmode, dutyEdge_low]
  rfl

end

/-- The unit of a DUTY pin at its timeout, before it enters FAULT (log entry 35). -/
def PinUnit.overdue (x : PinUnit) : PinUnit :=
  if x.fault = true then { x with dutyTimer := 0 }
  else { x with dutyTimer := 0, period := none, high := none }

@[simp] theorem overdue_cfg (x : PinUnit) : x.overdue.cfg = x.cfg := by
  unfold PinUnit.overdue
  split <;> rfl

@[simp] theorem overdue_deb (x : PinUnit) : x.overdue.deb = x.deb := by
  unfold PinUnit.overdue
  split <;> rfl

@[simp] theorem overdue_fault (x : PinUnit) : x.overdue.fault = x.fault := by
  unfold PinUnit.overdue
  split <;> rfl

theorem dutyTimedOut_eq (p : Pin) (u : State) :
    dutyTimedOut p u =
      spuHandOff u (enterFault p (setUnit p (u.spu.units.get p).overdue u)) := rfl

theorem exec_dutyTimeout {dt : Nat} {p : Pin} {s : State} (held : s.resetHeld = false)
    (hm : ((arrive dt s).spu.units.get p).measuring = true)
    (hmode : ((arrive dt s).spu.units.get p).cfg.mode = .duty)
    (ht : ms ((arrive dt s).spu.units.get p).cfg.param ≤ ((arrive dt s).spu.units.get p).dutyTimer) :
    exec (.dutyTimeoutExpiry dt p) s = .next (dutyTimedOut p (arrive dt s)) := by
  have hdue : (arrive dt s).dutyTimeoutDue p = true := by
    simp [State.dutyTimeoutDue, hm, hmode, ht]
  rw [exec_of_running _ held]
  exact congrArg Host.Outcome.next (whenDue_of_due hdue)

/-- The part with the levels, one unit and the axis of a tilt role changed. -/
def State.withTiltUnit (u : State) (r : PinRole) (p : Pin) (l : PerPin Level) (y : PinUnit) (a : Axis) : State :=
  { u with
    spu := { u.spu with
      levels := l
      units := u.spu.units.set p y
      pitch := if r = .tiltPitch then a else u.spu.pitch
      roll := if r = .tiltRoll then a else u.spu.roll } }

/-- The axis that a tilt role serves. -/
def State.axisOf (u : State) (r : PinRole) : Axis := if r = .tiltPitch then u.spu.pitch else u.spu.roll

/-- The fault of a tilt unit that an invalid duty or a timeout took to `y`. -/
def State.tiltFault (u : State) (r : PinRole) (p : Pin) (l : PerPin Level) (y : PinUnit) : State :=
  if y.fault = true then u.withTiltUnit r p l y (u.axisOf r)
  else setFlag .senseFault [u8 p.val] (u.withTiltUnit r p l y.faulted ⟨.fault, 0⟩)

section
variable {p : Pin} {u : State} {y : PinUnit} {l : PerPin Level}

/-- The part with other levels. -/
def State.withLevels (u : State) (l : PerPin Level) : State := { u with spu := { u.spu with levels := l } }

theorem withTiltUnit_axisOf {r : PinRole} (hr : r = .tiltPitch ∨ r = .tiltRoll) :
    u.withTiltUnit r p l y (u.axisOf r) = setUnit p y (u.withLevels l) := by
  rcases hr with rfl | rfl <;> rfl

theorem setAxis_setUnit {r : PinRole} (hr : r = .tiltPitch ∨ r = .tiltRoll) (a : Axis) :
    setAxis r a (setUnit p y (u.withLevels l)) = u.withTiltUnit r p l y a := by
  rw [setAxis_of_tilt hr]
  rfl

theorem enterFault_eq_tiltFault (hmode : y.cfg.mode = .duty)
    (hrole : y.cfg.role = .tiltPitch ∨ y.cfg.role = .tiltRoll) :
    enterFault p (setUnit p y (u.withLevels l)) = u.tiltFault y.cfg.role p l y := by
  unfold State.tiltFault
  split
  · next hf => rw [enterFault_of_fault hf, withTiltUnit_axisOf hrole]
  · next hf => rw [enterFault_of_tilt hmode hrole (by simpa using hf), setAxis_setUnit hrole]

end

theorem tiltPinServesItsAxis : TiltPinServesItsAxis := by
  intro dt p s held u x role after mine faulty hm hmode hrole
  have hfaulty (l : PerPin Level) {y : PinUnit} (hcfg : y.cfg = x.cfg) (hf : y.fault = x.fault) :
      enterFault p (setUnit p y (u.withLevels l)) = faulty l y := by
    rw [enterFault_eq_tiltFault (by rw [hcfg]; exact hmode) (by rw [hcfg]; exact hrole), hcfg,
      State.tiltFault, hf]
    rfl
  refine ⟨fun h d hl hh hd hpos => ?period, fun ht => ?timeout⟩
  case timeout =>
    rw [exec_dutyTimeout held hm hmode ht, dutyTimedOut_eq]
    exact congrArg (fun v => Host.Outcome.next (spuHandOff u v))
      (hfaulty u.spu.levels (overdue_cfg x) (overdue_fault x))
  case period =>
    intro q y l
    have hy : y = x.periodEnd q := rfl
    have hrise : exec (.pinEdge dt p .high) s =
        .next (spuHandOff u (takeDuty p q (setUnit p y (u.withLevels l)))) := by
      rw [exec_pinEdge held, pinChange_of_measuring (by rw [hl]; decide) hm, unitEdge_of_period hmode hh hd hpos]
      rfl
    have hmode' : y.cfg.mode = .duty := by rw [hy, periodEnd_cfg]; exact hmode
    have hrole' : y.cfg.role = role := by rw [hy, periodEnd_cfg]
    refine ⟨fun hlo hhi => ?_, fun hq => ?_⟩
    · rw [hrise, takeDuty_of_valid hmode' (hrole'.symm ▸ hrole) hlo hhi, hrole', setAxis_setUnit hrole]
      rfl
    · rw [hrise, takeDuty_of_invalid hmode' (hrole'.symm ▸ hrole) hq]
      exact congrArg (fun v => Host.Outcome.next (spuHandOff u v))
        (hfaulty l (periodEnd_cfg x q) (periodEnd_fault x q))

end Sys2Proof.Machine
end

section
/-! Sense pins: what an event of a DUTY pin ends in (R50, R56), the end of the settle (R46, R56, R60, R122) and
the read of a pin (R51, R52). -/

namespace Sys2Proof.Machine

/-! ### A DUTY pin (R50, R56) -/

section
variable {p : Pin} {u : State}

theorem quietEdge_of_fall (hm : (u.spu.units.get p).measuring = true)
    (hmode : (u.spu.units.get p).cfg.mode = .duty) (hl : u.spu.levels.get p = .high) :
    QuietEdge p .low u (u.spu.units.get p).fell where
  changes := by rw [hl]; decide
  measures := hm
  edge := unitEdge_of_fell hmode
  cfg := fell_cfg _
  deb := fell_deb _

theorem quietEdge_of_first_rise (hm : (u.spu.units.get p).measuring = true)
    (hmode : (u.spu.units.get p).cfg.mode = .duty) (hl : u.spu.levels.get p = .low)
    (hnone : (u.spu.units.get p).period = none ∨ (u.spu.units.get p).high = none) :
    QuietEdge p .high u { u.spu.units.get p with period := some 0, high := none } where
  changes := by rw [hl]; decide
  measures := hm
  edge := unitEdge_of_first_rise hmode hnone
  cfg := rfl
  deb := rfl

/-- The duty of a pin with no tilt role is always valid. -/
theorem quietEdge_of_period {h d : Nat} (hm : (u.spu.units.get p).measuring = true)
    (hmode : (u.spu.units.get p).cfg.mode = .duty) (hl : u.spu.levels.get p = .low)
    (hh : (u.spu.units.get p).high = some h) (hd : (u.spu.units.get p).period = some d) (hpos : 0 < d)
    (hrole : (u.spu.units.get p).cfg.role = .general) :
    QuietEdge p .high u { (u.spu.units.get p).periodEnd (h * 1000 / d) with fault := false } where
  changes := by rw [hl]; decide
  measures := hm
  edge := by
    have hother := takeDuty_of_other (p := p) (y := (u.spu.units.get p).periodEnd (h * 1000 / d))
      (s := u.withLevel p .high) (d := h * 1000 / d)
      (by rw [periodEnd_cfg]; exact hmode) (by rw [periodEnd_cfg, hrole]; decide)
      (by rw [periodEnd_cfg, hrole]; decide)
    rw [unitEdge_of_period hmode hh hd hpos, hother]
    rfl
  cfg := periodEnd_cfg _ _
  deb := periodEnd_deb _ _

end

/-- The angle of a valid duty is within 81 degrees (R56). -/
theorem validAxis_bounds {a : Axis} {q : Nat} (hlo : 50 ≤ q) (hhi : q ≤ 950)
    (ha : a = ⟨.valid, (((q : Int) - 500) * 9).tdiv 5⟩) :
    a = ⟨.valid, (((q : Int) - 500) * 9).tdiv 5⟩ ∧ -810 ≤ a.angle ∧ a.angle ≤ 810 := by
  obtain ⟨hmin, hmax, -⟩ := tdiv_bounds (z := ((q : Int) - 500) * 9) (B := 810) (n := 5) (by decide)
    (by omega) (by omega)
  rw [ha]
  exact ⟨rfl, hmin, hmax⟩

/-- The event of a pin unit with its hand-offs. -/
theorem senseFrame_handOff {u v : State} (h : SenseFrame u v) : SenseFrame u (spuHandOff u v) :=
  h.trans (spuHandOff_senseFrame u v)

/-- The unit of a DUTY pin after its timeout: in FAULT, counted once. -/
def PinUnit.timedOut (x : PinUnit) : PinUnit :=
  if x.fault then { x with dutyTimer := 0 }
  else { x with
    dutyTimer := 0
    period := none
    high := none
    fault := true
    faults := bump x.faults }

theorem timedOut_of_fault {x : PinUnit} (h : x.fault = true) : x.timedOut = { x with dutyTimer := 0 } :=
  if_pos h

theorem timedOut_of_no_fault {x : PinUnit} (h : x.fault = false) :
    x.timedOut = { x with dutyTimer := 0, period := none, high := none, fault := true, faults := bump x.faults } :=
  if_neg (by simp [h])

theorem overdue_of_fault {x : PinUnit} (h : x.fault = true) : x.overdue = { x with dutyTimer := 0 } :=
  if_pos h

theorem overdue_of_no_fault {x : PinUnit} (h : x.fault = false) :
    x.overdue = { x with dutyTimer := 0, period := none, high := none } :=
  if_neg (by simp [h])

theorem overdue_faulted {x : PinUnit} (h : x.fault = false) : x.overdue.faulted = x.timedOut := by
  rw [overdue_of_no_fault h, timedOut_of_no_fault h]
  rfl

section
variable {p : Pin} {u : State} {x : PinUnit}

/-- The timeout of a unit takes the unit alone, or with its axis. -/
theorem enterFault_overdue_spu (hmode : x.cfg.mode = .duty) :
    (enterFault p (setUnit p x.overdue u)).spu =
      { u.spu with
        units := u.spu.units.set p x.timedOut
        pitch := (enterFault p (setUnit p x.overdue u)).spu.pitch
        roll := (enterFault p (setUnit p x.overdue u)).spu.roll } := by
  have hmode' : x.overdue.cfg.mode = .duty := by rw [overdue_cfg]; exact hmode
  by_cases hf : x.fault = true
  · rw [enterFault_of_fault (by rw [overdue_fault]; exact hf), overdue_of_fault hf, timedOut_of_fault hf]
    rfl
  · have hf' : x.fault = false := by simpa using hf
    by_cases hrole : x.overdue.cfg.role = .tiltPitch ∨ x.overdue.cfg.role = .tiltRoll
    · rw [enterFault_of_tilt hmode' hrole (by rw [overdue_fault]; exact hf'), overdue_faulted hf',
        setAxis_of_tilt hrole]
      simp [setUnit]
    · rw [enterFault_of_other hmode' (fun h => hrole (.inl h)) (fun h => hrole (.inr h))
        (by rw [overdue_fault]; exact hf'), overdue_faulted hf']
      rfl

theorem enterFault_overdue_of_other (hmode : x.cfg.mode = .duty) (hpitch : x.cfg.role ≠ .tiltPitch)
    (hroll : x.cfg.role ≠ .tiltRoll) : enterFault p (setUnit p x.overdue u) = setUnit p x.timedOut u := by
  by_cases hf : x.fault = true
  · rw [enterFault_of_fault (by rw [overdue_fault]; exact hf), overdue_of_fault hf, timedOut_of_fault hf]
  · have hf' : x.fault = false := by simpa using hf
    rw [enterFault_of_other (by rw [overdue_cfg]; exact hmode) (by rw [overdue_cfg]; exact hpitch)
      (by rw [overdue_cfg]; exact hroll) (by rw [overdue_fault]; exact hf'), overdue_faulted hf']

theorem enterFault_senseFrame : SenseFrame u (enterFault p (setUnit p x.overdue u)) := by
  have hsettle : (enterFault p (setUnit p x.overdue u)).spu.settle = u.spu.settle := by
    unfold enterFault setAxis
    dsimp only
    (repeat' split) <;> simp [setUnit]
  simp [SenseFrame, hsettle]

end

@[simp] theorem timedOut_cfg (x : PinUnit) : x.timedOut.cfg = x.cfg := by
  unfold PinUnit.timedOut
  split <;> rfl

@[simp] theorem timedOut_deb (x : PinUnit) : x.timedOut.deb = x.deb := by
  unfold PinUnit.timedOut
  split <;> rfl

/-- A unit that keeps its configuration and its debounced level leaves both conditions as they were. -/
theorem setUnit_conds {p : Pin} {y : PinUnit} {s : State} (hcfg : y.cfg = (s.spu.units.get p).cfg)
    (hdeb : y.deb = (s.spu.units.get p).deb) :
    (setUnit p y s).liftCond = s.liftCond ∧ (setUnit p y s).rainCond = s.rainCond :=
  ⟨PerPin.any_set _ s.spu.units p (by rw [hcfg, hdeb]),
    PerPin.any_set _ s.spu.units p (by rw [PinUnit.activeAs, PinUnit.activeAs, hcfg, hdeb])⟩

/-- Settles O19: an edge that serves no axis ends quietly, and an edge or a timeout that serves one is the
fault or the angle that `tiltPinServesItsAxis` gives. -/
theorem dutyPinMeasuresPeriods : Obligations.DutyPinMeasuresPeriods := by
  refine ⟨tiltPinServesItsAxis, ?pins⟩
  intro dt p s held u x hm hmode
  refine ⟨fun hl => ?fall, fun hl hnone => ?first, fun h d hl hh hd hpos => ?period, fun ht => ?timeout⟩
  case fall =>
    obtain ⟨t, hexec, hframe, -, hunits, hends⟩ := (quietEdge_of_fall hm hmode hl).exec_ends held
    exact ⟨t, x.fell, hexec, hframe, hunits, rfl, hends⟩
  case first =>
    obtain ⟨t, hexec, hframe, -, hunits, hends⟩ := (quietEdge_of_first_rise hm hmode hl hnone).exec_ends held
    exact ⟨t, hexec, hframe, hunits, hends⟩
  case period =>
    intro q y
    refine ⟨fun hrole => ?general, fun hrole hlo hhi => ?pitch, fun hrole hq hf => ?roll⟩
    case general =>
      obtain ⟨t, hexec, hframe, -, hunits, hends⟩ :=
        (quietEdge_of_period hm hmode hl hh hd hpos hrole).exec_ends held
      exact ⟨t, hexec, hframe, hunits, hends⟩
    case pitch =>
      have hexec := ((tiltPinServesItsAxis dt p s held hm hmode (.inl hrole)).1 h d hl hh hd hpos).1 hlo hhi
      have hpitch : x.cfg.role = .tiltPitch := hrole
      refine ⟨_, hexec, senseFrame_handOff (by simp [SenseFrame, u]), ?_, validAxis_bounds hlo hhi ?_⟩
      · rw [spuHandOff_spu]
      · rw [spuHandOff_spu]
        exact if_pos hpitch
    case roll =>
      have hexec := ((tiltPinServesItsAxis dt p s held hm hmode (.inr hrole)).1 h d hl hh hd hpos).2 hq
      have hroll : x.cfg.role = .tiltRoll := hrole
      have hf' : ¬ x.fault = true := by simp [hf]
      have hfault : exec (.pinEdge dt p .high) s = .next (spuHandOff u (setFlag .senseFault [u8 p.val]
          (u.withTiltUnit x.cfg.role p (u.spu.levels.set p .high) y.faulted ⟨.fault, 0⟩))) :=
        hexec.trans (congrArg (fun v => Host.Outcome.next (spuHandOff u v)) (if_neg hf'))
      refine ⟨_, hfault, senseFrame_handOff ?_, ?_, ?_⟩
      · simp [SenseFrame, State.withTiltUnit]
      · rw [spuHandOff_spu]
        simp only [setFlag_frame]
        rfl
      · rw [spuHandOff_spu]
        simp only [setFlag_frame]
        exact if_pos hroll
  case timeout =>
    have hexec := exec_dutyTimeout held hm hmode ht
    rw [dutyTimedOut_eq] at hexec
    have hspu := enterFault_overdue_spu (p := p) (u := u) (x := x) hmode
    refine ⟨_, x.timedOut, hexec, senseFrame_handOff enterFault_senseFrame, ?_, ?_, rfl,
      fun hpitch hroll => ?_, fun hpitch hf => ?_⟩
    · rw [spuHandOff_spu]
      exact (congrArg Spu.levels hspu :)
    · rw [spuHandOff_spu]
      exact (congrArg Spu.units hspu :)
    · obtain ⟨hlift, hrain⟩ := setUnit_conds (p := p) (s := u) (timedOut_cfg x) (timedOut_deb x)
      rw [hexec, enterFault_overdue_of_other hmode hpitch hroll]
      exact endsQuietly_of_same rfl hlift hrain rfl rfl
    · have hfault := enterFault_of_tilt (p := p) (s := u) (y := x.overdue) (by rw [overdue_cfg]; exact hmode)
        (by rw [overdue_cfg]; exact .inl hpitch) (by rw [overdue_fault]; exact hf)
      rw [spuHandOff_spu]
      change (enterFault p (setUnit p x.overdue u)).spu.pitch = _
      rw [hfault, overdue_cfg, hpitch]
      simp [setAxis]

/-! ### The end of the settle (R46, R122) -/

theorem stopLine_iff (s : State) :
    s.stopLine = true ↔
      s.resetHeld = true ∨ s.rse.stopHazard = true ∨ s.rse.stopSettle = true ∨ s.rse.stopTest = true := by
  simp only [State.stopLine, Bool.or_eq_true]
  tauto

theorem stopLineIsDriven : StopLineIsDriven := by
  intro s reason
  refine ⟨fun h => (stopLine_iff s).mpr h, fun held hnone => ?_⟩
  rw [Bool.eq_false_iff, Ne, stopLine_iff, not_or]
  exact ⟨by simp [held], hnone⟩

/-- A pin that works a tilt role. -/
theorem tiltPin_eq_none_iff (x : Spu) (r : PinRole) :
    x.tiltPin r = none ↔ ¬ ∃ p, (x.units.get p).cfg.mode = .duty ∧ (x.units.get p).cfg.role = r := by
  simp [Spu.tiltPin, pins, PinUnit.tilts, Fin.forall_fin_succ]

/-- The axis of a role after every unit has begun again. -/
theorem axisAfter_all (x : Spu) (r : PinRole) (old : Axis) :
    ((∃ p, (x.units.get p).cfg.mode = .duty ∧ (x.units.get p).cfg.role = r) →
      x.axisAfter (fun _ => true) r old = ⟨.pending, 0⟩) ∧
    ((¬ ∃ p, (x.units.get p).cfg.mode = .duty ∧ (x.units.get p).cfg.role = r) →
      x.axisAfter (fun _ => true) r old = ⟨.absent, 0⟩) := by
  rw [← tiltPin_eq_none_iff]
  unfold Spu.axisAfter
  split
  · next h => exact ⟨fun hworks => absurd hworks ((tiltPin_eq_none_iff x r).mp h), fun _ => rfl⟩
  · next p h => exact ⟨fun _ => rfl, fun hnone => absurd (h.symm.trans hnone) nofun⟩

theorem reformAxes_begin {s : State} {x : Spu} (h : s.spu = x.reformAxes fun _ => true) : s.AxesBegin := by
  unfold State.AxesBegin
  rw [h]
  exact ⟨axisAfter_all x .tiltPitch x.pitch, axisAfter_all x .tiltRoll x.roll⟩

/-- Every unit begins measuring, at the end of the settle or of a reset of the pins (R46, R60). -/
def State.begunUnits (s : State) : PerPin PinUnit :=
  PerPin.of fun p =>
    PinUnit.begin (s.pinCfg p) (s.spu.levels.get p) (s.spu.units.get p).results (s.spu.units.get p).overruns
      (s.spu.units.get p).faults

/-- The part at the end of the settle, before the hand-offs. -/
def State.settled (s : State) : State :=
  { s with
    spu := ({ s.spu with settle := none, units := s.begunUnits } : Spu).reformAxes fun _ => true
    rse := { s.rse with stopSettle := false } }

theorem settleOver_eq (s : State) : settleOver s = spuHandOff s s.settled := rfl

/-- The stop reasons of the Response Engine that are not the hazard's. -/
def State.stopView (s : State) : Bool × Bool := (s.rse.stopSettle, s.rse.stopTest)

theorem raiseFixed_stopView (t : Trig) (d : Option Nat) (s : State) :
    (raiseFixed t d s).stopView = s.stopView := by
  unfold raiseFixed State.stopView
  split
  · simp [hazardJoin, arrived, countRse, onRse]
  · simp [hazardEntry, gateHazard, hazardCreate, arrived, countRse, onRse]

theorem tiltTest_stopView (s : State) : (tiltTest s).stopView = s.stopView := by
  unfold tiltTest tiltRaise
  (repeat' split) <;> first | rfl | exact (raiseFixed_stopView _ _ _).trans rfl

theorem wireLostTest_stopView (s : State) : (wireLostTest s).stopView = s.stopView := by
  unfold wireLostTest
  split
  · rfl
  · exact (raiseFixed_stopView _ _ _).trans rfl

theorem evaluate_stopView (s : State) : (evaluate s).stopView = s.stopView := by simp [State.stopView]

theorem rainHandOn_stopView (s : State) : (rainHandOn s).stopView = s.stopView := by
  have htaken (rain : Bool) : (takeRain rain s).stopView = s.stopView := by simp [State.stopView]
  simp only [rainHandOn, dockHandOn, apply_ite State.stopView, wireLostTest_stopView, evaluate_stopView, htaken,
    ite_self]

theorem spuHandOff_stopView (before s : State) : (spuHandOff before s).stopView = s.stopView := by
  have hgate : (gateHandOn before s).stopView = s.stopView := by
    simp only [gateHandOn, apply_ite State.stopView, evaluate_stopView, ite_self]
  rw [spuHandOff_eq]
  split <;> simp only [tiltTest_stopView, rainHandOn_stopView, hgate]

/-- Settles O22: the end of the settle is `State.settled` with its hand-offs, which leave the stop reasons of
the settle and of the tests. -/
theorem settleEndsAndUnitsBegin : Obligations.SettleEndsAndUnitsBegin := by
  refine ⟨stopLineIsDriven, ?_⟩
  intro dt s held u hsettle
  have hdue : u.settleDue = true := by simp [State.settleDue, hsettle]
  have hexec : exec (.settleEnd dt) s = .next (settleOver u) := by
    rw [exec_of_running _ held]
    exact congrArg Host.Outcome.next (whenDue_of_due hdue)
  have hspu := spuHandOff_spu u u.settled
  have hview := spuHandOff_stopView u u.settled
  obtain ⟨hstop, htest⟩ := Prod.ext_iff.mp hview
  have hstop' : (settleOver u).rse.stopSettle = false := hstop
  have hheld : (settleOver u).resetHeld = false := by
    rw [settleOver_eq]
    simp [State.settled, u, held]
  refine ⟨_, hexec, ?_, hstop', ?_, ?_, ?_, ?_, ?_, ?_, ?_, ⟨u.settled, rfl, ?_, ?_⟩, fun p => ?_⟩
  · rw [settleOver_eq, hspu]
    rfl
  · rw [stopLine_iff, hheld, hstop']
    simp
  · simp [settleOver_eq, State.settled]
  · simp [settleOver_eq, State.settled]
  · simp [settleOver_eq, State.settled]
  · simp [settleOver_eq, State.settled]
  · simp [settleOver_eq, State.settled]
  · rw [settleOver_eq, hspu]
    rfl
  · rw [settleOver_eq, hspu]
    rfl
  · exact reformAxes_begin rfl
  · have hunit : (settleOver u).spu.units.get p = PinUnit.begin (u.pinCfg p) (u.spu.levels.get p)
        (u.spu.units.get p).results (u.spu.units.get p).overruns (u.spu.units.get p).faults := by
      rw [settleOver_eq, hspu]
      exact PerPin.get_of _ p
    rw [hunit]
    exact ⟨rfl, rfl, rfl, rfl, rfl, rfl, rfl, rfl, rfl, rfl, rfl, rfl, rfl, rfl, rfl, rfl,
      fun hlevel => ⟨rfl, if_pos hlevel⟩⟩

/-! ### The read of a pin (R51, R52) -/

/-- A request that is the head of the queue is carried out with its parameters (R159). -/
theorem exec_request {c : Instr} {n : Nat} {f : List Byte → State → State} {s : State}
    (hevent : eventOf c = onRequest n f) (held : s.resetHeld = false)
    (hhead : headIs n (arrive (timeOf c) s) = true) :
    exec c s = .next (f (arrive (timeOf c) s).headParams (arrive (timeOf c) s)) := by
  rw [exec_of_running c held, hevent]
  exact congrArg Host.Outcome.next (whenDue_of_due hhead)

theorem modeByte (m : PinMode) : u8 m.num = numberIn [.off, .level, .edgeCount, .pulseWidth, .duty] m := by
  cases m <;> rfl

theorem roleByte (r : PinRole) :
    u8 r.num = numberIn [.general, .bumpFront, .bumpRear, .lift, .rain, .tiltPitch, .tiltRoll] r := by
  cases r <;> rfl

theorem levelByte (l : Level) : u8 (Level.num l) = numberIn [.high, .low] l := by
  cases l <;> rfl

theorem axisByte (a : AxisState) : u8 a.num = numberIn [.absent, .pending, .valid, .fault] a := by
  cases a <;> rfl

theorem resultBytes_eq (r : Option PinResult) :
    resultBytes r = match r with
      | none => [0#8, 0#8, 0#8]
      | some (.lvl .high) => [1#8, 0#8, 0#8]
      | some (.lvl .low) => [1#8, 0#8, 1#8]
      | some (.num n) => 1#8 :: twoBytes n := by
  rcases r with - | (l | n)
  · rfl
  · cases l <;> rfl
  · rfl

theorem resultBytes_length (r : Option PinResult) : (resultBytes r).length = 3 := by
  rcases r with - | (l | n) <;> rfl

/-- The axis of a tilt pin in an answer: its state and its angle. -/
def tiltAxisBytes (a : Axis) : List Byte :=
  numberIn [.absent, .pending, .valid, .fault] a.st :: signedBytes a.angle

theorem pinAxis_eq (s : State) (c : PinCfg) :
    s.pinAxis (if c.mode = .duty then c.role else .general) =
      if c.mode = .duty ∧ c.role = .tiltPitch then tiltAxisBytes s.spu.pitch
      else if c.mode = .duty ∧ c.role = .tiltRoll then tiltAxisBytes s.spu.roll
      else [0#8, 0#8, 0#8] := by
  by_cases hmode : c.mode = .duty
  · simp only [hmode, if_true, true_and]
    cases c.role <;> simp [State.pinAxis, tiltAxisBytes, axisByte] <;> rfl
  · simp [hmode, State.pinAxis]

theorem pinOfNat?_of_eq {n : Nat} {p : Pin} (h : n = p.val) : pinOfNat? n = some p := by
  subst h
  exact dif_pos p.isLt

/-- Settles O20: the request's effect on a pin, and the bytes of the pin's data by their fields. -/
theorem senseReadConsumesAGeneralResult : Obligations.SenseReadConsumesAGeneralResult := by
  intro dt s held u hhead
  have hexec : exec (.senseRead dt) s = .next (senseRead u.headParams u) :=
    exec_request (by unfold eventOf; rfl) held hhead
  rw [hexec]
  refine ⟨fun hbad => ?bad, fun p hsome hp => ?_⟩
  case bad =>
    rcases hbad with hnone | hlarge
    · rw [hnone]
      rfl
    · have hpin : pinOfNat? (byteAt u.headParams 0) = none := dif_neg (not_lt.mpr hlarge)
      simp [senseRead, hpin]
  intro x
  refine ⟨?ok, rfl, ?flags, ?data⟩
  case ok =>
    have hempty : u.headParams.isEmpty = false := by simpa using hsome
    simp only [senseRead, hempty, pinOfNat?_of_eq hp]
    rfl
  case flags =>
    obtain ⟨a, b, c, hresult⟩ := List.length_eq_three.mp (resultBytes_length x.result)
    simp only [State.pinData]
    rw [hresult]
    rfl
  case data =>
    simp only [State.pinData, modeByte, roleByte, levelByte, resultBytes_eq, pinAxis_eq]
    rfl

end Sys2Proof.Machine
end

section
/-! The Motion Gate: the figures of an evaluation (R61 to R72), and what it posts (R73, R74, R76, R77). -/

namespace Sys2Proof.Machine

/-! ### The figures of an evaluation -/

/-- The gate's figures with the last posted values and the counters given. -/
def Mgt.unposted (posted : PerSix Int) (cnt : MgtCounters) (m : Mgt) : Mgt :=
  { m with posted := posted, cnt := cnt }

/-- What follows the figures of an evaluation changes the last posted values and the counters alone. -/
theorem postDue_unposted (posted : PerSix Int) (cnt : MgtCounters) (s : State) :
    (postDue s).mgt.unposted posted cnt = s.mgt.unposted posted cnt := by
  unfold postDue
  split
  · rfl
  · refine foldl_keeps postIfDue (fun t => t.mgt.unposted posted cnt) (fun t n => ?_) nodes s
    unfold postIfDue
    (repeat' split) <;> simp [gatePost, recordPost, onMgt, Mgt.unposted]

theorem evaluate_mgt (s : State) :
    (evaluate s).mgt = s.evaluated.unposted (evaluate s).mgt.posted (evaluate s).mgt.cnt :=
  postDue_unposted (evaluate s).mgt.posted (evaluate s).mgt.cnt { s with mgt := s.evaluated }

/-- An evaluation changes the gate and the queue of the Drive Link Controller alone. -/
theorem evaluate_eq (s : State) : evaluate s = { s with dlc := (evaluate s).dlc, mgt := (evaluate s).mgt } := by
  have hsame : ({ evaluate s with dlc := s.dlc, mgt := s.mgt } : State) = s := by
    unfold evaluate postDue
    split
    · rfl
    · refine foldl_keeps postIfDue (fun t => { t with dlc := s.dlc, mgt := s.mgt }) (fun t n => ?_) nodes
        { s with mgt := s.evaluated }
      unfold postIfDue
      (repeat' split) <;> simp [gatePost, recordPost, onMgt]
  exact congrArg (fun t : State => { t with dlc := (evaluate s).dlc, mgt := (evaluate s).mgt }) hsame

theorem figures_eq (s : State) : s.figures = s.evaluated := by
  have hsource : (evaluate s).mgt.source = s.selectedSource := congrArg Mgt.source (evaluate_mgt s)
  have hfigures : s.figures = s.evaluated.unposted s.mgt.posted { s.mgt.cnt with
      sourceChanges :=
        if (evaluate s).mgt.source = s.mgt.source then s.mgt.cnt.sourceChanges
        else bump s.mgt.cnt.sourceChanges } :=
    postDue_unposted _ _ { s with mgt := s.evaluated }
  rw [hfigures, hsource]
  rfl

/-! ### The posts of an evaluation (R73, R74) -/

/-- Posting what is due in turn is posting what was due at the start, an address at most once. -/
theorem PostsDue.foldl_eq {f g : State → Node → State} (h : PostsDue f) {y : State}
    (agree : ∀ x n, x.outView = y.outView → x.bankView = y.bankView →
      x.mgt.posted.get n = y.mgt.posted.get n → f x n = g x n) :
    ∀ (l : List Node), l.Nodup → ∀ x : State, x.outView = y.outView → x.bankView = y.bankView →
      (∀ n ∈ l, x.mgt.posted.get n = y.mgt.posted.get n) → l.foldl f x = l.foldl g x
  | [], _, _, _, _, _ => rfl
  | n :: rest, hnodup, x, hout, hbank, hposted => by
    obtain ⟨hn, hrest⟩ := List.nodup_cons.mp hnodup
    have hfirst : f x n = g x n := agree x n hout hbank (hposted n (List.mem_cons_self ..))
    rw [List.foldl_cons, List.foldl_cons, ← hfirst]
    refine h.foldl_eq agree rest hrest (f x n) ((h.out x n).trans hout) ((h.bank x n).trans hbank) fun m hm => ?_
    rw [h.other x n m (fun he => hn (he ▸ hm))]
    exact hposted m (List.mem_cons_of_mem n hm)

theorem duePost_eq {s y : State} (hkind : ∀ n, y.nodeKind n = s.nodeKind n) (n : Node) :
    s.duePost y.mgt n = (y.dueAt n).filter fun v => v.speed ≠ s.mgt.posted.get n := by
  unfold State.duePost State.dueAt
  rw [hkind] <;> rfl

theorem originOf_eq (x : Source) : originOf x = x.origin := by
  cases x <;> rfl

/-- The part with the figures of its evaluation, and nothing posted yet. -/
def State.formed (s : State) : State := { s with mgt := s.figures }

/-- What an evaluation posts at an address by `post`, in the terms of the figures. -/
def State.postedBy (s : State) (post : Node → PostValue → Origin → State → State) (x : State) (n : Node) : State :=
  match s.duePost s.figures n with
  | some v => post n v (originOf s.figures.source) x
  | none => x

section
variable {s x : State} {n : Node} {post : Node → PostValue → Origin → State → State}

/-- An address whose value due is the last posted one posts nothing, any other one its value. -/
theorem postedBy_eq (hout : x.outView = s.formed.outView) (hbank : x.bankView = s.formed.bankView)
    (hposted : x.mgt.posted.get n = s.formed.mgt.posted.get n) :
    s.postedBy post x n =
      match x.dueAt n with
      | some v => if x.mgt.posted.get n = v.speed then x else post n v x.mgt.source.origin x
      | none => x := by
  have hdue : x.dueAt n = s.formed.dueAt n := dueAt_congr (nodeKind_of_bank hbank n) hout
  have hsource : x.mgt.source = s.figures.source := congrArg Prod.fst hout
  have hlast : s.formed.mgt.posted.get n = s.mgt.posted.get n := rfl
  have hpost : s.duePost s.figures n = (x.dueAt n).filter fun v => v.speed ≠ x.mgt.posted.get n := by
    rw [hdue, hposted, hlast]
    exact duePost_eq (y := s.formed) (fun _ => rfl) n
  rw [State.postedBy, hpost, hsource, originOf_eq]
  cases x.dueAt n with
  | none => rfl
  | some v =>
    by_cases hv : x.mgt.posted.get n = v.speed
    · simp [Option.filter, hv]
    · simp [Option.filter, hv, Ne.symm hv]

end

/-- The posts of an evaluation, each in turn, are those that its figures ask for. -/
theorem PostsDue.foldl_formed {f : State → Node → State} (h : PostsDue f) {s : State}
    {post : Node → PostValue → Origin → State → State}
    (agree : ∀ x n, f x n = match x.dueAt n with
      | some v => if x.mgt.posted.get n = v.speed then x else post n v x.mgt.source.origin x
      | none => x) :
    nodes.foldl f { s with mgt := s.evaluated } = [0, 1, 2, 3, 4, 5].foldl (s.postedBy post) s.formed := by
  have hformed : ({ s with mgt := s.evaluated } : State) = s.formed := by rw [State.formed, figures_eq]
  rw [hformed]
  refine h.foldl_eq (fun x n hout hbank hposted => ?_) nodes (by decide) s.formed rfl rfl fun n _ => rfl
  rw [agree, postedBy_eq hout hbank hposted]

theorem evaluationPosts : EvaluationPosts := by
  intro s formed posted
  refine ⟨fun htest => ?_, fun htest => ?_⟩
  · have hformed : formed = { s with mgt := s.evaluated } := by rw [← figures_eq]
    rw [hformed]
    exact if_pos htest
  · have hposts : evaluate s = nodes.foldl postIfDue { s with mgt := s.evaluated } :=
      if_neg (by simp only [State.dEchoRunning, State.testRunning] at htest ⊢; simp [htest])
    rw [hposts]
    exact postsDue_postIfDue.foldl_formed (post := postCounted) fun x n => rfl

/-- A set-point posted behind a zero, kept as the last posted value and counted. -/
def postBehindCounted (n : Node) (v : PostValue) (o : Origin) (x : State) : State :=
  recordPost n v (postBehind n v o x)

theorem evaluationFollowsTheZeros : EvaluationFollowsTheZeros := by
  refine ⟨fun s => postsDue_postBehindIfDue.foldl_formed (post := postBehindCounted) fun x n => rfl, ?_⟩
  intro n v o s _ d same
  have hmatch (l : List QEntry) : l.any (QEntry.matches n v) = true ↔ ∃ e ∈ l, same e := by
    simp only [List.any_eq_true, matches_iff]
    rfl
  refine ⟨fun hqueue hbehind => ?_, fun h => ?_⟩
  · have hnone : s.dlc.behind.any (QEntry.matches n v) = false := by
      rw [Bool.eq_false_iff, Ne, hmatch]
      rintro ⟨e, he, hsame⟩
      exact hbehind e he hsame
    have hcond : (s.dlc.queue.any (QEntry.matches n v) && !s.dlc.behind.any (QEntry.matches n v)) = true := by
      rw [(hmatch _).mpr hqueue, hnone]
      rfl
    exact if_pos hcond
  · refine if_neg fun hcond => ?_
    obtain ⟨hqueue, hbehind⟩ := Bool.and_eq_true_iff.mp hcond
    obtain ⟨e, he, hsame⟩ := (hmatch _).mp hqueue
    rcases h with hnone | hsome
    · exact hnone e he hsame
    · rw [(hmatch _).mpr hsome] at hbehind
      exact absurd hbehind (by decide)

/-! ### The source, the command and the limits -/

section
variable {s : State}

theorem navLive_eq_some_iff (c : NavCmd) :
    s.navLive = some c ↔ s.mgt.cmd = some c ∧ c.mode = .drive ∧ s.mgt.age.st = .running := by
  unfold State.navLive
  split
  · next c' hc' =>
    rw [hc', Option.ite_none_right_eq_some, Bool.and_eq_true, beq_iff_eq, beq_iff_eq, Option.some.injEq]
    constructor
    · rintro ⟨⟨hmode, hage⟩, rfl⟩
      exact ⟨rfl, hmode, hage⟩
    · rintro ⟨rfl, hmode, hage⟩
      exact ⟨⟨hmode, hage⟩, rfl⟩
  · next hnone => simp [hnone]

theorem navLive_eq_none (h : ∀ c, ¬ (s.mgt.cmd = some c ∧ c.mode = .drive ∧ s.mgt.age.st = .running)) :
    s.navLive = none :=
  Option.eq_none_iff_forall_ne_some.mpr fun c hc => h c ((navLive_eq_some_iff c).mp hc)

theorem selectedSource_of_ctx2 {c : Ctx} (h3 : s.rse.ctx3 = none) (h2 : s.rse.ctx2 = some c) :
    s.selectedSource = .resp2 := by
  rw [State.selectedSource, State.runningCtx, h3, h2]
  rfl

theorem selectedSource_of_ctx1 {c : Ctx} (h3 : s.rse.ctx3 = none) (h2 : s.rse.ctx2 = none)
    (h1 : s.rse.ctx1 = some c) : s.selectedSource = .resp1 := by
  rw [State.selectedSource, State.runningCtx, h3, h2, h1]
  rfl

theorem selectedSource_of_no_ctx (h : s.ctxHeld = false) :
    s.selectedSource = if s.dkc.dock = .undocked ∨ s.dkc.dock = .returnSeek then .nav else .dock := by
  obtain ⟨h1, h2, h3⟩ := (ctxHeld_eq_false_iff s).mp h
  rw [State.selectedSource, State.runningCtx, h3, h2, h1]
  cases s.dkc.dock <;> rfl

/-- The running context of a response source is the one at its level (R61). -/
theorem runningCtx_of_selected :
    (s.selectedSource = .resp1 → s.runningCtx = s.rse.ctx1.map fun c => (1, c)) ∧
    (s.selectedSource = .resp2 → s.runningCtx = s.rse.ctx2.map fun c => (2, c)) ∧
    (s.selectedSource = .resp3 → s.runningCtx = s.rse.ctx3.map fun c => (3, c)) := by
  unfold State.selectedSource State.runningCtx
  cases s.rse.ctx3 with
  | some c3 => simp [Source.ofLevel]
  | none =>
    cases s.rse.ctx2 with
    | some c2 => simp [Source.ofLevel]
    | none =>
      cases s.rse.ctx1 with
      | some c1 => simp [Source.ofLevel]
      | none => by_cases hdrives : s.dkc.dock.drives = true <;> simp [hdrives]

/-- The pair of a response source is that of its context (R62). -/
theorem sourcePair_of_running {l : Nat} {c : Ctx} {src : Source} (hsrc : src ≠ .nav) (hdock : src ≠ .dock)
    (h : s.runningCtx = some (l, c)) : s.sourcePair src = (c.left, c.right) := by
  cases src <;> first | contradiction | simp only [State.sourcePair, h]

theorem nearWirePercent_of_near {i : Slot} {src : Source} (hzone : s.mgt.zone = some i) (hsrc : src ≠ .dock)
    (hlevel : 0 < s.nearLevel i) (hprox : s.nearLevel i ≤ s.mgt.prox) :
    s.nearWirePercent src = s.nearPercent i := by
  simp [State.nearWirePercent, hzone, hsrc, hlevel, hprox]

theorem nearWirePercent_of_far {i : Slot} {src : Source} (hzone : s.mgt.zone = some i)
    (hfar : s.nearLevel i = 0 ∨ s.mgt.prox < s.nearLevel i) : s.nearWirePercent src = 100 := by
  rcases hfar with hfar | hfar <;> simp [State.nearWirePercent, hzone, hfar]

theorem nearWirePercent_of_free {src : Source} (h : s.mgt.zone = none ∨ src = .dock) :
    s.nearWirePercent src = 100 := by
  unfold State.nearWirePercent
  split
  · next i hi => simp [h.resolve_left (by simp [hi])]
  · rfl

theorem baseLimits_of_contact {src : Source} (h : s.dkc.dock = .contact ∨ s.dkc.dock = .docked) :
    s.baseLimits src = (0, 0) := by
  rcases h with h | h <;> rw [State.baseLimits, h]

theorem baseLimits_of_ground {src : Source} (hcontact : s.dkc.dock ≠ .contact) (hdocked : s.dkc.dock ≠ .docked)
    (hsrc : src ≠ .dock) : s.baseLimits src = s.groundLimits := by
  have hsrc' : (src != .dock) = true := bne_iff_ne.mpr hsrc
  unfold State.baseLimits
  cases hd : s.dkc.dock <;> first | contradiction | exact if_pos hsrc'

/-- The limits that a dock state sets while DOCK is the source (R69). -/
theorem baseLimits_of_dock {d : DockState} (hd : s.dkc.dock = d) :
    (d = .follow → s.baseLimits .dock = (s.followSpeed, s.turnDelta)) ∧
    (d = .approach → s.baseLimits .dock = (s.approachSpeed, s.turnDelta)) ∧
    (d = .departing ∨ d = .backoff → s.baseLimits .dock = (0, s.departureSpeed)) ∧
    (d = .dockFault → s.baseLimits .dock = (0, 0)) := by
  rw [State.baseLimits, hd]
  cases d <;> simp

/-! ### The blade (R72) -/

/-- Every condition of the blade gate, as one test. -/
theorem bladeValue_of_live {c : NavCmd} {i : Slot} {src : Source} (hlive : s.navLive = some c)
    (hzone : s.mgt.zone = some i) :
    s.bladeValue src =
      if s.bladeSource src && s.dkc.dock == .undocked && !s.liftCond && s.zoneBlade i &&
        s.derateBlade s.slopeBand then min c.blade (s.zoneBladeMax i) else 0 := by
  rw [State.bladeValue, hlive, hzone]

theorem bladeValue_of_not_live {src : Source} (h : s.navLive = none ∨ s.mgt.zone = none) :
    s.bladeValue src = 0 := by
  unfold State.bladeValue
  split
  · next c i hlive hzone =>
    rcases h with h | h
    · exact absurd (h.symm.trans hlive) nofun
    · exact absurd (h.symm.trans hzone) nofun
  · rfl

/-- A condition of the blade gate that does not hold stops the blade. -/
theorem bladeValue_of_stopped {src : Source} (h : s.bladeSource src = false ∨ s.dkc.dock ≠ .undocked ∨
    s.liftCond = true ∨ (∃ i, s.mgt.zone = some i ∧ s.zoneBlade i = false) ∨ s.derateBlade s.slopeBand = false) :
    s.bladeValue src = 0 := by
  unfold State.bladeValue
  split
  · next c i hlive hzone =>
    refine if_neg fun hcond => ?_
    simp only [Bool.and_eq_true, beq_iff_eq, Bool.not_eq_true'] at hcond
    obtain ⟨⟨⟨⟨hsource, hdock⟩, hlift⟩, hzoneBlade⟩, hderate⟩ := hcond
    rcases h with h | h | h | ⟨j, hj, h⟩ | h
    · simp [h] at hsource
    · exact h hdock
    · simp [h] at hlift
    · cases hj.symm.trans hzone
      simp [h] at hzoneBlade
    · simp [h] at hderate
  · rfl

theorem bladeSource_of_resp1 {k : Ctx} (hsource : s.selectedSource = .resp1) (hk : s.rse.ctx1 = some k) :
    s.bladeSource .resp1 = !k.bladeStop := by
  rw [State.bladeSource, runningCtx_of_selected.1 hsource, hk]
  rfl

end

/-- Settles O24: each figure is the one of `State.evaluated`, whose definitions give the cases. -/
theorem evaluationFormsTheOutput : Obligations.EvaluationFormsTheOutput := by
  refine ⟨evaluationPosts, ?_⟩
  intro s m slope live base pair dock
  have hm : m = s.evaluated.unposted m.posted m.cnt := evaluate_mgt s
  have hframe : evaluate s = { s with dlc := (evaluate s).dlc, mgt := m } := evaluate_eq s
  have hsource : m.source = s.selectedSource := congrArg Mgt.source hm
  have hband : m.band = s.slopeBand := congrArg Mgt.band hm
  have hpn : m.pn = s.nearWirePercent m.source := (congrArg Mgt.pn hm).trans (by rw [hsource]; rfl)
  have hbase : (m.fb, m.rb) = s.baseLimits m.source := by rw [hsource, hm]; rfl
  have hpair : ((m.outL, m.outR) = scalePair m.feff m.reff (s.sourcePair m.source).1 (s.sourcePair m.source).2) ∧
      m.chosen = chosenSide m.feff m.reff (s.sourcePair m.source).1 (s.sourcePair m.source).2 := by
    rw [hsource, hm]
    exact ⟨rfl, rfl⟩
  have hblade : m.outBlade = s.bladeValue m.source := (congrArg Mgt.outBlade hm).trans (by rw [hsource]; rfl)
  have hstopped (h : s.bladeSource m.source = false ∨ dock ≠ .undocked ∨ s.liftCond = true ∨
      (∃ i, s.mgt.zone = some i ∧ s.zoneBlade i = false) ∨ s.derateBlade m.band = false) : m.outBlade = 0 := by
    rw [hband] at h
    rw [hblade, bladeValue_of_stopped h, Nat.cast_zero]
  have hctx (l : Nat) (c : Ctx) (hnav : m.source ≠ .nav) (hdock : m.source ≠ .dock)
      (hrun : s.runningCtx = some (l, c)) : pair c.left c.right := by
    rw [sourcePair_of_running hnav hdock hrun] at hpair
    exact hpair
  refine ⟨?resp3, ?resp2, ?resp1, ?noCtx, hband, ?percent, ?near, ?far, ?free, ?docked, ?away, ?feff, ?reff,
    ?live, ?stale, ?dockPair, ?ctx1, ?ctx2, ?ctx3, ?bladeRuns, ?bladeStands, hframe, ?held⟩
  case resp3 =>
    intro h
    obtain ⟨c, hc⟩ := Option.isSome_iff_exists.mp h
    rw [hsource, selectedSource_of_ctx3 hc]
  case resp2 =>
    intro h3 h
    obtain ⟨c, hc⟩ := Option.isSome_iff_exists.mp h
    rw [hsource, selectedSource_of_ctx2 h3 hc]
  case resp1 =>
    intro h3 h2 h
    obtain ⟨c, hc⟩ := Option.isSome_iff_exists.mp h
    rw [hsource, selectedSource_of_ctx1 h3 h2 hc]
  case noCtx =>
    intro h
    rw [hsource, selectedSource_of_no_ctx h]
  case percent =>
    rw [hband, hm]
    rfl
  case near =>
    intro i hzone hdock hlevel hprox
    rw [hpn, nearWirePercent_of_near hzone hdock hlevel hprox]
  case far =>
    intro i hzone hfar
    rw [hpn, nearWirePercent_of_far hzone hfar]
  case free =>
    intro h
    rw [hpn, nearWirePercent_of_free h]
  case docked =>
    intro h
    rw [baseLimits_of_contact h] at hbase
    exact Prod.mk.inj hbase
  case away =>
    intro hcontact hdocked
    refine ⟨fun hsrc => ?_, fun hsrc => ?_⟩
    · rw [baseLimits_of_ground hcontact hdocked hsrc] at hbase
      refine ⟨fun i hi => ?_, fun hnone => ?_⟩
      · rw [State.groundLimits, hi] at hbase
        exact Prod.mk.inj hbase
      · rw [State.groundLimits, hnone] at hbase
        exact Prod.mk.inj hbase
    · rw [hsrc] at hbase
      obtain ⟨hfollow, happroach, hdepart, hfault⟩ := baseLimits_of_dock (s := s) rfl
      exact ⟨fun h => Prod.mk.inj (hbase.trans (hfollow h)), fun h => Prod.mk.inj (hbase.trans (happroach h)),
        fun h => Prod.mk.inj (hbase.trans (hdepart h)), fun h => Prod.mk.inj (hbase.trans (hfault h))⟩
  case feff =>
    rw [hm]
    rfl
  case reff =>
    rw [hm]
    rfl
  case live =>
    intro hnav c hc
    have hp : s.sourcePair m.source = (c.left, c.right) := by
      rw [hnav, State.sourcePair, (navLive_eq_some_iff c).mpr hc]
    rw [hp] at hpair
    exact hpair
  case stale =>
    intro hnav hnone
    have hp : s.sourcePair m.source = (0, 0) := by
      rw [hnav, State.sourcePair, navLive_eq_none hnone]
    rw [hp] at hpair
    obtain ⟨hout, hchosen⟩ := hpair
    obtain ⟨hL, hR⟩ := Prod.mk.inj (hout.trans (scalePair_zero _ _))
    exact ⟨hL, hR, hchosen.trans (chosenSide_of_neither (Nat.zero_le _) (Nat.zero_le _))⟩
  case dockPair =>
    intro hdock
    rw [hdock] at hpair
    exact hpair
  case ctx1 =>
    intro c hsrc hc
    have hrun := runningCtx_of_selected.1 (hsource.symm.trans hsrc)
    rw [hc] at hrun
    exact hctx 1 c (by rw [hsrc]; decide) (by rw [hsrc]; decide) hrun
  case ctx2 =>
    intro c hsrc hc
    have hrun := runningCtx_of_selected.2.1 (hsource.symm.trans hsrc)
    rw [hc] at hrun
    exact hctx 2 c (by rw [hsrc]; decide) (by rw [hsrc]; decide) hrun
  case ctx3 =>
    intro c hsrc hc
    have hrun := runningCtx_of_selected.2.2 (hsource.symm.trans hsrc)
    rw [hc] at hrun
    exact hctx 3 c (by rw [hsrc]; decide) (by rw [hsrc]; decide) hrun
  case bladeRuns =>
    intro c i hc hzone hdock hlift hzoneBlade hderate hsrc
    have hbladeSource : s.bladeSource m.source = true := by
      rcases hsrc with hnav | ⟨hresp1, k, hk, hstop⟩
      · rw [hnav, State.bladeSource]
      · rw [hresp1, bladeSource_of_resp1 (hsource.symm.trans hresp1) hk, hstop]
        rfl
    rw [hband] at hderate
    have hdock' : s.dkc.dock = .undocked := hdock
    rw [hblade, bladeValue_of_live ((navLive_eq_some_iff c).mpr hc) hzone, hbladeSource, hdock', hlift, hzoneBlade,
      hderate]
    rfl
  case bladeStands =>
    rintro (hnone | hzone | hdock | hlift | hzoneBlade | hderate | hsrc | hsrc | hsrc | ⟨hsrc, k, hk, hstop⟩)
    · rw [hblade, bladeValue_of_not_live (.inl (navLive_eq_none hnone)), Nat.cast_zero]
    · rw [hblade, bladeValue_of_not_live (.inr hzone), Nat.cast_zero]
    · exact hstopped (.inr (.inl hdock))
    · exact hstopped (.inr (.inr (.inl hlift)))
    · exact hstopped (.inr (.inr (.inr (.inl hzoneBlade))))
    · exact hstopped (.inr (.inr (.inr (.inr hderate))))
    · exact hstopped (.inl (by rw [hsrc]; rfl))
    · exact hstopped (.inl (by rw [hsrc]; rfl))
    · exact hstopped (.inl (by rw [hsrc]; rfl))
    · refine hstopped (.inl ?_)
      rw [hsrc, bladeSource_of_resp1 (hsource.symm.trans hsrc) hk, hstop]
      rfl
  case held =>
    rw [hm]
    exact ⟨rfl, rfl, rfl, rfl⟩

end Sys2Proof.Machine
end

section
/-! The N-link's receiver: the framer and what it discards (R156), MOTION frames and their age (R62 to R65), the
dispatch of a frame (R157, R158, R169), and the setting of an event flag (R161). -/

namespace Sys2Proof.Machine

/-! ### The framer (R156) -/

theorem u8_toNat {n : Nat} (h : n < 256) : (u8 n).toNat = n := by
  simpa [u8] using h

/-- The bytes of a frame whose payload is no longer than 96, up to its CRC. -/
theorem takeBytes_of_frame {f : NFrame} {a b : Byte} {s : State} (hs : s.nli.framer.st = .hunt)
    (hlen : f.payload.length ≤ 96) :
    takeBytes (0x7E#8 :: (f.body ++ [a, b])) s = frameDone (f.body ++ [a, b]) s := by
  have hn : (u8 f.payload.length).toNat = f.payload.length := u8_toNat (by omega)
  exact takeBytes_wholeFrame (u8 f.payload.length) (u8 (16 * f.dst + f.src)) f.kind f.tag a b f.payload s hs
    (by omega) hn.symm

section
variable {f : NFrame} (hlen : f.payload.length ≤ 96)
include hlen

theorem byteAt_body_length (rest : List Byte) : byteAt (f.body ++ rest) 0 = f.payload.length :=
  u8_toNat (by omega)

theorem body_length : f.body.length = 4 + byteAt (f.body ++ []) 0 := by
  rw [byteAt_body_length hlen, NFrame.body]
  simp only [List.length_cons]
  omega

/-- The check of a frame judges the two bytes that follow the payload. -/
theorem frameCrcOk_iff (rest : List Byte) :
    frameCrcOk (f.body ++ rest) = true ↔ rest = crcBytes f.body := by
  have hbody : 4 + byteAt (f.body ++ rest) 0 = f.body.length := by
    rw [byteAt_body_length hlen, NFrame.body]
    simp only [List.length_cons]
    omega
  rw [frameCrcOk, hbody, List.drop_left, List.take_left, beq_iff_eq]

/-- The fields read from the bytes of a frame are the frame's own. -/
theorem frameOf_body (hdst : f.dst < 16) (hsrc : f.src < 16) (rest : List Byte) :
    frameOf (f.body ++ rest) = f := by
  have haddr : byteAt (f.body ++ rest) 1 = 16 * f.dst + f.src := u8_toNat (by omega)
  have hpayload : ((f.body ++ rest).drop 4).take (byteAt (f.body ++ rest) 0) = f.payload := by
    rw [byteAt_body_length hlen]
    exact List.take_left
  have hdst' : (16 * f.dst + f.src) / 16 = f.dst := by omega
  have hsrc' : (16 * f.dst + f.src) % 16 = f.src := by omega
  rw [frameOf, hpayload, haddr, hdst', hsrc']
  rfl

theorem nFrameWf_bytes : nFrameWf f.bytes = true := by
  have hn : (u8 f.payload.length).toNat = f.payload.length := u8_toNat (by omega)
  simp [NFrame.bytes, NFrame.body, nFrameWf, hn, hlen, crcBytes, be16]

end

/-- Settles O25: the framer's bytes are the frame's body and its own CRC. -/
theorem framerTakesTheWholeFrame : Obligations.FramerTakesTheWholeFrame := by
  intro dt f s held hdst hsrc hlen hhunt
  have hcrc : frameCrcOk (f.body ++ crcBytes f.body) = true := (frameCrcOk_iff hlen _).mpr rfl
  have htake : takeBytes f.bytes (arrive dt s) = received f (setFramer .hunt [] (arrive dt s)) := by
    refine (takeBytes_of_frame hhunt hlen).trans ?_
    change frameDone (f.body ++ crcBytes f.body) _ = _
    simp only [frameDone, hcrc, frameOf_body hlen hdst hsrc]
    rfl
  refine ⟨nFrameWf_bytes hlen, ?_⟩
  rw [exec_of_running _ held]
  exact congrArg Host.Outcome.next htake

/-! ### What the framer discards -/

/-- A frame that ends before it is complete leaves the framer in the middle of it. -/
theorem takeBytes_of_truncation {bytes : List Byte} {s : State} (hs : s.nli.framer.st = .hunt)
    (h : truncationWf bytes = true) : ∃ st b, st ≠ .hunt ∧ takeBytes bytes s = setFramer st b s := by
  match bytes with
  | [] => cases h
  | [d] =>
    cases eq_of_beq h
    exact ⟨.header, [], nofun, takeByte_start s hs⟩
  | d :: n :: rest =>
    simp only [truncationWf, Bool.and_eq_true, Bool.or_eq_true, beq_iff_eq, decide_eq_true_eq] at h
    obtain ⟨rfl, h⟩ := h
    rw [takeBytes_cons, takeByte_start s hs]
    by_cases hheader : rest.length < 3
    · exact ⟨.header, [] ++ n :: rest, nofun, takeBytes_header _ [] s (by simp only [List.length]; omega)⟩
    · obtain ⟨hn, hrest⟩ := h.resolve_left hheader
      obtain ⟨a, b, c, p, rfl⟩ : ∃ a b c p, rest = a :: b :: c :: p := by
        match rest, hheader with
        | a :: b :: c :: p, _ => exact ⟨a, b, c, p, rfl⟩
        | [], hh => exact absurd (Nat.zero_lt_succ 2) hh
        | [_], hh => exact absurd (Nat.lt_succ_of_lt (Nat.lt_succ_self 1)) hh
        | [_, _], hh => exact absurd (Nat.lt_succ_self 2) hh
      simp only [List.length_cons] at hrest
      have hsplit : n :: a :: b :: c :: p = [n, a, b, c] ++ p := rfl
      rw [hsplit, takeBytes_append, takeBytes_wholeHeader n a b c s hn]
      by_cases hpayload : p.length < n.toNat
      · rw [if_neg (by omega)]
        refine ⟨.payload, [n, a, b, c] ++ p, nofun, takeBytes_payload p _ s (Nat.succ_pos 3) ?_⟩
        change 4 + p.length < 4 + n.toNat
        omega
      · obtain ⟨q, r, rfl, hq, hr⟩ : ∃ q r, p = q ++ r ∧ q.length = n.toNat ∧ r.length < 2 :=
          ⟨p.take n.toNat, p.drop n.toNat, (List.take_append_drop ..).symm, by rw [List.length_take]; omega,
            by rw [List.length_drop]; omega⟩
        rw [takeBytes_append, takeBytes_wholePayload n a b c q s hq]
        refine ⟨.check, [n, a, b, c] ++ q ++ r, nofun, takeBytes_check r _ s (Nat.succ_pos _) ?_⟩
        change ([n, a, b, c] ++ q).length + r.length < 6 + n.toNat
        simp only [List.length_append, List.length_cons, List.length_nil]
        omega

/-- A header whose length is above 96 is discarded when it is complete. -/
theorem takeBytes_of_overrun {bytes : List Byte} {s : State} (hs : s.nli.framer.st = .hunt)
    (h : overrunWf bytes = true) : takeBytes bytes s = linkError .length (setFramer .hunt [] s) := by
  match bytes with
  | [] => cases h
  | [_] => cases h
  | d :: n :: rest =>
    simp only [overrunWf, Bool.and_eq_true, beq_iff_eq, decide_eq_true_eq] at h
    obtain ⟨⟨rfl, hn⟩, hlen⟩ := h
    obtain ⟨a, b, c, rfl⟩ := List.length_eq_three.mp hlen
    rw [takeBytes_cons, takeByte_start s hs, takeBytes_longHeader n a b c s hn]

/-- Settles O26: where each kind of bad frame leaves the framer, and its cause. -/
theorem badFramesAreDiscarded : Obligations.BadFramesAreDiscarded := by
  intro dt s held hhunt u
  refine ⟨fun f a b hlen hbad => ?crc, fun bytes hwf => ?truncated, fun bytes hwf => ?overrun⟩
  case crc =>
    have hcrc : frameCrcOk (f.body ++ [a, b]) = false := by
      rw [Bool.eq_false_iff, Ne, frameCrcOk_iff hlen]
      exact hbad
    have htake : takeBytes (0x7E#8 :: (f.body ++ [a, b])) (arrive dt s) = linkError .crc u := by
      rw [takeBytes_of_frame hhunt hlen]
      simp only [frameDone, hcrc]
      rfl
    rw [exec_of_running _ held]
    exact congrArg Host.Outcome.next htake
  case truncated =>
    obtain ⟨st, b, hst, htake⟩ := takeBytes_of_truncation hhunt hwf
    have htruncate : truncate (takeBytes bytes (arrive dt s)) = linkError .truncated u := by
      rw [htake]
      exact if_neg hst
    rw [exec_of_running _ held]
    exact congrArg Host.Outcome.next htruncate
  case overrun =>
    rw [exec_of_running _ held]
    exact congrArg Host.Outcome.next (takeBytes_of_overrun hhunt hwf)

/-! ### MOTION frames (R63, R64) -/

section
variable {p : List Byte} {s : State}

theorem motionFrame_of_wrong_length (h : p.length ≠ 8) :
    motionFrame p s = countMgt (fun c => { c with malformed := bump c.malformed }) s := if_pos h

theorem motionFrame_of_duplicate (h : p.length = 8) (hd : motionSkipped s.mgt.cmd (byteAt p 0) = none) :
    motionFrame p s = countMgt (fun c => { c with duplicate := bump c.duplicate }) s := by
  rw [motionFrame, if_neg (not_not_intro h), hd]

theorem motionFrame_of_accepted {k : Nat} (h : p.length = 8)
    (hk : motionSkipped s.mgt.cmd (byteAt p 0) = some k) :
    motionFrame p s = evaluate (onMgt (motionTaken p k) s) := by
  rw [motionFrame, if_neg (not_not_intro h), hk]

end

theorem motionSkipped_same {c : NavCmd} {q : Nat} (h : c.seq = q) : motionSkipped (some c) q = none :=
  if_pos h.symm

theorem motionSkipped_next {c : NavCmd} {q : Nat} (hne : c.seq ≠ q) (h : q = (c.seq + 1) % 256) :
    motionSkipped (some c) q = some 0 := by
  rw [motionSkipped, if_neg (Ne.symm hne), if_pos h]

theorem motionSkipped_gap {c : NavCmd} {q : Nat} (hne : c.seq ≠ q) (h : q ≠ (c.seq + 1) % 256) :
    motionSkipped (some c) q = some ((q + 511 - c.seq) % 256) := by
  rw [motionSkipped, if_neg (Ne.symm hne), if_neg h]

/-- A mode above 1 is brought into range (log entry 14). -/
theorem modeClamp (n : Nat) : (if 1 < n then 1 else 0) = if n ≤ 1 then 0 else 1 := by
  split <;> split <;> omega

/-- Settles O27: the sequence number decides, and the accepted command is `motionTaken`. -/
theorem motionFrameIsJudged : Obligations.MotionFrameIsJudged := by
  intro p s m q count left right blade changed clamps taken
  have htaken (k : Nat) : onMgt (motionTaken p k) s = taken k := by
    have hclamps : motionClamps p = clamps := by
      have hblade : (if (motionCmd p).blade = wordAt p 6 then 0 else 1) = changed blade (wordAt p 6) :=
        if_congr Int.ofNat_inj.symm rfl rfl
      rw [motionClamps, modeClamp, hblade]
      rfl
    simp only [onMgt, motionTaken, hclamps]
    rfl
  refine ⟨fun hlen => motionFrame_of_wrong_length hlen, fun hlen => ⟨fun c hc hseq => ?duplicate, fun hnone => ?first,
    fun c hc hne hnext => ?next, fun c hc hne hgap => ?gap⟩⟩
  case duplicate => exact motionFrame_of_duplicate hlen (hc ▸ motionSkipped_same hseq)
  case first =>
    have hk : motionSkipped s.mgt.cmd (byteAt p 0) = some 0 := by
      rw [show s.mgt.cmd = none from hnone]
      rfl
    rw [motionFrame_of_accepted hlen hk, htaken]
  case next => rw [motionFrame_of_accepted hlen (hc ▸ motionSkipped_next hne hnext), htaken]
  case gap => rw [motionFrame_of_accepted hlen (hc ▸ motionSkipped_gap hne hgap), htaken]

/-! ### The dispatch of a frame (R157, R158, R169) -/

/-- The part with a received frame counted. -/
def State.counted (s : State) : State := countNli (fun c => { c with received := bump c.received }) s

section
variable {f : NFrame} {s : State}

theorem received_of_not_claimed (h : f.dst ≠ 1) :
    received f s = countNli (fun c => { c with notClaimed := bump c.notClaimed }) s.counted := if_pos h

theorem received_of_claimed (h : f.dst = 1) :
    received f s = if s.nEchoing then echoFrame f s.counted else dispatch f s.counted :=
  if_neg (not_not_intro h)

theorem received_of_echoing (h : f.dst = 1) (hecho : s.nEchoing = true) :
    received f s = echoFrame f s.counted := (received_of_claimed h).trans (if_pos hecho)

theorem received_of_dispatch (h : f.dst = 1) (hecho : s.nEchoing = false) :
    received f s = dispatch f s.counted := (received_of_claimed h).trans (if_neg (by simp [hecho]))

theorem dispatch_of_request (h : f.kind = kindMgmtReq ∨ f.kind = kindPass) :
    dispatch f s = queueRequest f s := by
  have hmotion : f.kind ≠ kindMotion := by
    rcases h with h | h <;> rw [h] <;> decide
  rw [dispatch, if_neg hmotion, if_pos h]

end

/-- Settles O28: the tests of `received` and of `dispatch` in their order. -/
theorem receivedFrameIsDispatched : Obligations.ReceivedFrameIsDispatched := by
  intro f s u count request
  refine ⟨fun h => received_of_not_claimed h, fun h hecho hroom => ?echoed, fun h hecho hfull => ?dropped,
    fun h hecho => ⟨fun hkind => ?motion, fun hreq hroom => ?queued, fun hreq hfull => ?full, fun hm hreq => ?refused⟩⟩
  case echoed =>
    rw [received_of_echoing h hecho]
    exact if_pos hroom
  case dropped =>
    rw [received_of_echoing h hecho]
    exact if_neg (not_lt.mpr hfull)
  case motion =>
    rw [received_of_dispatch h hecho]
    exact if_pos hkind
  case queued =>
    rw [received_of_dispatch h hecho, dispatch_of_request hreq]
    exact if_pos hroom
  case full =>
    rw [received_of_dispatch h hecho, dispatch_of_request hreq]
    exact if_neg (not_lt.mpr hfull)
  case refused =>
    rw [received_of_dispatch h hecho, dispatch, if_neg hm, if_neg hreq]
    rfl

/-! ### The age of a command (R62, R65) -/

/-- An evaluation keeps the NAV command. -/
theorem evaluate_cmd (s : State) : (evaluate s).mgt.cmd = s.mgt.cmd := by
  rw [evaluate_mgt]
  rfl

/-- With no live NAV command, an evaluation that selects NAV stops the mower. -/
theorem evaluate_of_stale {s : State} (hstale : s.navLive = none) (hsource : (evaluate s).mgt.source = .nav) :
    (evaluate s).mgt.outL = 0 ∧ (evaluate s).mgt.outR = 0 ∧ (evaluate s).mgt.outBlade = 0 := by
  have hselected : s.selectedSource = .nav := (congrArg Mgt.source (evaluate_mgt s)).symm.trans hsource
  have hpair : s.sourcePair s.selectedSource = (0, 0) := by rw [hselected, State.sourcePair, hstale]
  have hout : ((evaluate s).mgt.outL, (evaluate s).mgt.outR) =
      scalePair s.evaluated.feff s.evaluated.reff (s.sourcePair s.selectedSource).1
        (s.sourcePair s.selectedSource).2 := by
    rw [evaluate_mgt]
    rfl
  have hblade : (evaluate s).mgt.outBlade = s.bladeValue s.selectedSource := by
    rw [evaluate_mgt]
    rfl
  rw [hpair, scalePair_zero] at hout
  obtain ⟨hL, hR⟩ := Prod.mk.inj hout
  refine ⟨hL, hR, ?_⟩
  rw [hblade, bladeValue_of_not_live (.inl hstale), Nat.cast_zero]

/-- Settles O29: the command becomes STOP before the evaluation, which then has no live command. -/
theorem navCommandGoesStale : Obligations.NavCommandGoesStale := by
  intro dt s c held u hcmd hst hlimit
  have hdue : u.ageDue = true := by simp [State.ageDue, Timer.due, hst, hlimit]
  have hstale : goStale u = setFlag .cmdStale [u8 c.seq] { u with
      mgt := { u.mgt with
        cmd := some { c with mode := .stop }
        age := { u.mgt.age with st := .expired }
        cnt := { u.mgt.cnt with stale := bump u.mgt.cnt.stale } } } := by
    rw [goStale, hcmd]
    rfl
  have hexec : exec (.ageTimerExpiry dt) s = .next (evaluate (goStale u)) := by
    rw [exec_of_running _ held]
    exact congrArg Host.Outcome.next (whenDue_of_due hdue)
  have hcmd' : (goStale u).mgt.cmd = some { c with mode := .stop } := by rw [hstale]; simp
  refine ⟨by rw [hexec, hstale], fun t ht => ?_⟩
  obtain rfl : evaluate (goStale u) = t := Host.Outcome.next.inj (hexec.symm.trans ht)
  refine ⟨(evaluate_cmd _).trans hcmd', evaluate_of_stale (navLive_eq_none fun c' => ?_)⟩
  rw [hcmd']
  rintro ⟨hc', hmode, -⟩
  cases hc'
  exact absurd hmode nofun

/-! ### The setting of an event flag (R161) -/

theorem eventFlag_num_lt (f : EventFlag) : f.num < 19 := by
  cases f <;> decide

theorem eventFlag_num_inj {f g : EventFlag} (h : f.num = g.num) : f = g := by
  revert h
  cases f <;> cases g <;> decide

section
variable {f : EventFlag} {d : List Byte} {s : State}

/-- The link interface with a flag set. -/
def Nli.withFlag (f : EventFlag) (d : List Byte) (n : Nli) : Nli := { n with flags := n.flags.set f.num (some d) }

theorem setFlag_of_set (h : s.flag f ≠ none) : setFlag f d s = s := by
  obtain ⟨e, he⟩ := Option.ne_none_iff_exists'.mp h
  rw [setFlag, he]

theorem setFlag_of_masked (h : s.flag f = none) (hmask : s.reports f = false) :
    setFlag f d s = { s with nli := s.nli.withFlag f d } := by
  rw [setFlag, h]
  exact if_neg (by simpa [State.reports] using hmask)

theorem setFlag_of_new (h : s.flag f = none) (hmask : s.reports f = true)
    (hnew : ∀ e ∈ s.nli.events, e.1 ≠ f) :
    setFlag f d s = txBegin { s with
      nli := { s.nli.withFlag f d with events := s.nli.events ++ [(f, d)] } } := by
  have hno : ¬ hasEvent f s.nli.events = true := by
    rw [hasEvent, List.any_eq_true]
    rintro ⟨e, he, hf⟩
    exact hnew e he (eq_of_beq hf)
  rw [setFlag, h]
  exact (if_pos hmask).trans (if_neg hno)

theorem setFlag_of_waiting (h : s.flag f = none) (hmask : s.reports f = true)
    (hwait : ∃ e ∈ s.nli.events, e.1 = f) :
    setFlag f d s = { s with
      nli := { s.nli.withFlag f d with
        events := replaceEvent f d s.nli.events
        cnt := { s.nli.cnt with eventReplaced := bump s.nli.cnt.eventReplaced } } } := by
  obtain ⟨e, he, hf⟩ := hwait
  have hyes : hasEvent f s.nli.events = true := List.any_eq_true.mpr ⟨e, he, beq_iff_eq.mpr hf⟩
  rw [setFlag, h]
  exact (if_pos hmask).trans (if_pos hyes)

theorem txBegin_nli (s : State) : txBegin s = { s with nli := (txBegin s).nli } := by
  unfold txBegin
  (repeat' split) <;> rfl

/-- The flags after a flag that was clear is set. -/
theorem setFlag_flags (h : s.flag f = none) : (setFlag f d s).nli.flags = s.nli.flags.set f.num (some d) := by
  rw [setFlag, h]
  dsimp only
  (repeat' split)
  · rfl
  · exact txBegin_flags _
  · rfl

theorem setFlag_nli (f : EventFlag) (d : List Byte) (s : State) :
    setFlag f d s = { s with nli := (setFlag f d s).nli } := by
  unfold setFlag
  dsimp only
  (repeat' split)
  · rfl
  · rfl
  · exact txBegin_nli _
  · rfl

end

/-- Settles O30: the cases of `setFlag`, and a flag's own number, which no other flag has. -/
theorem eventFlagIsSet : Obligations.EventFlagIsSet := by
  intro f d s hlen t withFlag
  refine ⟨fun h => setFlag_of_set h, fun h => ?own, fun g hg => ?others, setFlag_nli f d s, fun h hmask => ?masked,
    fun h hmask hnew => setFlag_of_new h hmask hnew, fun h hmask hwait => ?waiting⟩
  case own =>
    have hlt : f.num < s.nli.flags.length := hlen ▸ eventFlag_num_lt f
    rw [State.flag, setFlag_flags h]
    simp [List.getD_eq_getElem?_getD, List.getElem?_set_self hlt]
  case others =>
    by_cases h : s.flag f = none
    · have hne : f.num ≠ g.num := fun he => hg (eventFlag_num_inj he).symm
      rw [State.flag, setFlag_flags h]
      simp [List.getD_eq_getElem?_getD, List.getElem?_set_ne hne, State.flag]
    · exact congrArg (State.flag · g) (setFlag_of_set h)
  case masked => exact congrArg State.nli (setFlag_of_masked h hmask)
  case waiting =>
    refine (congrArg State.nli (setFlag_of_waiting h hmask hwait)).trans ?_
    simp only [replaceEvent, beq_iff_eq]
    rfl

end Sys2Proof.Machine
end

section
/-! The N-link's transmitter: what it sends, in which order (R158 to R161, R163, R169), the answers (R101, R157 to
R160), and the acknowledgement of events (R162). -/

namespace Sys2Proof.Machine

/-! ### The values of a TELEMETRY frame (R163) -/

/-- The first node that passes a test is the lowest-addressed one. -/
theorem nodes_find_eq_some_iff (p : Node → Bool) (n : Node) :
    nodes.find? p = some n ↔ p n = true ∧ ∀ m, m < n → p m = false := by
  have hsorted : nodes = List.finRange 6 := by decide
  rw [hsorted, List.find?_eq_some_iff_getElem]
  constructor
  · rintro ⟨hn, i, hi, hget, hbefore⟩
    refine ⟨hn, fun m hm => ?_⟩
    rw [List.getElem_finRange] at hget
    have hlt : m.val < i := by
      have hval : i = n.val := congrArg Fin.val hget
      exact hval ▸ hm
    have hfalse := hbefore m.val hlt
    simpa using hfalse
  · rintro ⟨hn, hbefore⟩
    refine ⟨hn, n.val, by simp, by simp, fun j hj => ?_⟩
    have hfalse := hbefore ⟨j, Nat.lt_trans hj n.isLt⟩ hj
    simpa using hfalse

theorem lowest_eq_some_iff (s : State) (k : NodeKind) (n : Node) :
    s.lowest k = some n ↔ s.lowestOf k n := by
  rw [State.lowest, nodes_find_eq_some_iff, State.lowestOf]
  simp only [beq_iff_eq, beq_eq_false_iff_ne]

theorem nodeKind_ne_of_lowest {s : State} {k : NodeKind} (h : s.lowest k = none) (n : Node) : s.nodeKind n ≠ k := by
  have hn := List.find?_eq_none.mp h n (mem_nodes n)
  simpa using hn

section
variable {s : State} {k : NodeKind}

theorem eq_postedOf {v : Int} (hfit : ∀ n, s.lowestOf k n → v = s.mgt.posted.get n)
    (hnone : (∀ n, s.nodeKind n ≠ k) → v = 0) : v = s.postedOf k := by
  unfold State.postedOf
  split
  · next n hn => exact hfit n ((lowest_eq_some_iff s k n).mp hn)
  · next hlow => exact hnone (nodeKind_ne_of_lowest hlow)

theorem eq_telemOf {r : Option Telem} (h : s.reportOf k r) : r = s.telemOf k := by
  obtain ⟨hreport, hsilent⟩ := h
  unfold State.telemOf
  split
  · next n hn =>
    cases hrec : s.dlc.recs.get n with
    | some x => exact hreport n x ((lowest_eq_some_iff s k n).mp hn) hrec
    | none =>
      refine hsilent fun m hm => ?_
      rw [← lowest_eq_some_iff, hn] at hm
      rw [← Option.some.inj hm, hrec]
  · next hlow =>
    refine hsilent fun m hm => ?_
    rw [← lowest_eq_some_iff, hlow] at hm
    cases hm

theorem eq_speedOf {r : Option Telem} {v : Int} (hr : s.reportOf k r) (hwheel : ∀ x c, r = some (.wheel x c) → v = x)
    (hother : (∀ x c, r ≠ some (.wheel x c)) → v = 0) : v = s.speedOf k := by
  rw [eq_telemOf hr] at hwheel hother
  unfold State.speedOf
  split
  · next x c hx => exact hwheel x c hx
  · next hx => exact hother hx

theorem eq_batteryMv {r : Option Telem} {mv : Nat} (hr : s.reportOf .power r)
    (hpower : ∀ v c d e b, r = some (.power v c d e b) → mv = v)
    (hother : (∀ v c d e b, r ≠ some (.power v c d e b)) → mv = 0) : mv = s.batteryMv := by
  rw [eq_telemOf hr] at hpower hother
  unfold State.batteryMv
  split
  · next v c d e b hx => exact hpower v c d e b hx
  · next hx => exact hother hx

end

/-! ### The set of event flags in an answer -/

/-- Bit i of the flags' number says whether flag i is set. -/
theorem testBit_setFlagsNum (flags : List (Option (List Byte))) (i : Nat) :
    (setFlagsNum flags).testBit i = (flags.getD i none).isSome := by
  induction flags generalizing i with
  | nil => simp [setFlagsNum]
  | cons f rest ih =>
    have hcons : setFlagsNum (f :: rest) = Nat.bit f.isSome (setFlagsNum rest) := by
      rw [Nat.bit_val]
      cases f <;> rfl
    rw [hcons]
    cases i with
    | zero => rw [Nat.testBit_bit_zero]; rfl
    | succ i => rw [Nat.testBit_bit_succ, ih]; rfl

theorem eventFlag_of_num {i : Nat} (h : i < 19) : ∃ f : EventFlag, f.num = i := by
  interval_cases i
  exacts [⟨.boundaryResponse, rfl⟩, ⟨.obstacleResponse, rfl⟩, ⟨.hazard, rfl⟩, ⟨.cmdStale, rfl⟩, ⟨.slipSeen, rfl⟩,
    ⟨.senseFault, rfl⟩, ⟨.sampleOverrun, rfl⟩, ⟨.postDiscard, rfl⟩, ⟨.nodeLostEvent, rfl⟩, ⟨.returnStarted, rfl⟩,
    ⟨.guideLost, rfl⟩, ⟨.dockedEvent, rfl⟩, ⟨.dockFaultEvent, rfl⟩, ⟨.dockLost, rfl⟩, ⟨.stationRequest, rfl⟩,
    ⟨.swapDone, rfl⟩, ⟨.swapTimeout, rfl⟩, ⟨.testDone, rfl⟩, ⟨.linkError, rfl⟩]

/-- The number of the nineteen flags is the one whose bits say which are set. -/
theorem setFlagsNum_eq {s : State} {n : Nat} (hlen : s.nli.flags.length = 19) (hn : n < 2 ^ 19)
    (hbits : ∀ f : EventFlag, n.testBit f.num = (s.flag f).isSome) : setFlagsNum s.nli.flags = n := by
  refine Nat.eq_of_testBit_eq fun i => ?_
  rw [testBit_setFlagsNum]
  by_cases hi : i < 19
  · obtain ⟨f, rfl⟩ := eventFlag_of_num hi
    exact (hbits f).symm
  · have hbig : n < 2 ^ i := hn.trans_le (Nat.pow_le_pow_right (by decide) (not_lt.mp hi))
    rw [Nat.testBit_lt_two_pow hbig, List.getD_eq_default _ _ (by omega)]
    rfl

theorem loopByte (l : LoopState) : u8 l.num = loopNumber l := by
  cases l <;> rfl

theorem dockByte (d : DockState) : u8 d.num = dockNumber d := by
  cases d <;> rfl

theorem signedBytes_eq (z : Int) : be16i z = signedBytes z := rfl

theorem twoBytes_eq (n : Nat) : be16 n = twoBytes n := rfl

theorem yesByte_eq (b : Bool) : flagByte b = yesByte b := rfl

theorem levelByte_eq (s : State) :
    u8 s.runningLevel =
      if s.rse.ctx3 ≠ none then 3#8 else if s.rse.ctx2 ≠ none then 2#8
      else if s.rse.ctx1 ≠ none then 1#8 else 0#8 := by
  unfold State.runningLevel State.runningCtx
  cases s.rse.ctx3 with
  | some c3 => rfl
  | none =>
    cases s.rse.ctx2 with
    | some c2 => rfl
    | none => cases s.rse.ctx1 <;> rfl

theorem telemetryIsFormed : TelemetryIsFormed := by
  intro s left right blade leftSpeed rightSpeed mv flags wl wr power posted speed hleft hright hblade hwl hls hwr hrs
    hpower hmv hnomv hlen hflags hbits level zone
  have hpayload : s.telemetryPayload =
      signedBytes left ++ signedBytes right ++ signedBytes blade ++
      [u8 s.mgt.band, level] ++ twoBytes s.mgt.feff ++ twoBytes s.mgt.reff ++
      signedBytes leftSpeed ++ signedBytes rightSpeed ++ twoBytes mv ++
      [u8 zone, dockNumber s.dkc.dock, loopNumber (s.zcu.loops.get 0),
        loopNumber (s.zcu.loops.get 1), loopNumber (s.zcu.loops.get 2),
        loopNumber (s.zcu.loops.get 3)] ++
      twoBytes s.zcu.prox ++ twoBytes s.zcu.station ++ signedBytes s.spu.pitch.angle ++
      signedBytes s.spu.roll.angle ++
      twoBytes (max s.spu.pitch.angle.natAbs s.spu.roll.angle.natAbs) ++
      [yesByte s.stopLine, 0#8, u8 (flags / 65536), u8 (flags / 256), u8 flags] := by
    rw [eq_postedOf hleft.1 hleft.2, eq_postedOf hright.1 hright.2, eq_postedOf hblade.1 hblade.2,
      eq_speedOf hwl hls.1 hls.2, eq_speedOf hwr hrs.1 hrs.2, eq_batteryMv hpower hmv hnomv,
      ← setFlagsNum_eq hlen hflags hbits]
    simp only [State.telemetryPayload, levelByte_eq, dockByte, loopByte, signedBytes_eq, twoBytes_eq, yesByte_eq,
      State.slope, State.activeNumber, slots, List.map, mask3, List.append_assoc, List.cons_append, List.nil_append]
    rfl
  refine ⟨?_, hpayload⟩
  rw [hpayload]
  simp [signedBytes, twoBytes]

/-! ### The transmitter (R160) -/

section
variable {s : State}

theorem txBegin_of_sending (h : s.nli.sending ≠ none) : txBegin s = s := by
  obtain ⟨o, ho⟩ := Option.ne_none_iff_exists'.mp h
  rw [txBegin, ho]
  exact ite_self s

variable (hfree : s.mrh.fullResetDue = false) (hheld : s.resetHeld = false) (hidle : s.nli.sending = none)
include hfree hheld hidle

theorem txBegin_of_answer {o : OutFrame} {rest : List OutFrame} (h : s.nli.answers = o :: rest) :
    txBegin s = { s with nli := { s.nli with sending := some o, answers := rest } } := by
  rw [txBegin, hfree, hheld, hidle, h]
  rfl

theorem txBegin_of_event {f : EventFlag} {d : List Byte} {rest : List (EventFlag × List Byte)}
    (hno : s.nli.answers = []) (h : s.nli.events = (f, d) :: rest) :
    txBegin s = { s with
      nli := { s.nli with
        sending := some ⟨.event, ⟨0, 1, kindEvent, u8 s.nli.eventTag, eventPayload f d⟩⟩
        events := rest } } := by
  rw [txBegin, hfree, hheld, hidle, hno, h]
  rfl

theorem txBegin_of_telemetry {p : List Byte} (hno : s.nli.answers = []) (hnone : s.nli.events = [])
    (h : s.nli.telemetry = some p) :
    txBegin s = { s with
      nli := { s.nli with
        sending := some ⟨.telemetry, ⟨0, 1, kindTelemetry, u8 s.nli.telemTag, p⟩⟩
        telemetry := none } } := by
  rw [txBegin, hfree, hheld, hidle, hno, hnone, h]
  rfl

theorem txBegin_of_nothing (hno : s.nli.answers = []) (hnone : s.nli.events = []) (h : s.nli.telemetry = none) :
    txBegin s = s := by
  rw [txBegin, hfree, hheld, hidle, hno, hnone, h]
  rfl

end

/-- The part with the end of a frame counted. -/
def State.frameEnded (s : State) : State :=
  onNli (fun n => { n with sending := none, cnt := { n.cnt with framesSent := bump n.cnt.framesSent } }) s

/-- The end of a frame has its effect by what it was, and the next begins. -/
theorem frameSent_of_sending {s : State} {o : OutFrame} {cls : OutClass} (h : s.nli.sending = some o)
    (hcls : o.cls = cls) : frameSent s = txBegin (sentEffect cls s.frameEnded) := by
  subst hcls
  rw [frameSent, h]
  rfl

/-- Settles O31: the branches of `txBegin`, the effect of a frame's end by its class, and the telemetry formed of
the values that the lemmas above name. -/
theorem transmitterSendsInOrder : Obligations.TransmitterSendsInOrder := by
  refine ⟨telemetryIsFormed, fun s hfree hheld => ?_, fun dt s o held => ?_, fun dt s held => ?_⟩
  · exact ⟨txBegin_of_sending, fun hidle => ⟨fun o rest h => txBegin_of_answer hfree hheld hidle h,
      fun f d rest hno h => txBegin_of_event hfree hheld hidle hno h,
      fun p hno hnone h => txBegin_of_telemetry hfree hheld hidle hno hnone h,
      fun hno hnone h => txBegin_of_nothing hfree hheld hidle hno hnone h⟩⟩
  · intro u hsending v
    have hexec {cls : OutClass} (hcls : o.cls = cls) :
        exec (.upstreamFrameSent dt) s = .next (txBegin (sentEffect cls v)) := by
      rw [exec_of_running _ held]
      exact congrArg Host.Outcome.next (frameSent_of_sending hsending hcls)
    refine ⟨fun hcls => hexec hcls, fun hcls => hexec hcls, ?_, fun hcls => hexec hcls, fun hcls => hexec hcls⟩
    rintro (hcls | hcls)
    · exact hexec hcls
    · exact hexec hcls
  · intro u n hst hlimit
    have hdue : u.telemetryDue = true := by
      simp only [State.telemetryDue, LimitTimer.due, Bool.and_eq_true, beq_iff_eq, decide_eq_true_eq]
      exact ⟨hst, hlimit⟩
    have hskipped : (if n.telemetry.isSome then bump n.cnt.telemetrySkipped else n.cnt.telemetrySkipped) =
        if n.telemetry = none then n.cnt.telemetrySkipped else bump n.cnt.telemetrySkipped := by
      cases n.telemetry <;> rfl
    rw [exec_of_running _ held]
    refine congrArg Host.Outcome.next ((whenDue_of_due hdue).trans ?_)
    rw [formTelemetry, onNli, hskipped]

/-! ### Answers (R101, R157 to R160) -/

theorem respByte (c : RespCode) : u8 c.num = respNumber c := by
  cases c <;> rfl

theorem respFrame_of_pass {r : Req} {code : RespCode} {data : List Byte} (h : r.pass = true) :
    respFrame r code data = ⟨r.src, 1, kindPassResp, r.tag, respNumber code :: data⟩ := by
  rw [respFrame, respPayload, h, respByte]
  rfl

theorem respFrame_of_request {r : Req} {code : RespCode} {data : List Byte} (h : r.pass = false) :
    respFrame r code data =
      ⟨r.src, 1, kindMgmtResp, r.tag, r.payload.headD 0#8 :: respNumber code :: data⟩ := by
  have hhead : r.payload.getD 0 0#8 = r.payload.headD 0#8 := by cases r.payload <;> rfl
  rw [respFrame, respPayload, h, respByte, hhead]
  rfl

/-- The head's answer joins the answer list, and the head waits for its end. -/
theorem answerThen_of_head {s : State} {q : Req} {rest : List Req} (after : AfterSent) (code : RespCode)
    (data : List Byte) (h : s.mrh.queue = q :: rest) :
    answerThen after code data s = txBegin { s with
      nli := { s.nli with answers := s.nli.answers ++ [⟨.headAnswer after, respFrame q code data⟩] }
      mrh := { s.mrh with headDone := true } } := by
  rw [answerThen, h]
  rfl

theorem answerRead_of_outstanding {s : State} {tag : Byte} {src : Nat} (code : RespCode) (data : List Byte)
    (h : s.mrh.outstanding = some (tag, src)) :
    answerRead code data s = txBegin { s with
      nli := { s.nli with
        answers := s.nli.answers ++ [⟨.readAnswer, ⟨src, 1, kindPassResp, tag, respNumber code :: data⟩⟩] }
      mrh := { s.mrh with outstanding := none } } := by
  rw [answerRead, h, respByte]
  rfl

theorem answerIsFormed : AnswerIsFormed := by
  intro after code data s waits said
  refine ⟨rfl, fun h => by rw [answerThen, h], fun q rest hq => ⟨fun hpass => ?_, fun hpass => ?_⟩,
    fun h => by rw [answerRead, h], fun tag src h => answerRead_of_outstanding code data h⟩
  · rw [answerThen_of_head after code data hq, respFrame_of_pass hpass]
    rfl
  · rw [answerThen_of_head after code data hq, respFrame_of_request hpass]
    rfl

/-! ### The acknowledgement of events (R162) -/

/-- A flag is cleared where the mask names it, and stays otherwise. -/
theorem clearFlags_getD (mask i : Nat) (l : List (Option (List Byte))) (j : Nat) :
    (clearFlags mask i l).getD j none = if mask.testBit (i + j) then none else l.getD j none := by
  induction l generalizing i j with
  | nil => simp [clearFlags]
  | cons f rest ih =>
    cases j with
    | zero => rfl
    | succ j =>
      have hindex : i + 1 + j = i + (j + 1) := by omega
      rw [clearFlags, List.getD_cons_succ, List.getD_cons_succ, ih, hindex]

/-- Settles O32: the two requests as the model carries them out, bit by bit. -/
theorem eventsAreAcknowledged : Obligations.EventsAreAcknowledged := by
  refine ⟨answerIsFormed, ?_⟩
  intro dt s held u mask
  have hack (h : headIs 3 u = true) : exec (.ackEvents dt) s = .next (ackEvents u.headParams u) :=
    exec_request (by unfold eventOf; rfl) held h
  have hset (h : headIs 4 u = true) : exec (.setReportMask dt) s = .next (setReportMask u.headParams u) :=
    exec_request (by unfold eventOf; rfl) held h
  refine ⟨fun h hlen hflags => ⟨clearFlags mask 0 u.nli.flags, ?_, ?_, fun f => ?_⟩,
    fun h hlen => ⟨BitVec.ofNat 19 mask, ?_, fun f => ?_⟩, fun h hshort => ?_, fun h hshort => ?_⟩
  · rw [hack h, ackEvents, if_neg (not_lt.mpr hlen)]
    rfl
  · rw [clearFlags_length, hflags]
  · rw [clearFlags_getD, Nat.zero_add]
    rfl
  · rw [hset h, setReportMask, if_neg (not_lt.mpr hlen)]
    rfl
  · rw [BitVec.getLsbD_ofNat]
    simp [eventFlag_num_lt f]
  · rw [hack h, ackEvents, if_pos hshort]
  · rw [hset h, setReportMask, if_pos hshort]

end Sys2Proof.Machine
end

section
/-! The drive link: the choice of a transaction (R93, R94), the posts (R77, R89, R90), the hazard discard (R98), the
frames that are no answer (R86, R88, R174), and the timers of a node (R96, R97). -/

namespace Sys2Proof.Machine

/-! ### The most overdue node (R94) -/

theorem pollDueAge_eq_some_iff (s : State) (n : Node) (a : Nat) :
    s.pollDueAge n = some a ↔ ∃ r, s.dlc.recs.get n = some r ∧ r.age = a ∧ s.pollInterval ≤ a := by
  unfold State.pollDueAge
  split
  · next r hr =>
    rw [Option.ite_none_right_eq_some, Option.some.injEq]
    constructor
    · rintro ⟨hage, rfl⟩
      exact ⟨r, hr, rfl, hage⟩
    · rintro ⟨r', hr', rfl, hage⟩
      obtain rfl : r = r' := Option.some.inj (hr.symm.trans hr')
      exact ⟨hage, rfl⟩
  · next hnone => simp [hnone]

/-- `best` is the most overdue node of a list, the lowest address on a tie, with its age. -/
structure State.Overdue (s : State) (seen : List Node) (best : Option (Node × Nat)) : Prop where
  none_due : best = none → ∀ m ∈ seen, s.pollDueAge m = none
  due : ∀ n a, best = some (n, a) → s.pollDueAge n = some a
  most : ∀ n a, best = some (n, a) → ∀ m ∈ seen, ∀ b, s.pollDueAge m = some b → b < a ∨ (b = a ∧ n ≤ m)
  mem : ∀ n a, best = some (n, a) → n ∈ seen

/-- A further node of a higher address takes the place where it is more overdue. -/
theorem State.Overdue.worse {s : State} {seen : List Node} {best : Option (Node × Nat)} {k : Node}
    (h : s.Overdue seen best) (hk : ∀ m ∈ seen, m < k) : s.Overdue (seen ++ [k]) (s.worse best k) := by
  obtain ⟨hnone, hdue, hmost, hmem⟩ := h
  have hold (m : Node) (hm : m ∈ seen ++ [k]) (hne : m ≠ k) : m ∈ seen :=
    (List.mem_append.mp hm).resolve_right fun hlast => hne (List.mem_singleton.mp hlast)
  unfold State.worse
  split
  · next hkn =>
    refine ⟨fun hb m hm => ?_, hdue, fun n a hb m hm b hmb => ?_, fun n a hb => List.mem_append_left _ (hmem n a hb)⟩
    · by_cases hmk : m = k
      · rwa [hmk]
      · exact hnone hb m (hold m hm hmk)
    · have hmk : m ≠ k := fun he => absurd ((he ▸ hmb).symm.trans hkn) nofun
      exact hmost n a hb m (hold m hm hmk) b hmb
  · next a hka =>
    have hlast : k ∈ seen ++ [k] := List.mem_append_right _ (List.mem_singleton_self k)
    split
    · refine ⟨nofun, fun n a' hb => ?_, fun n a' hb m hm b hmb => ?_, fun n a' hb => ?_⟩ <;>
        obtain ⟨rfl, rfl⟩ := Prod.mk.inj (Option.some.inj hb)
      · exact hka
      · by_cases hmk : m = k
        · subst hmk
          exact .inr ⟨Option.some.inj (hmb.symm.trans hka), le_rfl⟩
        · exact absurd (hmb.symm.trans (hnone rfl m (hold m hm hmk))) nofun
      · exact hlast
    · next m0 b0 =>
      split
      · next hlt =>
        refine ⟨nofun, fun n a' hb => ?_, fun n a' hb m hm b hmb => ?_, fun n a' hb => ?_⟩ <;>
          obtain ⟨rfl, rfl⟩ := Prod.mk.inj (Option.some.inj hb)
        · exact hka
        · by_cases hmk : m = k
          · subst hmk
            exact .inr ⟨Option.some.inj (hmb.symm.trans hka), le_rfl⟩
          · rcases hmost m0 b0 rfl m (hold m hm hmk) b hmb with hless | ⟨heq, -⟩
            · exact .inl (hless.trans hlt)
            · exact .inl (heq ▸ hlt)
        · exact hlast
      · next hge =>
        refine ⟨nofun, fun n a' hb => ?_, fun n a' hb m hm b hmb => ?_, fun n a' hb => ?_⟩ <;>
          obtain ⟨rfl, rfl⟩ := Prod.mk.inj (Option.some.inj hb)
        · exact hdue _ _ rfl
        · by_cases hmk : m = k
          · subst hmk
            obtain rfl : b = a := Option.some.inj (hmb.symm.trans hka)
            rcases Nat.lt_or_eq_of_le (not_lt.mp hge) with hless | heq
            · exact .inl hless
            · exact .inr ⟨heq, (hk _ (hmem _ _ rfl)).le⟩
          · exact hmost _ _ rfl m (hold m hm hmk) b hmb
        · exact List.mem_append_left _ (hmem _ _ rfl)

/-- The nodes that are still to be looked at, of higher addresses, in their order. -/
theorem State.Overdue.foldl {s : State} (rest : List Node) : ∀ {seen : List Node} {best : Option (Node × Nat)},
    s.Overdue seen best → (seen ++ rest).Pairwise (· < ·) → s.Overdue (seen ++ rest) (rest.foldl s.worse best) := by
  induction rest with
  | nil =>
    intro seen best h _
    rwa [List.append_nil]
  | cons k rest ih =>
    intro seen best h hsorted
    have hsplit : seen ++ k :: rest = (seen ++ [k]) ++ rest := by simp
    have hk : ∀ m ∈ seen, m < k := fun m hm =>
      (List.pairwise_append.mp hsorted).2.2 m hm k (List.mem_cons_self ..)
    rw [hsplit] at hsorted ⊢
    exact ih (h.worse hk) hsorted

theorem overdue_nodes (s : State) : s.Overdue nodes (nodes.foldl s.worse none) :=
  State.Overdue.foldl nodes (seen := []) ⟨fun _ _ hm => absurd hm List.not_mem_nil, nofun, nofun, nofun⟩ (by decide)

theorem mostOverdue_eq_some {s : State} {n : Node} (h : s.mostOverdue = some n) : ∃ a, s.pollDueAge n = some a ∧
    ∀ m b, s.pollDueAge m = some b → b < a ∨ (b = a ∧ n ≤ m) := by
  obtain ⟨⟨m, a⟩, hbest, rfl⟩ := Option.map_eq_some_iff.mp h
  have hover := overdue_nodes s
  exact ⟨a, hover.due m a hbest, fun k b hb => hover.most m a hbest k (mem_nodes k) b hb⟩

theorem mostOverdue_eq_none {s : State} (h : s.mostOverdue = none) (n : Node) : s.pollDueAge n = none :=
  (overdue_nodes s).none_due (Option.map_eq_none_iff.mp h) n (mem_nodes n)

/-! ### The choice of a transaction (R93) -/

section
variable {s : State}

theorem linkFree_iff : s.linkFree = true ↔ s.dlc.tx = none ∧ s.dEchoRunning = false := by
  simp [State.linkFree]

theorem arbitrate_of_busy (h : s.dlc.tx ≠ none ∨ s.dEchoRunning = true) : arbitrate s = s := by
  have hfree : s.linkFree = false := by
    rw [Bool.eq_false_iff, Ne, linkFree_iff]
    rintro ⟨htx, htest⟩
    rcases h with h | h
    · exact h htx
    · simp [h] at htest
  rw [arbitrate, hfree]
  rfl

/-- Step 1 of R93: the queue first, while fewer entries than the flush limit went out since the last poll. -/
theorem queueFirst_iff :
    s.queueFirst = true ↔ s.dlc.queue ≠ [] ∧ (s.flushLimit = 0 ∨ s.dlc.flush < s.flushLimit) := by
  simp [State.queueFirst]

theorem arbitrate_of_free (hfree : s.linkFree = true) :
    arbitrate s = if s.queueFirst then sendHead s else
      match s.mostOverdue with
      | some n => sendPoll n s
      | none => if s.dlc.queue.isEmpty then sendRead s else sendHead s := by
  rw [arbitrate, hfree]
  rfl

theorem arbitrate_of_head {e : QEntry} {rest : List QEntry} (hfree : s.linkFree = true) (hq : s.dlc.queue = e :: rest)
    (h : s.queueFirst = true ∨ s.mostOverdue = none) : arbitrate s = sendHead s := by
  rw [arbitrate_of_free hfree]
  split
  · rfl
  · next hfirst => rw [h.resolve_left hfirst, hq]; rfl

theorem arbitrate_of_poll {n : Node} (hfree : s.linkFree = true) (hfirst : ¬ s.queueFirst = true)
    (hn : s.mostOverdue = some n) : arbitrate s = sendPoll n s := by
  rw [arbitrate_of_free hfree, if_neg hfirst, hn]

theorem arbitrate_of_empty (hfree : s.linkFree = true) (hq : s.dlc.queue = []) (hnone : s.mostOverdue = none) :
    arbitrate s = sendRead s := by
  have hfirst : ¬ s.queueFirst = true := fun h => (queueFirst_iff.mp h).1 hq
  rw [arbitrate_of_free hfree, if_neg hfirst, hnone, hq]
  rfl

end

/-- Settles O33: the steps of R93 as `arbitrate` takes them, and the fold that finds the most overdue node. -/
theorem nextTransactionIsChosen : Obligations.NextTransactionIsChosen := by
  refine ⟨fun s => ?choice, fun dt n s held => ?poll, fun n => ?frames⟩
  case choice =>
    intro d first begun
    refine ⟨arbitrate_of_busy, fun htx htest => ?_, fun n => mostOverdue_eq_some, mostOverdue_eq_none,
      pollDueAge_eq_some_iff s⟩
    have hfree : s.linkFree = true := linkFree_iff.mpr ⟨htx, htest⟩
    refine ⟨fun e rest hq h => ?_, fun n hfirst hn => ?_, fun r hq hnone hr => ?_, fun hq hnone hr => ?_⟩
    · rw [arbitrate_of_head hfree hq (h.imp_left queueFirst_iff.mpr), sendHead,
        show s.dlc.queue = e :: rest from hq]
      rfl
    · rw [arbitrate_of_poll hfree (fun h => hfirst (queueFirst_iff.mp h)) hn]
      rfl
    · rw [arbitrate_of_empty hfree hq hnone, sendRead, show s.dlc.read = some r from hr]
      rfl
    · rw [arbitrate_of_empty hfree hq hnone, sendRead, show s.dlc.read = none from hr]
  case poll =>
    rw [exec_of_running _ held]
    rfl
  case frames =>
    exact ⟨fun _ => rfl, fun _ => rfl, rfl, rfl, fun _ => rfl, rfl, fun _ => rfl, fun _ => rfl⟩

/-! ### Frames on the D-link (R86, R88, R174) -/

/-- A frame whose length byte accounts for its bytes is read where its CRC matches. -/
theorem parseDLink_of_body {a k : Byte} {p : List Byte} (hp : p.length ≤ 255) (x y : Byte) :
    parseDLink ((a :: k :: u8 p.length :: p) ++ [x, y]) =
      if [x, y] = crcBytes (a :: k :: u8 p.length :: p) then some (a.toNat, k.toNat, p) else none := by
  have hlen : ((a :: k :: u8 p.length :: p) ++ [x, y]).length - 2 = (a :: k :: u8 p.length :: p).length := by simp
  have hbyte : byteAt ((a :: k :: u8 p.length :: p) ++ [x, y]) 2 = p.length := u8_toNat (by omega)
  have htotal : ((a :: k :: u8 p.length :: p) ++ [x, y]).length = p.length + 5 := by simp
  rw [parseDLink, hlen, List.take_left, List.drop_left, hbyte, htotal]
  exact if_congr ⟨fun h => h.2.2, fun h => ⟨by omega, rfl, h⟩⟩ rfl rfl

theorem crcBytes_eq (l : List Byte) : ∃ x y, crcBytes l = [x, y] := ⟨_, _, rfl⟩

theorem parseDLink_of_length {bytes : List Byte} (h : bytes.length ≠ byteAt bytes 2 + 5) :
    parseDLink bytes = none := if_neg fun ⟨_, hlen, _⟩ => h hlen.symm

theorem statusLength_eq (k : NodeKind) : k.statusLength = if k = .power then 6 else 4 := by
  cases k <;> rfl

section
variable {t : Transaction} {n : Nat}

theorem lengthFits_of_post {v : PostValue} (hc : t.carried = .post v) (hv : ∀ data, v ≠ .param data) :
    t.lengthFits n = true ↔ n = if t.nodeKind = .power then 6 else 4 := by
  rw [Transaction.lengthFits, hc, ← statusLength_eq]
  cases v with
  | param data => exact absurd rfl (hv data)
  | _ => exact beq_iff_eq

theorem lengthFits_of_poll (hc : t.carried = .poll) :
    t.lengthFits n = true ↔ n = if t.nodeKind = .power then 6 else 4 := by
  rw [Transaction.lengthFits, hc, ← statusLength_eq]
  exact beq_iff_eq

theorem lengthFits_of_param {data : List Byte} (hc : t.carried = .post (.param data)) : t.lengthFits n = true := by
  rw [Transaction.lengthFits, hc]

theorem lengthFits_of_read {data : List Byte} (hc : t.carried = .read data) : t.lengthFits n = true ↔ 1 ≤ n := by
  rw [Transaction.lengthFits, hc]
  exact decide_eq_true_iff

theorem lengthFits_of_echo {data : List Byte} (hc : t.carried = .echo data) : t.lengthFits n = true ↔ n = 8 := by
  rw [Transaction.lengthFits, hc]
  exact beq_iff_eq

theorem answeredBy_of_bad {bytes : List Byte} (h : parseDLink bytes = none ∨
    ∃ a k p, parseDLink bytes = some (a, k, p) ∧
      (a ≠ t.node.val + 1 ∨ k ≠ t.carried.request + 128 ∨ t.lengthFits p.length = false)) :
    t.answeredBy bytes = none := by
  rcases h with hnone | ⟨a, k, p, hparse, hbad⟩
  · rw [Transaction.answeredBy, hnone]
  · rw [Transaction.answeredBy, hparse]
    refine if_neg fun ⟨ha, hk, hfits⟩ => ?_
    rcases hbad with hbad | hbad | hbad
    · exact hbad ha
    · exact hbad hk
    · simp [hbad] at hfits

end

/-- Settles O34: the check of a frame, and the tests of an answer to the transaction in flight. -/
theorem badAnswersAreDropped : Obligations.BadAnswersAreDropped := by
  refine ⟨fun a k p hp => ?parsed, fun bytes => parseDLink_of_length, fun t n => ?fits, fun dt bytes s held => ?dropped⟩
  case parsed =>
    intro body
    refine ⟨?_, fun x y hbad => (parseDLink_of_body hp x y).trans (if_neg hbad)⟩
    obtain ⟨x, y, hcrc⟩ := crcBytes_eq body
    rw [hcrc]
    exact (parseDLink_of_body hp x y).trans (if_pos hcrc.symm)
  case fits =>
    exact ⟨fun v hc hv => lengthFits_of_post hc hv, lengthFits_of_poll, fun _ => lengthFits_of_param,
      fun _ => lengthFits_of_read, fun _ => lengthFits_of_echo⟩
  case dropped =>
    intro u hbad
    have harrival : dLinkArrival bytes u = countDlc (fun c => { c with badAnswers := bump c.badAnswers }) u := by
      unfold dLinkArrival
      split
      · rfl
      · next t ht => rw [answeredBy_of_bad (hbad t ht)]
    rw [exec_of_running _ held]
    exact congrArg Host.Outcome.next harrival

/-! ### Leaving the queue (R90, R92) -/

theorem any_isRelay_eq_false_iff (l : List QEntry) :
    l.any (fun e => e.val.isRelay) = false ↔ ∀ e ∈ l, e.val.isRelay = false := by
  simp [List.any_eq_false]

/-- A held relay command joins the tail once no RELAY entry is left. -/
theorem afterLeaving_of_held {d : Dlc} {n : Node} {c : Bool} (hheld : d.relayHeld = some (n, c))
    (hqueue : ∀ e ∈ d.queue, e.val.isRelay = false) (hbehind : ∀ e ∈ d.behind, e.val.isRelay = false) :
    afterLeaving d =
      { joinBehind { d with flush := if d.queue = [] then 0 else d.flush } with
        queue := (joinBehind { d with flush := if d.queue = [] then 0 else d.flush }).queue ++
          [⟨n, .relay c, .dock, false, false⟩]
        relayHeld := none } := by
  rcases d with ⟨recs, queue, behind, held, flush, tx, read, cnt⟩
  cases hheld
  have hjoined : (queue ++ behind.filter fun x =>
      !queue.any (QEntry.matches x.node x.val)).any (fun x => x.val.isRelay) = false := by
    rw [any_isRelay_eq_false_iff]
    intro e he
    rcases List.mem_append.mp he with he | he
    · exact hqueue e he
    · exact hbehind e (List.mem_filter.mp he).1
  have hjoined' := (Bool.not_eq_true _).mpr hjoined
  cases queue with
  | nil => exact if_neg hjoined'
  | cons x rest => exact if_neg hjoined'

/-- Every way to leave the queue has the same consequences. -/
theorem leavesQueue_afterLeaving (d : Dlc) (q : List QEntry) :
    LeavesQueue d q (afterLeaving { d with queue := q }) := by
  refine ⟨fun h => ?_, fun n c hheld hqueue hbehind => ?_⟩
  · have hjoin : afterLeaving { d with queue := q } =
        joinBehind { d with queue := q, flush := if q = [] then 0 else d.flush } := by
      rcases h with hnone | ⟨e, he, hrelay⟩
      · exact afterLeaving_of_none (d := { d with queue := q }) hnone
      · exact afterLeaving_of_relay (d := { d with queue := q }) (List.any_eq_true.mpr ⟨e, he, hrelay⟩)
    rw [hjoin]
    rfl
  · exact afterLeaving_of_held (d := { d with queue := q }) hheld hqueue hbehind

/-! ### Posts (R77, R89, R90) -/

theorem powerNode_eq_none_iff (s : State) : s.powerNode = none ↔ ∀ n, s.nodeKind n ≠ .power := by
  unfold State.powerNode
  rw [List.find?_eq_none]
  exact ⟨fun h n => by simpa using h n (mem_nodes n), fun h n _ => by simpa using h n⟩

theorem nodeKind_of_powerNode {s : State} {n : Node} (h : s.powerNode = some n) : s.nodeKind n = .power := by
  simpa using List.find?_some h

section
variable {e : QEntry} {s : State}

theorem joinTail_of_queued (h : s.dlc.queue ≠ []) :
    joinTail e s = { s with dlc := { s.dlc with queue := s.dlc.queue ++ [e] } } :=
  if_neg (by simpa using h)

theorem joinTail_of_empty (h : s.dlc.queue = []) :
    joinTail e s = arbitrate { s with dlc := { s.dlc with queue := [e] } } := by
  have hjoined : onDlc (fun d => { d with queue := d.queue ++ [e] }) s = { s with dlc := { s.dlc with queue := [e] } } := by
    rw [onDlc, h]
    rfl
  refine (if_pos (List.isEmpty_iff.mpr h)).trans ?_
  rw [hjoined]

end

theorem relayIsPosted : RelayIsPosted := by
  intro close s d queued
  have hqueued : s.relayQueued = true ↔ queued := List.any_eq_true
  refine ⟨powerNode_eq_none_iff s, fun h => by rw [postRelay, h], fun n h => ?_⟩
  intro entry
  have hheld (hq : queued) : postRelay close s = { s with
      dlc := { d with
        relayHeld := some (n, close)
        cnt := { d.cnt with
          relaySuperseded :=
            if d.relayHeld.isSome then bump d.cnt.relaySuperseded else d.cnt.relaySuperseded } } } := by
    rw [postRelay, h]
    exact if_pos (hqueued.mpr hq)
  have hjoins (hq : ¬ queued) : postRelay close s = joinTail entry s := by
    rw [postRelay, h]
    exact if_neg fun hr => hq (hqueued.mp hr)
  refine ⟨nodeKind_of_powerNode h, fun hq hnone => ?_, fun hq hsome => ?_, fun hq hne => ?_, fun hempty => ?_⟩
  · rw [hheld hq, hnone]
    rfl
  · have hsome' : d.relayHeld.isSome = true := Option.isSome_iff_ne_none.mpr hsome
    rw [hheld hq, hsome']
    rfl
  · rw [hjoins hq, joinTail_of_queued hne]
  · have hnone : ¬ queued := by
      rintro ⟨e, he, -⟩
      rw [hempty] at he
      exact List.not_mem_nil he
    rw [hjoins hnone, joinTail_of_empty hempty]

/-- What replacing leaves: the entries of other places as they were, and the one of the place with the new value,
marked resend where it is in flight. -/
theorem replaceIn_getElem? {n : Node} {v : PostValue} {o : Origin} {l : List QEntry} {i : Nat} {e : QEntry}
    (h : l[i]? = some e) :
    (¬ (e.node = n ∧ e.val.coalesces v = true) → (replaceIn n v o l)[i]? = some e) ∧
    (e.node = n ∧ e.val.coalesces v = true →
      (replaceIn n v o l)[i]? = some (⟨n, v, o, e.inFlight, e.inFlight⟩ : QEntry)) := by
  rw [replaceIn, List.getElem?_map, h, Option.map_some]
  refine ⟨fun hother => ?_, fun hsame => ?_⟩
  · rw [if_neg fun hm => hother ((matches_iff n v e).mp hm)]
  · obtain ⟨rfl, hval⟩ := hsame
    rw [if_pos ((matches_iff e.node v e).mpr ⟨rfl, hval⟩)]
    rfl

/-- Settles O37: the place that a set-point takes, found by node and kind. -/
theorem setPointIsPosted : Obligations.SetPointIsPosted := by
  refine ⟨relayIsPosted, ?_⟩
  intro n v o s _ d same entry t counted replaces
  have hmatch (l : List QEntry) : l.any (QEntry.matches n v) = true ↔ ∃ e ∈ l, same e := by
    simp only [List.any_eq_true, matches_iff]
    rfl
  have hreplaces (l : List QEntry) : replaces l (replaceIn n v o l) :=
    ⟨replaceIn_length n v o l, fun i e he => replaceIn_getElem? he⟩
  refine ⟨fun hbehind => ⟨replaceIn n v o d.behind, ?_, hreplaces _⟩, fun hbehind => ?_⟩
  · exact if_pos ((hmatch _).mpr hbehind)
  · have hno : ¬ s.dlc.behind.any (QEntry.matches n v) = true := fun hm =>
      let ⟨e, he, hsame⟩ := (hmatch _).mp hm
      hbehind e he hsame
    have hjoins (hqueue : ∀ e ∈ d.queue, ¬ same e) : t = joinTail entry s :=
      (if_neg hno).trans (if_neg fun hm =>
        let ⟨e, he, hsame⟩ := (hmatch _).mp hm
        hqueue e he hsame)
    refine ⟨fun hqueue => ⟨replaceIn n v o d.queue, ?_, hreplaces _⟩, fun hqueue hne => ?_, fun hempty => ?_⟩
    · exact (if_neg hno).trans (if_pos ((hmatch _).mpr hqueue))
    · rw [hjoins hqueue, joinTail_of_queued hne]
    · have hqueue : ∀ e ∈ d.queue, ¬ same e := by
        rw [hempty]
        exact fun e he => absurd he List.not_mem_nil
      rw [hjoins hqueue, joinTail_of_empty hempty]

/-! ### The hazard discard (R98) -/

theorem length_filter_not {α : Type} (p : α → Bool) (l : List α) :
    (l.filter fun x => !p x).length = l.length - (l.filter p).length := by
  have hsum := List.length_eq_length_filter_add (l := l) p
  omega

theorem moving_iff (v : PostValue) : v.moving = true ↔
    match v with
    | .wheel x => x ≠ 0
    | .blade x => x ≠ 0
    | _ => False := by
  cases v <;> simp [PostValue.moving, PostValue.speed]

/-- Settles O38: what the discard leaves of the queue, and the flag by the entries that it removes. -/
theorem hazardDiscardsThePosts : Obligations.HazardDiscardsThePosts := by
  intro s d kept keptBehind removed moving
  have hremoved : s.discarded.length = removed := by
    have hsplit : s.discarded =
        (d.queue.filter fun e => !e.kept) ++ d.behind.filter fun e => !e.kept := List.filter_append ..
    rw [hsplit, List.length_append, length_filter_not, length_filter_not]
    rfl
  have hmoving : s.discarded.any (fun e => e.val.moving) = true ↔ moving := by
    have hkept (e : QEntry) : (!e.kept) = true ↔ e.origin ≠ .resp3 := by simp [QEntry.kept]
    simp only [State.discarded, List.any_eq_true, List.mem_filter, hkept, moving_iff, and_assoc]
    rfl
  refine ⟨_, leavesQueue_afterLeaving _ kept, fun hm => ?_, fun hm => ?_⟩
  · have hset : hazardDiscard s = setFlag .postDiscard [u8 s.discarded.length] (onDlc (fun d =>
        afterLeaving
          { d with
            queue := d.queue.filter QEntry.kept
            behind := d.behind.filter QEntry.kept
            relayHeld := none
            cnt := { d.cnt with discards := bumpBy s.discarded.length d.cnt.discards } }) s) :=
      if_pos (hmoving.mpr hm)
    rw [hset, hremoved]
    rfl
  · have hset : hazardDiscard s = onDlc (fun d =>
        afterLeaving
          { d with
            queue := d.queue.filter QEntry.kept
            behind := d.behind.filter QEntry.kept
            relayHeld := none
            cnt := { d.cnt with discards := bumpBy s.discarded.length d.cnt.discards } }) s :=
      if_neg fun h => hm (hmoving.mp h)
    rw [hset, hremoved]
    rfl

/-! ### The timers of a node (R96, R97) -/

theorem onNode_of_some {n : Node} {f : NodeRec → NodeRec} {s : State} {r : NodeRec} (h : s.dlc.recs.get n = some r) :
    onNode n f s = { s with dlc := { s.dlc with recs := s.dlc.recs.set n (some (f r)) } } := by
  rw [onNode, onDlc, h]
  rfl

/-- Settles O39: each timer is due, and its expiry spends it before its trigger is raised. -/
theorem nodeTimersRaiseTheirTriggers : Obligations.NodeTimersRaiseTheirTriggers := by
  intro dt n s r held u c with' addr hr
  have hdue (t : LimitTimer) (hst : t.st = .running) (hlimit : t.limit ≤ t.elapsed) : t.due = true := by
    simp [LimitTimer.due, hst, hlimit]
  refine ⟨fun hst hlimit => ?slip, fun hst hlimit => ?stall, fun hst hlimit => ?jam⟩
  case slip =>
    have hslip : u.slipDue n = true := by
      rw [State.slipDue, hr]
      exact hdue r.slip hst hlimit
    rw [exec_of_running _ held]
    refine congrArg Host.Outcome.next ((whenDue_of_due (due := State.slipDue n) hslip).trans ?_)
    rw [slipExpired, onNode_of_some hr]
    rfl
  case stall =>
    have hstall : u.stallDue n = true := by
      rw [State.stallDue, hr]
      exact hdue r.stall hst hlimit
    rw [exec_of_running _ held]
    refine congrArg Host.Outcome.next ((whenDue_of_due (due := State.stallDue n) hstall).trans ?_)
    rw [stallExpired, onNode_of_some hr]
    rfl
  case jam =>
    have hjam : u.jamDue n = true := by
      rw [State.jamDue, hr]
      exact hdue r.jam hst hlimit
    rw [exec_of_running _ held]
    refine congrArg Host.Outcome.next ((whenDue_of_due (due := State.jamDue n) hjam).trans ?_)
    rw [jamExpired, onNode_of_some hr]
    rfl

end Sys2Proof.Machine
end

section
/-! The pass-through requests, in the order of their checks (R91, R99 to R101, R159). -/

namespace Sys2Proof.Machine

/-! ### The judgement (R99) -/

section
variable {s : State} {p : List Byte} {n : Node}

theorem judgePass_of_nil : s.judgePass [] = .inl .badParam := rfl

theorem judgePass_of_no_node (hp : p ≠ [])
    (h : nodeOfNat? (byteAt p 0) = none ∨ ∃ n, nodeOfNat? (byteAt p 0) = some n ∧ s.nodeKind n = .noNode) :
    s.judgePass p = .inl .noNode := by
  have hempty : ¬ p.isEmpty = true := by simpa using hp
  rw [State.judgePass, if_neg hempty]
  rcases h with h | ⟨n, hn, hkind⟩
  · rw [h]
  · rw [hn]
    exact if_pos hkind

variable (hp : p ≠ []) (hn : nodeOfNat? (byteAt p 0) = some n) (hkind : s.nodeKind n ≠ .noNode)
include hp hn hkind

/-- A request to a fitted node is judged by its operation and its length, and by the test that runs. -/
theorem judgePass_of_node :
    s.judgePass p = if p.length < 3 ∨ 1 < byteAt p 1 then .inl .badParam
      else if s.dEchoRunning then .inl .busy
      else .inr (n, if byteAt p 1 = 0 then .write else .read) := by
  have hempty : ¬ p.isEmpty = true := by simpa using hp
  rw [State.judgePass, if_neg hempty, hn]
  exact if_neg hkind

theorem judgePass_of_bad (h : p.length < 3 ∨ 1 < byteAt p 1) : s.judgePass p = .inl .badParam := by
  rw [judgePass_of_node hp hn hkind, if_pos h]

theorem judgePass_of_test (hlen : 3 ≤ p.length) (hop : byteAt p 1 ≤ 1) (htest : s.dEchoRunning = true) :
    s.judgePass p = .inl .busy := by
  rw [judgePass_of_node hp hn hkind, if_neg (by omega), if_pos htest]

theorem judgePass_of_passed (hlen : 3 ≤ p.length) (hop : byteAt p 1 ≤ 1) (htest : s.dEchoRunning = false) :
    s.judgePass p = .inr (n, if byteAt p 1 = 0 then .write else .read) := by
  rw [judgePass_of_node hp hn hkind, if_neg (by omega), if_neg (by simp [htest])]

end

/-! ### A write and a read (R91, R100, R101) -/

section
variable {n : Node} {bytes : List Byte} {s : State}

theorem passWrite_of_hazard (h : s.rse.ctx3.isSome = true) : passWrite n bytes s = refusePass .refusedState s :=
  if_pos h

theorem passWrite_of_full (hctx : s.rse.ctx3 = none)
    (h : 12 ≤ s.dlc.queue.length ∨ 10 ≤ (s.dlc.queue.filter fun e => e.val.isPass).length) :
    passWrite n bytes s = refusePass .retry s := by
  have hroom : s.admitsPass = false := by
    rw [Bool.eq_false_iff, Ne, State.admitsPass, Bool.and_eq_true, decide_eq_true_iff, decide_eq_true_iff]
    omega
  rw [passWrite, hctx, hroom]
  rfl

theorem passWrite_of_room (hctx : s.rse.ctx3 = none) (hlen : s.dlc.queue.length < 12)
    (hpass : (s.dlc.queue.filter fun e => e.val.isPass).length < 10) :
    passWrite n bytes s = answer .ok [] (joinTail ⟨n, .param bytes, .pass, false, false⟩
      (countDlc (fun c => { c with passWrites := bump c.passWrites }) s)) := by
  have hroom : s.admitsPass = true := by
    rw [State.admitsPass, Bool.and_eq_true, decide_eq_true_iff, decide_eq_true_iff]
    exact ⟨hlen, hpass⟩
  rw [passWrite, hctx, hroom]
  rfl

theorem passRead_of_read (h : s.dlc.read ≠ none) : passRead n bytes s = refusePass .busy s :=
  if_pos (Option.isSome_iff_ne_none.mpr h)

theorem passRead_of_queued (hread : s.dlc.read = none) (h : s.dlc.queue ≠ []) :
    passRead n bytes s = refusePass .retry s := by
  have hqueued : (!s.dlc.queue.isEmpty) = true := by simpa using h
  rw [passRead, hread, hqueued]
  rfl

theorem passRead_of_free {q : Req} {rest : List Req} (hread : s.dlc.read = none) (hempty : s.dlc.queue = [])
    (hq : s.mrh.queue = q :: rest) :
    passRead n bytes s = arbitrate { s with
      mrh := { s.mrh with queue := rest, outstanding := some (q.tag, q.src) }
      dlc := { s.dlc with
        read := some ⟨n, bytes, false, false⟩
        cnt := { s.dlc.cnt with passReads := bump s.dlc.cnt.passReads } } } := by
  rw [passRead, hread, hempty, holdRead, hq]
  rfl

end

/-! ### The request at the head -/

/-- A request that names not the other operation is carried out by either command. -/
theorem headPass_of_head {other : PassOp} {s : State} {q : Req} {rest : List Req} (hq : s.mrh.queue = q :: rest)
    (hpass : q.pass = true) (hdone : s.mrh.headDone = false) (hreset : s.mrh.fullResetDue = false)
    (hop : byteAt q.payload 1 ≠ other.num) : headPass other s = true := by
  simp [headPass, State.headReady, hq, hpass, hdone, hreset, hop]

theorem passHead_of_head {s : State} {q : Req} {rest : List Req} (hq : s.mrh.queue = q :: rest) :
    passHead s = passRequest q.payload s := by
  rw [passHead, hq]

theorem passRequest_of_refused {p : List Byte} {s : State} {code : RespCode} (h : s.judgePass p = .inl code) :
    passRequest p s = refusePass code s := by
  rw [passRequest, h]

theorem passRequest_of_write {p : List Byte} {s : State} {n : Node} (h : s.judgePass p = .inr (n, .write)) :
    passRequest p s = passWrite n (p.drop 2) s := by
  rw [passRequest, h]

theorem passRequest_of_read {p : List Byte} {s : State} {n : Node} (h : s.judgePass p = .inr (n, .read)) :
    passRequest p s = passRead n [p.getD 2 0#8] s := by
  rw [passRequest, h]

/-- Settles O40: the command carries out the head's request, whose judgement is the one of the lemmas above. -/
theorem passThroughIsJudged : Obligations.PassThroughIsJudged := by
  intro dt s q rest held u p c refused refusal hq hpass hdone hreset
  have hwrite (hop : byteAt p 1 ≠ 1) : exec (.passWrite dt) s = .next (passRequest p u) := by
    rw [exec_of_running _ held]
    exact congrArg Host.Outcome.next
      ((whenDue_of_due (headPass_of_head (other := .read) hq hpass hdone hreset hop)).trans (passHead_of_head hq))
  have hread (hop : byteAt p 1 ≠ 0) : exec (.passRead dt) s = .next (passRequest p u) := by
    rw [exec_of_running _ held]
    exact congrArg Host.Outcome.next
      ((whenDue_of_due (headPass_of_head (other := .write) hq hpass hdone hreset hop)).trans (passHead_of_head hq))
  have hrefusal {code : RespCode} (h : u.judgePass p = .inl code) : refusal code :=
    ⟨fun hop => (hwrite hop).trans (congrArg Host.Outcome.next (passRequest_of_refused h)),
      fun hop => (hread hop).trans (congrArg Host.Outcome.next (passRequest_of_refused h))⟩
  refine ⟨fun hp => ?_, fun dest hp hdest h => ?_, fun n hp hn hkind => ⟨fun h => ?_, fun hlen hop htest => ?_,
    fun hlen hop => ?_, fun hlen hop htest => ?_⟩⟩
  · exact hrefusal (hp ▸ judgePass_of_nil)
  · refine hrefusal (judgePass_of_no_node hp ?_)
    rcases h with h | ⟨n, h, hkind⟩
    · exact .inl (hdest.trans h)
    · exact .inr ⟨n, hdest.trans h, hkind⟩
  · exact hrefusal (judgePass_of_bad hp hn hkind h)
  · exact hrefusal (judgePass_of_test hp hn hkind hlen hop htest)
  · have hjudge (htest : u.dEchoRunning = false) : exec (.passWrite dt) s = .next (passWrite n (p.drop 2) u) := by
      have hop' : byteAt p 1 ≤ 1 := by omega
      have hinr := judgePass_of_passed hp hn hkind hlen hop' htest
      rw [if_pos hop] at hinr
      rw [hwrite (by omega), passRequest_of_write hinr]
    refine ⟨fun htest hctx => ?_, fun htest hctx hfull => ?_, fun htest hctx hroom hfew => ?_⟩
    · rw [hjudge htest, passWrite_of_hazard hctx]
      rfl
    · rw [hjudge htest, passWrite_of_full hctx hfull]
      rfl
    · rw [hjudge htest, passWrite_of_room hctx hroom hfew]
      rfl
  · have hjudge : exec (.passRead dt) s = .next (passRead n [p.getD 2 0#8] u) := by
      have hinr := judgePass_of_passed hp hn hkind hlen hop.le htest
      rw [if_neg (by omega)] at hinr
      rw [hread (by omega), passRequest_of_read hinr]
    refine ⟨fun hsome => ?_, fun hnone hne => ?_, fun hnone hempty => ?_⟩
    · rw [hjudge, passRead_of_read hsome]
      rfl
    · rw [hjudge, passRead_of_queued hnone hne]
      rfl
    · rw [hjudge, passRead_of_free hnone hempty hq]

end Sys2Proof.Machine
end

section
/-! What the posts of a hazard entry read and leave (R75, R98, R118): the drive link, the last posted values, and the
entries that wait. -/

namespace Sys2Proof.Machine

/-! ### What the drive link reads -/

/-- What posting and arbitration read: the drive link, the tables in force, and the test. -/
def State.linkInput (s : State) : Dlc × (List Host.Cell × Bool) × Lbu := (s.dlc, s.bankView, s.lbu)

section
variable {s t : State}

theorem linkInput_iff : t.linkInput = s.linkInput ↔ t.dlc = s.dlc ∧ t.bankView = s.bankView ∧ t.lbu = s.lbu := by
  simp only [State.linkInput, Prod.mk.injEq]

theorem bank_figures (h : t.bankView = s.bankView) :
    t.flushLimit = s.flushLimit ∧ t.pollInterval = s.pollInterval ∧ t.responseTimeout = s.responseTimeout := by
  simp only [State.bankView, Prod.mk.injEq] at h
  simp only [State.flushLimit, State.pollInterval, State.responseTimeout, State.gen8,
    State.tableByte, State.tableAddr, State.bankBase, h.1, h.2, and_self]

theorem beginTx_dlc (n : Node) (c : Carried) (h : t.linkInput = s.linkInput) :
    (beginTx n c t).dlc = (beginTx n c s).dlc := by
  obtain ⟨hdlc, hbank, -⟩ := linkInput_iff.mp h
  simp only [beginTx, onDlc, hdlc, nodeKind_of_bank hbank, (bank_figures hbank).2.2]

theorem mostOverdue_congr (h : t.linkInput = s.linkInput) : t.mostOverdue = s.mostOverdue := by
  obtain ⟨hdlc, hbank, -⟩ := linkInput_iff.mp h
  have hdue : t.pollDueAge = s.pollDueAge := by
    funext n
    simp only [State.pollDueAge, hdlc, (bank_figures hbank).2.1]
  have hworse : t.worse = s.worse := by
    funext best n
    simp only [State.worse, hdue]
  rw [State.mostOverdue, State.mostOverdue, hworse]

theorem arbitrate_dlc (h : t.linkInput = s.linkInput) : (arbitrate t).dlc = (arbitrate s).dlc := by
  obtain ⟨hdlc, hbank, hlbu⟩ := linkInput_iff.mp h
  have hfree : t.linkFree = s.linkFree := by
    rw [State.linkFree, State.linkFree, hdlc, State.dEchoRunning, State.dEchoRunning, State.testRunning,
      State.testRunning, hlbu]
  have hfirst : t.queueFirst = s.queueFirst := by
    rw [State.queueFirst, State.queueFirst, hdlc, (bank_figures hbank).1]
  have hhead : (sendHead t).dlc = (sendHead s).dlc := by
    unfold sendHead
    rw [hdlc]
    split
    · exact hdlc
    · exact beginTx_dlc _ _ (linkInput_iff.mpr ⟨by simp [onDlc, hdlc], hbank, hlbu⟩)
  have hread : (sendRead t).dlc = (sendRead s).dlc := by
    unfold sendRead
    rw [hdlc]
    split
    · exact hdlc
    · exact beginTx_dlc _ _ (linkInput_iff.mpr ⟨by simp [onDlc, hdlc], hbank, hlbu⟩)
  unfold arbitrate
  rw [hfree, hfirst, mostOverdue_congr h, hdlc]
  split
  · exact hdlc
  · split
    · exact hhead
    · split
      · exact beginTx_dlc _ _ (linkInput_iff.mpr ⟨by simp [onDlc, hdlc], hbank, hlbu⟩)
      · split
        · exact hread
        · exact hhead

theorem arbitrate_linkInput (h : t.linkInput = s.linkInput) : (arbitrate t).linkInput = (arbitrate s).linkInput := by
  obtain ⟨-, hbank, hlbu⟩ := linkInput_iff.mp h
  refine linkInput_iff.mpr ⟨arbitrate_dlc h, ?_, ?_⟩
  · simpa [State.bankView] using hbank
  · simpa using hlbu

theorem onDlc_linkInput (f : Dlc → Dlc) (h : t.linkInput = s.linkInput) :
    (onDlc f t).linkInput = (onDlc f s).linkInput := by
  obtain ⟨hdlc, hbank, hlbu⟩ := linkInput_iff.mp h
  exact linkInput_iff.mpr ⟨congrArg f hdlc, hbank, hlbu⟩

theorem joinTail_linkInput (e : QEntry) (h : t.linkInput = s.linkInput) :
    (joinTail e t).linkInput = (joinTail e s).linkInput := by
  have hjoined := onDlc_linkInput (fun d => { d with queue := d.queue ++ [e] }) h
  obtain ⟨hdlc, -, -⟩ := linkInput_iff.mp h
  unfold joinTail
  rw [hdlc]
  split
  · exact arbitrate_linkInput hjoined
  · exact hjoined

theorem postSet_linkInput (n : Node) (v : PostValue) (o : Origin) (h : t.linkInput = s.linkInput) :
    (postSet n v o t).linkInput = (postSet n v o s).linkInput := by
  obtain ⟨hdlc, -, -⟩ := linkInput_iff.mp h
  unfold postSet
  rw [hdlc]
  split
  · exact onDlc_linkInput _ h
  · split
    · exact onDlc_linkInput _ h
    · exact joinTail_linkInput _ h

theorem postRelay_linkInput (c : Bool) (h : t.linkInput = s.linkInput) :
    (postRelay c t).linkInput = (postRelay c s).linkInput := by
  obtain ⟨hdlc, hbank, -⟩ := linkInput_iff.mp h
  have hnode : t.powerNode = s.powerNode := by simp only [State.powerNode, nodeKind_of_bank hbank]
  unfold postRelay State.relayQueued
  rw [hnode, hdlc]
  split
  · exact h
  · split
    · exact onDlc_linkInput _ h
    · exact joinTail_linkInput _ h

end

/-! ### Posting changes the drive link alone -/

theorem arbitrate_eq (s : State) : arbitrate s = { s with dlc := (arbitrate s).dlc } := by
  unfold arbitrate sendHead sendRead
  (repeat' split) <;> rfl

theorem joinTail_eq (e : QEntry) (s : State) : joinTail e s = { s with dlc := (joinTail e s).dlc } := by
  unfold joinTail
  dsimp only
  split
  · rw [arbitrate_eq]
    rfl
  · rfl

theorem postRelay_eq (c : Bool) (s : State) : postRelay c s = { s with dlc := (postRelay c s).dlc } := by
  unfold postRelay
  split
  · rfl
  · split
    · rfl
    · exact joinTail_eq _ s

theorem postSet_eq (n : Node) (v : PostValue) (o : Origin) (s : State) :
    postSet n v o s = { s with dlc := (postSet n v o s).dlc } := by
  unfold postSet
  split
  · rfl
  · split
    · rfl
    · exact joinTail_eq _ s

/-! ### What waits -/

/-- An entry without its marks. -/
def QEntry.key (e : QEntry) : Node × PostValue × Origin := (e.node, e.val, e.origin)

/-- What waits for the drive nodes, without the marks of the entries. -/
def Dlc.keys (d : Dlc) : List (Node × PostValue × Origin) × List (Node × PostValue × Origin) :=
  (d.queue.map QEntry.key, d.behind.map QEntry.key)

theorem arbitrate_keys (s : State) : (arbitrate s).dlc.keys = s.dlc.keys := by
  have hhead : (sendHead s).dlc.keys = s.dlc.keys := by
    unfold sendHead
    split
    · rfl
    · next e rest hq =>
      simp only [Dlc.keys, hq]
      rfl
  unfold arbitrate
  (repeat' split)
  · rfl
  · exact hhead
  · rfl
  · unfold sendRead
    split <;> rfl
  · exact hhead

theorem arbitrate_relayHeld (s : State) : (arbitrate s).dlc.relayHeld = s.dlc.relayHeld := by
  unfold arbitrate sendHead sendRead
  (repeat' split) <;> rfl

theorem joinTail_keys (e : QEntry) (s : State) :
    (joinTail e s).dlc.keys = (s.dlc.keys.1 ++ [e.key], s.dlc.keys.2) := by
  have hjoined : (onDlc (fun d => { d with queue := d.queue ++ [e] }) s).dlc.keys =
      (s.dlc.keys.1 ++ [e.key], s.dlc.keys.2) := by
    simp [Dlc.keys, onDlc]
  unfold joinTail
  dsimp only
  split
  · rw [arbitrate_keys, hjoined]
  · exact hjoined

theorem joinTail_relayHeld (e : QEntry) (s : State) : (joinTail e s).dlc.relayHeld = s.dlc.relayHeld := by
  unfold joinTail
  dsimp only
  split
  · rw [arbitrate_relayHeld]
    rfl
  · rfl

theorem postSet_relayHeld (n : Node) (v : PostValue) (o : Origin) (s : State) :
    (postSet n v o s).dlc.relayHeld = s.dlc.relayHeld := by
  unfold postSet
  split
  · rfl
  · split
    · rfl
    · exact joinTail_relayHeld _ s

/-- The keys after a post takes the place of the entry that it coalesces with. -/
def rekeyed (n : Node) (v : PostValue) (o : Origin) (l : List (Node × PostValue × Origin)) :
    List (Node × PostValue × Origin) :=
  l.map fun k => if k.1 = n ∧ k.2.1.coalesces v = true then (n, v, o) else k

theorem replaceIn_keys (n : Node) (v : PostValue) (o : Origin) (l : List QEntry) :
    (replaceIn n v o l).map QEntry.key = rekeyed n v o (l.map QEntry.key) := by
  rw [replaceIn, rekeyed, List.map_map, List.map_map]
  refine List.map_congr_left fun e _ => ?_
  have hmatch := matches_iff n v e
  by_cases h : e.matches n v = true
  · obtain ⟨hnode, hval⟩ := hmatch.mp h
    simp [QEntry.key, QEntry.replaced, h, hnode, hval]
  · have hno : ¬ (e.node = n ∧ e.val.coalesces v = true) := fun hm => h (hmatch.mpr hm)
    simp [QEntry.key, h, hno]

end Sys2Proof.Machine
end

section
/-! The Dock Controller's steps: the judgement of a timer (R96, R129, R130), the steering (R132), the station test
(R133, R134), the return (R128 to R131), the entry to UNDOCKED (R139), and what a response does to it (R141). -/

namespace Sys2Proof.Machine

/-! ### The judgement of a timer -/

section
variable {limit : Nat} {t : LimitTimer}

theorem judge_of_stopped (h : t.st = .stopped) :
    t.judge true limit = if limit = 0 then (⟨.spent, 0, 0⟩, true) else (⟨.running, 0, limit⟩, false) := by
  rw [LimitTimer.judge, h]
  rfl

theorem judge_of_running (h : t.st = .running) : t.judge true limit = ({ t with limit := limit }, false) := by
  obtain ⟨st, elapsed, old⟩ := t
  cases h
  rfl

theorem judge_of_spent (h : t.st = .spent) : t.judge true limit = (t, false) := by
  rw [LimitTimer.judge, h]
  rfl

theorem judge_false_of_going (h : t.st = .running ∨ t.st = .spent) :
    t.judge false limit = ({ t with st := .stopped }, false) := by
  obtain ⟨st, elapsed, old⟩ := t
  rcases h with h | h <;> cases h <;> rfl

theorem judge_false_of_stopped (h : t.st = .stopped) : t.judge false limit = (t, false) := by
  rw [LimitTimer.judge, h]
  rfl

end

theorem timerIsJudged : TimerIsJudged := by
  intro cond limit t r
  refine ⟨fun hcond => ?_, fun hcond => ?_⟩
  · subst hcond
    exact ⟨fun hst hlimit => (judge_of_stopped hst).trans (if_neg hlimit.ne'),
      fun hst hlimit => (judge_of_stopped hst).trans (if_pos hlimit), judge_of_running, judge_of_spent⟩
  · subst hcond
    exact ⟨judge_false_of_going, judge_false_of_stopped⟩

/-! ### Timers of the Dock Controller -/

theorem dockTimer_eq (s : State) (elapsed : Nat) :
    s.dockTimer elapsed = ⟨if s.ctxHeld then .held else .running, elapsed⟩ := by
  rw [State.dockTimer, Timer.mk.injEq]
  refine ⟨?_, rfl⟩
  by_cases h : s.ctxHeld = false
  · rw [if_pos ((ctxHeld_eq_false_iff s).mp h), h]
    rfl
  · have hheld : s.ctxHeld = true := by simpa using h
    rw [if_neg fun hnone => h ((ctxHeld_eq_false_iff s).mpr hnone), hheld]
    rfl

theorem timerStart_eq (s : State) : s.timerStart = s.dockTimer 0 := (dockTimer_eq s 0).symm

theorem timerResume_eq (s : State) (t : Timer) : s.timerResume t = s.dockTimer t.elapsed :=
  (dockTimer_eq s t.elapsed).symm

/-! ### Steering (R132) -/

theorem formSteering_of_some {s : State} {l r : Int} (h : s.steering = some (l, r)) :
    formSteering s = { s with dkc := { s.dkc with cmdL := l, cmdR := r } } := by
  rw [formSteering, h]
  rfl

theorem formSteering_of_none {s : State} (h : s.steering = none) : formSteering s = guideLostFall s := by
  rw [formSteering, h]

/-- The lane of the guide on its inside. -/
def State.innerLane (s : State) : LaneClass := if s.rightInside = true then s.dkc.guide.right else s.dkc.guide.left

/-- The pair of the table, mirrored for a guide whose inside side is RIGHT_INSIDE, and brought into range. -/
theorem steering_of_pair {s : State} {a b : Int}
    (h : steerPair s.dkc.guide.loop s.innerLane s.steerSpeed s.turnDelta = some (a, b)) :
    s.steering = some (clampI (-2000) 2000 (if s.rightInside = true then b else a),
      clampI (-2000) 2000 (if s.rightInside = true then a else b)) := by
  unfold State.innerLane at h
  unfold State.steering
  dsimp only
  split
  · next hright =>
    rw [if_pos hright] at h
    rw [h]
    rfl
  · next hright =>
    rw [if_neg hright] at h
    rw [h]
    rfl

theorem steering_of_lost {s : State} (h : s.dkc.guide.loop = .lost) : s.steering = none := by
  unfold State.steering
  dsimp only
  rw [h]
  exact ite_self none

theorem steerSpeed_eq (s : State) :
    (s.steerSpeed : Int) = if s.dkc.dock = .approach then (s.approachSpeed : Int) else (s.followSpeed : Int) := by
  unfold State.steerSpeed
  split <;> rfl

theorem guideLostFall_eq {s : State} {d : DockState} (hd : s.dkc.dock = d) :
    guideLostFall s = setFlag .guideLost [u8 d.num] { s with
      dkc := { s.dkc with
        dock := .returnSeek
        approachT := { s.dkc.approachT with st := .stopped }
        cmdL := 0
        cmdR := 0
        cnt := { s.dkc.cnt with guideLost := bump s.dkc.cnt.guideLost } } } := by
  rw [guideLostFall, hd]
  rfl

theorem steeringIsFormed : SteeringIsFormed := by
  intro s k g v d inRange inner drives lost
  have hdrives {a b : Int} (h : steerPair g.loop inner v d = some (a, b)) : drives a b := by
    have hpair : steerPair s.dkc.guide.loop s.innerLane s.steerSpeed s.turnDelta = some (a, b) := by
      rw [steerSpeed_eq]
      exact h
    exact formSteering_of_some (steering_of_pair hpair)
  refine ⟨fun hloop hin => hdrives ?_, fun hloop hout => hdrives ?_, fun hloop => hdrives ?_, fun hloop => hdrives ?_,
    fun hloop => hdrives ?_, fun hloop => ⟨fun hdock => ?_, fun hdock => ?_⟩⟩
  · rw [hloop, hin]
    rfl
  · rw [hloop]
    exact if_neg hout
  · rw [hloop]
    rfl
  · rw [hloop]
    rfl
  · rcases hloop with hloop | hloop <;> rw [hloop] <;> rfl
  · exact (formSteering_of_none (steering_of_lost hloop)).trans (guideLostFall_eq hdock)
  · exact (formSteering_of_none (steering_of_lost hloop)).trans (guideLostFall_eq hdock)

/-! ### The station test (R133, R134) -/

theorem enterContact_eq (o : ContactOrigin) (s : State) : enterContact o s = contactEntry o s := by
  rw [enterContact, timerStart_eq]
  rfl

/-- APPROACH as FOLLOW enters it, before an established contact is looked at. -/
def State.approached (s : State) : State :=
  formSteering { s with
    dkc := { s.dkc with
      dock := .approach
      approachT := s.dockTimer 0
      cnt := { s.dkc.cnt with approaches := bump s.dkc.cnt.approaches } } }

theorem enterApproach_eq (s : State) :
    enterApproach s = if s.approached.dkc.dock = .approach ∧ s.approached.dkc.established = true then
      contactEntry .approach s.approached else s.approached := by
  rw [enterApproach, timerStart_eq, enterContact_eq]
  rfl

theorem stationReached_iff (s : State) :
    s.stationReached = true ↔ s.dkc.station.loop = .inside ∨ s.stationLevel ≤ s.dkc.station.strength := by
  simp [State.stationReached]

theorem stationTest_of_reached {s : State} (hdock : s.dkc.dock = .follow) (h : s.stationReached = true) :
    stationTest s = enterApproach s := if_pos ⟨hdock, h⟩

theorem stationTest_of_not {s : State} (h : ¬ (s.dkc.dock = .follow ∧ s.stationReached = true)) :
    stationTest s = s := if_neg h

theorem stationIsTested : StationIsTested := by
  intro s k reached x
  refine ⟨fun h => stationTest_of_not fun hreach => h ⟨hreach.1, (stationReached_iff s).mp hreach.2⟩,
    fun hdock hreach => ?_⟩
  have htest : stationTest s = enterApproach s := stationTest_of_reached hdock ((stationReached_iff s).mpr hreach)
  refine ⟨fun happroach hcontact => ?_, fun hno => ?_⟩
  · rw [htest, enterApproach_eq]
    exact if_pos ⟨happroach, hcontact⟩
  · rw [htest, enterApproach_eq]
    exact if_neg hno

/-! ### The return (R128 to R131) -/

theorem slots_find_isSome_iff (p : Slot → Bool) : (slots.find? p).isSome = true ↔ ∃ i, p i = true := by
  rw [List.find?_isSome]
  exact ⟨fun ⟨i, _, hi⟩ => ⟨i, hi⟩, fun ⟨i, hi⟩ => ⟨i, mem_slots i, hi⟩⟩

theorem canReturn_iff (s : State) :
    s.canReturn = true ↔ (∃ i, s.slotKind i = .guide) ∧ ∃ i, s.slotKind i = .station := by
  simp only [State.canReturn, State.guideSlot, State.stationSlot, Bool.and_eq_true, slots_find_isSome_iff, beq_iff_eq]

theorem tryReturn_of_not {r : ReturnReason} {s : State} (h : s.canReturn = false) :
    tryReturn r s = countDkc (fun c => { c with unavailable := bump c.unavailable }) s :=
  if_neg (by simp [h])

theorem tryReturn_of_able {r : ReturnReason} {s : State} (h : s.canReturn = true) :
    tryReturn r s = returnEntry r s := if_pos h

/-- The part in RETURN_SEEK, before the guide is looked at. -/
def State.seeking (s : State) (r : ReturnReason) : State :=
  setFlag .returnStarted [u8 r.num] { s with
    dkc := { s.dkc with
      dock := .returnSeek
      retry := 0
      reason := r
      batteryT := { s.dkc.batteryT with st := .stopped }
      rainT := { s.dkc.rainT with st := .stopped }
      cmdL := 0
      cmdR := 0
      cnt := countReturn r s.dkc.cnt } }

theorem returnEntry_eq (r : ReturnReason) (s : State) : returnEntry r s = seekTest (s.seeking r) := rfl

theorem seeking_dkc (r : ReturnReason) (s : State) :
    (s.seeking r).dkc = { s.dkc with
      dock := .returnSeek
      retry := 0
      reason := r
      batteryT := { s.dkc.batteryT with st := .stopped }
      rainT := { s.dkc.rainT with st := .stopped }
      cmdL := 0
      cmdR := 0
      cnt := countReturn r s.dkc.cnt } := by
  simp [State.seeking]

theorem returnEntry_of_not_straddle {r : ReturnReason} {s : State} (h : s.dkc.guide.loop ≠ .straddle) :
    returnEntry r s = s.seeking r := by
  rw [returnEntry_eq]
  refine if_neg fun hseek => h ?_
  rw [seeking_dkc] at hseek
  exact hseek.2

theorem returnEntry_of_straddle {r : ReturnReason} {s : State} (h : s.dkc.guide.loop = .straddle) :
    returnEntry r s = enterFollow (s.seeking r) := by
  rw [returnEntry_eq]
  refine if_pos ?_
  rw [seeking_dkc]
  exact ⟨rfl, h⟩

theorem countReturn_eq (r : ReturnReason) (c : DkcCounters) :
    countReturn r c =
      match r with
      | .nav => { c with returnsNav := bump c.returnsNav }
      | .battery => { c with returnsBattery := bump c.returnsBattery }
      | .rain => { c with returnsRain := bump c.returnsRain }
      | .noReason => c := by
  cases r <;> rfl

theorem reasonByte (r : ReturnReason) :
    u8 r.num =
      match r with
      | .noReason => 0#8
      | .nav => 1#8
      | .battery => 2#8
      | .rain => 3#8 := by
  cases r <;> rfl

theorem returnIsTried : ReturnIsTried := by
  intro r s k counted number x
  have hx : s.seeking r = x := by
    rw [State.seeking, countReturn_eq, reasonByte] <;> rfl
  refine ⟨canReturn_iff s, fun h => tryReturn_of_not h, fun h hguide => ?_, fun h hguide => ?_⟩
  · rw [tryReturn_of_able h, returnEntry_of_not_straddle hguide, hx]
  · rw [tryReturn_of_able h, returnEntry_of_straddle hguide, hx]
    rfl

/-! ### The entry to UNDOCKED and the rain (R130, R139) -/

/-- The judgement of the rain condition in UNDOCKED. -/
theorem rainJudge_eq {s : State} {j : LimitTimer × Bool}
    (hj : s.dkc.rainT.judge (s.rainReturn && s.dkc.rain) s.rainPersistence = j) :
    rainJudge s =
      if j.2 then tryReturn .rain { s with dkc := { s.dkc with rainT := j.1 } }
      else { s with dkc := { s.dkc with rainT := j.1 } } := by
  rw [rainJudge, hj]
  rfl

theorem undockedIsEntered : UndockedIsEntered := by
  intro s k j x
  have hjudge : enterUndocked s = if j.2 then tryReturn .rain x else x := rainJudge_eq rfl
  refine ⟨fun h => ?_, fun h => ?_⟩
  · rw [hjudge, h]
    rfl
  · rw [hjudge, h]
    rfl

theorem rainIsTaken : RainIsTaken := by
  intro rain s k j x
  have hjudge (hdock : k.dock = .undocked) : takeRain rain s = if j.2 then tryReturn .rain (x j.1) else x j.1 :=
    (if_pos hdock).trans (rainJudge_eq rfl)
  refine ⟨fun hdock => if_neg hdock, fun hdock h => ?_, fun hdock h => ?_⟩
  · rw [hjudge hdock, h]
    rfl
  · rw [hjudge hdock, h]
    rfl

/-! ### The test of WIRE_LOST (R37, R42) -/

theorem wireLostIsTested : WireLostIsTested := by
  intro s due
  have hskip : (s.zcu.frozen || !s.wireLostCond || !s.zcu.wireLostArm || s.dkc.dock == .docked) = true ↔ ¬ due := by
    have hcond := wireLostCondOf_iff s s.zcu.loops
    rw [← State.wireLostCond] at hcond
    simp only [due, ← hcond, Bool.or_eq_true, Bool.not_eq_true', beq_iff_eq]
    cases s.zcu.frozen <;> cases s.wireLostCond <;> cases s.zcu.wireLostArm <;> simp
  exact ⟨fun h => if_neg fun hs => hskip.mp hs h, fun h => if_pos (hskip.mpr h)⟩

/-! ### What a response does (R141) -/

/-- The part after the last context, its HELD timers going on and its steering formed again. -/
def State.freed (s : State) : State :=
  let x : State := { s with
    dkc := { s.dkc with
      approachT := if s.dkc.dock = .contact then s.dkc.approachT else s.dkc.approachT.unhold
      relayT := s.dkc.relayT.unhold
      motionT := s.dkc.motionT.unhold } }
  if s.dkc.dock = .follow then stationTest (formSteering x)
  else if s.dkc.dock = .approach then formSteering x
  else x

theorem dkcResume_eq (s : State) : dkcResume s = repostRelay s.relayRepost s.freed := by
  unfold dkcResume State.freed
  dsimp only [onDkc]
  cases s.dkc.dock <;> rfl

/-- The relay command under way: OPEN in the wait of DEPARTING and after a relay timeout, CLOSE in CONTACT. -/
theorem relayRepost_eq (s : State) :
    (s.dkc.dock = .contact → s.relayRepost = some true) ∧
    ((s.dkc.dock = .departing ∧ s.dkc.phase = .waitOpen) ∨ (s.dkc.dock = .backoff ∧ s.dkc.backoffRelay = true) →
      s.relayRepost = some false) ∧
    (s.dkc.dock ≠ .contact → ¬ ((s.dkc.dock = .departing ∧ s.dkc.phase = .waitOpen) ∨
      (s.dkc.dock = .backoff ∧ s.dkc.backoffRelay = true)) → s.relayRepost = none) := by
  unfold State.relayRepost
  cases s.dkc.dock <;> simp

/-- The Dock Controller's timers do not choose the POWER node. -/
theorem freed_powerNode (s : State) : s.freed.powerNode = s.powerNode := by
  have hbank : s.freed.mem = s.mem ∧ s.freed.tbs = s.tbs := by
    unfold State.freed
    dsimp only
    (repeat' split) <;> simp
  have hkind : s.freed.nodeKind = s.nodeKind := funext fun n => nodeKind_of_bank (by
    simp only [State.bankView, hbank.1, hbank.2]) n
  simp only [State.powerNode, hkind]

theorem repostRelay_of_fitted {close : Bool} {s : State} (h : s.powerNode ≠ none) :
    repostRelay (some close) s =
      countDkc (fun k => { k with relayReposts := bump k.relayReposts }) (postRelay close s) :=
  if_pos (Option.isSome_iff_ne_none.mpr h)

theorem repostRelay_of_not_fitted {c : Option Bool} {s : State} (h : s.powerNode = none) : repostRelay c s = s := by
  cases c with
  | none => rfl
  | some close => exact if_neg (by simp [h])

theorem responseReachesTheDock : ResponseReachesTheDock := by
  intro s k held goesOn x y opens posts
  have hy : s.freed = y := rfl
  obtain ⟨hcontact, hopens, hnone⟩ := relayRepost_eq s
  have hfitted := freed_powerNode s
  refine ⟨rfl, fun h => ?_, fun hpower hdock => ?_, fun hpower hopen => ?_⟩
  · rw [dkcResume_eq, ← hy]
    rcases h with h | ⟨hdock, hclosed⟩
    · exact repostRelay_of_not_fitted (hfitted.trans h)
    · rw [hnone hdock hclosed]
      rfl
  · rw [dkcResume_eq, hcontact hdock, repostRelay_of_fitted (by rw [hfitted]; exact hpower)]
    rfl
  · rw [dkcResume_eq, hopens hopen, repostRelay_of_fitted (by rw [hfitted]; exact hpower)]
    rfl

end Sys2Proof.Machine
end

section
/-! The Dock Controller's events: its timers (R129, R130, R134 to R136, R138) and its requests (R128, R138,
R140). -/

namespace Sys2Proof.Machine

/-! ### A set flag stays set (R161) -/

theorem flag_setFlag_self {f : EventFlag} {d : List Byte} {s : State} (hlen : s.nli.flags.length = 19)
    (h : s.flag f = none) : (setFlag f d s).flag f = some d :=
  (eventFlagIsSet f d s hlen).2.1 h

theorem flag_setFlag_ne_none {f : EventFlag} {d : List Byte} {s : State} (hlen : s.nli.flags.length = 19) :
    (setFlag f d s).flag f ≠ none := by
  by_cases h : s.flag f = none
  · rw [flag_setFlag_self hlen h]
    exact nofun
  · rwa [setFlag_of_set h]

theorem flag_setFlag_of_set {f g : EventFlag} {d e : List Byte} {s : State} (h : s.flag f = some d) :
    (setFlag g e s).flag f = some d := by
  by_cases hg : s.flag g = none
  · have hne : g.num ≠ f.num := fun he => by
      rw [eventFlag_num_inj he, h] at hg
      cases hg
    rw [State.flag, setFlag_flags hg, List.getD_eq_getElem?_getD, List.getElem?_set_ne hne,
      ← List.getD_eq_getElem?_getD]
    exact h
  · rwa [setFlag_of_set hg]

theorem flag_congr {s t : State} (h : t.nli = s.nli) (f : EventFlag) : t.flag f = s.flag f := by
  rw [State.flag, State.flag, h]

section
variable {f : EventFlag} {d : List Byte} {s : State}

theorem flag_hazardDiscard (h : s.flag f = some d) : (hazardDiscard s).flag f = some d := by
  unfold hazardDiscard
  dsimp only
  split
  · exact flag_setFlag_of_set h
  · exact h

theorem flag_hazardEntry {t : Trig} {e : Option Nat} (h : s.flag f = some d) :
    (hazardEntry t e s).flag f = some d := by
  have hdiscard : (hazardDiscard (setFlag .hazard (trigDetail t e) (hazardCreate t e s))).flag f = some d :=
    flag_hazardDiscard (flag_setFlag_of_set ((flag_congr (by simp) f).trans h))
  exact (flag_congr (by simp [hazardEntry]) f).trans hdiscard

theorem flag_raiseFixed {t : Trig} {e : Option Nat} (h : s.flag f = some d) : (raiseFixed t e s).flag f = some d := by
  unfold raiseFixed
  split
  · exact h
  · exact flag_hazardEntry h

theorem flag_wireLostTest (h : s.flag f = some d) : (wireLostTest s).flag f = some d := by
  unfold wireLostTest
  split
  · exact h
  · exact flag_raiseFixed h

theorem flag_evaluate (s : State) (f : EventFlag) : (evaluate s).flag f = s.flag f := flag_congr (by simp) f

/-- The hand-on of the Dock Controller clears no flag. -/
theorem flag_dockHandOn {u : State} (h : s.flag f = some d) : (dockHandOn u s).flag f = some d := by
  unfold dockHandOn
  dsimp only
  split
  · split
    · rwa [flag_evaluate]
    · exact h
  · refine flag_wireLostTest ?_
    split
    · rwa [flag_evaluate]
    · exact h

theorem flag_dockHandOn_ne_none {u : State} (h : s.flag f ≠ none) : (dockHandOn u s).flag f ≠ none := by
  obtain ⟨d, hd⟩ := Option.ne_none_iff_exists'.mp h
  rw [flag_dockHandOn hd]
  exact nofun

theorem flag_formSteering (h : s.flag f = some d) : (formSteering s).flag f = some d := by
  unfold formSteering
  split
  · exact h
  · exact flag_setFlag_of_set h

theorem flag_stationTest (h : s.flag f = some d) : (stationTest s).flag f = some d := by
  unfold stationTest
  split
  · have happroach : s.approached.flag f = some d := flag_formSteering h
    rw [enterApproach_eq]
    split
    · exact (flag_congr (by simp [contactEntry]) f).trans happroach
    · exact happroach
  · exact h

theorem flag_returnEntry {r : ReturnReason} (h : (s.seeking r).flag f = some d) :
    (returnEntry r s).flag f = some d := by
  rw [returnEntry_eq, seekTest]
  split
  · exact flag_stationTest (flag_formSteering h)
  · exact h

end

/-! ### What the hand-on changes -/

/-- The Dock Controller's three timers as a response context leaves them (R141). -/
def Dkc.held (k : Dkc) : Dkc :=
  { k with approachT := k.approachT.hold, relayT := k.relayT.hold, motionT := k.motionT.hold }

theorem hold_elapsed (t : Timer) : t.hold.elapsed = t.elapsed := by
  unfold Timer.hold
  split <;> rfl

theorem hold_of_stopped {t : Timer} (h : t.st = .stopped) : t.hold.st = .stopped := by
  rw [Timer.hold, if_neg (by rw [h]; decide)]
  exact h

theorem raiseFixed_dkc (t : Trig) (d : Option Nat) (s : State) :
    (raiseFixed t d s).dkc = s.dkc ∨ (raiseFixed t d s).dkc = s.dkc.held := by
  unfold raiseFixed
  split
  · exact .inl rfl
  · refine .inr ?_
    have hbefore : (gateHazard (hazardDiscard (setFlag .hazard (trigDetail t d)
        (hazardCreate t d (arrived t s))))).dkc = s.dkc := by simp [arrived, countRse, onRse]
    exact congrArg Dkc.held hbefore

theorem wireLostTest_dkc (s : State) : (wireLostTest s).dkc = s.dkc ∨ (wireLostTest s).dkc = s.dkc.held := by
  unfold wireLostTest
  split
  · exact .inl rfl
  · exact raiseFixed_dkc .wireLost none (wireLostTaken s)

theorem dockHandOn_dkc (s t : State) : (dockHandOn s t).dkc = t.dkc ∨ (dockHandOn s t).dkc = t.dkc.held := by
  have hevaluate : (evaluate t).dkc = t.dkc := by simp
  unfold dockHandOn
  dsimp only
  split
  · refine .inl ?_
    split
    · exact hevaluate
    · rfl
  · split
    · rw [← hevaluate]
      exact wireLostTest_dkc (evaluate t)
    · exact wireLostTest_dkc t

/-- What holds of the Dock Controller, whether its timers are held or not, holds after the hand-on. -/
theorem dockHandOn_keeps {P : Dkc → Prop} {s t : State} (h : P t.dkc) (hheld : P t.dkc → P t.dkc.held) :
    P (dockHandOn s t).dkc := by
  rcases dockHandOn_dkc s t with hd | hd <;> rw [hd]
  · exact h
  · exact hheld h

theorem dockHandOn_still {s t : State} (hdock : t.dkc.dock = s.dkc.dock) (hL : t.dkc.cmdL = s.dkc.cmdL)
    (hR : t.dkc.cmdR = s.dkc.cmdR) : dockHandOn s t = t := by
  simp [dockHandOn, hdock, hL, hR]

/-- The blocks that no event of the Dock Controller changes. -/
def State.dockFrame (s : State) : List Host.Cell × Wdc × Spu × Tbs × Mrh × Lbu × List Instr :=
  (s.mem, s.wdc, s.spu, s.tbs, s.mrh, s.lbu, s.pending)

theorem dockHandOn_dockFrame (s t : State) : (dockHandOn s t).dockFrame = t.dockFrame := by
  unfold dockHandOn State.dockFrame
  dsimp only
  (repeat' split) <;> simp

theorem dockFrame_iff {s t : State} (h : t.dockFrame = s.dockFrame) :
    t.mem = s.mem ∧ t.wdc = s.wdc ∧ t.spu = s.spu ∧ t.tbs = s.tbs ∧ t.mrh = s.mrh ∧
      t.lbu = s.lbu ∧ t.pending = s.pending := by
  simpa [State.dockFrame] using h

/-! ### What steering and the station test leave -/

/-- The Dock Controller without what the steering and the station test change. -/
def Dkc.unsteered (k : Dkc) : Dkc :=
  { k with
    dock := .undocked
    origin := .start
    approachT := Timer.zero
    relayT := Timer.zero
    cmdL := 0
    cmdR := 0
    cnt := { k.cnt with guideLost := 0, approaches := 0, contacts := 0 } }

theorem formSteering_unsteered (s : State) : (formSteering s).dkc.unsteered = s.dkc.unsteered := by
  unfold formSteering
  split
  · rfl
  · simp [guideLostFall, Dkc.unsteered, onDkc]

theorem formSteering_dock (s : State) :
    (formSteering s).dkc.dock = s.dkc.dock ∨ (formSteering s).dkc.dock = .returnSeek := by
  unfold formSteering
  split
  · exact .inl rfl
  · exact .inr (by simp [guideLostFall, onDkc])

theorem contactEntry_dkc (o : ContactOrigin) (s : State) : (contactEntry o s).dkc = { s.dkc with
    dock := .contact
    origin := o
    approachT := { s.dkc.approachT with st := .held }
    relayT := s.dockTimer 0
    cmdL := 0
    cmdR := 0
    cnt := { s.dkc.cnt with contacts := bump s.dkc.cnt.contacts } } := by
  simp [contactEntry]

theorem approached_unsteered (s : State) : s.approached.dkc.unsteered = s.dkc.unsteered :=
  (formSteering_unsteered _).trans rfl

theorem stationTest_unsteered (s : State) : (stationTest s).dkc.unsteered = s.dkc.unsteered := by
  unfold stationTest
  split
  · rw [enterApproach_eq]
    split
    · rw [contactEntry_dkc]
      exact approached_unsteered s
    · exact approached_unsteered s
  · rfl

theorem stationTest_dock (s : State) :
    (stationTest s).dkc.dock = s.dkc.dock ∨ (stationTest s).dkc.dock = .returnSeek ∨
      (stationTest s).dkc.dock = .approach ∨ (stationTest s).dkc.dock = .contact := by
  unfold stationTest
  split
  · rw [enterApproach_eq]
    split
    · rw [contactEntry_dkc]
      exact .inr (.inr (.inr rfl))
    · rcases formSteering_dock { s with
        dkc := { s.dkc with
          dock := .approach
          approachT := s.dockTimer 0
          cnt := { s.dkc.cnt with approaches := bump s.dkc.cnt.approaches } } } with h | h
      · exact .inr (.inr (.inl h))
      · exact .inr (.inl h)
  · exact .inl rfl

/-- FOLLOW with its steering and its station test. -/
theorem enterFollow_unsteered (s : State) : (enterFollow s).dkc.unsteered = s.dkc.unsteered :=
  (stationTest_unsteered _).trans ((formSteering_unsteered _).trans rfl)

theorem enterFollow_dock (s : State) :
    (enterFollow s).dkc.dock = .follow ∨ (enterFollow s).dkc.dock = .returnSeek ∨
      (enterFollow s).dkc.dock = .approach ∨ (enterFollow s).dkc.dock = .contact := by
  rcases stationTest_dock (formSteering (setDock .follow s)) with h | h
  · rcases formSteering_dock (setDock .follow s) with hs | hs
    · exact .inl (h.trans hs)
    · exact .inr (.inl (h.trans hs))
  · exact .inr h

theorem enterFollow_dockFrame (s : State) : (enterFollow s).dockFrame = s.dockFrame := by
  simp [State.dockFrame]

theorem tryReturn_dockFrame (r : ReturnReason) (s : State) : (tryReturn r s).dockFrame = s.dockFrame := by
  simp [State.dockFrame]

/-! ### A return that is made -/

theorem returnEntry_unsteered (r : ReturnReason) (s : State) :
    (returnEntry r s).dkc.unsteered = (s.seeking r).dkc.unsteered := by
  rw [returnEntry_eq, seekTest]
  split
  · exact enterFollow_unsteered _
  · rfl

theorem returnEntry_dock (r : ReturnReason) (s : State) : (returnEntry r s).dkc.dock ≠ .undocked := by
  rw [returnEntry_eq, seekTest]
  split
  · rcases enterFollow_dock (s.seeking r) with h | h | h | h <;> rw [h] <;> decide
  · rw [seeking_dkc]
    exact nofun

/-- What a return entry leaves of the Dock Controller. -/
structure Dkc.Returning (r : ReturnReason) (cnt : DkcCounters) (k : Dkc) : Prop where
  dock : k.dock ≠ .undocked
  reason : k.reason = r
  retry : k.retry = 0
  battery : k.batteryT.st = .stopped
  rain : k.rainT.st = .stopped
  counted : k.cnt.returnsNav = (countReturn r cnt).returnsNav ∧
    k.cnt.returnsBattery = (countReturn r cnt).returnsBattery ∧ k.cnt.returnsRain = (countReturn r cnt).returnsRain

theorem returnEntry_returning (r : ReturnReason) (s : State) :
    (returnEntry r s).dkc.Returning r s.dkc.cnt := by
  have h := returnEntry_unsteered r s
  rw [seeking_dkc] at h
  have hcnt := congrArg Dkc.cnt h
  exact ⟨returnEntry_dock r s, (congrArg Dkc.reason h :), (congrArg Dkc.retry h :),
    (congrArg (fun k : Dkc => k.batteryT.st) h :), (congrArg (fun k : Dkc => k.rainT.st) h :),
    (congrArg DkcCounters.returnsNav hcnt :), (congrArg DkcCounters.returnsBattery hcnt :),
    (congrArg DkcCounters.returnsRain hcnt :)⟩

theorem dockHandOn_returning {r : ReturnReason} {cnt : DkcCounters} {u s : State} (h : s.dkc.Returning r cnt) :
    (dockHandOn u s).dkc.Returning r cnt :=
  dockHandOn_keeps h fun ⟨hdock, hreason, hretry, hbattery, hrain, hcounted⟩ =>
    ⟨hdock, hreason, hretry, hbattery, hrain, hcounted⟩

theorem flag_returnEntry_ne_none {r : ReturnReason} {s : State} (hlen : s.nli.flags.length = 19) :
    (returnEntry r s).flag .returnStarted ≠ none := by
  obtain ⟨d, hd⟩ := Option.ne_none_iff_exists'.mp
    (flag_setFlag_ne_none (f := .returnStarted) (d := [u8 r.num]) (s := { s with
      dkc := { s.dkc with
        dock := .returnSeek
        retry := 0
        reason := r
        batteryT := { s.dkc.batteryT with st := .stopped }
        rainT := { s.dkc.rainT with st := .stopped }
        cmdL := 0
        cmdR := 0
        cnt := countReturn r s.dkc.cnt } }) hlen)
  rw [flag_returnEntry hd]
  exact nofun

/-! ### BACKOFF, DOCK_FAULT and UNDOCKED -/

theorem enterBackoff_eq (mark : Bool) (s : State) :
    enterBackoff mark s = { s with
      dkc := { s.dkc with
        dock := .backoff
        backoffRelay := mark
        approachT := { s.dkc.approachT with st := .stopped }
        relayT := { s.dkc.relayT with st := .stopped }
        motionT := s.dockTimer 0
        cmdL := -(s.departureSpeed : Int)
        cmdR := -(s.departureSpeed : Int)
        cnt := { s.dkc.cnt with backoffs := bump s.dkc.cnt.backoffs } } } := by
  rw [enterBackoff, timerStart_eq]
  rfl

theorem dockTimer_congr {s t : State} (h : t.rse = s.rse) (e : Nat) : t.dockTimer e = s.dockTimer e := by
  rw [State.dockTimer, State.dockTimer, h]

theorem departureSpeed_congr {s t : State} (h : t.bankView = s.bankView) : t.departureSpeed = s.departureSpeed := by
  simp only [State.bankView, Prod.mk.injEq] at h
  simp only [State.departureSpeed, State.gen16, State.tableWord, State.tableByte, State.tableAddr, State.bankBase, h.1,
    h.2]

theorem enterDockFault_dkc (cause : DockFaultCause) (s : State) : (enterDockFault cause s).dkc = { s.dkc with
    dock := .dockFault
    relayT := { s.dkc.relayT with st := .stopped }
    motionT := { s.dkc.motionT with st := .stopped }
    cmdL := 0
    cmdR := 0
    cnt := { s.dkc.cnt with dockFaults := bump s.dkc.cnt.dockFaults } } := by
  simp [enterDockFault, onDkc, Timer.stop]

/-- The rain judgement in UNDOCKED, where the rain condition does not count, leaves the entry as it is. -/
theorem enterUndocked_of_dry {s : State} (h : s.rainReturn = false ∨ s.dkc.rain = false) :
    ∃ t : LimitTimer, enterUndocked s = { s with
      dkc := { s.dkc with
        dock := .undocked
        cmdL := 0
        cmdR := 0
        approachT := { s.dkc.approachT with st := .stopped }
        relayT := { s.dkc.relayT with st := .stopped }
        motionT := { s.dkc.motionT with st := .stopped }
        rainT := t } } := by
  have hdry : (s.rainReturn && s.dkc.rain) = false := by
    rcases h with h | h <;> simp [h]
  have hjudge : (s.dkc.rainT.judge (s.rainReturn && s.dkc.rain) s.rainPersistence).2 = false := by
    rw [hdry]
    unfold LimitTimer.judge
    cases s.dkc.rainT.st <;> rfl
  exact ⟨_, (undockedIsEntered s).1 hjudge⟩

/-- A return leaves the motion timer and the cancels. -/
theorem tryReturn_rest (r : ReturnReason) (s : State) :
    (tryReturn r s).dkc.motionT = s.dkc.motionT ∧ (tryReturn r s).dkc.cnt.cancels = s.dkc.cnt.cancels := by
  by_cases hable : s.canReturn = true
  · have hsteered := returnEntry_unsteered r s
    rw [seeking_dkc] at hsteered
    have hcancels : (countReturn r s.dkc.cnt).cancels = s.dkc.cnt.cancels := by cases r <;> rfl
    rw [tryReturn_of_able hable]
    exact ⟨(congrArg Dkc.motionT hsteered :), (congrArg (fun k : Dkc => k.cnt.cancels) hsteered :).trans hcancels⟩
  · rw [tryReturn_of_not (by simpa using hable)]
    exact ⟨rfl, rfl⟩

/-- The entry to UNDOCKED stops the motion timer, also where it leads on to a return. -/
theorem enterUndocked_rest (s : State) :
    (enterUndocked s).dkc.motionT.st = .stopped ∧ (enterUndocked s).dkc.cnt.cancels = s.dkc.cnt.cancels ∧
      (enterUndocked s).dockFrame = s.dockFrame := by
  obtain ⟨hdry, hrain⟩ := undockedIsEntered s
  refine ⟨?_, ?_, by simp [State.dockFrame]⟩
  · cases h : (s.dkc.rainT.judge (s.rainReturn && s.dkc.rain) s.rainPersistence).2 with
    | true => rw [hrain h, (tryReturn_rest _ _).1]
    | false => rw [hdry h]
  · cases h : (s.dkc.rainT.judge (s.rainReturn && s.dkc.rain) s.rainPersistence).2 with
    | true => rw [hrain h, (tryReturn_rest _ _).2]
    | false => rw [hdry h]

end Sys2Proof.Machine
end

section
/-! The Dock Controller's timers and requests, as their commands carry them out (R128 to R130, R134 to R136, R138,
R140). -/

namespace Sys2Proof.Machine

/-! ### An event of the Dock Controller -/

theorem exec_dockEvent {c : Instr} {due : State → Bool} {f : State → State} {s : State}
    (hevent : eventOf c = whenDue due (dkcEvent f)) (held : s.resetHeld = false)
    (hdue : due (arrive (timeOf c) s) = true) :
    exec c s = .next (dockHandOn (arrive (timeOf c) s) (f (arrive (timeOf c) s))) := by
  rw [exec_of_running c held, hevent, ← dkcEvent_eq_dockHandOn]
  exact congrArg Host.Outcome.next (whenDue_of_due hdue)

theorem limitTimer_due {t : LimitTimer} (hst : t.st = .running) (hlimit : t.limit ≤ t.elapsed) : t.due = true := by
  simp [LimitTimer.due, hst, hlimit]

theorem timer_due {t : Timer} {limit : Nat} (hst : t.st = .running) (hlimit : limit ≤ t.elapsed) :
    t.due limit = true := by
  simp [Timer.due, hst, hlimit]

/-! ### A return, a failure and a fault -/

/-- A return that is made, as the state after it shows it. -/
structure Started (u t : State) (r : ReturnReason) (k : Dkc) : Prop where
  dkc : t.dkc.Returning r k.cnt
  flag : t.flag .returnStarted ≠ none
  frame : t.dockFrame = u.dockFrame

theorem started_tryReturn {u : State} {r : ReturnReason} {k : Dkc} (hable : u.canReturn = true)
    (hlen : u.nli.flags.length = 19) :
    Started u (dockHandOn u (tryReturn r { u with dkc := k })) r k := by
  have hentry : tryReturn r { u with dkc := k } = returnEntry r { u with dkc := k } := tryReturn_of_able hable
  refine ⟨?_, ?_, ?_⟩
  · rw [hentry]
    exact dockHandOn_returning (returnEntry_returning r { u with dkc := k })
  · rw [hentry]
    exact flag_dockHandOn_ne_none (flag_returnEntry_ne_none hlen)
  · exact (dockHandOn_dockFrame u _).trans (tryReturn_dockFrame r { u with dkc := k })

/-- BACKOFF in its reverse, whether its timer is held or not. -/
structure Dkc.Reversing (mark : Bool) (v : Int) (backoffs : Nat) (k : Dkc) : Prop where
  dock : k.dock = .backoff
  relay : k.backoffRelay = mark
  left : k.cmdL = v
  right : k.cmdR = v
  elapsed : k.motionT.elapsed = 0
  counted : k.cnt.backoffs = backoffs

theorem Dkc.Reversing.held {mark : Bool} {v : Int} {n : Nat} {k : Dkc} (h : k.Reversing mark v n) :
    k.held.Reversing mark v n :=
  ⟨h.dock, h.relay, h.left, h.right, (hold_elapsed k.motionT).trans h.elapsed, h.counted⟩

/-- DOCK_FAULT, with its timers stopped. -/
structure Dkc.Faulted (dockFaults : Nat) (k : Dkc) : Prop where
  dock : k.dock = .dockFault
  left : k.cmdL = 0
  right : k.cmdR = 0
  counted : k.cnt.dockFaults = dockFaults
  relay : k.relayT.st = .stopped
  motion : k.motionT.st = .stopped

theorem Dkc.Faulted.held {n : Nat} {k : Dkc} (h : k.Faulted n) : k.held.Faulted n :=
  ⟨h.dock, h.left, h.right, h.counted, hold_of_stopped h.relay, hold_of_stopped h.motion⟩

/-- The part in DOCK_FAULT, with its event flag. -/
def State.faultState (u : State) (cause : Byte) : State :=
  setFlag .dockFaultEvent [cause] { u with
    dkc := { u.dkc with
      dock := .dockFault
      relayT := { u.dkc.relayT with st := .stopped }
      motionT := { u.dkc.motionT with st := .stopped }
      cmdL := 0
      cmdR := 0
      cnt := { u.dkc.cnt with dockFaults := bump u.dkc.cnt.dockFaults } } }

theorem faultState_faulted (u : State) (cause : Byte) :
    (dockHandOn u (u.faultState cause)).dkc.Faulted (bump u.dkc.cnt.dockFaults) := by
  refine dockHandOn_keeps ?_ Dkc.Faulted.held
  rw [State.faultState, (setFlag_frame ..).2.2.2.2.2.2.2.2.2.2.2.2.1]
  exact ⟨rfl, rfl, rfl, rfl, rfl, rfl⟩

theorem faultState_flag {u : State} (cause : Byte) (hlen : u.nli.flags.length = 19) :
    (dockHandOn u (u.faultState cause)).flag .dockFaultEvent ≠ none ∧
      (u.flag .dockFaultEvent = none →
        (dockHandOn u (u.faultState cause)).flag .dockFaultEvent = some [cause]) :=
  ⟨flag_dockHandOn_ne_none (flag_setFlag_ne_none hlen), fun h => flag_dockHandOn (flag_setFlag_self hlen h)⟩

theorem faultState_dockFrame (u : State) (cause : Byte) :
    (dockHandOn u (u.faultState cause)).dockFrame = u.dockFrame := by
  rw [dockHandOn_dockFrame]
  simp [State.dockFrame, State.faultState]

/-! ### The seven expiries -/

section
variable {dt : Nat} {s u : State}

theorem batteryExpired_of_unable (h : u.canReturn = false) :
    batteryExpired u = { u with
      dkc := { u.dkc with
        batteryT := { u.dkc.batteryT with st := .spent }
        cnt := { u.dkc.cnt with unavailable := bump u.dkc.cnt.unavailable } } } :=
  tryReturn_of_not (s := onDkc (fun k => { k with batteryT := k.batteryT.spend }) u) h

theorem rainExpired_of_unable (h : u.canReturn = false) :
    rainExpired u = { u with
      dkc := { u.dkc with
        rainT := { u.dkc.rainT with st := .spent }
        cnt := { u.dkc.cnt with unavailable := bump u.dkc.cnt.unavailable } } } :=
  tryReturn_of_not (s := onDkc (fun k => { k with rainT := k.rainT.spend }) u) h

/-- FOLLOW for another approach, before its steering and its station test (R136). -/
def State.followAgain (u : State) : State :=
  { u with
    dkc := { u.dkc with
      dock := .follow
      retry := u.dkc.retry + 1
      motionT := { u.dkc.motionT with st := .stopped }
      cnt := { u.dkc.cnt with retries := bump u.dkc.cnt.retries } } }

theorem backoffDone_of_again (hable : u.canReturn = true) (hretry : u.dkc.retry < u.stationRetries) :
    backoffDone u = stationTest (formSteering u.followAgain) := by
  have hcond : (u.canReturn && decide (u.dkc.retry < u.stationRetries)) = true := by simp [hable, hretry]
  exact (if_pos hcond :)

theorem backoffDone_of_spent (h : u.canReturn = false ∨ u.stationRetries ≤ u.dkc.retry) :
    backoffDone u = u.faultState 0#8 := by
  have hcond : ¬ (u.canReturn && decide (u.dkc.retry < u.stationRetries)) = true := by
    rcases h with h | h <;> simp [h]
  exact (if_neg hcond :)

theorem followAgain_unsteered (u : State) :
    (stationTest (formSteering u.followAgain)).dkc.unsteered = u.followAgain.dkc.unsteered :=
  (stationTest_unsteered _).trans (formSteering_unsteered _)

theorem followAgain_retry (u : State) :
    (stationTest (formSteering u.followAgain)).dkc.retry = u.dkc.retry + 1 :=
  (congrArg Dkc.retry (followAgain_unsteered u) :)

theorem followAgain_retries (u : State) :
    (stationTest (formSteering u.followAgain)).dkc.cnt.retries = bump u.dkc.cnt.retries :=
  (congrArg (fun k : Dkc => k.cnt.retries) (followAgain_unsteered u) :)

theorem followAgain_dock (u : State) :
    (stationTest (formSteering u.followAgain)).dkc.dock = .follow ∨
      (stationTest (formSteering u.followAgain)).dkc.dock = .returnSeek ∨
      (stationTest (formSteering u.followAgain)).dkc.dock = .approach ∨
      (stationTest (formSteering u.followAgain)).dkc.dock = .contact :=
  enterFollow_dock u.followAgain

theorem followAgain_dockFrame (u : State) :
    (stationTest (formSteering u.followAgain)).dockFrame = u.dockFrame := by
  simp [State.dockFrame, State.followAgain]

theorem approachExpired_eq (u : State) :
    approachExpired u = { u with
      dkc := { u.dkc with
        dock := .backoff
        backoffRelay := false
        approachT := { u.dkc.approachT with st := .stopped }
        relayT := { u.dkc.relayT with st := .stopped }
        motionT := u.dockTimer 0
        cmdL := -(u.departureSpeed : Int)
        cmdR := -(u.departureSpeed : Int)
        cnt := { u.dkc.cnt with
          backoffs := bump u.dkc.cnt.backoffs
          approachTimeouts := bump u.dkc.cnt.approachTimeouts } } } :=
  enterBackoff_eq false _

/-- The relay timeout in CONTACT posts the RELAY OPEN before BACKOFF is entered (R135). -/
theorem relayExpired_of_contact (h : u.dkc.dock = .contact) :
    relayExpired u = { postRelay false u with
      dkc := { u.dkc with
        dock := .backoff
        backoffRelay := true
        approachT := { u.dkc.approachT with st := .stopped }
        relayT := { u.dkc.relayT with st := .stopped }
        motionT := u.dockTimer 0
        cmdL := -(u.departureSpeed : Int)
        cmdR := -(u.departureSpeed : Int)
        cnt := { u.dkc.cnt with
          backoffs := bump u.dkc.cnt.backoffs
          relayTimeouts := bump u.dkc.cnt.relayTimeouts } } } := by
  have hspeed : (countDkc (fun c => { c with relayTimeouts := bump c.relayTimeouts })
      (postRelay false u)).departureSpeed = u.departureSpeed := departureSpeed_congr (by simp [State.bankView])
  have htimer : (countDkc (fun c => { c with relayTimeouts := bump c.relayTimeouts })
      (postRelay false u)).dockTimer 0 = u.dockTimer 0 := dockTimer_congr (by simp) 0
  have hdkc : (postRelay false u).dkc = u.dkc := by simp
  rw [relayExpired, h]
  dsimp only
  rw [enterBackoff_eq, hspeed, htimer]
  dsimp only [countDkc, onDkc]
  rw [hdkc]

theorem relayExpired_of_departing (h : u.dkc.dock = .departing) : relayExpired u = u.faultState 1#8 := by
  rw [relayExpired, h]
  rfl

theorem motionExpired_of_backoff (h : u.dkc.dock = .backoff) : motionExpired u = backoffDone u := by
  rw [motionExpired, h]

theorem motionExpired_of_departing (h : u.dkc.dock = .departing) : motionExpired u = enterUndocked u := by
  rw [motionExpired, h]

end

/-- Settles O44: each timer's event is its expiry with the hand-on, and what the hand-on leaves is by the lemmas on
the return, BACKOFF, DOCK_FAULT, FOLLOW and UNDOCKED. -/
theorem dockTimersExpire : Obligations.DockTimersExpire := by
  refine ⟨steeringIsFormed, stationIsTested, returnIsTried, undockedIsEntered, rainIsTaken, wireLostIsTested,
    responseReachesTheDock, ?_⟩
  intro dt s held hlen u k v frame started reversing fault retriesSpent relayStuck
  have hstarted (r : ReturnReason) (k' : Dkc) (hable : u.canReturn = true) :
      started (dockHandOn u (tryReturn r { u with dkc := k' })) r k' := by
    obtain ⟨hdkc, hflag, hframe⟩ := started_tryReturn (k := k') (r := r) hable hlen
    exact ⟨rfl, hdkc.dock, hdkc.reason, hdkc.retry, by rw [hdkc.battery]; decide, by rw [hdkc.rain]; decide, hflag,
      dockFrame_iff hframe⟩
  have hreversing {t : State} {mark : Bool} (hdkc : t.dkc.Reversing mark (-v) (bump k.cnt.backoffs))
      (hframe : t.dockFrame = u.dockFrame) : reversing t mark :=
    ⟨hdkc.dock, hdkc.relay, hdkc.left, hdkc.right, hdkc.elapsed, hdkc.counted, dockFrame_iff hframe⟩
  have hfault (cause : Byte) : fault (dockHandOn u (u.faultState cause)) cause := by
    have hdkc := faultState_faulted u cause
    obtain ⟨hflag, hnew⟩ := faultState_flag cause hlen
    exact ⟨rfl, hdkc.dock, hdkc.left, hdkc.right, hdkc.counted, hflag, hnew,
      dockFrame_iff (faultState_dockFrame u cause)⟩
  refine ⟨fun _ hst hlimit => ?battery, fun _ hst hlimit => ?rain, fun hdock hst hlimit => ?approach,
    fun hdock hst hlimit => ?contact, fun hdock hst hlimit => ?departing, fun hdock hst hlimit => ?backoff,
    fun hdock hst hlimit => ?reverse⟩
  case battery =>
    have hexec : exec (.batteryTimerExpiry dt) s = .next (dockHandOn u (batteryExpired u)) :=
      exec_dockEvent (due := fun s => s.dkc.batteryT.due) (by unfold eventOf; rfl) held (limitTimer_due hst hlimit)
    refine ⟨fun hable => ⟨_, hexec, hstarted .battery _ hable, ?_⟩, fun hunable => ?_⟩
    · exact (started_tryReturn (r := .battery) hable hlen).dkc.counted.2.1
    · rw [batteryExpired_of_unable hunable] at hexec
      exact hexec.trans (congrArg Host.Outcome.next (dockHandOn_still rfl rfl rfl))
  case rain =>
    have hexec : exec (.rainTimerExpiry dt) s = .next (dockHandOn u (rainExpired u)) :=
      exec_dockEvent (due := fun s => s.dkc.rainT.due) (by unfold eventOf; rfl) held (limitTimer_due hst hlimit)
    refine ⟨fun hable => ⟨_, hexec, hstarted .rain _ hable, ?_⟩, fun hunable => ?_⟩
    · exact (started_tryReturn (r := .rain) hable hlen).dkc.counted.2.2
    · rw [rainExpired_of_unable hunable] at hexec
      exact hexec.trans (congrArg Host.Outcome.next (dockHandOn_still rfl rfl rfl))
  case approach =>
    have hdue : u.approachDue = true := by
      simp only [State.approachDue, Bool.and_eq_true, beq_iff_eq]
      exact ⟨hdock, timer_due hst hlimit⟩
    have hexec : exec (.approachTimerExpiry dt) s = .next (dockHandOn u (approachExpired u)) :=
      exec_dockEvent (by unfold eventOf; rfl) held hdue
    rw [approachExpired_eq] at hexec
    refine ⟨_, hexec, hreversing ?_ ?_, rfl, ?_, ?_⟩
    · exact dockHandOn_keeps ⟨rfl, rfl, rfl, rfl, rfl, rfl⟩ Dkc.Reversing.held
    · exact (dockHandOn_dockFrame u _).trans rfl
    · exact dockHandOn_keeps (P := fun k => k.approachT.st = .stopped) rfl hold_of_stopped
    · exact dockHandOn_keeps (P := fun k' => k'.cnt.approachTimeouts = bump k.cnt.approachTimeouts) rfl id
  case contact =>
    have hexec : exec (.relayTimerExpiry dt) s = .next (dockHandOn u (relayExpired u)) :=
      exec_dockEvent (by unfold eventOf; rfl) held (timer_due hst hlimit)
    rw [relayExpired_of_contact hdock] at hexec
    refine ⟨_, hexec, hreversing ?_ ?_, rfl⟩
    · exact dockHandOn_keeps ⟨rfl, rfl, rfl, rfl, rfl, rfl⟩ Dkc.Reversing.held
    · rw [dockHandOn_dockFrame]
      simp [State.dockFrame]
  case departing =>
    have hexec : exec (.relayTimerExpiry dt) s = .next (dockHandOn u (relayExpired u)) :=
      exec_dockEvent (by unfold eventOf; rfl) held (timer_due hst hlimit)
    rw [relayExpired_of_departing hdock] at hexec
    exact ⟨_, hexec, hfault relayStuck, (faultState_faulted u relayStuck).relay⟩
  case backoff =>
    have hexec : exec (.motionTimerExpiry dt) s = .next (dockHandOn u (motionExpired u)) :=
      exec_dockEvent (by unfold eventOf; rfl) held (timer_due hst hlimit)
    rw [motionExpired_of_backoff hdock] at hexec
    refine ⟨fun hable hretry => ?again, fun hspent => ?spent⟩
    case again =>
      rw [backoffDone_of_again hable hretry] at hexec
      refine ⟨_, hexec, rfl, ?_, ?_, ?_, ?_⟩
      · exact dockHandOn_keeps (P := fun k' => k'.retry = k.retry + 1) (followAgain_retry u) id
      · exact dockHandOn_keeps (P := fun k' => k'.cnt.retries = bump k.cnt.retries) (followAgain_retries u) id
      · exact dockFrame_iff ((dockHandOn_dockFrame u _).trans (followAgain_dockFrame u))
      · exact dockHandOn_keeps (P := fun k' => k'.dock = .follow ∨ k'.dock = .returnSeek ∨ k'.dock = .approach ∨
          k'.dock = .contact) (followAgain_dock u) id
    case spent =>
      rw [backoffDone_of_spent hspent] at hexec
      exact ⟨_, hexec, hfault retriesSpent, (faultState_faulted u retriesSpent).motion⟩
  case reverse =>
    have hexec : exec (.motionTimerExpiry dt) s = .next (dockHandOn u (motionExpired u)) :=
      exec_dockEvent (by unfold eventOf; rfl) held (timer_due hst hlimit)
    rw [motionExpired_of_departing hdock] at hexec
    obtain ⟨hmotion, -, hframe⟩ := enterUndocked_rest u
    refine ⟨_, hexec, rfl, dockFrame_iff ((dockHandOn_dockFrame u _).trans hframe), ?_, fun hdry => ?_⟩
    · exact dockHandOn_keeps (P := fun k => k.motionT.st = .stopped) hmotion hold_of_stopped
    · obtain ⟨t, ht⟩ := enterUndocked_of_dry hdry
      rw [ht]
      exact dockHandOn_keeps (P := fun k => k.dock = .undocked ∧ k.cmdL = 0 ∧ k.cmdR = 0) ⟨rfl, rfl, rfl⟩ id

/-! ### The requests (R128, R138, R140) -/

section
variable {u : State}

theorem dockReturn_of_undocked (h : u.dkc.dock = .undocked) : dockReturn u = tryReturn .nav u := if_pos h

theorem requestReturn_of_able (hdock : u.dkc.dock = .undocked) (hable : u.canReturn = true) :
    requestReturn u = answer .ok [] (dockHandOn u (tryReturn .nav u)) := by
  have haccepted : u.returnAccepted = true := by simp [State.returnAccepted, hdock, hable]
  rw [requestReturn, haccepted, dkcEvent_eq_dockHandOn, dockReturn_of_undocked hdock]
  rfl

theorem requestReturn_of_unable (hdock : u.dkc.dock = .undocked) (hunable : u.canReturn = false) :
    requestReturn u = answer .refusedState [] { u with
      dkc := { u.dkc with cnt := { u.dkc.cnt with unavailable := bump u.dkc.cnt.unavailable } } } := by
  have haccepted : u.returnAccepted = false := by simp [State.returnAccepted, hunable]
  have hhand : dockHandOn u (dockReturn u) = countDkc (fun c => { c with unavailable := bump c.unavailable }) u := by
    rw [dockReturn_of_undocked hdock, tryReturn_of_not hunable]
    exact dockHandOn_still rfl rfl rfl
  rw [requestReturn, haccepted, dkcEvent_eq_dockHandOn, hhand]
  rfl

theorem requestReturn_of_docked (hdock : u.dkc.dock ≠ .undocked) :
    requestReturn u = answer .refusedState [] u := by
  have haccepted : u.returnAccepted = false := by simp [State.returnAccepted, hdock]
  have hhand : dockHandOn u (dockReturn u) = u := by
    rw [dockReturn, if_neg hdock]
    exact dockHandOn_still rfl rfl rfl
  rw [requestReturn, haccepted, dkcEvent_eq_dockHandOn, hhand]
  rfl

theorem cancellable_iff (d : DockState) : d.cancellable = true ↔ d ≠ .undocked ∧ d ≠ .docked ∧ d ≠ .departing := by
  cases d <;> simp [DockState.cancellable]

/-- The first setting of a flag by a return carries its reason. -/
theorem flag_return_of_clear (hable : u.canReturn = true) (hlen : u.nli.flags.length = 19)
    (h : u.flag .returnStarted = none) :
    (dockHandOn u (tryReturn .nav u)).flag .returnStarted = some [1#8] := by
  rw [tryReturn_of_able hable]
  exact flag_dockHandOn (flag_returnEntry (flag_setFlag_self hlen h))

/-- CANCEL_RETURN counted, with the RELAY OPEN that a cancel in CONTACT posts. -/
def State.cancelled (u : State) : State :=
  let c : State := { u with dkc := { u.dkc with cnt := { u.dkc.cnt with cancels := bump u.dkc.cnt.cancels } } }
  if u.dkc.dock = .contact then postRelay false c else c

theorem dockCancel_eq (u : State) : dockCancel u = enterUndocked u.cancelled := rfl

theorem cancelled_dkc (u : State) :
    u.cancelled.dkc = { u.dkc with cnt := { u.dkc.cnt with cancels := bump u.dkc.cnt.cancels } } := by
  unfold State.cancelled
  dsimp only
  split <;> simp

theorem cancelled_rainReturn (u : State) : u.cancelled.rainReturn = u.rainReturn := by
  have hbank : u.cancelled.bankView = u.bankView := by
    unfold State.cancelled State.bankView
    dsimp only
    split <;> simp
  simp only [State.bankView, Prod.mk.injEq] at hbank
  simp only [State.rainReturn, State.gen8, State.tableByte, State.tableAddr, State.bankBase, hbank.1, hbank.2]

/-- A cancel with the rain condition out of play leaves UNDOCKED with the motors still. -/
theorem dockCancel_of_dry (h : u.rainReturn = false ∨ u.dkc.rain = false) :
    (dockCancel u).dkc.dock = .undocked ∧ (dockCancel u).dkc.cmdL = 0 ∧ (dockCancel u).dkc.cmdR = 0 ∧
      (dockCancel u).dkc.retry = u.dkc.retry ∧ (dockCancel u).dkc.reason = u.dkc.reason := by
  have hdry : u.cancelled.rainReturn = false ∨ u.cancelled.dkc.rain = false := by
    rw [cancelled_rainReturn, cancelled_dkc]
    exact h
  obtain ⟨t, ht⟩ := enterUndocked_of_dry hdry
  rw [dockCancel_eq, ht]
  refine ⟨rfl, rfl, rfl, ?_, ?_⟩
  · exact (congrArg Dkc.retry (cancelled_dkc u) :)
  · exact (congrArg Dkc.reason (cancelled_dkc u) :)

theorem dockCancel_cancels (u : State) : (dockCancel u).dkc.cnt.cancels = bump u.dkc.cnt.cancels := by
  rw [dockCancel_eq, (enterUndocked_rest _).2.1, cancelled_dkc]

theorem requestCancel_of_cancellable (h : u.dkc.dock.cancellable = true) :
    requestCancel u = answer .ok [] (dockHandOn u (dockCancel u)) := by
  rw [requestCancel, if_pos h, dkcEvent_eq_dockHandOn]

/-- The Dock Controller's own state is not read by a post. -/
theorem postRelay_dkc (c : Bool) (k : Dkc) (s : State) :
    postRelay c { s with dkc := k } = { postRelay c s with dkc := k } := by
  have hdlc : (postRelay c { s with dkc := k }).dlc = (postRelay c s).dlc :=
    (linkInput_iff.mp (postRelay_linkInput c (s := s) (t := { s with dkc := k }) rfl)).1
  rw [postRelay_eq, hdlc, postRelay_eq c s]

theorem dockUndock_eq (u : State) :
    dockUndock u = { postRelay false u with
      dkc := { u.dkc with
        dock := .departing
        phase := .waitOpen
        relayT := u.dockTimer 0
        cnt := { u.dkc.cnt with departures := bump u.dkc.cnt.departures } } } := by
  rw [dockUndock, timerStart_eq]
  exact postRelay_dkc false _ u

end

/-- Settles O45: each request's effect is the Dock Controller's own, with the hand-on before the answer. -/
theorem dockRequestsAreAnswered : Obligations.DockRequestsAreAnswered := by
  refine ⟨returnIsTried, ?_⟩
  intro dt s held hlen u k
  refine ⟨fun hhead => ?returns, fun hhead => ?cancels, fun hhead => ?undocks⟩
  case returns =>
    have hexec : exec (.returnHome dt) s = .next (requestReturn u) :=
      exec_request (f := fun _ => requestReturn) (by unfold eventOf; rfl) held hhead
    refine ⟨fun hdock hable => ?_, fun hdock hunable => ?_, fun hdock => ?_⟩
    · rw [requestReturn_of_able hdock hable] at hexec
      obtain ⟨hdkc, hflag, -⟩ := started_tryReturn (k := u.dkc) (r := .nav) hable hlen
      exact ⟨_, hexec, rfl, hdkc.dock, hdkc.reason, hdkc.retry, hdkc.counted.1, hflag,
        flag_return_of_clear hable hlen⟩
    · rw [hexec, requestReturn_of_unable hdock hunable]
    · rw [hexec, requestReturn_of_docked hdock]
  case cancels =>
    have hexec : exec (.cancelReturn dt) s = .next (requestCancel u) :=
      exec_request (f := fun _ => requestCancel) (by unfold eventOf; rfl) held hhead
    refine ⟨fun hdock => ?_, fun hundocked hdocked hdeparting => ?_⟩
    · have hno : ¬ u.dkc.dock.cancellable = true := by
        rw [cancellable_iff]
        rintro ⟨hundocked, hdocked, hdeparting⟩
        exact hdock.elim hundocked (·.elim hdocked hdeparting)
      rw [hexec, requestCancel, if_neg hno]
    · rw [requestCancel_of_cancellable ((cancellable_iff _).mpr ⟨hundocked, hdocked, hdeparting⟩)] at hexec
      refine ⟨dockHandOn u (dockCancel u), hexec, rfl, ?_, fun hdry => ?_⟩
      · exact dockHandOn_keeps (P := fun k' => k'.cnt.cancels = bump k.cnt.cancels) (dockCancel_cancels u) id
      · exact dockHandOn_keeps (P := fun k' => k'.dock = .undocked ∧ k'.cmdL = 0 ∧ k'.cmdR = 0 ∧
          k'.retry = k.retry ∧ k'.reason = k.reason) (dockCancel_of_dry hdry) id
  case undocks =>
    have hexec : exec (.undock dt) s = .next (requestUndock u) :=
      exec_request (f := fun _ => requestUndock) (by unfold eventOf; rfl) held hhead
    refine ⟨fun hdock => ?_, fun hdock => ?_⟩
    · rw [hexec, requestUndock, if_neg hdock]
    · rw [requestUndock, if_pos hdock, dkcEvent_eq_dockHandOn, dockUndock_eq] at hexec
      exact ⟨_, hexec, dockHandOn_keeps (P := fun k' => k'.dock = .departing) rfl id, rfl⟩

end Sys2Proof.Machine
end

section
/-! What a post, an evaluation, a trigger and an event of the Dock Controller do to the drive link: they change what
waits for the nodes, and begin a transaction where the link is free. -/

namespace Sys2Proof.Machine

/-- What no post changes: the records, the transaction, the read, and the counters of the answers. -/
def Dlc.unposted (d : Dlc) : PerSix (Option NodeRec) × Option Transaction × Option PassReadReq × Nat × Nat :=
  (d.recs, d.tx, d.read, d.cnt.answers, d.cnt.nodesRecovered)

/-- The zone context but for its arms, its timer, its strengths and its counters. -/
def State.zoneAside (s : State) : PerSlot (PerCoil MirrorLane) × PerSlot LoopState × Bool × Option Slot :=
  (s.zcu.mirror, s.zcu.loops, s.zcu.frozen, s.zcu.active)

/-- How many event flags there are, and those that the end of a test and of a swap set. -/
def State.endFlags (s : State) : Nat × Option (List Byte) × Option (List Byte) :=
  (s.nli.flags.length, s.flag .testDone, s.flag .swapDone)

/-- What stands aside from the drive link and its consequences. -/
def State.aside (s : State) :
    (PerSlot (PerCoil MirrorLane) × PerSlot LoopState × Bool × Option Slot) ×
      Nat × Option (List Byte) × Option (List Byte) :=
  (s.zoneAside, s.endFlags)

theorem endFlags_of_flags {s t : State} (h : t.nli.flags = s.nli.flags) : t.endFlags = s.endFlags := by
  simp only [State.endFlags, State.flag, h]

theorem aside_of_same {s t : State} (hzcu : t.zcu = s.zcu) (hflags : t.nli.flags = s.nli.flags) :
    t.aside = s.aside := by
  simp only [State.aside, State.zoneAside, hzcu, endFlags_of_flags hflags]

/-- A flag that neither a test nor a swap sets. -/
def EventFlag.midway (f : EventFlag) : Bool := f ≠ .testDone && f ≠ .swapDone

theorem flag_setFlag_ne {f g : EventFlag} (h : f ≠ g) (d : List Byte) (s : State) :
    (setFlag f d s).flag g = s.flag g := by
  by_cases hset : s.flag f = none
  · rw [State.flag, setFlag_flags hset, List.getD_eq_getElem?_getD,
      List.getElem?_set_ne (fun hnum => h (eventFlag_num_inj hnum)), ← List.getD_eq_getElem?_getD]
    rfl
  · rw [setFlag_of_set hset]

theorem setFlag_flags_length (f : EventFlag) (d : List Byte) (s : State) :
    (setFlag f d s).nli.flags.length = s.nli.flags.length := by
  by_cases hset : s.flag f = none
  · rw [setFlag_flags hset, List.length_set]
  · rw [setFlag_of_set hset]

theorem setFlag_aside {f : EventFlag} (hf : f.midway = true) (d : List Byte) (s : State) :
    (setFlag f d s).aside = s.aside := by
  simp only [EventFlag.midway, Bool.and_eq_true, decide_eq_true_eq] at hf
  obtain ⟨htest, hswap⟩ := hf
  have hzcu : (setFlag f d s).zcu = s.zcu := by simp
  simp only [State.aside, State.zoneAside, State.endFlags, hzcu, setFlag_flags_length, flag_setFlag_ne htest,
    flag_setFlag_ne hswap]

/-- A property of the drive link, and of what stands aside from it, that posts and arbitration keep. -/
structure KeptOnLink (P : State → Prop) : Prop where
  still : ∀ {s t : State}, t.dlc = s.dlc → t.aside = s.aside → P s → P t
  posts : ∀ {s : State} (d : Dlc), d.unposted = s.dlc.unposted → P s → P { s with dlc := d }
  arbitrate : ∀ {s : State}, P s → P (arbitrate s)

theorem joinBehind_unposted (d : Dlc) : (joinBehind d).unposted = d.unposted := rfl

theorem afterLeaving_unposted (d : Dlc) : (afterLeaving d).unposted = d.unposted := by
  unfold afterLeaving
  dsimp only
  (repeat' split) <;> rfl

theorem answered_unposted (d : Dlc) : d.answered.unposted = d.unposted := by
  unfold Dlc.answered
  split
  · split
    · split
      · rfl
      · exact afterLeaving_unposted _
    · rfl
  · rfl

theorem failed_unposted (d : Dlc) : d.failed.unposted = d.unposted := by
  unfold Dlc.failed
  split
  · split
    · exact afterLeaving_unposted _
    · rfl
  · rfl

namespace KeptOnLink

variable {P : State → Prop} {s : State}

/-! ### Posts and the gate -/

/-- A change elsewhere, most often so by definition. -/
theorem same (h : KeptOnLink P) {t : State} (hs : P s) (hdlc : t.dlc = s.dlc := by rfl)
    (haside : t.aside = s.aside := by rfl) : P t := h.still hdlc haside hs

theorem onDkc (h : KeptOnLink P) (f : Dkc → Dkc) (hs : P s) : P (onDkc f s) := h.same hs

theorem onRse (h : KeptOnLink P) (f : Rse → Rse) (hs : P s) : P (onRse f s) := h.same hs

theorem flag (h : KeptOnLink P) (f : EventFlag) (d : List Byte) (hs : P s) (hf : f.midway = true := by decide) :
    P (setFlag f d s) :=
  h.same hs (by simp) (setFlag_aside hf d s)

theorem joinTail (h : KeptOnLink P) (e : QEntry) (hs : P s) : P (joinTail e s) := by
  have hjoined : P (onDlc (fun d => { d with queue := d.queue ++ [e] }) s) := h.posts _ rfl hs
  unfold Machine.joinTail
  dsimp only
  split
  · exact h.arbitrate hjoined
  · exact hjoined

theorem postSet (h : KeptOnLink P) (n : Node) (v : PostValue) (o : Origin) (hs : P s) : P (postSet n v o s) := by
  unfold Machine.postSet
  split
  · exact h.posts _ rfl hs
  · split
    · exact h.posts _ rfl hs
    · exact h.joinTail _ hs

theorem gatePost (h : KeptOnLink P) (n : Node) (v : PostValue) (o : Origin) (hs : P s) : P (gatePost n v o s) :=
  h.same (h.postSet n v o hs)

theorem postRelay (h : KeptOnLink P) (close : Bool) (hs : P s) : P (postRelay close s) := by
  unfold Machine.postRelay
  split
  · exact hs
  · split
    · exact h.posts _ rfl hs
    · exact h.joinTail _ hs

theorem foldl (l : List Node) {f : State → Node → State} (hf : ∀ {s : State} (n : Node), P s → P (f s n))
    (hs : P s) : P (l.foldl f s) := by
  induction l generalizing s with
  | nil => exact hs
  | cons n rest ih => exact ih (hf n hs)

theorem postIfDue (h : KeptOnLink P) (n : Node) (hs : P s) : P (postIfDue s n) := by
  unfold Machine.postIfDue
  split
  · split
    · exact hs
    · exact h.gatePost _ _ _ hs
  · exact hs

theorem evaluate (h : KeptOnLink P) (hs : P s) : P (evaluate s) := by
  have hfigures : P { s with mgt := s.evaluated } := h.same hs
  unfold Machine.evaluate postDue
  split
  · exact hfigures
  · exact foldl nodes (fun n => h.postIfDue n) hfigures

theorem hazardZeroPosts (h : KeptOnLink P) (hs : P s) : P (hazardZeroPosts s) := by
  refine foldl nodes (fun n hn => ?_) hs
  split
  · exact h.gatePost _ _ _ hn
  · exact hn

/-! ### Hazards -/

theorem hazardDiscard (h : KeptOnLink P) (hs : P s) : P (hazardDiscard s) := by
  have hleft : P (onDlc (fun d =>
      afterLeaving
        { d with
          queue := d.queue.filter QEntry.kept
          behind := d.behind.filter QEntry.kept
          relayHeld := none
          cnt := { d.cnt with discards := bumpBy s.discarded.length d.cnt.discards } }) s) :=
    h.posts _ ((afterLeaving_unposted _).trans rfl) hs
  unfold Machine.hazardDiscard
  dsimp only
  split
  · exact h.flag _ _ hleft
  · exact hleft

theorem hazardEntry (h : KeptOnLink P) (t : Trig) (d : Option Nat) (hs : P s) : P (hazardEntry t d s) := by
  have hcreated : P (hazardCreate t d s) := h.same hs
  have hflag : P (setFlag .hazard (trigDetail t d) (hazardCreate t d s)) := h.flag _ _ hcreated
  exact h.onDkc Dkc.held (h.evaluate (h.hazardZeroPosts (h.hazardDiscard hflag)))

theorem raiseFixed (h : KeptOnLink P) (t : Trig) (d : Option Nat) (hs : P s) : P (raiseFixed t d s) := by
  have harrived : P (arrived t s) := h.same hs
  unfold Machine.raiseFixed
  split
  · exact h.onRse _ harrived
  · exact h.hazardEntry t d harrived

theorem wireLostTest (h : KeptOnLink P) (hs : P s) : P (wireLostTest s) := by
  unfold Machine.wireLostTest
  split
  · exact hs
  · exact h.raiseFixed _ _ (h.same hs)

theorem outsideRaise (h : KeptOnLink P) (i : Slot) (hs : P s) : P (outsideRaise i s) :=
  h.raiseFixed _ _ (h.same hs)

theorem outsideTest (h : KeptOnLink P) (hs : P s) : P (outsideTest s) := by
  unfold Machine.outsideTest
  split
  · exact h.outsideRaise _ hs
  · exact hs

/-! ### The Dock Controller -/

theorem formSteering (h : KeptOnLink P) (hs : P s) : P (formSteering s) := by
  unfold Machine.formSteering
  split
  · exact h.same hs
  · exact h.flag _ _ (h.onDkc _ hs)

theorem enterContact (h : KeptOnLink P) (o : ContactOrigin) (hs : P s) : P (enterContact o s) :=
  h.postRelay _ (h.onDkc _ hs)

theorem stationTest (h : KeptOnLink P) (hs : P s) : P (stationTest s) := by
  unfold Machine.stationTest
  split
  · have hsteer := h.formSteering (h.onDkc (s := s)
      (fun k => { k with
        dock := .approach
        approachT := s.timerStart
        cnt := { k.cnt with approaches := bump k.cnt.approaches } }) hs)
    unfold enterApproach
    dsimp only
    split
    · exact h.enterContact _ hsteer
    · exact hsteer
  · exact hs

theorem returnEntry (h : KeptOnLink P) (r : ReturnReason) (hs : P s) : P (returnEntry r s) := by
  rw [returnEntry_eq, seekTest]
  have hseek : P (s.seeking r) := h.flag _ _ (h.same hs)
  split
  · exact h.stationTest (h.formSteering (h.onDkc _ hseek))
  · exact hseek

theorem tryReturn (h : KeptOnLink P) (r : ReturnReason) (hs : P s) : P (tryReturn r s) := by
  unfold Machine.tryReturn
  split
  · exact h.returnEntry r hs
  · exact h.onDkc _ hs

theorem enterUndocked (h : KeptOnLink P) (hs : P s) : P (enterUndocked s) := by
  unfold Machine.enterUndocked rainJudge
  dsimp only
  split
  · exact h.tryReturn _ (h.onDkc _ (h.onDkc _ hs))
  · exact h.onDkc _ (h.onDkc _ hs)

theorem contactEstablished (h : KeptOnLink P) (hs : P s) : P (contactEstablished s) := by
  unfold Machine.contactEstablished
  split
  · exact h.enterContact _ hs
  · split
    · exact h.enterContact _ (h.onDkc _ hs)
    · exact hs
  · exact hs

theorem contactLost (h : KeptOnLink P) (hs : P s) : P (contactLost s) := by
  unfold Machine.contactLost
  split
  · have hopen := h.postRelay false (h.onDkc (fun k => { k with relayT := k.relayT.stop }) hs)
    unfold contactLostInContact
    dsimp only
    split
    · exact h.enterUndocked hopen
    · exact h.formSteering (h.onDkc _ hopen)
  · exact h.enterUndocked (h.flag _ _ (h.onDkc _ (h.postRelay _ hs)))
  · exact hs

theorem takeContact (h : KeptOnLink P) (present : Bool) (hs : P s) : P (takeContact present s) := by
  unfold Machine.takeContact
  dsimp only
  split
  · split
    · exact h.contactEstablished (h.same hs)
    · exact h.same hs
  · split
    · exact h.contactLost (h.same hs)
    · exact h.same hs

theorem takeBattery (h : KeptOnLink P) (mv : Nat) (hs : P s) : P (takeBattery mv s) := by
  unfold Machine.takeBattery
  dsimp only
  split
  · split
    · exact h.tryReturn _ (h.onDkc _ hs)
    · exact h.onDkc _ hs
  · exact hs

theorem takeRelay (h : KeptOnLink P) (closed : Bool) (hs : P s) : P (takeRelay closed s) := by
  unfold Machine.takeRelay
  split
  · split
    · exact h.flag _ _ (h.onDkc _ hs)
    · exact hs
  · split
    · exact h.same hs
    · exact hs
  · exact hs

theorem takeButton (h : KeptOnLink P) (count : Nat) (hs : P s) : P (takeButton count s) := by
  unfold Machine.takeButton
  extract_lets presses counted
  split
  · exact h.flag _ _ (h.same hs)
  · exact h.same hs

theorem takePower (h : KeptOnLink P) (contact closed : Bool) (mv button : Nat) (hs : P s) :
    P (takePower contact closed mv button s) :=
  h.takeButton button (h.takeBattery mv (h.takeRelay closed (h.takeContact contact hs)))

theorem dkcResume (h : KeptOnLink P) (hs : P s) : P (dkcResume s) := by
  have hfreed : P s.freed := by
    unfold State.freed
    dsimp only
    split
    · exact h.stationTest (h.formSteering (h.same hs))
    · split
      · exact h.formSteering (h.same hs)
      · exact h.same hs
  rw [dkcResume_eq]
  unfold repostRelay
  split
  · exact hfreed
  · split
    · exact h.onDkc _ (h.postRelay _ hfreed)
    · exact hfreed

theorem dkcEvent (h : KeptOnLink P) {f : State → State} (hf : P (f s)) : P (dkcEvent f s) := by
  have hgate : P (if (f s).dkc.handsOn s.dkc then Machine.evaluate (f s) else f s) := by
    split
    · exact h.evaluate hf
    · exact hf
  unfold Machine.dkcEvent
  dsimp only
  split
  · exact hgate
  · exact h.wireLostTest hgate

/-! ### The Response Engine -/

theorem toldNone (h : KeptOnLink P) (hs : P s) : P (toldNone s) := by
  have hlate {s : State} (hs : P s) : P (noneLate s) := h.outsideTest (h.dkcEvent (h.dkcResume hs))
  have hgate := h.evaluate hs
  unfold Machine.toldNone
  dsimp only
  split
  · exact hlate hgate
  · next i _ =>
    have hdrawn : P (drawn (Machine.evaluate s)) := h.same hgate
    split
    · exact h.onDkc Dkc.held (h.dkcEvent (h.dkcResume (h.outsideRaise i hdrawn)))
    · exact hlate hdrawn

theorem rseHandOff (h : KeptOnLink P) (held : Bool) (hs : P s) : P (rseHandOff held s) := by
  unfold Machine.rseHandOff
  split
  · split
    · exact h.evaluate hs
    · exact h.onDkc _ (h.evaluate hs)
  · split
    · exact h.toldNone hs
    · exact h.evaluate hs

theorem response (h : KeptOnLink P) (t : Trig) (d : Option Nat) (hs : P s) : P (setResponse t d s) :=
  h.flag _ _ hs (by cases t <;> decide)

theorem putCtx2 (h : KeptOnLink P) (c : Option Ctx) (hs : P s) : P (putCtx2 c s) :=
  h.same hs (by simp) (aside_of_same (by simp) (by simp))

theorem raiseTabled (h : KeptOnLink P) (t : Trig) (d : Option Nat) (hs : P s) : P (raiseTabled t d s) := by
  have harrived : P (arrived t s) := h.same hs
  unfold Machine.raiseTabled
  dsimp only
  split_ifs
  · exact h.onRse _ harrived
  · exact h.onRse _ harrived
  · exact h.onRse _ harrived
  · exact h.response t d (h.onRse _ harrived)
  · exact h.rseHandOff _ (h.response t d (h.onRse _ harrived))
  · exact h.rseHandOff _ (h.putCtx2 _ (h.response t d (h.onRse _ harrived)))

theorem raise (h : KeptOnLink P) (t : Trig) (d : Option Nat) (hs : P s) : P (raise t d s) := by
  unfold Machine.raise
  split
  · exact h.raiseTabled t d hs
  · exact h.raiseFixed t d hs

end KeptOnLink

/-! ### The records, and the transaction in flight -/

/-- The records and the counters of the answers. -/
def Dlc.nodeView (d : Dlc) : PerSix (Option NodeRec) × Nat × Nat := (d.recs, d.cnt.answers, d.cnt.nodesRecovered)

theorem arbitrate_nodeView (s : State) : (arbitrate s).dlc.nodeView = s.dlc.nodeView := by
  have hhead : (sendHead s).dlc.nodeView = s.dlc.nodeView := by
    unfold sendHead
    split <;> rfl
  unfold arbitrate
  split
  · rfl
  · split
    · exact hhead
    · split
      · rfl
      · split
        · unfold sendRead
          split <;> rfl
        · exact hhead

theorem keptOnLink_nodeView (v : PerSix (Option NodeRec) × Nat × Nat) : KeptOnLink fun s => s.dlc.nodeView = v where
  still hdlc _ hs := by rw [hdlc, hs]
  posts d hd hs := by
    rw [Dlc.unposted, Dlc.unposted, Prod.mk.injEq, Prod.mk.injEq, Prod.mk.injEq] at hd
    obtain ⟨hrecs, -, -, hcnt⟩ := hd
    rw [← hs]
    exact congrArg₂ Prod.mk hrecs hcnt
  arbitrate hs := (arbitrate_nodeView _).trans hs

/-- While a transaction is in flight no other begins, and the read stays as it is. -/
theorem keptOnLink_inFlight (t : Transaction) (r : Option PassReadReq) :
    KeptOnLink fun s => s.dlc.tx = some t ∧ s.dlc.read = r where
  still hdlc _ hs := by rwa [hdlc]
  posts d hd hs := by
    rw [Dlc.unposted, Dlc.unposted, Prod.mk.injEq, Prod.mk.injEq, Prod.mk.injEq] at hd
    obtain ⟨-, htx, hread, -⟩ := hd
    exact ⟨htx.trans hs.1, hread.trans hs.2⟩
  arbitrate hs := by
    rw [arbitrate_of_busy (.inl (by rw [hs.1]; exact nofun))]
    exact hs

end Sys2Proof.Machine
end

section
/-! What a valid answer does: to the queue (R90, R92), to its node's record (R86, R95 to R97), and, for a power STATUS,
to the Dock Controller (R127, R129, R134, R135, R137). -/

namespace Sys2Proof.Machine

/-! ### The queue -/

theorem answered_of_unserved {d : Dlc} (h : d.queue = [] ∨ ∃ e rest, d.queue = e :: rest ∧ e.inFlight = false) :
    d.answered = d := by
  unfold Dlc.answered
  rcases h with hq | ⟨e, rest, hq, hflight⟩
  · rw [hq]
  · rw [hq]
    simp [hflight]

theorem headIsAnswered : HeadIsAnswered := by
  refine ⟨fun d h => answered_of_unserved h, fun d e rest hq hflight => ⟨fun hresend => ?_, fun hresend => ?_⟩⟩
  · rw [Dlc.answered, hq]
    simp [hflight, hresend]
  · have hleaves : d.answered = afterLeaving { d with queue := rest } := by
      rw [Dlc.answered, hq]
      simp [hflight, hresend]
    rw [hleaves]
    exact leavesQueue_afterLeaving d rest

theorem unserved_iff (d : Dlc) :
    d.served = none ↔ d.queue = [] ∨ ∃ e rest, d.queue = e :: rest ∧ e.inFlight = false := by
  unfold Dlc.served
  cases hq : d.queue with
  | nil => simp
  | cons e rest => cases he : e.inFlight <;> simp [he]

/-! ### The record of a node -/

theorem onNode_eq {n : Node} {f : NodeRec → NodeRec} {s : State} {r : NodeRec} (h : s.dlc.recs.get n = some r) :
    onNode n f s = { s with dlc := { s.dlc with recs := s.dlc.recs.set n (some (f r)) } } := by
  rw [onNode, onDlc, h]
  rfl

theorem slipCond_eq_true_iff (s : State) (ack : Option PostValue) (speed : Int) :
    s.slipCond ack speed = true ↔ ∃ v, ack = some (.wheel v) ∧ 0 < s.slipTolerance ∧
      s.slipMinimum ≤ v.natAbs ∧ s.slipTolerance < (v - speed).natAbs := by
  unfold State.slipCond
  split
  · next v =>
    simp only [Bool.and_eq_true, decide_eq_true_eq]
    exact ⟨fun ⟨⟨h1, h2⟩, h3⟩ => ⟨v, rfl, h1, h2, h3⟩, fun ⟨_, hv, h1, h2, h3⟩ => by
      cases hv
      exact ⟨⟨h1, h2⟩, h3⟩⟩
  · next hno => simp only [Bool.false_eq_true, false_iff]; exact fun ⟨v, hv, _⟩ => hno v hv

theorem currentCond_eq_true_iff (threshold current : Nat) :
    currentCond threshold current = true ↔ 0 < threshold ∧ threshold ≤ current := by
  simp [currentCond]

theorem bool_eq_of_iff {a b : Bool} {p : Prop} (ha : a = true ↔ p) (hb : b = true ↔ p) : b = a :=
  Bool.eq_iff_iff.mpr (hb.trans ha.symm)

theorem wheelStatus_eq {n : Node} {speed : Int} {current : Nat} {s : State} {r : NodeRec}
    (h : s.dlc.recs.get n = some r) :
    wheelStatus n speed current s =
      let a := r.slip.judge (s.slipCond r.lastAck speed) s.slipTime
      let b := r.stall.judge (currentCond s.stallCurrent current) s.stallTime
      let x : State := { s with dlc := { s.dlc with recs := s.dlc.recs.set n (some
        { r with telem := some (.wheel speed current), slip := a.1, stall := b.1 }) } }
      let y := if a.2 then slipRaise n x else x
      if b.2 then stallRaise n y else y := by
  rw [wheelStatus, h]
  dsimp only
  rw [onNode_eq h]

theorem bladeStatus_eq {n : Node} {speed current : Nat} {s : State} {r : NodeRec}
    (h : s.dlc.recs.get n = some r) :
    bladeStatus n speed current s =
      let a := r.jam.judge (currentCond s.jamCurrent current) s.jamTime
      let x : State := { s with dlc := { s.dlc with recs := s.dlc.recs.set n (some
        { r with telem := some (.blade speed current), jam := a.1 }) } }
      if a.2 then jamRaise n x else x := by
  rw [bladeStatus, h]
  dsimp only
  rw [onNode_eq h]

theorem bitsAt_zero_one (x : Nat) : bitsAt 0 1 x = x % 2 := by simp [bitsAt]

theorem statusIsTakenIn : StatusIsTakenIn := by
  intro n kind p s r hr put count addr speed current
  refine ⟨fun slips stalls hkind hslips hstalls => ?_, fun jams hkind hjams => ?_, fun hkind => ?_⟩
  · have hslip := bool_eq_of_iff hslips (slipCond_eq_true_iff s r.lastAck speed)
    have hstall := bool_eq_of_iff hstalls (currentCond_eq_true_iff s.stallCurrent current)
    have hstatus : takeStatus n kind p s = wheelStatus n speed current s := by
      rcases hkind with hkind | hkind <;> rw [hkind] <;> rfl
    rw [hstatus, wheelStatus_eq hr, hslip, hstall]
    rfl
  · have hjam := bool_eq_of_iff hjams (currentCond_eq_true_iff s.jamCurrent current)
    have hstatus : takeStatus n kind p s = bladeStatus n (min (wordAt p 0) 5000) current s := by
      rw [hkind]
      rfl
    rw [hstatus, bladeStatus_eq hr, hjam]
    rfl
  · rw [hkind]
    dsimp only [takeStatus, powerStatus]
    rw [onNode_eq hr, dkcEvent_eq_dockHandOn, bitsAt_zero_one]
    rfl

theorem nodeState_of_some {n : Node} {s : State} {r : NodeRec} (h : s.dlc.recs.get n = some r) :
    s.nodeState n = some r.st := by
  rw [State.nodeState, h]
  rfl

/-- A node that has answered, as its record and the counters show it (R86). -/
theorem nodeAnswered_eq {n : Node} {s : State} {r : NodeRec} (h : s.dlc.recs.get n = some r) :
    nodeAnswered n s = { s with
      dlc := { s.dlc with
        recs := s.dlc.recs.set n (some { r with st := .responsive, age := 0 })
        cnt := { s.dlc.cnt with
          answers := bump s.dlc.cnt.answers
          nodesRecovered :=
            if r.st = .unresponsive then bump s.dlc.cnt.nodesRecovered else s.dlc.cnt.nodesRecovered } } } := by
  rw [nodeAnswered, nodeState_of_some h]
  refine (onNode_eq (s := countDlc _ s) (r := r) h).trans ?_
  simp only [countDlc, onDlc, beq_iff_eq, Option.some.injEq]

theorem answerIsTaken : AnswerIsTaken := by
  intro t p s r hrenewed hr x back
  have hanswered : nodeAnswered t.node s = x back := nodeAnswered_eq hr
  have hback : (x back).dlc.recs.get t.node = some back := PerSix.get_set _ _ _
  have htaken : takeAnswer t p s =
      match t.carried with
      | .post (.param _) => x back
      | .post v => takeStatus t.node t.nodeKind p (onNode t.node (NodeRec.acknowledge v) (x back))
      | .poll => takeStatus t.node t.nodeKind p (x back)
      | .read _ => x back
      | .echo _ => x back := by
    rw [takeAnswer, hrenewed, hanswered]
    rfl
  refine ⟨fun data h => ?_, fun v h hv => ?_, fun h => ?_, fun data h => ?_⟩
  · rw [htaken, h]
  · rw [htaken, h]
    have hack : onNode t.node (NodeRec.acknowledge v) (x back) = x (back.acknowledge v) := by
      rw [onNode_eq hback]
      simp only [x, PerSix.set_set]
    cases v with
    | param data => exact absurd rfl (hv data)
    | _ => exact congrArg (takeStatus t.node t.nodeKind p) hack
  · rw [htaken, h]
  · rcases h with h | h <;> rw [htaken, h]

/-! ### The power node -/

section
variable {s : State}

theorem wheelsStill_iff (s : State) :
    s.wheelsStill = true ↔ ∀ n, (s.nodeKind n).isWheel = true → s.mgt.posted.get n = 0 := by
  simp only [State.wheelsStill, List.all_eq_true, mem_nodes, true_implies, Bool.or_eq_true, Bool.not_eq_true',
    beq_iff_eq]
  refine forall_congr' fun n => ?_
  cases (s.nodeKind n).isWheel <;> simp

/-- A power STATUS with contact, short of an establishment or not. -/
theorem takeContact_true (s : State) :
    takeContact true s =
      if s.dkc.established = false ∧ s.contactDebounce ≤ min (s.dkc.present + 1) 15 then
        contactEstablished { s with
          dkc := { s.dkc with present := min (s.dkc.present + 1) 15, absent := 0, established := true } }
      else { s with dkc := { s.dkc with present := min (s.dkc.present + 1) 15, absent := 0 } } := by
  simp [takeContact]

theorem takeContact_false (s : State) :
    takeContact false s =
      if s.dkc.established = true ∧ s.contactDebounce ≤ min (s.dkc.absent + 1) 15 then
        contactLost { s with
          dkc := { s.dkc with absent := min (s.dkc.absent + 1) 15, present := 0, established := false } }
      else { s with dkc := { s.dkc with absent := min (s.dkc.absent + 1) 15, present := 0 } } := by
  simp [takeContact]

theorem contactEstablished_of_approach (h : s.dkc.dock = .approach) :
    contactEstablished s = contactEntry .approach s := by
  rw [contactEstablished, h, ← enterContact_eq]

theorem contactEstablished_of_undocked (h : s.dkc.dock = .undocked) :
    contactEstablished s = if s.wheelsStill then contactEntry .start { s with
      dkc := { s.dkc with
        retry := 0
        batteryT := { s.dkc.batteryT with st := .stopped }
        rainT := { s.dkc.rainT with st := .stopped } } } else s := by
  rw [contactEstablished, h, ← enterContact_eq]
  rfl

theorem contactEstablished_of_other (h1 : s.dkc.dock ≠ .approach) (h2 : s.dkc.dock ≠ .undocked) :
    contactEstablished s = s := by
  unfold contactEstablished
  split
  · next h => exact absurd h h1
  · next h => exact absurd h h2
  · rfl

/-- CONTACT with its relay timer stopped and the RELAY OPEN posted. -/
def State.contactOpened (s : State) : State :=
  postRelay false { s with dkc := { s.dkc with relayT := { s.dkc.relayT with st := .stopped } } }

theorem contactOpened_dkc (s : State) :
    s.contactOpened.dkc = { s.dkc with relayT := { s.dkc.relayT with st := .stopped } } := by
  simp [State.contactOpened]

theorem contactLost_of_start (h : s.dkc.dock = .contact) (ho : s.dkc.origin = .start) :
    contactLost s = enterUndocked s.contactOpened := by
  have horigin : s.contactOpened.dkc.origin = .start := by
    rw [contactOpened_dkc]
    exact ho
  have hlost : contactLostInContact s = enterUndocked s.contactOpened := by
    unfold contactLostInContact
    dsimp only [onDkc, Timer.stop]
    rw [← State.contactOpened, horigin]
  rw [contactLost, h]
  exact hlost

theorem contactLost_of_approach (h : s.dkc.dock = .contact) (ho : s.dkc.origin = .approach) :
    contactLost s = formSteering { s.contactOpened with
      dkc := { s.contactOpened.dkc with
        dock := .approach
        approachT := s.dockTimer s.dkc.approachT.elapsed } } := by
  have horigin : s.contactOpened.dkc.origin = .approach := by
    rw [contactOpened_dkc]
    exact ho
  have htimer : s.contactOpened.timerResume s.contactOpened.dkc.approachT =
      s.dockTimer s.dkc.approachT.elapsed := by
    rw [timerResume_eq, contactOpened_dkc]
    exact dockTimer_congr (by simp [State.contactOpened]) _
  have hlost : contactLostInContact s = formSteering { s.contactOpened with
      dkc := { s.contactOpened.dkc with
        dock := .approach
        approachT := s.dockTimer s.dkc.approachT.elapsed } } := by
    unfold contactLostInContact
    dsimp only [onDkc, Timer.stop]
    rw [← State.contactOpened, horigin, htimer]
  rw [contactLost, h]
  exact hlost

theorem contactLost_of_docked (h : s.dkc.dock = .docked) :
    contactLost s = enterUndocked (setFlag .dockLost [] { postRelay false s with
      dkc := { (postRelay false s).dkc with
        cnt := { s.dkc.cnt with dockLost := bump s.dkc.cnt.dockLost } } }) := by
  have hdkc : (postRelay false s).dkc = s.dkc := by simp
  rw [contactLost, h]
  dsimp only [contactLostInDocked, countDkc, onDkc]
  rw [hdkc]

theorem contactLost_of_other (h1 : s.dkc.dock ≠ .contact) (h2 : s.dkc.dock ≠ .docked) : contactLost s = s := by
  unfold contactLost
  split
  · next h => exact absurd h h1
  · next h => exact absurd h h2
  · rfl

end

theorem contactIsTaken : ContactIsTaken := by
  intro s k still more x y
  refine ⟨fun h => ?_, fun hest hmore => ?_, fun h => ?_, fun hest hmore => ?_⟩
  · rw [takeContact_true, if_neg]
    rintro ⟨hest, hmore⟩
    rcases h with h | h
    · exact absurd (h.symm.trans hest) (by decide)
    · exact absurd hmore (not_le.mpr h)
  · have htake : takeContact true s = contactEstablished (x true) := by
      rw [takeContact_true, if_pos ⟨hest, hmore⟩]
    refine ⟨fun hdock => ?_, fun hdock hstill => ?_, fun hdock hstill => ?_, fun h1 h2 => ?_⟩
    · exact htake.trans (contactEstablished_of_approach (s := x true) hdock)
    · exact (htake.trans (contactEstablished_of_undocked (s := x true) hdock)).trans
        (if_pos ((wheelsStill_iff _).mpr hstill))
    · exact (htake.trans (contactEstablished_of_undocked (s := x true) hdock)).trans
        (if_neg fun h => hstill ((wheelsStill_iff _).mp h))
    · exact htake.trans (contactEstablished_of_other (s := x true) h1 h2)
  · rw [takeContact_false, if_neg]
    rintro ⟨hest, hmore⟩
    rcases h with h | h
    · exact absurd (h.symm.trans hest) (by decide)
    · exact absurd hmore (not_le.mpr h)
  · have htake : takeContact false s = contactLost (y false) := by
      rw [takeContact_false, if_pos ⟨hest, hmore⟩]
    refine ⟨fun hdock => ⟨fun horigin => ?_, fun horigin => ?_⟩, fun hdock => ?_, fun h1 h2 => ?_⟩
    · exact htake.trans (contactLost_of_start (s := y false) hdock horigin)
    · exact htake.trans (contactLost_of_approach (s := y false) hdock horigin)
    · exact htake.trans (contactLost_of_docked (s := y false) hdock)
    · exact htake.trans (contactLost_of_other (s := y false) h1 h2)

theorem takeRelay_of_departing {s : State} (h : s.dkc.dock = .departing) (hphase : s.dkc.phase = .waitOpen) :
    takeRelay false s = beginReverse s := by
  rw [takeRelay, h]
  exact if_pos ⟨hphase, rfl⟩

theorem relayIsTaken : RelayIsTaken := by
  intro s k v
  refine ⟨fun h => ?_, fun h hphase => ?_, fun h => ?_, fun h => ?_⟩
  · have htake : takeRelay true s = enterDocked s := by
      rw [takeRelay, h]
      rfl
    exact htake
  · rw [takeRelay_of_departing h hphase, beginReverse, timerStart_eq]
    rfl
  · unfold takeRelay
    split
    · next hdock => exact absurd hdock h
    · exact if_neg fun hc => by simp at hc
    · rfl
  · unfold takeRelay
    split
    · rfl
    · next hdock => exact if_neg fun hc => h ⟨hdock, hc.1⟩
    · rfl

theorem powerResponsive_iff (s : State) :
    s.powerResponsive = true ↔ ∃ n r, s.powerNode = some n ∧ s.dlc.recs.get n = some r ∧ r.st = .responsive := by
  unfold State.powerResponsive State.nodeState
  cases s.powerNode with
  | none => simp
  | some n => cases hr : s.dlc.recs.get n <;> simp [hr]

theorem batteryIsTaken : BatteryIsTaken := by
  intro mv low s k hlow j x
  have hcond : (decide (0 < s.returnThreshold) && s.powerResponsive && decide (mv < s.returnThreshold)) = low := by
    refine bool_eq_of_iff hlow ?_
    simp only [Bool.and_eq_true, decide_eq_true_eq, powerResponsive_iff]
    exact ⟨fun ⟨⟨h1, h2⟩, h3⟩ => ⟨h1, h3, h2⟩, fun ⟨h1, h3, h2⟩ => ⟨⟨h1, h2⟩, h3⟩⟩
  have htake (hdock : k.dock = .undocked) : takeBattery mv s = if j.2 then tryReturn .battery x else x := by
    rw [takeBattery, if_pos hdock]
    dsimp only
    rw [hcond]
    rfl
  refine ⟨fun hdock => if_neg hdock, fun hdock h => ?_, fun hdock h => ?_⟩
  · rw [htake hdock, h]
    rfl
  · rw [htake hdock, h]
    rfl

theorem buttonIsTaken : ButtonIsTaken := by
  intro count s hcount k x
  refine ⟨fun h => ?_, fun seen h hseen => ⟨fun hor => ?_, fun hne hdock => ?_⟩⟩
  · rw [takeButton, show s.dkc.button = none from h]
    exact if_neg fun hc => by simp at hc
  · rw [takeButton, show s.dkc.button = some seen from h]
    refine if_neg fun ⟨hdock, hpresses⟩ => ?_
    rcases hor with heq | hnot
    · subst heq
      simp [pressesSince] at hpresses
    · exact hnot hdock
  · rw [takeButton, show s.dkc.button = some seen from h]
    refine if_pos ⟨hdock, ?_⟩
    simp only [pressesSince]
    omega

end Sys2Proof.Machine
end

section
/-! The end of a transaction by a valid answer (R86, R90, R92, R101, R170). -/

namespace Sys2Proof.Machine

/-! ### What a STATUS and an answer leave of the drive link -/

/-- The part with another record of a node. -/
def State.withRec (s : State) (n : Node) (r : NodeRec) : State :=
  { s with dlc := { s.dlc with recs := s.dlc.recs.set n (some r) } }

theorem withRec_self {s : State} {n : Node} {r : NodeRec} (h : s.dlc.recs.get n = some r) : s.withRec n r = s := by
  rw [State.withRec, ← h, PerSix.set_get]

section
variable {P : State → Prop} {s : State}

theorem KeptOnLink.countDlc (h : KeptOnLink P) (f : DlcCounters → DlcCounters)
    (hf : (f s.dlc.cnt).answers = s.dlc.cnt.answers ∧ (f s.dlc.cnt).nodesRecovered = s.dlc.cnt.nodesRecovered)
    (hs : P s) : P (countDlc f s) := by
  refine h.posts _ ?_ hs
  simp only [Dlc.unposted, hf.1, hf.2]

theorem KeptOnLink.slipRaise (h : KeptOnLink P) (n : Node) (hs : P s) : P (slipRaise n s) :=
  h.raise _ _ (h.flag _ _ (h.countDlc _ ⟨rfl, rfl⟩ hs))

theorem KeptOnLink.stallRaise (h : KeptOnLink P) (n : Node) (hs : P s) : P (stallRaise n s) :=
  h.raise _ _ (h.countDlc _ ⟨rfl, rfl⟩ hs)

theorem KeptOnLink.jamRaise (h : KeptOnLink P) (n : Node) (hs : P s) : P (jamRaise n s) :=
  h.raise _ _ (h.countDlc _ ⟨rfl, rfl⟩ hs)

end

/-- A record as a STATUS may leave it: the telemetry and the judged timers apart, it is as it was. -/
structure NodeRec.SameNode (r r' : NodeRec) : Prop where
  state : r'.st = r.st
  age : r'.age = r.age
  ack : r'.lastAck = r.lastAck

/-- The record of a wheel and that of a blade after a STATUS. -/
def State.wheelRec (s : State) (r : NodeRec) (speed : Int) (current : Nat) : NodeRec :=
  { r with
    telem := some (.wheel speed current)
    slip := (r.slip.judge (s.slipCond r.lastAck speed) s.slipTime).1
    stall := (r.stall.judge (currentCond s.stallCurrent current) s.stallTime).1 }

def State.bladeRec (s : State) (r : NodeRec) (speed current : Nat) : NodeRec :=
  { r with
    telem := some (.blade speed current)
    jam := (r.jam.judge (currentCond s.jamCurrent current) s.jamTime).1 }

theorem takeStatus_link {n : Node} {s : State} {r : NodeRec} (kind : NodeKind) (p : List Byte)
    (hr : s.dlc.recs.get n = some r) :
    ∃ r', r.SameNode r' ∧ ∀ P, KeptOnLink P → P (s.withRec n r') → P (takeStatus n kind p s) := by
  have hwheel (speed : Int) (current : Nat) :
      ∃ r', r.SameNode r' ∧ ∀ P, KeptOnLink P → P (s.withRec n r') → P (wheelStatus n speed current s) := by
    rw [wheelStatus_eq hr]
    refine ⟨s.wheelRec r speed current, ⟨rfl, rfl, rfl⟩, fun P h hs => ?_⟩
    have hslip : P (if (r.slip.judge (s.slipCond r.lastAck speed) s.slipTime).2 then
        slipRaise n (s.withRec n (s.wheelRec r speed current))
        else s.withRec n (s.wheelRec r speed current)) := by
      split
      · exact h.slipRaise n hs
      · exact hs
    dsimp only
    split
    · exact h.stallRaise n hslip
    · exact hslip
  cases kind with
  | noNode => exact ⟨r, ⟨rfl, rfl, rfl⟩, fun P _ hs => by rwa [withRec_self hr] at hs⟩
  | wheelLeft => exact hwheel _ _
  | wheelRight => exact hwheel _ _
  | blade =>
    have hstatus : takeStatus n .blade p s = bladeStatus n (min (wordAt p 0) 5000) (min (wordAt p 2) 30000) s := rfl
    rw [hstatus, bladeStatus_eq hr]
    refine ⟨s.bladeRec r (min (wordAt p 0) 5000) (min (wordAt p 2) 30000), ⟨rfl, rfl, rfl⟩, fun P h hs => ?_⟩
    dsimp only
    split
    · exact h.jamRaise n hs
    · exact hs
  | power =>
    refine ⟨{ r with telem := some (.power (wordAt p 0) (bitsAt 0 1 (byteAt p 2) == 1)
      (bitsAt 1 1 (byteAt p 2) == 1) (min (wordAt p 3) 30000) (byteAt p 5)) }, ⟨rfl, rfl, rfl⟩, fun P h hs => ?_⟩
    dsimp only [takeStatus, powerStatus]
    rw [onNode_eq hr]
    exact h.dkcEvent (h.takePower _ _ _ _ hs)

/-- The value acknowledged by an answer: that of a SET, which a PARAM_WRITE is not. -/
def Carried.acked (c : Carried) (before : Option PostValue) : Option PostValue :=
  match c with
  | .post (.param _) => before
  | .post val => some val
  | _ => before

/-- The node's record after an answer, and what an answer leaves of the drive link. -/
structure NodeRec.Answered (t : Transaction) (r r' : NodeRec) : Prop where
  state : r'.st = .responsive
  age : r'.age = 0
  ack : r'.lastAck = t.carried.acked r.lastAck

/-- The part with a node's record after an answer, and the answer counted. -/
def State.answeredWith (s : State) (n : Node) (r r' : NodeRec) : State :=
  { s with
    dlc := { s.dlc with
      recs := s.dlc.recs.set n (some r')
      cnt := { s.dlc.cnt with
        answers := bump s.dlc.cnt.answers
        nodesRecovered :=
          if r.st = .unresponsive then bump s.dlc.cnt.nodesRecovered else s.dlc.cnt.nodesRecovered } } }

theorem answeredWith_rec (s : State) (n : Node) (r r' : NodeRec) :
    (s.answeredWith n r r').dlc.recs.get n = some r' := PerSix.get_set _ _ _

theorem answeredWith_withRec (s : State) (n : Node) (r r' r'' : NodeRec) :
    (s.answeredWith n r r').withRec n r'' = s.answeredWith n r r'' := by
  simp only [State.withRec, State.answeredWith, PerSix.set_set]

theorem takeAnswer_link {t : Transaction} {s : State} {r : NodeRec} (p : List Byte) (hrenewed : t.renewed = false)
    (hr : s.dlc.recs.get t.node = some r) :
    ∃ r', r.Answered t r' ∧ ∀ P, KeptOnLink P → P (s.answeredWith t.node r r') → P (takeAnswer t p s) := by
  obtain ⟨hparam, hset, hpoll, hread⟩ := answerIsTaken t p s r hrenewed hr
  have hstatus (back : NodeRec) (hback : back.st = .responsive ∧ back.age = 0)
      (hack : back.lastAck = t.carried.acked r.lastAck)
      (htaken : takeAnswer t p s = takeStatus t.node t.nodeKind p (s.answeredWith t.node r back)) :
      ∃ r', r.Answered t r' ∧ ∀ P, KeptOnLink P → P (s.answeredWith t.node r r') → P (takeAnswer t p s) := by
    obtain ⟨r', ⟨hstate, hage, hlast⟩, hkept⟩ := takeStatus_link t.nodeKind p (answeredWith_rec s t.node r back)
    refine ⟨r', ⟨hstate.trans hback.1, hage.trans hback.2, hlast.trans hack⟩, fun P h hs => ?_⟩
    rw [htaken]
    exact hkept P h (by rwa [answeredWith_withRec])
  have hplain (hack : r.lastAck = t.carried.acked r.lastAck)
      (htaken : takeAnswer t p s = s.answeredWith t.node r { r with st := .responsive, age := 0 }) :
      ∃ r', r.Answered t r' ∧ ∀ P, KeptOnLink P → P (s.answeredWith t.node r r') → P (takeAnswer t p s) :=
    ⟨{ r with st := .responsive, age := 0 }, ⟨rfl, rfl, hack⟩, fun P _ hs => by rwa [htaken]⟩
  cases hc : t.carried with
  | post v =>
    cases v with
    | param data => exact hplain (by rw [hc]; rfl) (hparam data hc)
    | wheel x => exact hstatus _ ⟨rfl, rfl⟩ (by rw [hc]; rfl) (hset _ hc nofun)
    | blade x => exact hstatus _ ⟨rfl, rfl⟩ (by rw [hc]; rfl) (hset _ hc nofun)
    | relay x => exact hstatus _ ⟨rfl, rfl⟩ (by rw [hc]; rfl) (hset _ hc nofun)
  | poll => exact hstatus _ ⟨rfl, rfl⟩ (by rw [hc]; rfl) (hpoll hc)
  | read q => exact hplain (by rw [hc]; rfl) (hread q (.inl hc))
  | echo q => exact hplain (by rw [hc]; rfl) (hread q (.inr hc))

/-! ### The end of the transaction -/

theorem clearTx_nodeView (s : State) : (clearTx s).dlc.nodeView = s.dlc.nodeView := rfl

theorem onDlc_answered_nodeView (s : State) : (onDlc Dlc.answered s).dlc.nodeView = s.dlc.nodeView :=
  (keptOnLink_nodeView _).posts s.dlc.answered (answered_unposted s.dlc) rfl

theorem endRead_nodeView (code : RespCode) (data : List Byte) (s : State) :
    (endRead code data s).dlc.nodeView = s.dlc.nodeView := by
  unfold endRead refuseRead
  (repeat' split) <;> simp [onDlc, countDlc, Dlc.nodeView]

theorem echoNext_nodeView (s : State) : (echoNext s).dlc.nodeView = s.dlc.nodeView := by
  unfold echoNext
  split
  · unfold echoSend
    split <;> rfl
  · have h := keptOnLink_nodeView s.dlc.nodeView
    exact h.evaluate (h.arbitrate (congrArg Dlc.nodeView (by simp [testOver] : (testOver .completed s).dlc = s.dlc)))

theorem answered_nodeView (t : Transaction) (p : List Byte) (s : State) :
    (answered t p s).dlc.nodeView = (takeAnswer t p s).dlc.nodeView := by
  unfold answered
  dsimp only
  split
  · rw [arbitrate_nodeView, clearTx_nodeView, onDlc_answered_nodeView]
  · rw [arbitrate_nodeView, clearTx_nodeView]
  · rw [arbitrate_nodeView, clearTx_nodeView, endRead_nodeView]
  · rw [echoNext_nodeView]
    rfl

theorem answeredBy_of_fits {t : Transaction} {bytes p : List Byte}
    (hparse : parseDLink bytes = some (t.node.val + 1, t.carried.request + 128, p))
    (hfits : t.lengthFits p.length = true) : t.answeredBy bytes = some p := by
  rw [Transaction.answeredBy, hparse]
  exact if_pos ⟨rfl, rfl, hfits⟩

theorem takeAnswer_of_renewed {t : Transaction} (p : List Byte) (s : State) (h : t.renewed = true) :
    takeAnswer t p s = countDlc (fun c => { c with answers := bump c.answers }) s := if_pos h

theorem takeAnswer_read {t : Transaction} {q : List Byte} (p : List Byte) (s : State) (hc : t.carried = .read q) :
    (takeAnswer t p s).dlc.read = s.dlc.read := by
  unfold takeAnswer
  rw [hc]
  split <;> rfl

theorem endRead_of_none {code : RespCode} {data : List Byte} {s : State} (h : s.dlc.read = none) :
    endRead code data s = s := by
  rw [endRead, h]

theorem endRead_of_some {code : RespCode} {data : List Byte} {s : State} {r : PassReadReq} (h : s.dlc.read = some r)
    (hgone : r.gone = false) :
    endRead code data s = answerRead code data { s with dlc := { s.dlc with read := none } } := by
  rw [endRead, h]
  simp [hgone, onDlc]

theorem endRead_of_gone {code : RespCode} {data : List Byte} {s : State} {r : PassReadReq} (h : s.dlc.read = some r)
    (hgone : r.gone = true) :
    endRead code data s = answerRead .noNode [] { s with
      dlc := { s.dlc with
        read := none
        cnt := { s.dlc.cnt with passRefused := bump s.dlc.cnt.passRefused } } } := by
  rw [endRead, h]
  simp [hgone, refuseRead, onDlc, countDlc]

section
variable {t : Transaction} {p : List Byte} {s : State}

theorem answered_of_post {v : PostValue} (h : t.carried = .post v) :
    answered t p s = arbitrate (clearTx (onDlc Dlc.answered (takeAnswer t p s))) := by
  rw [answered, h]

theorem answered_of_poll (h : t.carried = .poll) : answered t p s = arbitrate (clearTx (takeAnswer t p s)) := by
  rw [answered, h]

theorem answered_of_read {q : List Byte} (h : t.carried = .read q) :
    answered t p s = arbitrate (clearTx (endRead .ok (p.take 95) (takeAnswer t p s))) := by
  rw [answered, h]

theorem answered_of_echo {sent : List Byte} (h : t.carried = .echo sent) :
    answered t p s = echoNext (echoAnswered sent p (clearTx (takeAnswer t p s))) := by
  rw [answered, h]

end

/-- Settles O35: a valid answer is `answered`, by what is carried; the record and the counters after it are those
that `takeAnswer` leaves, which posts, triggers and arbitration keep. -/
theorem validAnswerEndsTheTransaction : Obligations.ValidAnswerEndsTheTransaction := by
  refine ⟨headIsAnswered, answerIsTaken, statusIsTakenIn, timerIsJudged, contactIsTaken, relayIsTaken, batteryIsTaken,
    buttonIsTaken, ?_⟩
  intro dt bytes p s t held u w ends free htx hparse hfits
  have harrival : dLinkArrival bytes u = answered t p u := by
    rw [dLinkArrival, htx]
    dsimp only
    rw [answeredBy_of_fits hparse hfits]
  have hends : ends (answered t p u) := by
    refine (exec_of_running _ held).trans ?_
    exact congrArg Host.Outcome.next harrival
  refine ⟨fun v hc => ?post, fun hc => ?poll, fun q hc => ?read, fun sent hc => ?echo, takeAnswer_of_renewed p u,
    fun r hr hrenewed => ?node⟩
  case post =>
    rw [answered_of_post hc] at hends
    refine ⟨hends, fun hserved => ?_⟩
    have hsame : w.dlc.answered = w.dlc := answered_of_unserved ((unserved_iff _).mp hserved)
    have hw : onDlc Dlc.answered w = w := by
      rw [onDlc, hsame]
    rw [hw] at hends
    exact hends
  case poll =>
    rw [answered_of_poll hc] at hends
    exact hends
  case read =>
    have hread : w.dlc.read = u.dlc.read := takeAnswer_read p u hc
    rw [answered_of_read hc] at hends
    refine ⟨fun h => ?_, fun r h hgone => ?_, fun r h hgone => ?_⟩
    · rw [endRead_of_none (hread.trans h)] at hends
      exact hends
    · rw [endRead_of_some (hread.trans h) hgone] at hends
      exact hends
    · rw [endRead_of_gone (hread.trans h) hgone] at hends
      exact hends
  case echo =>
    rw [answered_of_echo hc] at hends
    have hlbu : w.lbu = u.lbu := by simp [w]
    have hrecord : echoAnswered sent p (clearTx w) = { free w with
        lbu := { u.lbu with
          record :=
            if p = sent then { u.lbu.record with matched := bump u.lbu.record.matched }
            else { u.lbu.record with mismatched := bump u.lbu.record.mismatched } } } := by
      rw [← hlbu]
      rfl
    rw [hrecord] at hends
    exact hends
  case node =>
    obtain ⟨r', ⟨hstate, hage, hack⟩, hkept⟩ := takeAnswer_link p hrenewed hr
    obtain ⟨hwtx, hwread⟩ := hkept _ (keptOnLink_inFlight t u.dlc.read) ⟨htx, rfl⟩
    have hview : w.dlc.nodeView = (u.answeredWith t.node r r').dlc.nodeView := hkept _ (keptOnLink_nodeView _) rfl
    have hafter := (answered_nodeView t p u).trans hview
    simp only [Dlc.nodeView, Prod.mk.injEq] at hafter
    obtain ⟨hrecs, hanswers, hrecovered⟩ := hafter
    refine ⟨hwtx.trans htx.symm, hwread, by simp [w], answered t p u, hends, hanswers, hrecovered,
      ⟨r', ?_, hstate, hage, ?_⟩, fun n hn => ?_, by simp, by simp, by simp, by simp⟩
    · rw [hrecs]
      exact answeredWith_rec u t.node r r'
    · rw [hack]
      rfl
    · rw [hrecs]
      exact PerSix.get_set_ne _ _ hn

end Sys2Proof.Machine
end

section
/-! The expiry of the response timer (R87). -/

namespace Sys2Proof.Machine

theorem headIsRemoved : HeadIsRemoved := by
  refine ⟨fun d h => ?_, fun d e rest hq hflight => ?_⟩
  · unfold Dlc.failed
    rcases h with hq | ⟨e, rest, hq, hflight⟩
    · rw [hq]
    · rw [hq]
      simp [hflight]
  · have hleaves : d.failed =
        afterLeaving { d with queue := rest, cnt := { d.cnt with removedOnLoss := bump d.cnt.removedOnLoss } } := by
      rw [Dlc.failed, hq]
      simp [hflight]
    rw [hleaves]
    exact leavesQueue_afterLeaving { d with cnt := { d.cnt with removedOnLoss := bump d.cnt.removedOnLoss } } rest

/-- The second attempt carries the current value of the entry it serves. -/
theorem retryValue_eq (d : Dlc) (c : Carried) :
    d.retryValue c =
      match c, d.queue with
      | .post v, e :: _ => .post (if e.inFlight then e.val else v)
      | x, _ => x := by
  unfold Dlc.retryValue Dlc.served
  cases c with
  | post v =>
    cases d.queue with
    | nil => rfl
    | cons e rest => cases hflight : e.inFlight <;> simp [hflight]
  | _ => rfl

/-! ### The loss of a node -/

/-- A node's record after a second timeout. -/
def NodeRec.silenced (r : NodeRec) : NodeRec :=
  if r.st = .unresponsive then { r with age := 0 }
  else { r with
    st := .unresponsive
    age := 0
    slip := { r.slip with st := .stopped }
    stall := { r.stall with st := .stopped }
    jam := { r.jam with st := .stopped } }

/-- The part with the timeout counted and its node silent, before the transaction ends. -/
def State.timedOut (s : State) (t : Transaction) : State :=
  { s with
    dlc := { s.dlc with
      recs := if t.renewed = true then s.dlc.recs
        else s.dlc.recs.set t.node ((s.dlc.recs.get t.node).map NodeRec.silenced)
      cnt := { s.dlc.cnt with
        timeouts := bump s.dlc.cnt.timeouts
        nodesLost := if s.losesNode t then bump s.dlc.cnt.nodesLost else s.dlc.cnt.nodesLost } } }

theorem losesNode_iff (s : State) (t : Transaction) :
    s.losesNode t = true ↔ t.renewed = false ∧ s.nodeState t.node ≠ some .unresponsive := by
  simp [State.losesNode]

section
variable {t : Transaction} {s : State}

/-- The age of a node that times out returns to 0. -/
def State.ageless (s : State) (t : Transaction) : State :=
  if t.renewed then countDlc (fun c => { c with timeouts := bump c.timeouts }) s
  else onNode t.node (fun r => { r with age := 0 }) (countDlc (fun c => { c with timeouts := bump c.timeouts }) s)

theorem ageless_losesNode (s : State) (t : Transaction) : (s.ageless t).losesNode t = s.losesNode t := by
  have hstate : (s.ageless t).nodeState t.node = s.nodeState t.node := by
    unfold State.ageless
    split
    · rfl
    · simp only [State.nodeState, onNode, onDlc, countDlc, PerSix.get_set, Option.map_map]
      rfl
  rw [State.losesNode, State.losesNode, hstate]

theorem ageless_lost (s : State) (t : Transaction) :
    (if s.losesNode t then loseNode t.node (s.ageless t) else s.ageless t) = s.timedOut t := by
  cases hrenewed : t.renewed with
  | true =>
    have hkept : s.losesNode t = false := by simp [State.losesNode, hrenewed]
    rw [State.timedOut, hkept, State.ageless, hrenewed]
    rfl
  | false =>
    have hages : s.ageless t = onNode t.node (fun r => { r with age := 0 })
        (countDlc (fun c => { c with timeouts := bump c.timeouts }) s) := by
      rw [State.ageless, hrenewed]
      rfl
    have hloses : s.losesNode t = (s.nodeState t.node != some .unresponsive) := by
      rw [State.losesNode, hrenewed]
      rfl
    rw [State.timedOut, hloses, hages, hrenewed]
    cases hr : s.dlc.recs.get t.node with
    | none => simp [State.nodeState, hr, loseNode, onNode, onDlc, countDlc]
    | some r =>
      by_cases hst : r.st = .unresponsive
      · simp [State.nodeState, hr, hst, onNode, onDlc, countDlc, NodeRec.silenced]
      · simp [State.nodeState, hr, hst, loseNode, onNode, onDlc, countDlc, NodeRec.silenced, LimitTimer.stop]

theorem failTx_eq (t : Transaction) (s : State) :
    failTx t s =
      match t.carried with
      | .post _ => clearTx (onDlc Dlc.failed (s.timedOut t))
      | .read _ => clearTx (endRead .nodeTimeout [] (s.timedOut t))
      | _ => clearTx (s.timedOut t) := by
  have hages : (if t.renewed then countDlc (fun c => { c with timeouts := bump c.timeouts }) s
      else onNode t.node (fun r => { r with age := 0 })
        (countDlc (fun c => { c with timeouts := bump c.timeouts }) s)) = s.ageless t := rfl
  unfold failTx
  dsimp only
  rw [hages, ageless_losesNode, ageless_lost] <;> rfl

theorem failTx_of_post {v : PostValue} (h : t.carried = .post v) :
    failTx t s = clearTx (onDlc Dlc.failed (s.timedOut t)) := by
  rw [failTx_eq, h]

theorem failTx_of_poll (h : t.carried = .poll) : failTx t s = clearTx (s.timedOut t) := by
  rw [failTx_eq, h]

theorem failTx_of_read {q : List Byte} (h : t.carried = .read q) :
    failTx t s = clearTx (endRead .nodeTimeout [] (s.timedOut t)) := by
  rw [failTx_eq, h]

theorem answerRead_flags (code : RespCode) (data : List Byte) (s : State) :
    (answerRead code data s).nli.flags = s.nli.flags := by
  unfold answerRead pushAnswer
  split
  · rfl
  · rw [txBegin_flags]

theorem failTx_flags (t : Transaction) (s : State) : (failTx t s).nli.flags = s.nli.flags := by
  rw [failTx_eq]
  split
  · rfl
  · unfold endRead refuseRead
    (repeat' split) <;> simp [clearTx, onDlc, countDlc, answerRead_flags, State.timedOut]
  · rfl

theorem failTx_tx (t : Transaction) (s : State) : (failTx t s).dlc.tx = none := by
  rw [failTx_eq]
  split <;> rfl

theorem failed_of_unserved {d : Dlc} (h : d.served = none) : d.failed = d :=
  headIsRemoved.1 d ((unserved_iff d).mp h)

/-- The loss of a wheel or blade node leaves a level-3 context, whichever comes first of it and the arbitration. -/
theorem nodeLostRaise_ctx3 (n : Node) (s : State) : (nodeLostRaise n s).rse.ctx3.isSome = true := by
  unfold nodeLostRaise
  split
  · exact raiseFixed_ctx3 .nodeLost _ _
  · rw [show (arbitrate (raise .nodeLost (some (nodeAddr n)) (drawn s))).rse =
      (raise .nodeLost (some (nodeAddr n)) (drawn s)).rse by simp]
    exact raiseFixed_ctx3 .nodeLost _ _

theorem losePower_flag {n : Node} {s : State} (hlen : s.nli.flags.length = 19) :
    (arbitrate (losePower n s)).flag .nodeLostEvent ≠ none := by
  have hset := flag_setFlag_ne_none (f := .nodeLostEvent) (d := [u8 (nodeAddr n)]) hlen
  rwa [flag_congr (s := setFlag .nodeLostEvent [u8 (nodeAddr n)] s) (by simp [losePower])]

end

/-! ### The response timer -/

section
variable {t : Transaction} {u : State}

theorem responseExpired_of_echo {sent : List Byte} (htx : u.dlc.tx = some t) (hc : t.carried = .echo sent) :
    responseExpired u = echoTimeout t u := by
  rw [responseExpired, htx]
  dsimp only
  rw [hc]

theorem responseExpired_of_other (htx : u.dlc.tx = some t) (hc : ∀ sent, t.carried ≠ .echo sent) :
    responseExpired u = if t.second then secondTimeout t u else retry t u := by
  rw [responseExpired, htx]
  dsimp only
  split
  · next sent h => exact absurd h (hc sent)
  · rfl

theorem secondTimeout_of_kept (h : ¬ (t.renewed = false ∧ u.nodeState t.node ≠ some .unresponsive)) :
    secondTimeout t u = arbitrate (failTx t u) :=
  if_neg fun hl => h ((losesNode_iff u t).mp hl)

theorem secondTimeout_of_power (h : t.renewed = false ∧ u.nodeState t.node ≠ some .unresponsive)
    (hkind : t.nodeKind = .power) : secondTimeout t u = arbitrate (losePower t.node (failTx t u)) :=
  (if_pos ((losesNode_iff u t).mpr h)).trans (if_pos hkind)

theorem secondTimeout_of_lost (h : t.renewed = false ∧ u.nodeState t.node ≠ some .unresponsive)
    (hkind : t.nodeKind ≠ .power) : secondTimeout t u = nodeLostRaise t.node (failTx t u) :=
  (if_pos ((losesNode_iff u t).mpr h)).trans (if_neg hkind)

end

/-- Settles O36: the expiry is `echoTimeout`, `retry` or `secondTimeout`, by what the transaction carries and its
attempt; what the second leaves is `failTx`. -/
theorem responseTimerExpires : Obligations.ResponseTimerExpires := by
  refine ⟨headIsRemoved, ?_⟩
  intro dt s t held u c n ends free htx helapsed
  have hdue : u.responseDue = true := by
    rw [State.responseDue, htx]
    exact decide_eq_true helapsed
  have hends : ends (responseExpired u) := by
    refine (exec_of_running _ held).trans ?_
    exact congrArg Host.Outcome.next (whenDue_of_due (due := State.responseDue) (f := responseExpired) hdue)
  have honly {v : State} (hv : ends v) : v = responseExpired u := Host.Outcome.next.inj (hv.symm.trans hends)
  refine ⟨fun sent hc => ?echo, fun hc hfirst => ?first, fun hc hsecond => ?second⟩
  case echo =>
    rw [responseExpired_of_echo htx hc] at hends
    exact hends
  case first =>
    intro again
    have hagain : u.dlc.retryValue t.carried = again := retryValue_eq u.dlc t.carried
    have hretry : responseExpired u = retry t u := by
      rw [responseExpired_of_other htx hc, hfirst]
      rfl
    rw [hretry, retry, onDlc, hagain] at hends
    exact hends
  case second =>
    intro lost silent
    have hexpired : responseExpired u = secondTimeout t u := by
      rw [responseExpired_of_other htx hc, hsecond]
      rfl
    rw [hexpired] at hends honly
    refine ⟨u.timedOut t, failTx t u, rfl, fun h => if_pos ((losesNode_iff u t).mpr h),
      fun h => if_neg fun hl => h ((losesNode_iff u t).mp hl), fun v hpost => ?_, failTx_of_poll,
      fun q hread => ⟨fun h => ?_, fun r h hgone => ?_, fun r h hgone => ?_⟩, failTx_tx t u, fun h => ?_,
      fun h hkind => ?_, fun h hkind => ?_, fun h hkind v hv => ?_, fun h hkind hlen v hv => ?_⟩
    · refine ⟨failTx_of_post hpost, fun hserved => ?_⟩
      have hfailed : (u.timedOut t).dlc.failed = (u.timedOut t).dlc := failed_of_unserved hserved
      have hw : failTx t u = free (u.timedOut t) := by
        rw [failTx_of_post hpost, onDlc, hfailed]
        rfl
      rw [hw]
      exact ⟨rfl, rfl, rfl⟩
    · rw [failTx_of_read hread, endRead_of_none (s := u.timedOut t) h]
      rfl
    · rw [failTx_of_read hread, endRead_of_some (s := u.timedOut t) h hgone]
      rfl
    · rw [failTx_of_read hread, endRead_of_gone (s := u.timedOut t) h hgone]
      rfl
    · rw [secondTimeout_of_kept h] at hends
      exact hends
    · rw [secondTimeout_of_power h hkind] at hends
      exact hends
    · rw [secondTimeout_of_lost h hkind, nodeLostRaise] at hends
      intro w'
      split at hends
      · exact .inr hends
      · exact .inl hends
    · rw [honly hv, secondTimeout_of_lost h hkind]
      exact nodeLostRaise_ctx3 n _
    · rw [honly hv, secondTimeout_of_power h hkind]
      exact losePower_flag (by rw [failTx_flags]; exact hlen)

end Sys2Proof.Machine
end

section
/-! The Response Engine's contexts: the steps of a sequence (R109, R110), the triggers that are mapped (R113 to R117,
R119, R123), and what is handed on when the running context changes (R114, R141). -/

namespace Sys2Proof.Machine

/-! ### Steps -/

theorem blockInEffect_iff (s : State) (q : Nat) :
    s.blockInEffect q = true ↔ s.repeatStart q ≤ s.repeatEnd q ∧ s.repeatEnd q < s.stepCount q := by
  simp [State.blockInEffect]

theorem nextStepIsChosen : NextStepIsChosen := by
  intro s q i rep a b block onward
  have hblock : (i = s.repeatEnd q ∧ s.blockInEffect q = true) ↔ block := by
    rw [blockInEffect_iff]
  refine ⟨fun h h0 => ?_, fun h h0 h1 => ?_, fun h h0 h1 => ?_, fun h => if_neg (hblock.not.mpr h)⟩
  · exact (if_pos (hblock.mpr h)).trans (if_pos h0)
  · exact (if_pos (hblock.mpr h)).trans ((if_neg h0).trans (if_pos h1))
  · exact (if_pos (hblock.mpr h)).trans ((if_neg h0).trans (if_neg (not_lt.mpr h1)))

/-- A context that passes a step goes on to the next, if there is one. -/
def State.passStep (s : State) (q fuel j : Nat) (c : Ctx) : Option Ctx :=
  match s.nextStep q j c.repeats with
  | some (k, rep) => s.enterStep q fuel { c with repeats := rep } k
  | none => none

theorem enterStep_succ (s : State) (q fuel j : Nat) (c : Ctx) :
    s.enterStep q (fuel + 1) c j =
      match s.stepAt q j with
      | .finish => none
      | .drive l r d =>
        if d = 0 then s.passStep q fuel j (({ c with step := j, entered := true } : Ctx).rest l r none)
        else some (({ c with step := j, entered := true } : Ctx).rest l r (some d))
      | .wait d =>
        if d = 0 then s.passStep q fuel j (({ c with step := j, entered := true } : Ctx).rest 0 0 none)
        else some (({ c with step := j, entered := true } : Ctx).rest 0 0 (some d))
      | .bladeStop => s.passStep q fuel j { c with step := j, entered := true, bladeStop := true }
      | .hold => some (({ c with step := j, entered := true } : Ctx).rest 0 0 none) := rfl

theorem stepsAreEntered : StepsAreEntered := by
  intro s q fuel j c x result passes
  have hpass {y : Ctx} (h : result = s.passStep q fuel j y) : passes y := by
    refine ⟨fun k rep hnext => ?_, fun hnext => ?_⟩ <;> rw [h, State.passStep, hnext]
  have hresult := enterStep_succ s q fuel j c
  refine ⟨fun h => ?_, fun l r d h hd => ?_, fun l r h => hpass ?_, fun d h hd => ?_, fun h => hpass ?_,
    fun h => hpass ?_, fun h => ?_⟩
  all_goals rw [h] at hresult
  · exact hresult
  · exact hresult.trans (if_neg hd.ne')
  · exact hresult.trans (if_pos rfl)
  · exact hresult.trans (if_neg hd.ne')
  · exact hresult.trans (if_pos rfl)
  · exact hresult
  · exact hresult

/-- The steps of a sequence are read from the tables alone. -/
theorem enterStep_rse (r : Rse) (s : State) (q : Nat) : ∀ (fuel : Nat) (c : Ctx) (j : Nat),
    State.enterStep { s with rse := r } q fuel c j = s.enterStep q fuel c j
  | 0, _, _ => rfl
  | fuel + 1, c, j => by
    have hpass (y : Ctx) : State.passStep { s with rse := r } q fuel j y = s.passStep q fuel j y := by
      unfold State.passStep
      rw [show State.nextStep { s with rse := r } q j y.repeats = s.nextStep q j y.repeats from rfl]
      cases s.nextStep q j y.repeats with
      | none => rfl
      | some next => exact enterStep_rse r s q fuel _ _
    rw [enterStep_succ, enterStep_succ, show State.stepAt { s with rse := r } q j = s.stepAt q j from rfl]
    cases s.stepAt q j <;> simp only [hpass]

/-! ### The end of the level-2 context (R113) -/

theorem resumeCtx1_of_none {s : State} (h : s.rse.ctx1 = none) : resumeCtx1 s = s := by
  rw [resumeCtx1, h]

/-- A context resumed, as its count shows it. -/
def State.resumedCount (s : State) : State :=
  { s with rse := { s.rse with cnt := { s.rse.cnt with resumed := bump s.rse.cnt.resumed } } }

section
variable {s : State} {x : Ctx}

theorem resumeCtx1_of_entered (h : s.rse.ctx1 = some x) (he : x.entered = true) : resumeCtx1 s = s.resumedCount := by
  rw [resumeCtx1, h]
  exact if_pos he

theorem resumeCtx1_of_bare (h : s.rse.ctx1 = some x) (he : x.entered = false) (hseq : x.seq = none) :
    resumeCtx1 s = s.resumedCount := by
  rw [resumeCtx1, h]
  dsimp only
  rw [he, hseq]
  rfl

theorem resumeCtx1_of_new {q : Nat} (h : s.rse.ctx1 = some x) (he : x.entered = false) (hseq : x.seq = some q) :
    resumeCtx1 s = { s with
      rse := { s.rse with
        ctx1 := s.enterStep q stepFuel x 0
        cnt := { s.rse.cnt with resumed := bump s.rse.cnt.resumed } } } := by
  have henter : State.enterStep s.resumedCount q stepFuel x 0 = s.enterStep q stepFuel x 0 := enterStep_rse ..
  rw [resumeCtx1, h]
  dsimp only
  rw [he, hseq, ← henter]
  rfl

end

theorem level2GoesOn : Level2GoesOn := by
  intro s r resumed
  refine ⟨fun c => rfl, fun h => resumeCtx1_of_none (s := setCtx2 none s) h,
    fun x h => ⟨fun hentered => ?_, fun q hentered hseq => ?_⟩⟩
  · exact resumeCtx1_of_entered (s := setCtx2 none s) h hentered
  · refine (resumeCtx1_of_new (s := setCtx2 none s) h hentered hseq).trans ?_
    rw [show State.enterStep (setCtx2 none s) q stepFuel x 0 = s.enterStep q stepFuel x 0 from enterStep_rse ..]
    rfl

/-! ### What is handed on (R114, R141) -/

theorem ctxHeld_of_ctx3 {s : State} (h : s.rse.ctx3.isSome = true) : s.ctxHeld = true := by
  simp [State.ctxHeld, h]

theorem ctxHeld_of_ctx1 {s : State} {x : Ctx} (h : s.rse.ctx1 = some x) : s.ctxHeld = true := by
  simp [State.ctxHeld, h]

theorem outsideHeldDue_of_held {s : State} (h : s.ctxHeld = true) : s.outsideHeldDue = none := by
  simp [State.outsideHeldDue, h]

theorem outsideHeldDue_congr {s t : State} (hzcu : t.zcu = s.zcu) (hrse : t.rse = s.rse) :
    t.outsideHeldDue = s.outsideHeldDue := by
  rw [State.outsideHeldDue, State.outsideHeldDue, State.ctxHeld, State.ctxHeld, hzcu, hrse]

/-- A WIRE_LOST that the Dock Controller raises leaves no OUTSIDE_LIMIT due. -/
theorem wireLostTest_outsideHeldDue (s : State) :
    (wireLostTest s).outsideHeldDue = s.outsideHeldDue ∨ (wireLostTest s).outsideHeldDue = none := by
  unfold wireLostTest
  split
  · exact .inl rfl
  · exact .inr (outsideHeldDue_of_held (ctxHeld_of_ctx3 (raiseFixed_ctx3 ..)))

theorem dkcResume_zcu_rse (s : State) : (dkcResume s).zcu = s.zcu ∧ (dkcResume s).rse = s.rse := by
  simp

theorem resumed_outsideHeldDue (s : State) :
    (dkcEvent dkcResume s).outsideHeldDue = s.outsideHeldDue ∨ (dkcEvent dkcResume s).outsideHeldDue = none := by
  obtain ⟨hzcu, hrse⟩ := dkcResume_zcu_rse s
  have hgate : (if (dkcResume s).dkc.handsOn s.dkc then evaluate (dkcResume s) else dkcResume s).outsideHeldDue =
      s.outsideHeldDue := by
    split
    · exact outsideHeldDue_congr (by simp) (by simp)
    · exact outsideHeldDue_congr hzcu hrse
  unfold dkcEvent
  dsimp only
  split
  · exact .inl hgate
  · rw [← hgate]
    exact wireLostTest_outsideHeldDue _

theorem outsideTest_of_due {s : State} {i : Slot} (h : s.outsideHeldDue = some i) : outsideTest s = outsideRaise i s := by
  rw [outsideTest, h]

theorem outsideTest_of_not_due {s : State} (h : s.outsideHeldDue = none) : outsideTest s = s := by
  rw [outsideTest, h]

theorem rseHandOff_of_held {held : Bool} {s : State} (h : s.ctxHeld = true) :
    rseHandOff held s = if held then evaluate s else dkcHold (evaluate s) := if_pos h

theorem rseHandOff_of_free {held : Bool} {s : State} (h : s.ctxHeld = false) :
    rseHandOff held s = if held then toldNone s else evaluate s := if_neg (by simp [h])

theorem toldNone_of_not_due {s : State} (h : (evaluate s).outsideHeldDue = none) :
    toldNone s = dkcEvent dkcResume (evaluate s) := by
  have hlate : (dkcEvent dkcResume (evaluate s)).outsideHeldDue = none := by
    rcases resumed_outsideHeldDue (evaluate s) with hd | hd
    · exact hd.trans h
    · exact hd
  rw [toldNone, h]
  exact outsideTest_of_not_due hlate

theorem toldNone_of_due {s : State} {i : Slot} (h : (evaluate s).outsideHeldDue = some i) :
    toldNone s = if (evaluate s).choice then noneEarly i (drawn (evaluate s)) else noneLate (drawn (evaluate s)) := by
  rw [toldNone, h]

theorem responseIsHandedOn : ResponseIsHandedOn := by
  intro s t
  refine ⟨fun h => ⟨rseHandOff_of_held h, rseHandOff_of_held h⟩, fun h => ⟨rseHandOff_of_free h, fun hdue => ?_,
    fun i hdue => ?_⟩⟩
  · exact (rseHandOff_of_free h).trans (toldNone_of_not_due hdue)
  · intro d v
    have hhand : rseHandOff true s = if t.choice then noneEarly i d else noneLate d :=
      (rseHandOff_of_free h).trans (toldNone_of_due hdue)
    have hkept : d.outsideHeldDue = some i := hdue
    by_cases hchoice : t.choice = true
    · exact .inl (hhand.trans (if_pos hchoice))
    · have hlate : rseHandOff true s = outsideTest v := hhand.trans (if_neg hchoice)
      refine .inr ?_
      rcases resumed_outsideHeldDue d with hd | hd
      · have hv : v.outsideHeldDue = some i := hd.trans hkept
        exact .inl ⟨hv, hlate.trans (outsideTest_of_due hv)⟩
      · exact .inr ⟨hd, hlate.trans (outsideTest_of_not_due hd)⟩

end Sys2Proof.Machine
end

section
/-! A mapped trigger (R105, R113, R115 to R117, R119, R123), and the running context's step timer (R110, R111). -/

namespace Sys2Proof.Machine

/-! ### A mapped trigger -/

theorem onStation_iff (d : DockState) : d.onStation = true ↔ d = .contact ∨ d = .docked := by
  cases d <;> simp [DockState.onStation]

theorem event_eq (t : Trig) :
    t.event = if t = .perimeterExit ∨ t = .keepoutEntry then .boundaryResponse else .obstacleResponse := by
  cases t <;> rfl

theorem isSome_ite {α β : Type} (o : Option α) (a b : β) :
    (if o.isSome then a else b) = if o = none then b else a := by
  cases o <;> simp

/-- The step 0 on which a context created SUSPENDED waits. -/
theorem suspendedCtx_eq (s : State) (t : Trig) (d : Option Nat) :
    s.suspendedCtx t d =
      match s.stepAt (s.trigSeq t) 0 with
      | .drive a b n => { s.newCtx t d with left := a, right := b, remaining := some n }
      | .wait n => { s.newCtx t d with remaining := some n }
      | .hold => s.newCtx t d
      | _ => { s.newCtx t d with remaining := some 0 } := by
  unfold State.suspendedCtx
  dsimp only
  cases s.stepAt (s.trigSeq t) 0 <;> rfl

section
variable {t : Trig} {d : Option Nat} {s : State}

theorem raiseTabled_of_unmapped (h : s.trigLevel t = 0) :
    raiseTabled t d s = countRse (fun c => { c with unmapped := bump c.unmapped }) (arrived t s) := if_pos h

theorem raiseTabled_of_ctx3 (h : s.trigLevel t ≠ 0) (h3 : s.rse.ctx3 ≠ none) :
    raiseTabled t d s = countRse (fun c => { c with underHazard := bump c.underHazard }) (arrived t s) :=
  (if_neg h).trans (if_pos (Option.isSome_iff_ne_none.mpr h3))

theorem raiseTabled_of_docked (h : s.trigLevel t ≠ 0) (h3 : s.rse.ctx3 = none)
    (hdock : s.dkc.dock = .contact ∨ s.dkc.dock = .docked) :
    raiseTabled t d s = countRse (fun c => { c with docked := bump c.docked }) (arrived t s) := by
  have h3' : ¬ (arrived t s).rse.ctx3.isSome = true := by simp [arrived, h3]
  exact (if_neg h).trans ((if_neg h3').trans (if_pos ((onStation_iff _).mpr hdock)))

/-- A mapped trigger that nothing ignores, by its level. -/
theorem raiseTabled_of_taken (h : s.trigLevel t ≠ 0) (h3 : s.rse.ctx3 = none)
    (hdock : ¬ (s.dkc.dock = .contact ∨ s.dkc.dock = .docked)) :
    raiseTabled t d s =
      if s.trigLevel t = 1 then
        if s.rse.ctx2.isSome then takeSuspended t d (arrived t s) else takeLevel1 t d (arrived t s)
      else takeLevel2 t d (arrived t s) := by
  have h3' : ¬ (arrived t s).rse.ctx3.isSome = true := by simp [arrived, h3]
  exact (if_neg h).trans ((if_neg h3').trans (if_neg fun hs => hdock ((onStation_iff _).mp hs)))

end

theorem arrived_ctxHeld {t : Trig} {s : State} (h3 : s.rse.ctx3 = none) :
    (arrived t s).ctxHeld = (s.rse.ctx1.isSome || s.rse.ctx2.isSome) := by
  simp [State.ctxHeld, arrived, h3]

theorem takeSuspended_eq (t : Trig) (d : Option Nat) (s : State) :
    takeSuspended t d s = setResponse t d { s with
      rse := { s.rse with
        ctx1 := some (s.suspendedCtx t d)
        cnt := { s.rse.cnt with
          created1 := bump s.rse.cnt.created1
          replaced := if s.rse.ctx1 = none then s.rse.cnt.replaced else bump s.rse.cnt.replaced } } } := by
  rw [takeSuspended, ← isSome_ite]
  rfl

theorem takeLevel1_eq (t : Trig) (d : Option Nat) (s : State) :
    takeLevel1 t d s = rseHandOff s.ctxHeld (setResponse t d { s with
      rse := { s.rse with
        ctx1 := s.startCtx t d
        cnt := { s.rse.cnt with
          created1 := bump s.rse.cnt.created1
          replaced := if s.rse.ctx1 = none then s.rse.cnt.replaced else bump s.rse.cnt.replaced } } }) := by
  rw [takeLevel1, ← isSome_ite]
  rfl

theorem takeLevel2_eq (t : Trig) (d : Option Nat) (s : State) :
    takeLevel2 t d s = rseHandOff s.ctxHeld (putCtx2 (s.startCtx t d) (setResponse t d { s with
      rse := { s.rse with
        cnt := { s.rse.cnt with
          created2 := bump s.rse.cnt.created2
          replaced := if s.rse.ctx2 = none then s.rse.cnt.replaced else bump s.rse.cnt.replaced
          suspended := if s.rse.ctx2 = none ∧ s.rse.ctx1 ≠ none then bump s.rse.cnt.suspended
            else s.rse.cnt.suspended } } })) := by
  have hsuspended : (if s.rse.ctx2 = none ∧ s.rse.ctx1 ≠ none then bump s.rse.cnt.suspended
      else s.rse.cnt.suspended) = if s.rse.ctx2.isNone && s.rse.ctx1.isSome then bump s.rse.cnt.suspended
        else s.rse.cnt.suspended := by
    refine if_congr ?_ rfl rfl
    rw [Bool.and_eq_true, Option.isNone_iff_eq_none, Option.isSome_iff_ne_none]
  rw [takeLevel2, ← isSome_ite, hsuspended]
  rfl

theorem tabledTriggerIsTaken : TabledTriggerIsTaken := by
  intro t d s htabled r k ignored docked level q fresh waiting flag event held replaced
  have hraise : raise t d s = raiseTabled t d s := if_pos htabled
  have hstart : (arrived t s).startCtx t d = s.enterStep q stepFuel fresh 0 := enterStep_rse ..
  have hevent (x : State) : setResponse t d x = event x := by
    rw [setResponse, event_eq]
    rfl
  refine ⟨fun h => hraise.trans (raiseTabled_of_unmapped h), fun h h3 => hraise.trans (raiseTabled_of_ctx3 h h3),
    fun h h3 hdock => hraise.trans (raiseTabled_of_docked h h3 hdock), fun h3 hdock =>
    ⟨fun h h2 => ?_, fun h h2 => ?_, fun h => ?_⟩⟩
  · have htaken := raiseTabled_of_taken (d := d) (by rw [show s.trigLevel t = 1 from h]; decide) h3 hdock
    rw [if_pos h, if_pos (Option.isSome_iff_ne_none.mpr h2)] at htaken
    have hwaiting : (arrived t s).suspendedCtx t d = waiting := suspendedCtx_eq (arrived t s) t d
    rw [hraise, htaken, takeSuspended_eq, hevent, hwaiting]
    rfl
  · have htaken := raiseTabled_of_taken (d := d) (by rw [show s.trigLevel t = 1 from h]; decide) h3 hdock
    rw [if_pos h, if_neg (by rw [show s.rse.ctx2 = none from h2]; decide)] at htaken
    rw [hraise, htaken, takeLevel1_eq, hevent, hstart, arrived_ctxHeld h3]
    rfl
  · have htaken := raiseTabled_of_taken (d := d) (t := t) (s := s) (by omega) h3 hdock
    rw [if_neg (by omega)] at htaken
    rw [hraise, htaken, takeLevel2_eq, hevent, hstart, arrived_ctxHeld h3]
    rfl

/-! ### The step timer -/

section
variable {u : State} {c : Ctx}

theorem runningCtx_of_ctx2 (h3 : u.rse.ctx3 = none) (h2 : u.rse.ctx2 = some c) : u.runningCtx = some (2, c) := by
  rw [State.runningCtx, h3, h2]

theorem runningCtx_of_ctx1 (h3 : u.rse.ctx3 = none) (h2 : u.rse.ctx2 = none) (h1 : u.rse.ctx1 = some c) :
    u.runningCtx = some (1, c) := by
  rw [State.runningCtx, h3, h2, h1]
  rfl

theorem stepDue_of_running {n : Nat} (h : u.runningCtx = some (n, c)) (hremaining : c.remaining = some 0) :
    u.stepDue = true := by
  rw [State.stepDue, h]
  simp [hremaining]

theorem stepExpired_of_ctx2 (h2 : u.rse.ctx2 = some c) :
    stepExpired u = rseHandOff true (putCtx2 (u.leaveStep c) u) := by
  rw [stepExpired, h2]

theorem stepExpired_of_ctx1 (h2 : u.rse.ctx2 = none) (h1 : u.rse.ctx1 = some c) :
    stepExpired u = rseHandOff true { u with rse := { u.rse with ctx1 := u.leaveStep c } } := by
  rw [stepExpired, h2, h1]
  rfl

theorem leaveStep_of_next {q k rep : Nat} (hseq : c.seq = some q)
    (hnext : u.nextStep q c.step c.repeats = some (k, rep)) :
    u.leaveStep c = u.enterStep q stepFuel { c with repeats := rep } k := by
  rw [State.leaveStep, hseq]
  dsimp only
  rw [hnext]

theorem leaveStep_of_done {q : Nat} (hseq : c.seq = some q) (hnext : u.nextStep q c.step c.repeats = none) :
    u.leaveStep c = none := by
  rw [State.leaveStep, hseq]
  dsimp only
  rw [hnext]

/-- A timed DRIVE step is rested on. -/
theorem enterStep_of_drive {q k d : Nat} {l r : Int} (hstep : u.stepAt q k = .drive l r d) (hd : 0 < d) :
    u.enterStep q stepFuel c k =
      some { c with step := k, entered := true, left := l, right := r, remaining := some d } :=
  (stepsAreEntered u q 2055 k c).2.1 l r d hstep hd

end

/-! ### The last context ends -/

/-- No context of level 1 or 2 is held. -/
def State.noLowCtx (s : State) : Prop := s.rse.ctx1 = none ∧ s.rse.ctx2 = none

theorem noLowCtx_congr {s t : State} (h : s.noLowCtx) (hrse : t.rse = s.rse) : t.noLowCtx := by
  rwa [State.noLowCtx, hrse]

theorem raiseFixed_noLowCtx {t : Trig} {d : Option Nat} {s : State} (h : s.noLowCtx) :
    (raiseFixed t d s).noLowCtx := by
  unfold raiseFixed
  split
  · exact h
  · have hrse : (hazardEntry t d (arrived t s)).rse = (hazardCreate t d (arrived t s)).rse := by
      simp [hazardEntry, gateHazard]
    rw [State.noLowCtx, hrse]
    exact ⟨rfl, rfl⟩

theorem wireLostTest_noLowCtx {s : State} (h : s.noLowCtx) : (wireLostTest s).noLowCtx := by
  unfold wireLostTest
  split
  · exact h
  · exact raiseFixed_noLowCtx (s := wireLostTaken s) h

theorem resumed_noLowCtx {s : State} (h : s.noLowCtx) : (dkcEvent dkcResume s).noLowCtx := by
  have hresume : (dkcResume s).noLowCtx := noLowCtx_congr h (by simp)
  have hgate : (if (dkcResume s).dkc.handsOn s.dkc then evaluate (dkcResume s) else dkcResume s).noLowCtx := by
    split
    · exact noLowCtx_congr hresume (by simp)
    · exact hresume
  unfold dkcEvent
  dsimp only
  split
  · exact hgate
  · exact wireLostTest_noLowCtx hgate

/-- The hand-offs bring no context of level 1 or 2. -/
theorem rseHandOff_noLowCtx {s : State} (h : s.noLowCtx) : (rseHandOff true s).noLowCtx := by
  have hgate : (evaluate s).noLowCtx := noLowCtx_congr h (by simp)
  obtain ⟨hheld, hfree⟩ := responseIsHandedOn s
  by_cases hctx : s.ctxHeld = true
  · rw [(hheld hctx).1]
    exact hgate
  · obtain ⟨-, hnone, hdue⟩ := hfree (by simpa using hctx)
    cases hd : (evaluate s).outsideHeldDue with
    | none =>
      rw [hnone hd]
      exact resumed_noLowCtx hgate
    | some i =>
      have hdrawn : State.noLowCtx { evaluate s with freeCount := (evaluate s).freeCount + 1 } := hgate
      rcases hdue i hd with hr | ⟨-, hr⟩ | ⟨-, hr⟩ <;> rw [hr]
      · exact resumed_noLowCtx (raiseFixed_noLowCtx (s := onZcu _ _) hdrawn)
      · exact raiseFixed_noLowCtx (s := onZcu _ _) (resumed_noLowCtx hdrawn)
      · exact resumed_noLowCtx hdrawn

/-- Settles O42: the expiry leaves the step of the running context, and hands on what it goes on as. -/
theorem runningContextAdvances : Obligations.RunningContextAdvances := by
  refine ⟨nextStepIsChosen, stepsAreEntered, level2GoesOn, responseIsHandedOn, tabledTriggerIsTaken, ?_⟩
  intro dt s c q held u ends h3 hseq hremaining
  have hends {n : Nat} (hrunning : u.runningCtx = some (n, c)) : ends (stepExpired u) := by
    refine (exec_of_running _ held).trans ?_
    exact congrArg Host.Outcome.next
      (whenDue_of_due (due := State.stepDue) (f := stepExpired) (stepDue_of_running hrunning hremaining))
  have hlevel2 (h2 : u.rse.ctx2 = some c) : ends (rseHandOff true (putCtx2 (u.leaveStep c) u)) := by
    rw [← stepExpired_of_ctx2 h2]
    exact hends (runningCtx_of_ctx2 h3 h2)
  have hlevel1 (h2 : u.rse.ctx2 = none) (h1 : u.rse.ctx1 = some c) :
      ends (rseHandOff true { u with rse := { u.rse with ctx1 := u.leaveStep c } }) := by
    rw [← stepExpired_of_ctx1 h2 h1]
    exact hends (runningCtx_of_ctx1 h3 h2 h1)
  refine ⟨fun k rep hnext => ?goesOn, fun hdone => ?ends⟩
  case goesOn =>
    intro next
    rw [leaveStep_of_next hseq hnext] at hlevel2 hlevel1
    refine ⟨hlevel2, hlevel1, fun l r d hstep hd => ?_⟩
    intro c'
    rw [enterStep_of_drive hstep hd] at hlevel2 hlevel1
    refine ⟨fun h2 => ?_, fun h2 h1 => ?_⟩
    · have hgoes := hlevel2 h2
      rw [rseHandOff_of_held (by simp [State.ctxHeld, putCtx2, setCtx2, onRse])] at hgoes
      exact hgoes
    · have hgoes := hlevel1 h2 h1
      rw [rseHandOff_of_held (by simp [State.ctxHeld])] at hgoes
      exact hgoes
  case ends =>
    rw [leaveStep_of_done hseq hdone] at hlevel2 hlevel1
    refine ⟨hlevel2, fun h2 h1 => ⟨hlevel1 h2 h1, _, hlevel1 h2 h1, ?_⟩, fun x h2 h1 hentered => ?_⟩
    · exact rseHandOff_noLowCtx ⟨rfl, h2⟩
    · have hgoes := hlevel2 h2
      rw [(((level2GoesOn u).2.2 x h1).1 hentered), rseHandOff_of_held (by simp [State.ctxHeld, h1])] at hgoes
      exact hgoes

end Sys2Proof.Machine
end

section
/-! CANCEL_RESPONSE and CLEAR_HAZARD (R120, R121). -/

namespace Sys2Proof.Machine

/-! ### The blocking conditions -/

theorem outsideCond_iff (s : State) :
    s.outsideCond = true ↔ 0 < s.outsideLimit ∧ ∃ i, s.zcu.active = some i ∧ s.zcu.loops.get i = .outside := by
  unfold State.outsideCond
  cases h : s.zcu.active with
  | none => simp
  | some i => simp [and_comm]

theorem driveNodeLost_iff (s : State) :
    s.driveNodeLost = true ↔ ∃ n r,
      (s.nodeKind n = .wheelLeft ∨ s.nodeKind n = .wheelRight ∨ s.nodeKind n = .blade) ∧
        s.dlc.recs.get n = some r ∧ r.st = .unresponsive := by
  have hwheel (k : NodeKind) : (k.isWheel || k == .blade) = true ↔
      k = .wheelLeft ∨ k = .wheelRight ∨ k = .blade := by cases k <;> decide
  have hstate (n : Node) : (s.nodeState n == some .unresponsive) = true ↔
      ∃ r, s.dlc.recs.get n = some r ∧ r.st = .unresponsive := by
    rw [State.nodeState, beq_iff_eq, Option.map_eq_some_iff]
  simp only [State.driveNodeLost, List.any_eq_true, mem_nodes, true_and, Bool.and_eq_true, hwheel, hstate,
    exists_and_left]

theorem conditionsBlock : ConditionsBlock := by
  intro s
  refine ⟨liftCond_iff s, fun i hi => ?_, fun hnone => ?_, wireLostCondOf_iff s s.zcu.loops, driveNodeLost_iff s,
    outsideCond_iff s⟩
  · rw [State.overSlope, decide_eq_true_iff, State.slopeMax, hi]
    rfl
  · rw [State.overSlope, decide_eq_true_iff, State.slopeMax, hnone]
    rfl

/-! ### The cancel and the clear -/

/-- A cancel counted. -/
def State.cancelCounted (s : State) : State :=
  { s with rse := { s.rse with cnt := { s.rse.cnt with cancels := bump s.rse.cnt.cancels } } }

section
variable {s : State}

theorem cancelLevel1_of_ctx2 (h2 : s.rse.ctx2 ≠ none) :
    cancelLevel1 s = { s with
      rse := { s.rse with ctx1 := none, cnt := { s.rse.cnt with cancels := bump s.rse.cnt.cancels } } } :=
  if_pos (Option.isSome_iff_ne_none.mpr h2)

theorem cancelLevel1_of_alone (h2 : s.rse.ctx2 = none) :
    cancelLevel1 s = rseHandOff true { s with
      rse := { s.rse with ctx1 := none, cnt := { s.rse.cnt with cancels := bump s.rse.cnt.cancels } } } := by
  have hno : ¬ s.rse.ctx2.isSome = true := by simp [h2]
  exact if_neg hno

theorem cancelLevel2_eq (s : State) : cancelLevel2 s = rseHandOff true (putCtx2 none s.cancelCounted) := rfl

theorem cancelResponse_eq (p : List Byte) (s : State) :
    (byteAt p 0 = 1 → cancelResponse p s =
      if s.rse.ctx1.isSome then answer .ok [] (cancelLevel1 s) else answer .refusedState [] s) ∧
    (byteAt p 0 = 2 → cancelResponse p s =
      if s.rse.ctx2.isSome then answer .ok [] (cancelLevel2 s) else answer .refusedState [] s) ∧
    (byteAt p 0 ≠ 1 → byteAt p 0 ≠ 2 → cancelResponse p s = answer .badParam [] s) := by
  refine ⟨fun h => ?_, fun h => ?_, fun h1 h2 => ?_⟩ <;> unfold cancelResponse
  · rw [h]
    rfl
  · rw [h]
    rfl
  split
  · next h => exact absurd h h1
  · next h => exact absurd h h2
  · rfl

theorem blocking_any_iff (s : State) : s.blocking.any id = true ↔ true ∈ s.blocking := by
  simp

theorem clearHazard_of_blocked (h3 : s.rse.ctx3 ≠ none) (h : true ∈ s.blocking) :
    clearHazard s = answer .refusedState [maskByte s.blocking]
      (countRse (fun c => { c with clearsRefused := bump c.clearsRefused }) s) := by
  obtain ⟨c, hc⟩ := Option.ne_none_iff_exists'.mp h3
  rw [clearHazard, hc]
  exact if_pos ((blocking_any_iff s).mpr h)

theorem clearHazard_of_clear (h3 : s.rse.ctx3 ≠ none) (h : true ∉ s.blocking) :
    clearHazard s = answer .ok [] (clearAccepted s) := by
  obtain ⟨c, hc⟩ := Option.ne_none_iff_exists'.mp h3
  rw [clearHazard, hc]
  exact if_neg fun hb => h ((blocking_any_iff s).mp hb)

end

/-- Settles O43: the cancel by its level and the contexts held, and the clear by the conditions that block it. -/
theorem responsesAreCancelledAndCleared : Obligations.ResponsesAreCancelledAndCleared := by
  refine ⟨responseIsHandedOn, conditionsBlock, ?_⟩
  intro dt s held u r level cancelled resumed
  refine ⟨fun hhead => ?cancels, fun hhead => ?clears⟩
  case cancels =>
    have hexec : exec (.cancelResponse dt) s = .next (cancelResponse u.headParams u) :=
      exec_request (by unfold eventOf; rfl) held hhead
    obtain ⟨hone, htwo, hother⟩ := cancelResponse_eq u.headParams u
    have hlevel1 (h : level = 1) (h1 : r.ctx1 ≠ none) :
        exec (.cancelResponse dt) s = .next (answer .ok [] (cancelLevel1 u)) := by
      rw [hexec, hone h, if_pos (Option.isSome_iff_ne_none.mpr h1)]
    have hlevel2 (h : level = 2) (h2 : r.ctx2 ≠ none) :
        exec (.cancelResponse dt) s = .next (answer .ok [] (rseHandOff true (putCtx2 none u.cancelCounted))) := by
      rw [hexec, htwo h, if_pos (Option.isSome_iff_ne_none.mpr h2), cancelLevel2_eq]
    refine ⟨fun h h1 => ?_, fun h h2 => ?_, fun h1 h2 => ?_, fun h h1 h2 => ?_, fun h h1 h2 => ?_,
      fun h h2 => ⟨fun h1 => ?_, fun x h1 => ⟨fun he => ?_, fun q he hseq => ?_, fun he hseq => ?_⟩⟩⟩
    · rw [hexec, hone h, if_neg (by simp [show u.rse.ctx1 = none from h1])]
    · rw [hexec, htwo h, if_neg (by simp [show u.rse.ctx2 = none from h2])]
    · rw [hexec, hother h1 h2]
    · rw [hlevel1 h h1, cancelLevel1_of_ctx2 h2]
    · rw [hlevel1 h h1, cancelLevel1_of_alone h2]
    · rw [hlevel2 h h2, (level2GoesOn u.cancelCounted).2.1 h1]
      rfl
    · have hput := ((level2GoesOn u.cancelCounted).2.2 x h1).1 he
      have hheld : (putCtx2 none u.cancelCounted).ctxHeld = true := by
        rw [hput]
        exact ctxHeld_of_ctx1 (x := x) h1
      rw [hlevel2 h h2, rseHandOff_of_held hheld, hput]
      rfl
    · rw [hlevel2 h h2, ((level2GoesOn u.cancelCounted).2.2 x h1).2 q he hseq,
        show State.enterStep u.cancelCounted q stepFuel x 0 = u.enterStep q stepFuel x 0 from enterStep_rse ..]
      rfl
    · have hbare : putCtx2 none u.cancelCounted = (setCtx2 none u.cancelCounted).resumedCount :=
        resumeCtx1_of_bare (s := setCtx2 none u.cancelCounted) h1 he hseq
      have hheld : (putCtx2 none u.cancelCounted).ctxHeld = true := by
        rw [hbare]
        exact ctxHeld_of_ctx1 (x := x) h1
      rw [hlevel2 h h2, rseHandOff_of_held hheld, hbare]
      rfl
  case clears =>
    intro blocked
    have hexec : exec (.clearHazard dt) s = .next (clearHazard u) :=
      exec_request (f := fun _ => clearHazard) (by unfold eventOf; rfl) held hhead
    refine ⟨fun h3 => ?_, fun h3 hblocked => ?_, fun h3 hclear => ?_⟩
    · rw [hexec, clearHazard, show u.rse.ctx3 = none from h3]
    · rw [hexec, clearHazard_of_blocked h3 hblocked]
      rfl
    · rw [hexec, clearHazard_of_clear h3 hclear]
      rfl

end Sys2Proof.Machine
end

section
/-! The hazard entry: what it posts, what it leaves in the queue, and the gate's evaluation that posts nothing more
(R75, R98, R118). -/

namespace Sys2Proof.Machine

/-! ### The zero posts -/

theorem zeroAt_eq_stillAt (s : State) (n : Node) : s.zeroAt n = s.stillAt n := rfl

theorem stillAt_congr {s t : State} (h : t.bankView = s.bankView) (n : Node) : t.stillAt n = s.stillAt n := by
  rw [State.stillAt, State.stillAt, nodeKind_of_bank h]

/-- The zero post of an address, by the tables of `s`. -/
def State.stillPost (s x : State) (n : Node) : State :=
  match s.stillAt n with
  | some v => gatePost n v .resp3 x
  | none => x

/-- The zero post of an address without the gate's record of it. -/
def State.stillQueued (s x : State) (n : Node) : State :=
  match s.stillAt n with
  | some v => postSet n v .resp3 x
  | none => x

section
variable {s : State}

theorem stillPost_of_some {x : State} {n : Node} {v : PostValue} (h : s.stillAt n = some v) :
    s.stillPost x n = gatePost n v .resp3 x := by
  rw [State.stillPost, h]

theorem stillPost_of_none {x : State} {n : Node} (h : s.stillAt n = none) : s.stillPost x n = x := by
  rw [State.stillPost, h]

theorem stillPost_bankView (x : State) (n : Node) : (s.stillPost x n).bankView = x.bankView := by
  unfold State.stillPost
  split <;> simp [State.bankView]

theorem hazardZeroPosts_eq_foldl (x : State) (h : x.bankView = s.bankView) :
    hazardZeroPosts x = nodes.foldl s.stillPost x := by
  have hfold (l : List Node) : ∀ x : State, x.bankView = s.bankView →
      l.foldl (fun s n => match s.zeroAt n with
        | some v => gatePost n v .resp3 s
        | none => s) x = l.foldl s.stillPost x := by
    induction l with
    | nil => exact fun _ _ => rfl
    | cons n rest ih =>
      intro x hx
      have hstep : (match x.zeroAt n with
          | some v => gatePost n v .resp3 x
          | none => x) = s.stillPost x n := by
        rw [zeroAt_eq_stillAt, stillAt_congr hx]
        rfl
      rw [List.foldl_cons, List.foldl_cons, hstep]
      exact ih _ ((stillPost_bankView x n).trans hx)
  exact hfold nodes x h

/-- A property that each zero post keeps is kept by all of them. -/
theorem foldl_stillPost {P : State → Prop} (l : List Node)
    (hP : ∀ x n v, s.stillAt n = some v → P x → P (gatePost n v .resp3 x)) {x : State} (hx : P x) :
    P (l.foldl s.stillPost x) := by
  refine List.foldlRecOn l s.stillPost hx fun x hx n _ => ?_
  cases h : s.stillAt n with
  | none => rwa [stillPost_of_none h]
  | some v =>
    rw [stillPost_of_some h]
    exact hP x n v h hx

/-- The zero posts change the drive link, the last posted values and their count alone. -/
theorem foldl_stillPost_eq (l : List Node) (x : State) :
    l.foldl s.stillPost x = { x with
      dlc := (l.foldl s.stillPost x).dlc
      mgt := { x.mgt with
        posted := (l.foldl s.stillPost x).mgt.posted
        cnt := { x.mgt.cnt with posts := (l.foldl s.stillPost x).mgt.cnt.posts } } } := by
  refine foldl_stillPost (P := fun y => y = { x with
      dlc := y.dlc
      mgt := { x.mgt with
        posted := y.mgt.posted
        cnt := { x.mgt.cnt with posts := y.mgt.cnt.posts } } }) l (fun y n v _ hy => ?_) rfl
  rw [hy, gatePost, postSet_eq]
  rfl

theorem stillPost_linkInput {x y : State} (n : Node) (h : x.linkInput = y.linkInput) :
    (s.stillPost x n).linkInput = (s.stillQueued y n).linkInput := by
  unfold State.stillPost State.stillQueued
  split
  · exact postSet_linkInput _ _ _ h
  · exact h

theorem foldl_stillPost_linkInput (l : List Node) : ∀ {x y : State}, x.linkInput = y.linkInput →
    (l.foldl s.stillPost x).linkInput = (l.foldl s.stillQueued y).linkInput := by
  induction l with
  | nil => exact id
  | cons n rest ih => exact fun h => ih (stillPost_linkInput n h)

theorem foldl_stillPost_count (l : List Node) (x : State) :
    (l.foldl s.stillPost x).mgt.cnt.posts =
      (l.filter fun n => (s.stillAt n).isSome).foldl (fun c _ => bump c) x.mgt.cnt.posts := by
  have hstep (x : State) (n : Node) : (if (s.stillAt n).isSome then bump x.mgt.cnt.posts else x.mgt.cnt.posts) =
      (s.stillPost x n).mgt.cnt.posts := by
    cases h : s.stillAt n with
    | some v =>
      rw [stillPost_of_some h]
      simp [gatePost, recordPost, onMgt]
    | none =>
      rw [stillPost_of_none h]
      rfl
  rw [List.foldl_filter]
  exact (List.foldl_hom (fun x : State => x.mgt.cnt.posts) (g₁ := s.stillPost)
    (g₂ := fun c n => if (s.stillAt n).isSome then bump c else c) hstep).symm

theorem stillAt_speed {n : Node} {v : PostValue} (h : s.stillAt n = some v) : v.speed = 0 :=
  zeroAt_speed ((zeroAt_eq_stillAt s n).trans h)

theorem foldl_stillPost_posted {l : List Node} {x : State} {n : Node} (hn : n ∈ l) (h : (s.stillAt n).isSome = true) :
    (l.foldl s.stillPost x).mgt.posted.get n = 0 := by
  have hpost {y : State} {m : Node} {v : PostValue} (hv : s.stillAt m = some v) :
      (gatePost m v .resp3 y).mgt.posted = y.mgt.posted.set m 0 := by
    simp [gatePost, recordPost, onMgt, stillAt_speed hv]
  induction l generalizing x with
  | nil => cases hn
  | cons m rest ih =>
    rcases List.mem_cons.mp hn with rfl | hrest
    · obtain ⟨v, hv⟩ := Option.isSome_iff_exists.mp h
      have hset : (s.stillPost x n).mgt.posted.get n = 0 := by
        rw [stillPost_of_some hv, hpost hv, PerSix.get_set]
      refine foldl_stillPost (P := fun y => y.mgt.posted.get n = 0) rest (fun y m w hw hy => ?_) hset
      rw [hpost hw, PerSix.get_set_ite]
      split
      · rfl
      · exact hy
    · exact ih hrest

end

/-! ### The entries that wait -/

/-- Whether an entry waits, its marks aside. -/
def Dlc.waitsKey (d : Dlc) (k : Node × PostValue × Origin) : Prop := k ∈ d.keys.1 ∨ k ∈ d.keys.2

theorem waitsKey_iff (d : Dlc) (k : Node × PostValue × Origin) :
    d.waitsKey k ↔ ∃ e ∈ d.queue ++ d.behind, e.key = k := by
  simp only [Dlc.waitsKey, Dlc.keys, List.mem_map, List.mem_append, or_and_right, exists_or]

section
variable {s : State} {n : Node} {v : PostValue} {o : Origin}

theorem any_matches_keys (l : List QEntry) :
    l.any (QEntry.matches n v) = true ↔ ∃ k ∈ l.map QEntry.key, k.1 = n ∧ k.2.1.coalesces v = true := by
  simp [List.any_eq_true, matches_iff, QEntry.key]

/-- A post takes the place of the entry behind the zeros that it coalesces with, else of that in the queue, else it
joins the tail (R89). -/
theorem postSet_keys (n : Node) (v : PostValue) (o : Origin) (s : State) :
    ((∃ k ∈ s.dlc.keys.2, k.1 = n ∧ k.2.1.coalesces v = true) ∧
      (postSet n v o s).dlc.keys = (s.dlc.keys.1, rekeyed n v o s.dlc.keys.2)) ∨
    ((∃ k ∈ s.dlc.keys.1, k.1 = n ∧ k.2.1.coalesces v = true) ∧
      (postSet n v o s).dlc.keys = (rekeyed n v o s.dlc.keys.1, s.dlc.keys.2)) ∨
    (postSet n v o s).dlc.keys = (s.dlc.keys.1 ++ [(n, v, o)], s.dlc.keys.2) := by
  unfold postSet
  split
  · next h =>
    refine .inl ⟨(any_matches_keys _).mp h, ?_⟩
    simp only [Dlc.keys, onDlc, replaceIn_keys]
  · split
    · next h =>
      refine .inr (.inl ⟨(any_matches_keys _).mp h, ?_⟩)
      simp only [Dlc.keys, onDlc, replaceIn_keys]
    · exact .inr (.inr (joinTail_keys _ s))

theorem mem_rekeyed {k : Node × PostValue × Origin} {l : List (Node × PostValue × Origin)}
    (h : k ∈ rekeyed n v o l) : k ∈ l ∨ k = (n, v, o) := by
  obtain ⟨k', hk', hk⟩ := List.mem_map.mp h
  split at hk
  · exact .inr hk.symm
  · exact .inl (hk ▸ hk')

/-- An entry that a post does not change, or changes to what it is, waits as before. -/
theorem mem_rekeyed_of_mem {k : Node × PostValue × Origin} {l : List (Node × PostValue × Origin)} (h : k ∈ l)
    (hk : k.1 = n → k = (n, v, o)) : k ∈ rekeyed n v o l := by
  refine List.mem_map.mpr ⟨k, h, ?_⟩
  split
  · next hmatch => exact (hk hmatch.1).symm
  · rfl

theorem new_mem_rekeyed {l : List (Node × PostValue × Origin)}
    (h : ∃ k ∈ l, k.1 = n ∧ k.2.1.coalesces v = true) : (n, v, o) ∈ rekeyed n v o l := by
  obtain ⟨k, hk, hmatch⟩ := h
  exact List.mem_map.mpr ⟨k, hk, if_pos hmatch⟩

theorem postSet_waitsKey_new : (postSet n v o s).dlc.waitsKey (n, v, o) := by
  unfold Dlc.waitsKey
  rcases postSet_keys n v o s with ⟨hmatch, hkeys⟩ | ⟨hmatch, hkeys⟩ | hkeys <;> rw [hkeys]
  · exact .inr (new_mem_rekeyed hmatch)
  · exact .inl (new_mem_rekeyed hmatch)
  · exact .inl (List.mem_append_right _ (List.mem_singleton_self _))

theorem postSet_waitsKey_of_waitsKey {k : Node × PostValue × Origin} (h : s.dlc.waitsKey k)
    (hk : k.1 = n → k = (n, v, o)) : (postSet n v o s).dlc.waitsKey k := by
  unfold Dlc.waitsKey at h ⊢
  rcases postSet_keys n v o s with ⟨-, hkeys⟩ | ⟨-, hkeys⟩ | hkeys <;> rw [hkeys]
  · exact h.imp_right fun hb => mem_rekeyed_of_mem hb hk
  · exact h.imp_left fun hq => mem_rekeyed_of_mem hq hk
  · exact h.imp_left fun hq => List.mem_append_left _ hq

theorem waitsKey_of_postSet {k : Node × PostValue × Origin} (h : (postSet n v o s).dlc.waitsKey k) :
    s.dlc.waitsKey k ∨ k = (n, v, o) := by
  unfold Dlc.waitsKey at h ⊢
  rcases postSet_keys n v o s with ⟨-, hkeys⟩ | ⟨-, hkeys⟩ | hkeys <;> rw [hkeys] at h
  · rcases h with hq | hb
    · exact .inl (.inl hq)
    · exact (mem_rekeyed hb).imp_left .inr
  · rcases h with hq | hb
    · exact (mem_rekeyed hq).imp_left .inl
    · exact .inl (.inr hb)
  · rcases h with hq | hb
    · exact (List.mem_append.mp hq).imp .inl fun hn => List.mem_singleton.mp hn
    · exact .inl (.inr hb)

theorem postSet_behind_of_nil (h : s.dlc.behind = []) : (postSet n v o s).dlc.behind = [] := by
  have hb : s.dlc.keys.2 = [] := by simp [Dlc.keys, h]
  have hbehind : (postSet n v o s).dlc.keys.2 = [] := by
    rcases postSet_keys n v o s with ⟨⟨k, hk, -⟩, -⟩ | ⟨-, hkeys⟩ | hkeys
    · rw [hb] at hk
      cases hk
    · rw [hkeys, hb]
    · rw [hkeys, hb]
  exact List.map_eq_nil_iff.mp hbehind

end

theorem gatePost_dlc (n : Node) (v : PostValue) (o : Origin) (s : State) :
    (gatePost n v o s).dlc = (postSet n v o s).dlc := by
  simp [gatePost]

/-- After the zero posts every zero waits. -/
theorem foldl_stillPost_waitsKey {s : State} {l : List Node} {x : State} {n : Node} {v : PostValue} (hn : n ∈ l)
    (h : s.stillAt n = some v) : (l.foldl s.stillPost x).dlc.waitsKey (n, v, .resp3) := by
  induction l generalizing x with
  | nil => cases hn
  | cons m rest ih =>
    rcases List.mem_cons.mp hn with rfl | hrest
    · have hnew : (s.stillPost x n).dlc.waitsKey (n, v, .resp3) := by
        rw [stillPost_of_some h, gatePost_dlc]
        exact postSet_waitsKey_new
      refine foldl_stillPost (P := fun y => y.dlc.waitsKey (n, v, .resp3)) rest (fun y m w hw hy => ?_) hnew
      rw [gatePost_dlc]
      refine postSet_waitsKey_of_waitsKey hy fun hm => ?_
      have hmn : n = m := hm
      subst hmn
      rw [Option.some.inj (h.symm.trans hw)]
    · exact ih hrest

/-- What a hazard leaves waiting: its own posts, no relay command, and nothing behind the zeros where nothing stood
there. -/
structure Dlc.HazardOnly (before d : Dlc) : Prop where
  own : ∀ k, d.waitsKey k → k.2.2 = .resp3
  relay : d.relayHeld = none
  behind : before.behind = [] → d.behind = []

theorem hazardDiscard_hazardOnly (s : State) : s.dlc.HazardOnly (hazardDiscard s).dlc := by
  have hdlc : (hazardDiscard s).dlc = afterLeaving
      { s.dlc with
        queue := s.dlc.queue.filter QEntry.kept
        behind := s.dlc.behind.filter QEntry.kept
        relayHeld := none
        cnt := { s.dlc.cnt with discards := bumpBy s.discarded.length s.dlc.cnt.discards } } := by
    unfold hazardDiscard
    dsimp only
    split
    · simp [onDlc]
    · rfl
  rw [hdlc, afterLeaving_of_none rfl]
  refine ⟨fun k hk => ?_, rfl, fun hb => by simp [joinBehind, hb]⟩
  obtain ⟨e, he, hkey⟩ := (waitsKey_iff _ k).mp hk
  have hkept : e.kept = true := by
    have hmem := (joinBehind_posts _ e).mp he
    rw [← List.filter_append] at hmem
    exact (List.mem_filter.mp hmem).2
  have horigin : e.origin = .resp3 := by simpa [QEntry.kept] using hkept
  rw [← hkey]
  exact horigin

theorem foldl_stillPost_hazardOnly {s : State} {before : Dlc} (l : List Node) {x : State}
    (h : before.HazardOnly x.dlc) : before.HazardOnly (l.foldl s.stillPost x).dlc := by
  refine foldl_stillPost (P := fun y => before.HazardOnly y.dlc) l (fun y n v _ hy => ?_) h
  rw [gatePost_dlc]
  obtain ⟨hown, hrelay, hbehind⟩ := hy
  refine ⟨fun k hk => ?_, (postSet_relayHeld ..).trans hrelay, fun hb => postSet_behind_of_nil (hbehind hb)⟩
  rcases waitsKey_of_postSet hk with hk | rfl
  · exact hown k hk
  · rfl

end Sys2Proof.Machine
end

section
/-! A level-3 trigger (R75, R105, R108, R118). -/

namespace Sys2Proof.Machine

/-! ### The gate under a hazard -/

/-- Under a level-3 context that rests, an evaluation forms an output of zero (R61, R62, R72). -/
theorem evaluated_of_hazard {s : State} {c : Ctx} (h3 : s.rse.ctx3 = some c) (hl : c.left = 0) (hr : c.right = 0) :
    s.evaluated.source = .resp3 ∧ s.evaluated.outL = 0 ∧ s.evaluated.outR = 0 ∧ s.evaluated.outBlade = 0 := by
  have hsource : s.selectedSource = .resp3 := selectedSource_of_ctx3 h3
  have hrunning : s.runningCtx = some (3, c) := by rw [State.runningCtx, h3]
  have hpair : s.sourcePair s.selectedSource = (0, 0) := by
    rw [hsource, sourcePair_of_running (by decide) (by decide) hrunning, hl, hr]
  have hout (f r : Nat) : scalePair f r (s.sourcePair s.selectedSource).1 (s.sourcePair s.selectedSource).2 = (0, 0) := by
    rw [hpair]
    exact scalePair_zero f r
  refine ⟨hsource, congrArg Prod.fst (hout _ _), congrArg Prod.snd (hout _ _), ?_⟩
  have hblade : s.bladeValue s.selectedSource = 0 := by
    rw [hsource]
    exact bladeValue_of_stopped (.inl rfl)
  exact congrArg Int.ofNat hblade

/-- An evaluation whose values due are those posted last posts nothing. -/
theorem evaluate_of_posted {s : State}
    (h : ∀ n v, State.dueAt { s with mgt := s.evaluated } n = some v → s.mgt.posted.get n = v.speed) :
    evaluate s = { s with mgt := s.evaluated } := by
  have hstep (n : Node) : postIfDue { s with mgt := s.evaluated } n = { s with mgt := s.evaluated } := by
    unfold postIfDue
    split
    · next v hv => exact if_pos (h n v hv)
    · rfl
  have hfold (l : List Node) : l.foldl postIfDue { s with mgt := s.evaluated } = { s with mgt := s.evaluated } := by
    induction l with
    | nil => rfl
    | cons n rest ih => rw [List.foldl_cons, hstep, ih]
  unfold evaluate postDue
  split
  · rfl
  · exact hfold nodes

/-- With zeros posted everywhere, the evaluation under a hazard posts nothing. -/
theorem evaluate_of_hazard {s : State} {c : Ctx} (h3 : s.rse.ctx3 = some c) (hl : c.left = 0) (hr : c.right = 0)
    (hposted : ∀ n, (s.stillAt n).isSome = true → s.mgt.posted.get n = 0) :
    evaluate s = { s with mgt := s.evaluated } := by
  obtain ⟨-, houtL, houtR, hblade⟩ := evaluated_of_hazard h3 hl hr
  refine evaluate_of_posted fun n v hv => ?_
  have hkind : State.nodeKind { s with mgt := s.evaluated } n = s.nodeKind n := rfl
  unfold State.dueAt at hv
  rw [hkind] at hv
  unfold State.stillAt at hposted
  have hn := hposted n
  cases hk : s.nodeKind n <;> rw [hk] at hv hn <;> cases hv <;> rw [hn rfl]
  · exact houtL.symm
  · exact houtR.symm
  · exact hblade.symm

/-! ### The entry -/

/-- The Response Engine as a hazard entry leaves it. -/
def State.hazardRse (s : State) (t : Trig) (d : Option Nat) : Rse := (hazardCreate t d (arrived t s)).rse

theorem setFlag_rse (f : EventFlag) (l : List Byte) (r : Rse) (s : State) :
    setFlag f l { s with rse := r } = { setFlag f l s with rse := r } := by
  have hbegin (r : Rse) (s : State) : txBegin { s with rse := r } = { txBegin s with rse := r } := by
    unfold txBegin
    dsimp only
    (repeat' split) <;> rfl
  rw [setFlag, setFlag, show State.flag { s with rse := r } f = s.flag f from rfl]
  cases s.flag f with
  | some _ => rfl
  | none =>
    dsimp only
    by_cases hmask : s.nli.mask.getLsbD f.num = true
    · rw [if_pos hmask, if_pos hmask]
      by_cases hwait : hasEvent f s.nli.events = true
      · rw [if_pos hwait, if_pos hwait]
      · rw [if_neg hwait, if_neg hwait]
        exact hbegin r { s with nli := { s.nli.withFlag f l with events := s.nli.events ++ [(f, l)] } }
    · rw [if_neg hmask, if_neg hmask]

/-- The part with the posts of a hazard discard gone. -/
def State.postsDiscarded (s : State) : State :=
  { s with
    dlc := afterLeaving
      { s.dlc with
        queue := s.dlc.queue.filter QEntry.kept
        behind := s.dlc.behind.filter QEntry.kept
        relayHeld := none
        cnt := { s.dlc.cnt with discards := bumpBy s.discarded.length s.dlc.cnt.discards } } }

theorem hazardDiscard_rse (r : Rse) (s : State) :
    hazardDiscard { s with rse := r } = { hazardDiscard s with rse := r } := by
  have hflag := setFlag_rse .postDiscard [u8 s.discarded.length] r s.postsDiscarded
  have hdiscard (s : State) : hazardDiscard s =
      if s.discarded.any fun e => e.val.moving then
        setFlag .postDiscard [u8 s.discarded.length] s.postsDiscarded else s.postsDiscarded := rfl
  rw [hdiscard, hdiscard, show State.discarded { s with rse := r } = s.discarded from rfl]
  split
  · exact hflag
  · rfl

/-- The part with the HAZARD flag set and its posts discarded. -/
def State.hazardCleared (s : State) (t : Trig) (d : Option Nat) : State :=
  hazardDiscard (setFlag .hazard (trigDetail t d) s)

/-- The part at the zero posts of a hazard entry. -/
def State.hazardStilled (s : State) (t : Trig) (d : Option Nat) : State :=
  nodes.foldl s.stillPost { s.hazardCleared t d with rse := s.hazardRse t d }

theorem hazardCleared_bankView (s : State) (t : Trig) (d : Option Nat) :
    (s.hazardCleared t d).bankView = s.bankView := by
  simp [State.bankView, State.hazardCleared]

theorem hazardStilled_eq (s : State) (t : Trig) (d : Option Nat) :
    hazardZeroPosts (hazardDiscard (setFlag .hazard (trigDetail t d) (hazardCreate t d (arrived t s)))) =
      s.hazardStilled t d := by
  have hcreated : hazardCreate t d (arrived t s) = { s with rse := s.hazardRse t d } := rfl
  rw [hcreated, setFlag_rse, hazardDiscard_rse]
  exact hazardZeroPosts_eq_foldl _ (hazardCleared_bankView s t d)

section
variable {s : State} {t : Trig} {d : Option Nat}

theorem hazardStilled_frame : s.hazardStilled t d = { s.hazardCleared t d with
    rse := s.hazardRse t d
    dlc := (s.hazardStilled t d).dlc
    mgt := { s.mgt with
      posted := (s.hazardStilled t d).mgt.posted
      cnt := { s.mgt.cnt with posts := (s.hazardStilled t d).mgt.cnt.posts } } } := by
  have hmgt : (s.hazardCleared t d).mgt = s.mgt := by simp [State.hazardCleared]
  have h := foldl_stillPost_eq (s := s) nodes { s.hazardCleared t d with rse := s.hazardRse t d }
  rw [← hmgt]
  exact h

theorem hazardStilled_rse : (s.hazardStilled t d).rse = s.hazardRse t d := by
  rw [hazardStilled_frame]

theorem hazardStilled_evaluate :
    evaluate (s.hazardStilled t d) = { s.hazardStilled t d with mgt := (s.hazardStilled t d).evaluated } := by
  refine evaluate_of_hazard (c := hazardCtx t d) (by rw [hazardStilled_rse]; rfl) rfl rfl fun n hn => ?_
  have hbank : (s.hazardStilled t d).bankView = s.bankView := by
    rw [hazardStilled_frame]
    exact hazardCleared_bankView s t d
  rw [stillAt_congr hbank] at hn
  exact foldl_stillPost_posted (mem_nodes n) hn

theorem raiseFixed_of_none (h3 : s.rse.ctx3 = none) :
    raiseFixed t d s = { s.hazardStilled t d with
      mgt := (s.hazardStilled t d).evaluated
      dkc := (s.hazardStilled t d).dkc.held } := by
  have hentry : raiseFixed t d s = hazardEntry t d (arrived t s) := by
    rw [raiseFixed, h3]
  rw [hentry, hazardEntry, gateHazard, hazardStilled_eq, hazardStilled_evaluate]
  rfl

theorem hazardCleared_eq : s.hazardCleared t d = { s with
    dlc := (s.hazardCleared t d).dlc
    nli := (s.hazardCleared t d).nli } := by
  have hdiscard (s : State) : hazardDiscard s = { s with
      dlc := (hazardDiscard s).dlc
      nli := (hazardDiscard s).nli } := by
    unfold hazardDiscard
    dsimp only
    split
    · rw [setFlag_nli]
      rfl
    · rfl
  have hset := setFlag_nli .hazard (trigDetail t d) s
  unfold State.hazardCleared
  rw [hdiscard, hset]

/-- A hazard entry changes the drive link, the gate, the Response Engine, the N-link and the Dock Controller's timers
alone. -/
theorem raiseFixed_eq (h3 : s.rse.ctx3 = none) : raiseFixed t d s = { s with
    dlc := (s.hazardStilled t d).dlc
    mgt := (s.hazardStilled t d).evaluated
    rse := s.hazardRse t d
    nli := (s.hazardCleared t d).nli
    dkc := s.dkc.held } := by
  have hdkc : (s.hazardStilled t d).dkc = s.dkc := by
    rw [hazardStilled_frame, hazardCleared_eq]
  have hcleared := congrArg (fun x : State => { x with
    dlc := (s.hazardStilled t d).dlc
    mgt := (s.hazardStilled t d).evaluated
    rse := s.hazardRse t d
    dkc := s.dkc.held }) (hazardCleared_eq (s := s) (t := t) (d := d))
  have hstilled := congrArg (fun x : State => { x with
    mgt := (s.hazardStilled t d).evaluated
    dkc := s.dkc.held }) (hazardStilled_frame (s := s) (t := t) (d := d))
  rw [raiseFixed_of_none h3, hdkc]
  exact hstilled.trans hcleared

theorem hazardStilled_hazardOnly : s.dlc.HazardOnly (s.hazardStilled t d).dlc := by
  have hbefore : (setFlag .hazard (trigDetail t d) s).dlc = s.dlc := by simp
  have hcleared := hazardDiscard_hazardOnly (setFlag .hazard (trigDetail t d) s)
  rw [hbefore] at hcleared
  exact foldl_stillPost_hazardOnly nodes hcleared

theorem hazardCleared_flag (hlen : s.nli.flags.length = 19) : (s.hazardCleared t d).flag .hazard ≠ none := by
  obtain ⟨l, hl⟩ := Option.ne_none_iff_exists'.mp (flag_setFlag_ne_none (d := trigDetail t d) (f := .hazard) hlen)
  rw [State.hazardCleared, flag_hazardDiscard hl]
  exact nofun

theorem hazardRse_discarded (h3 : s.rse.ctx3 = none) :
    (arrived t s).rse.held = (if s.rse.ctx1.isSome then 1 else 0) + (if s.rse.ctx2.isSome then 1 else 0) := by
  simp [Rse.held, arrived, h3]

theorem hazardStilled_count : (s.hazardStilled t d).mgt.cnt.posts =
    (nodes.filter fun n => (s.stillAt n).isSome).foldl (fun c _ => bump c) s.mgt.cnt.posts := by
  have hmgt : (s.hazardCleared t d).mgt = s.mgt := by rw [hazardCleared_eq]
  rw [← hmgt]
  exact foldl_stillPost_count nodes _

end

/-- Settles O41: the entry is `raiseFixed_eq`, whose zero posts leave the gate's evaluation nothing to post; under a
level-3 context the trigger joins. -/
theorem hazardIsEntered : Obligations.HazardIsEntered := by
  intro t d s _ v received
  refine ⟨fun h3 => ?entered, fun c hc => ?joined⟩
  case joined =>
    have hjoin : v = hazardJoin t c (arrived t s) := by
      simp only [v, raiseFixed, hc]
    exact hjoin
  case entered =>
    have hv := raiseFixed_eq (t := t) (d := d) h3
    have hrse : v.rse = s.hazardRse t d := (congrArg State.rse hv :)
    have hmgt : v.mgt = (s.hazardStilled t d).evaluated := (congrArg State.mgt hv :)
    have hdlc : v.dlc = (s.hazardStilled t d).dlc := (congrArg State.dlc hv :)
    have hnli : v.nli = (s.hazardCleared t d).nli := (congrArg State.nli hv :)
    have hdkc : v.dkc = s.dkc.held := (congrArg State.dkc hv :)
    obtain ⟨hsource, houtL, houtR, hblade⟩ := evaluated_of_hazard (s := s.hazardStilled t d) (c := hazardCtx t d)
      (by rw [hazardStilled_rse]; rfl) rfl rfl
    obtain ⟨hown, hrelay, hbehind⟩ := hazardStilled_hazardOnly (s := s) (t := t) (d := d)
    have hwaits {n : Node} {zero : PostValue} (h : s.stillAt n = some zero) :
        ∃ e ∈ (s.hazardStilled t d).dlc.queue ++ (s.hazardStilled t d).dlc.behind,
          e.node = n ∧ e.val = zero ∧ e.origin = .resp3 := by
      obtain ⟨e, he, hkey⟩ := (waitsKey_iff _ _).mp (foldl_stillPost_waitsKey (l := nodes)
        (x := { s.hazardCleared t d with rse := s.hazardRse t d }) (mem_nodes n) h)
      simp only [QEntry.key, Prod.mk.injEq] at hkey
      exact ⟨e, he, hkey⟩
    rw [hrse, hmgt, hdlc, hnli, hdkc]
    refine ⟨rfl, rfl, ⟨hazardCtx t d, rfl, rfl, rfl, rfl, rfl, rfl, rfl, rfl, rfl⟩, rfl, ?_, ?_, hsource, houtL, houtR,
      hblade, fun e he => ?_, hrelay, ⟨?_, rfl, hazardStilled_count⟩, fun n zero h => ⟨?_, hwaits h⟩, fun hb => ⟨hbehind hb,
      fun n zero h => ?_⟩, fun hlen => ?_, ?_, rfl⟩
    · exact (stopLine_iff v).mpr (.inr (.inl (by rw [hrse]; rfl)))
    · rw [← hazardRse_discarded (t := t) h3]
      rfl
    · exact hown e.key ((waitsKey_iff _ _).mpr ⟨e, he, rfl⟩)
    · exact (linkInput_iff.mp (foldl_stillPost_linkInput (s := s) nodes
        (x := { s.hazardCleared t d with rse := s.hazardRse t d }) (y := s.hazardCleared t d) rfl)).1
    · exact foldl_stillPost_posted (mem_nodes n) (by rw [h]; rfl)
    · have hin := hwaits h
      rwa [hbehind hb, List.append_nil] at hin
    · rw [flag_congr (s := s.hazardCleared t d) hnli]
      exact hazardCleared_flag hlen
    · exact hv

end Sys2Proof.Machine
end

section
/-! The sections of READ_STATUS and the other data the host reads, byte by byte (R14, R21, R44, R59, R79, R84,
R102, R124, R142, R155, R164, R173). -/

namespace Sys2Proof.Machine

/-! ### Fields -/

theorem opt8_eq (n : Option Nat) : opt8 n = orNamed n := by
  cases n <;> rfl

theorem opt16_eq (z : Option Int) : opt16 z = orNamed16 z := by
  cases z <;> rfl

theorem timer16_eq (order : List TimerState) (t : Timer) : timer16 order t = timerIn order t.st t.elapsed :=
  rfl

theorem limit16_eq (order : List TimerState) (t : LimitTimer) : limit16 order t = timerIn order t.st t.elapsed :=
  rfl

theorem sourceByte (x : Source) : u8 x.num = numberIn [.nav, .dock, .resp1, .resp2, .resp3] x := by
  cases x <;> rfl

theorem nodeStateByte (x : NodeState) : u8 x.num = numberIn [.unknown, .responsive, .unresponsive] x := by
  cases x <;> rfl

theorem returnReasonByte (x : ReturnReason) : u8 x.num = numberIn [.noReason, .nav, .battery, .rain] x := by
  cases x <;> rfl

theorem trigByte (x : Trig) :
    u8 x.num = numberIn [.perimeterExit, .keepoutEntry, .bumpFront, .bumpRear, .stall, .slip, .bladeJam,
      .lift, .tiltOver, .wireLost, .nodeLost, .outsideLimit] x := by
  cases x <;> rfl

theorem verdictKindByte (x : VerdictKind) :
    u8 x.num = numberIn [.lockedIn, .lockedOut, .weakIn, .weakOut, .absent] x := by
  cases x <;> rfl

theorem testKindByte (x : TestKind) :
    u8 x.num = numberIn [.noTest, .nLinkEcho, .dLinkEcho, .wirePattern] x := by
  cases x <;> rfl

theorem testStatusByte (x : TestStatus) :
    u8 x.num = numberIn [.noStatus, .running, .completed, .aborted] x := by
  cases x <;> rfl

theorem coilByte (c : Coil) : u8 (Coil.num c) = numberIn [.left, .right] c := by
  cases c <;> rfl

theorem laneClassByte (x : LaneClass) : u8 x.num = numberIn [.pending, .inside, .outside, .noClass] x := by
  cases x <;> rfl

theorem phaseByte (x : DepartPhase) : flagByte (x == .reversing) = numberIn [.waitOpen, .reversing] x := by
  cases x <;> rfl

theorem originByte (x : ContactOrigin) : flagByte (x == .start) = numberIn [.approach, .start] x := by
  cases x <;> rfl

/-! ### ZONE, SENSE and GATE -/

theorem zoneSection_eq (s : State) :
    s.zoneSection =
      ([0, 1, 2, 3] : List Slot).flatMap (fun i =>
        [loopNumber (s.zcu.loops.get i), u8 (if s.enabled i = true then s.zoneNumber i else 0)]) ++
      orNamed (s.zcu.active.map Fin.val) ++ [u8 s.activeNumber] ++
      twoBytes s.zcu.prox ++ twoBytes s.zcu.station ++
      timerIn [.stopped, .running, .paused, .held, .spent] s.zcu.outTimer.st s.zcu.outTimer.elapsed ++
      [yesByte s.zcu.frozen] := by
  simp only [State.zoneSection, loopByte, opt8_eq, timer16_eq]
  rfl

/-- A pin is reported active where a LEVEL pin with a role that the gate or the engine serves is at its active
level (R59). -/
theorem reportedActive_eq (x : PinUnit) :
    x.reportedActive = decide (x.cfg.mode = .level ∧
      (x.cfg.role = .bumpFront ∨ x.cfg.role = .bumpRear ∨ x.cfg.role = .lift ∨ x.cfg.role = .rain) ∧
      x.deb = some x.cfg.active) := by
  rw [Bool.eq_iff_iff]
  simp only [PinUnit.reportedActive, PinUnit.activeAs, Bool.or_eq_true, Bool.and_eq_true, beq_iff_eq,
    decide_eq_true_eq]
  tauto

/-- The state's slope in the words of the statements. -/
theorem overSlope_eq (s : State) :
    s.overSlope = decide (s.slopeMax < max s.spu.pitch.angle.natAbs s.spu.roll.angle.natAbs) :=
  rfl

theorem axisBytes_eq (a : Axis) :
    axisBytes a = signedBytes a.angle ++ [numberIn [.absent, .pending, .valid, .fault] a.st] := by
  rw [axisBytes, axisByte]
  rfl

theorem reportedPins_eq (s : State) :
    (s.spu.units.toList.map fun u => flagByte u.reportedActive) =
      ([0, 1, 2, 3, 4, 5, 6, 7] : List Pin).map (fun p =>
        let x := s.spu.units.get p
        yesByte (decide (x.cfg.mode = .level ∧
          (x.cfg.role = .bumpFront ∨ x.cfg.role = .bumpRear ∨ x.cfg.role = .lift ∨
            x.cfg.role = .rain) ∧ x.deb = some x.cfg.active))) := by
  simp only [reportedActive_eq]
  rfl

theorem navBytes_eq (c : Option NavCmd) :
    navBytes c = match c with
      | some c =>
        [0#8, u8 c.seq, numberIn [.stop, .drive] c.mode] ++ signedBytes c.left ++
          signedBytes c.right ++ twoBytes c.blade
      | none => [1#8, 0#8, 0#8, 0#8, 0#8, 0#8, 0#8, 0#8, 0#8] := by
  rcases c with - | ⟨seq, mode, left, right, blade⟩
  · rfl
  · cases mode <;> rfl

/-- The gate maps to the addresses of the wheels and of the blade. -/
theorem stillAt_isSome (s : State) (n : Node) :
    (s.stillAt n).isSome = ((s.nodeKind n).isWheel || s.nodeKind n == .blade) := by
  unfold State.stillAt
  cases s.nodeKind n <;> rfl

theorem postedZero_iff_stillAt (s : State) :
    s.postedZero = true ↔ ∀ n, (s.stillAt n).isSome = true → s.mgt.posted.get n = 0 := by
  simp [State.postedZero, stillAt_isSome, mem_nodes, imp_iff_not_or, not_or]

theorem gateSection_eq (s : State) :
    s.gateSection =
      [numberIn [.nav, .dock, .resp1, .resp2, .resp3] s.mgt.source] ++ navBytes s.mgt.cmd ++
      timerIn [.stopped, .running, .expired] s.mgt.age.st s.mgt.age.elapsed ++
      [yesByte (decide (s.mgt.age.st = .expired)), u8 s.mgt.band, u8 s.mgt.ps, u8 s.mgt.pn] ++
      twoBytes s.mgt.fb ++ twoBytes s.mgt.rb ++ twoBytes s.mgt.feff ++ twoBytes s.mgt.reff ++
      signedBytes s.mgt.outL ++ signedBytes s.mgt.outR ++ signedBytes s.mgt.outBlade ++
      ([0, 1, 2, 3, 4, 5] : List Node).flatMap (fun n =>
        signedBytes (if (s.stillAt n).isSome = true then s.mgt.posted.get n else 0)) ++
      [yesByte s.dEchoRunning,
        yesByte (decide (∀ n : Node, (s.stillAt n).isSome = true → s.mgt.posted.get n = 0))] := by
  have hzero : s.postedZero = decide (∀ n : Node, (s.stillAt n).isSome = true → s.mgt.posted.get n = 0) :=
    Bool.eq_iff_iff.mpr ((postedZero_iff_stillAt s).trans decide_eq_true_iff.symm)
  simp only [State.gateSection, ← hzero, sourceByte, State.postedAt, zeroAt_eq_stillAt]
  rfl

theorem motionSections : MotionSections := by
  intro s slopeNow axis m mapped
  refine ⟨zoneSection_eq s, ?sense, ?gate⟩
  case sense =>
    rw [State.senseSection, axisBytes_eq, axisBytes_eq, reportedPins_eq]
    rfl
  case gate =>
    rw [gateSection_eq, navBytes_eq] <;> rfl

/-! ### DRIVE and NODE -/

theorem txBytes_eq (t : Option Transaction) :
    txBytes t = match t with
      | some t =>
        [1#8, u8 (t.node.val + 1),
          (match t.carried with
          | .post (.param _) => 3#8
          | .post _ => 1#8
          | .poll => 2#8
          | .read _ => 4#8
          | .echo _ => 5#8),
          yesByte t.second]
      | none => [0#8, 0#8, 0#8, 0#8] := by
  rcases t with - | t
  · rfl
  · simp only [txBytes]
    rcases t.carried with v | - | - | -
    · cases v <;> rfl
    all_goals rfl

theorem telemBytes_eq (kind : NodeKind) (t : Option Telem) :
    telemBytes kind t = match t with
      | some (.wheel v c) => signedBytes v ++ twoBytes c
      | some (.blade v c) => twoBytes v ++ twoBytes c
      | some (.power mv contact closed charge button) =>
        twoBytes mv ++ [yesByte contact, yesByte closed] ++ twoBytes charge ++ [u8 button]
      | none => if kind = .power then [0#8, 0#8, 0#8, 0#8, 0#8, 0#8, 0#8] else [0#8, 0#8, 0#8, 0#8] := by
  rcases t with - | t
  · by_cases hkind : kind = .power <;> simp [telemBytes, hkind, List.replicate]
  · cases t <;> rfl

theorem ackNum_eq :
    PostValue.ackNum = fun v =>
      match v with
      | .wheel x => x
      | .blade x => x
      | .relay close => if close = true then 1 else 0
      | .param _ => 0 := by
  funext v
  cases v <;> rfl

/-- How many entries of the queue a test counts, where the test is that of a kind's number. -/
theorem entriesOf_eq (s : State) (k : Nat) (is : PostValue → Bool) (h : ∀ v, (v.kindNum == k) = is v) :
    s.entriesOf k = (s.dlc.queue.filter fun e => is e.val).length := by
  simp only [State.entriesOf, h]

theorem driveSections : DriveSections := by
  constructor
  · intro s d queued
    have hwheel := entriesOf_eq s 0 (fun | .wheel _ => true | _ => false) fun v => by cases v <;> rfl
    have hblade := entriesOf_eq s 1 (fun | .blade _ => true | _ => false) fun v => by cases v <;> rfl
    have hrelay := entriesOf_eq s 2 (fun | .relay _ => true | _ => false) fun v => by cases v <;> rfl
    have hparam := entriesOf_eq s 3 (fun | .param _ => true | _ => false) fun v => by cases v <;> rfl
    rw [State.driveSection, txBytes_eq]
    simp only [List.map_cons, List.map_nil, hwheel, hblade, hrelay, hparam]
    rfl
  · intro kind r spent
    rw [nodeBytes, telemBytes_eq, opt16_eq, nodeStateByte, ackNum_eq]
    cases kind <;> rfl

/-! ### RESPONSE and DOCK -/

/-- The five hazards as a set in one byte. -/
theorem maskByte_five (a b c d e : Bool) :
    maskByte [a, b, c, d, e] =
      u8 ((if a = true then 1 else 0) + (if b = true then 2 else 0) + (if c = true then 4 else 0) +
        (if d = true then 8 else 0) + (if e = true then 16 else 0)) := by
  cases a <;> cases b <;> cases c <;> cases d <;> cases e <;> rfl

/-- The level that the engine shows, the highest held. -/
theorem levelHeld_eq (s : State) :
    s.levelHeld =
      if s.rse.ctx3 ≠ none then some 3 else if s.rse.ctx2 ≠ none then some 2
      else if s.rse.ctx1 ≠ none then some 1 else none := by
  unfold State.levelHeld State.runningCtx
  cases s.rse.ctx3 with
  | some c3 => rfl
  | none =>
    cases s.rse.ctx2 with
    | some c2 => rfl
    | none => cases s.rse.ctx1 <;> rfl

/-- A held level runs where the running level has its number. -/
theorem running_eq_levelHeld (s : State) {n : Nat} (hn : n ≠ 0) :
    (!(s.runningLevel == n)) = decide (s.levelHeld ≠ some n) := by
  unfold State.runningLevel State.levelHeld
  rcases s.runningCtx with - | ⟨l, c⟩
  · simp [Ne.symm hn]
  · by_cases hl : l = n <;> simp [hl]

theorem ctxBytes_eq (s : State) (n : Nat) (hn : n ≠ 0) (c : Option Ctx) :
    ctxBytes n (s.runningLevel == n) c = match c with
      | some c =>
        let h := c.hazards
        [u8 n, yesByte (decide (s.levelHeld ≠ some n)),
          numberIn [.perimeterExit, .keepoutEntry, .bumpFront, .bumpRear, .stall, .slip, .bladeJam,
            .lift, .tiltOver, .wireLost, .nodeLost, .outsideLimit] c.trigger] ++
        orNamed c.detail ++
        [u8 ((if h.lift = true then 1 else 0) + (if h.tiltOver = true then 2 else 0) +
          (if h.wireLost = true then 4 else 0) + (if h.nodeLost = true then 8 else 0) +
          (if h.outsideLimit = true then 16 else 0))] ++ orNamed c.seq ++
        [u8 c.step] ++ orNamed16 (c.remaining.map fun us => ((us / 1000 : Nat) : Int)) ++
        [u8 c.repeats, yesByte c.bladeStop] ++ signedBytes c.left ++ signedBytes c.right
      | none => List.replicate 18 0#8 := by
  cases c with
  | none => rfl
  | some c =>
    simp only [ctxBytes, running_eq_levelHeld s hn, trigByte, opt8_eq, opt16_eq, hazardMask, maskByte_five]
    rfl

theorem conductSections : ConductSections := by
  intro s r k held spent set5 level context
  constructor
  · rw [State.responseSection, List.append_assoc, ctxBytes_eq s 1 (by decide), ctxBytes_eq s 2 (by decide), ctxBytes_eq s 3 (by decide),
      levelHeld_eq, opt8_eq, dockByte]
    rfl
  · simp only [State.dockSection, dockByte, phaseByte, originByte, returnReasonByte, opt8_eq]
    rfl

/-! ### STORE and LINK -/

/-- A flag with its detail filled up to its own width. -/
theorem flagBytes_eq (s : State) (f : EventFlag) {n : Nat} (hn : f.detailSize = n) :
    s.flagBytes f = match s.flag f with
      | some d => 1#8 :: (d ++ List.replicate (n - d.length) 0#8)
      | none => List.replicate (n + 1) 0#8 := by
  subst hn
  unfold State.flagBytes
  cases s.flag f <;> rfl

theorem flagSections_eq (s : State) :
    eventFlags.flatMap s.flagBytes =
      ([(.boundaryResponse, 2), (.obstacleResponse, 2), (.hazard, 2), (.cmdStale, 1), (.slipSeen, 1),
        (.senseFault, 1), (.sampleOverrun, 1), (.postDiscard, 1), (.nodeLostEvent, 1),
        (.returnStarted, 1), (.guideLost, 1), (.dockedEvent, 1), (.dockFaultEvent, 1), (.dockLost, 0),
        (.stationRequest, 1), (.swapDone, 1), (.swapTimeout, 1), (.testDone, 2), (.linkError, 1)] :
          List (EventFlag × Nat)).flatMap (fun e =>
        match s.flag e.1 with
        | some d => 1#8 :: (d ++ List.replicate (e.2 - d.length) 0#8)
        | none => List.replicate (e.2 + 1) 0#8) := by
  have hflags : eventFlags.flatMap s.flagBytes =
      (eventFlags.map fun f => (f, f.detailSize)).flatMap (fun e => s.flagBytes e.1) := by
    rw [List.flatMap_map]
  rw [hflags]
  refine List.flatMap_congr fun e he => ?_
  obtain ⟨f, -, rfl⟩ := List.mem_map.mp he
  exact flagBytes_eq s f rfl

theorem linkSections : LinkSections := by
  intro s b n
  constructor
  · simp only [State.storeSection, dockByte]
    rfl
  · rw [State.linkSection, flagSections_eq, List.append_assoc]
    cases hn : s.nRate <;> cases hd : s.dRate <;> rfl

/-! ### READ_VERDICT, TEST_RESULT and READ_COUNTERS -/

theorem verdictBytes_eq (v : Option Verdict) (age : Nat) : verdictBytes v age = verdictRecord v age := by
  cases v with
  | none => rfl
  | some v => simp only [verdictBytes, verdictRecord, verdictKindByte]; rfl

theorem reportedClassByte (s : State) (i : Slot) (c : Coil) :
    u8 (s.reportedClass i c) =
      if s.enabled i = true then numberIn [.pending, .inside, .outside, .noClass] (s.laneClass i c) else 4#8 := by
  by_cases hi : s.enabled i = true
  · simp only [State.reportedClass, hi, if_true, laneClassByte]
  · simp only [State.reportedClass, hi]
    rfl

theorem laneData_eq (s : State) (i : Slot) (c : Coil) :
    let l := (s.wdc.lanes.get i).get c
    s.laneData i c =
      [flagByte (s.enabled i), flagByte (s.wdc.coils.get c).silent, u8 (s.reportedClass i c),
        flagByte l.verdict.isSome] ++
      verdictRecord l.verdict l.burstsSince ++ windowBytes l.window ++ orNamed (s.wdc.coils.get c).expect := by
  intro l
  rw [State.laneData, verdictBytes_eq, opt8_eq]

theorem testData_eq (s : State) :
    s.testData =
      [u8 s.lbu.kind.num, u8 s.lbu.status.num] ++ testBytes s.lbu.params s.lbu.record :=
  rfl

theorem laneAndTestRecords : LaneAndTestRecords := by
  constructor
  · intro s i c l x
    refine (laneData_eq s i c).trans ?_
    rw [reportedClassByte]
    rfl
  · intro s b r
    rw [testData_eq, testKindByte, testStatusByte]
    cases s.lbu.params <;> simp only [testBytes, verdictBytes_eq, coilByte] <;> rfl

theorem counterLists : CounterLists := by
  intro s w coils pins' n b z g d r k
  exact ⟨rfl, rfl, rfl, rfl, rfl, rfl, rfl, rfl, rfl⟩

end Sys2Proof.Machine
end

section
/-! The requests that read: READ_STATUS, READ_VERDICT, READ_COUNTERS, TEST_RESULT (R14, R21, R164, R173),
READ_TABLE (R148), and the request that names none (R159). -/

namespace Sys2Proof.Machine

/-! ### Numbers that name a slot, a coil, a node or a bank -/

theorem slotOfNat?_of_eq {n : Nat} {i : Slot} (h : n = i.val) : slotOfNat? n = some i := by
  subst h
  exact dif_pos i.isLt

theorem slotOfNat?_eq_none {n : Nat} (h : 3 < n) : slotOfNat? n = none :=
  dif_neg (by omega)

theorem coilOfNat?_of_eq {n : Nat} {c : Coil} (h : n = Coil.num c) : Coil.ofNat? n = some c := by
  subst h
  cases c <;> rfl

theorem coilOfNat?_eq_none {n : Nat} (h : 1 < n) : Coil.ofNat? n = none := by
  match n, h with
  | n + 2, _ => rfl

theorem bankOfNat?_eq_none {n : Nat} (h : 1 < n) : Bank.ofNat? n = none := by
  match n, h with
  | n + 2, _ => rfl

/-! ### The data of each request -/

section
variable {s : State} {p : List Byte}

theorem answerData_of_some {d : List Byte} {x : Option (List Byte)} (h : x = some d) :
    answerData x s = answer .ok d s := by
  subst h
  rfl

theorem answerData_of_none {x : Option (List Byte)} (h : x = none) : answerData x s = answer .badParam [] s := by
  subst h
  rfl

/-- The section that a number names (R164). -/
def State.sectionOf (s : State) (node : Nat) : Nat → Option (List Byte)
  | 0 => some s.zoneSection
  | 1 => some s.senseSection
  | 2 => some s.gateSection
  | 3 => some s.driveSection
  | 4 => s.nodeSection node
  | 5 => some s.responseSection
  | 6 => some s.dockSection
  | 7 => some s.storeSection
  | 8 => some s.linkSection
  | _ => none

theorem statusData_eq (hp : p ≠ []) : s.statusData p = s.sectionOf (byteAt p 1) (byteAt p 0) := by
  have hempty : p.isEmpty = false := by simpa using hp
  simp only [State.statusData, hempty, State.sectionOf]
  rfl

theorem statusData_of_empty (hp : p = []) : s.statusData p = none := by
  subst hp
  rfl

theorem sectionOf_of_large {node k : Nat} (h : 8 < k) : s.sectionOf node k = none := by
  match k, h with
  | k + 9, _ => rfl

theorem nodeSection_of_fitted {addr : Nat} {n : Node} {r : NodeRec} (hn : nodeOfNat? addr = some n)
    (hr : s.dlc.recs.get n = some r) : s.nodeSection addr = some (nodeBytes (s.nodeKind n) r) := by
  simp [State.nodeSection, hn, hr]

theorem nodeSection_of_none {addr : Nat} {n : Option Node} (hn : nodeOfNat? addr = n)
    (hr : n = none ∨ ∃ a, n = some a ∧ s.dlc.recs.get a = none) : s.nodeSection addr = none := by
  subst hn
  rcases hr with hr | ⟨a, ha, hr⟩
  · simp [State.nodeSection, hr]
  · simp [State.nodeSection, ha, hr]

theorem verdictData_eq (hlen : 2 ≤ p.length) {i : Slot} {c : Coil} (hi : byteAt p 0 = i.val)
    (hc : byteAt p 1 = Coil.num c) : s.verdictData p = some (s.laneData i c) := by
  rw [State.verdictData, if_neg (by omega), slotOfNat?_of_eq hi, coilOfNat?_of_eq hc]

theorem verdictData_eq_none (h : p.length < 2 ∨ 3 < byteAt p 0 ∨ 1 < byteAt p 1) : s.verdictData p = none := by
  unfold State.verdictData
  split
  · rfl
  · next hlen =>
    rcases h with h | h | h
    · exact absurd h hlen
    · simp [slotOfNat?_eq_none h]
    · simp [coilOfNat?_eq_none h]

theorem counters_eq_none_iff (s : State) (k : Nat) : s.counters k = none ↔ k = 1 ∨ 9 < k := by
  match k with
  | 0 | 2 | 3 | 4 | 5 | 6 | 7 | 8 | 9 => simp [State.counters]
  | 1 => simp [State.counters]
  | k + 10 => simp [State.counters]

theorem verdictRecord_length (v : Option Verdict) (age : Nat) : (verdictRecord v age).length = 8 := by
  cases v <;> rfl

theorem windowBytes_length (w : Option Window) : (windowBytes w).length = 3 := by
  cases w <;> rfl

theorem orNamed_length (n : Option Nat) : (orNamed n).length = 2 := by
  cases n <;> rfl

end

/-! ### READ_STATUS, READ_VERDICT, READ_COUNTERS and TEST_RESULT -/

section
variable {dt : Nat} {s : State}

theorem exec_readStatus (held : s.resetHeld = false) (hhead : headIs 0 (arrive dt s) = true) :
    exec (.readStatus dt) s =
      .next (answerData ((arrive dt s).statusData (arrive dt s).headParams) (arrive dt s)) :=
  exec_request (f := fun p s => answerData (s.statusData p) s) (by unfold eventOf; rfl) held hhead

theorem exec_readVerdict (held : s.resetHeld = false) (hhead : headIs 1 (arrive dt s) = true) :
    exec (.readVerdict dt) s =
      .next (answerData ((arrive dt s).verdictData (arrive dt s).headParams) (arrive dt s)) :=
  exec_request (f := fun p s => answerData (s.verdictData p) s) (by unfold eventOf; rfl) held hhead

theorem exec_readCounters (held : s.resetHeld = false) (hhead : headIs 2 (arrive dt s) = true) :
    exec (.readCounters dt) s =
      .next (answerData ((arrive dt s).counterData (arrive dt s).headParams) (arrive dt s)) :=
  exec_request (f := fun p s => answerData (s.counterData p) s) (by unfold eventOf; rfl) held hhead

theorem exec_readTable (held : s.resetHeld = false) (hhead : headIs 6 (arrive dt s) = true) :
    exec (.readTable dt) s =
      .next (answerData ((arrive dt s).tableBytes (arrive dt s).headParams) (arrive dt s)) :=
  exec_request (f := fun p s => answerData (s.tableBytes p) s) (by unfold eventOf; rfl) held hhead

theorem readStatus_told (held : s.resetHeld = false) (hhead : headIs 0 (arrive dt s) = true)
    (hp : (arrive dt s).headParams ≠ []) {k : Nat} {d : List Byte}
    (hd : (arrive dt s).sectionOf (byteAt (arrive dt s).headParams 1) k = some d)
    (hk : byteAt (arrive dt s).headParams 0 = k) : exec (.readStatus dt) s = .next (answer .ok d (arrive dt s)) := by
  rw [exec_readStatus held hhead, answerData_of_some ((statusData_eq hp).trans (hk ▸ hd))]

theorem readStatus_refused (held : s.resetHeld = false) (hhead : headIs 0 (arrive dt s) = true)
    (h : (arrive dt s).statusData (arrive dt s).headParams = none) :
    exec (.readStatus dt) s = .next (answer .badParam [] (arrive dt s)) := by
  rw [exec_readStatus held hhead, answerData_of_none h]

end

/-- A head that names no request: a MGMT_REQ without a code, or with a code above the last. -/
theorem headUnknown_of_head {u : State} {q : Req} {rest : List Req} (hq : u.mrh.queue = q :: rest)
    (hpass : q.pass = false) (hdone : u.mrh.headDone = false) (hfull : u.mrh.fullResetDue = false)
    (hcode : q.payload = [] ∨ 17 < byteAt q.payload 0) : headUnknown u = true := by
  have hready : u.headReady = true := by simp [State.headReady, hq, hdone, hfull]
  simp only [headUnknown, hready, hq, hpass, Bool.true_and, Bool.not_false, Bool.or_eq_true, List.isEmpty_iff,
    decide_eq_true_eq]
  exact hcode

/-- The fields of a lane's data by their places. -/
theorem laneData_fields (s : State) (i : Slot) (c : Coil) :
    let l := (s.wdc.lanes.get i).get c
    (s.laneData i c).length = 17 ∧
    (s.laneData i c).take 4 =
      [flagByte (s.enabled i), flagByte (s.wdc.coils.get c).silent, u8 (s.reportedClass i c),
        flagByte l.verdict.isSome] ∧
    ((s.laneData i c).drop 4).take 8 = verdictRecord l.verdict l.burstsSince := by
  intro l
  rw [laneData_eq, List.append_assoc, List.append_assoc]
  refine ⟨?_, rfl, ?_⟩
  · simp only [List.length_append, verdictRecord_length, windowBytes_length, orNamed_length, List.length_cons,
      List.length_nil]
  · exact List.take_left' (verdictRecord_length l.verdict l.burstsSince)

/-- Settles O49: each section, lane, counter list and test record is the statement's, byte by byte, and each
request answers with what its parameters name. -/
theorem requestsThatReadChangeNothing : Obligations.RequestsThatReadChangeNothing := by
  refine ⟨motionSections, driveSections, conductSections, linkSections, laneAndTestRecords, counterLists, ?_⟩
  intro dt s held u p
  refine ⟨fun hhead => ?status, fun hhead => ?verdict, fun hhead => ?counters, counters_eq_none_iff u,
    fun hhead => ?test, fun q rest hq hpass hdone hfull hcode => ?unknown⟩
  case status =>
    intro told
    refine ⟨fun hp => ⟨readStatus_told held hhead hp rfl, readStatus_told held hhead hp rfl,
      readStatus_told held hhead hp rfl, readStatus_told held hhead hp rfl, readStatus_told held hhead hp rfl,
      readStatus_told held hhead hp rfl, readStatus_told held hhead hp rfl, readStatus_told held hhead hp rfl,
      fun n r hn hr => ⟨readStatus_told held hhead hp (nodeSection_of_fitted hn hr), rfl⟩,
      fun n hfour hn hr => readStatus_refused held hhead ?_⟩, fun hbad => readStatus_refused held hhead ?_⟩
    · rw [statusData_eq hp, hfour]
      exact nodeSection_of_none hn hr
    · by_cases hp : p = []
      · exact statusData_of_empty hp
      · rw [statusData_eq hp]
        exact sectionOf_of_large (hbad.resolve_left hp)
  case verdict =>
    refine ⟨?_, fun hbad => ?_⟩
    · intro i c hlen hi hc d
      obtain ⟨hlength, hfields, hrecord⟩ := laneData_fields u i c
      refine ⟨?_, hlength, hfields, fun hnone => ?_, fun v hv => ?_⟩
      · rw [exec_readVerdict held hhead, answerData_of_some (verdictData_eq hlen hi hc)]
      · rw [hrecord, hnone]
        rfl
      · rw [hrecord, hv, verdictRecord, verdictKindByte]
        rfl
    · rw [exec_readVerdict held hhead, answerData_of_none (verdictData_eq_none hbad)]
  case counters =>
    refine ⟨fun l hp hl => ?_, fun hbad => ?_⟩
    · have hempty : p.isEmpty = false := by simpa using hp
      rw [exec_readCounters held hhead]
      exact congrArg Host.Outcome.next (answerData_of_some (by simp [State.counterData, p, u, hempty, hl]))
    · rw [exec_readCounters held hhead]
      refine congrArg Host.Outcome.next (answerData_of_none ?_)
      rcases hbad with hp | hbad
      · simp [State.counterData, p, u, hp]
      · have hnone := (counters_eq_none_iff u _).mpr hbad
        simp [State.counterData, p, u, hnone]
  case test =>
    exact ⟨exec_request (f := fun _ s => answer .ok s.testData s) (by unfold eventOf; rfl) held hhead, rfl⟩
  case unknown =>
    rw [exec_of_running _ held]
    exact congrArg Host.Outcome.next
      (whenDue_of_due (due := headUnknown) (f := unknownRequest) (headUnknown_of_head hq hpass hdone hfull hcode))

/-! ### READ_TABLE -/

theorem readBytes_eq_map (m : List Host.Cell) (a n : Nat) :
    Memory.readBytes m a n = (List.range n).map fun i => Memory.read m (a + i) := by
  induction n generalizing a with
  | zero => rfl
  | succ n ih =>
    rw [Memory.readBytes, ih, List.range_succ_eq_map, List.map_cons, List.map_map]
    simp only [Nat.add_zero, Function.comp_def, Nat.succ_eq_add_one, Nat.add_assoc, Nat.add_comm 1]

theorem tableAddr_add (s : State) (b : Bank) (t : Table) (off i : Nat) :
    s.tableAddr b t (off + i) = s.tableAddr b t off + i :=
  (Nat.add_assoc _ off i).symm

/-- Settles O47: the request answers with the bank's bytes where its parameters name them, and with BAD_PARAM
otherwise. -/
theorem tableIsRead : Obligations.TableIsRead := by
  intro dt s held u p off n hhead
  rw [exec_readTable held hhead]
  refine ⟨fun b t hbank ht hlen hlow hhigh hfits => ?given, fun hbad => ?refused⟩
  case given =>
    have hb : Bank.ofNat? (byteAt p 0) = some b := by
      rcases hbank with ⟨rfl, h⟩ | ⟨rfl, h⟩ <;> rw [h] <;> rfl
    have hbytes : (List.range n).map (fun i => u.tableByte b t (off + i)) =
        Memory.readBytes u.mem (u.tableAddr b t off) n := by
      simp only [readBytes_eq_map, State.tableByte, tableAddr_add]
    rw [hbytes]
    refine congrArg Host.Outcome.next (answerData_of_some ?_)
    change u.tableBytes p = _
    simp only [State.tableBytes, hb, ht]
    exact if_pos ⟨hlen, hlow, hhigh, hfits⟩
  case refused =>
    refine congrArg Host.Outcome.next (answerData_of_none ?_)
    change u.tableBytes p = none
    unfold State.tableBytes
    split
    · next b t hb ht =>
      refine if_neg fun ⟨hlen, hlow, hhigh, hfits⟩ => ?_
      rcases hbad with h | h | h | h | h | ⟨t', ht', h⟩
      · rw [bankOfNat?_eq_none h] at hb
        cases hb
      · rw [h] at ht
        cases ht
      · omega
      · exact absurd hlow (by omega)
      · exact absurd hhigh (by omega)
      · rw [ht] at ht'
        cases ht'
        exact absurd hfits (by omega)
    · rfl

end Sys2Proof.Machine
end

section
/-! The generator of the tests (R170, R171), an update during a freeze (R42), and the correlator beside a coil
under test (R26). -/

namespace Sys2Proof.Machine

/-! ### The generator -/

theorem genOut_eq (g : BitVec 15) : (if genOut g then 1 else 0) = lfsrOut g := by
  have hbit : ∀ i, g.getLsbD i = decide (g.toNat / 2 ^ i % 2 = 1) := fun i =>
    Nat.testBit_eq_decide_div_mod_eq
  rw [genOut, hbit, hbit, lfsrOut]
  generalize g.toNat / 2 ^ 13 = a
  generalize g.toNat / 2 ^ 14 = b
  rw [Nat.add_mod]
  rcases Nat.mod_two_eq_zero_or_one a with ha | ha <;> rcases Nat.mod_two_eq_zero_or_one b with hb | hb <;>
    simp [ha, hb]

/-- A step moves every bit up, and the output enters at the bottom. -/
theorem genStep_eq (g : BitVec 15) : genStep g = lfsrNext g := by
  have hbit : 2 * g.toNat + lfsrOut g = Nat.bit (genOut g) g.toNat := by
    rw [← genOut_eq, Nat.bit_val]
    cases genOut g <;> rfl
  rw [lfsrNext, hbit]
  refine BitVec.eq_of_getLsbD_eq fun i hi => ?_
  rw [BitVec.getLsbD_ofNat]
  cases i with
  | zero =>
    rw [Nat.testBit_bit_zero]
    cases hout : genOut g <;> simp [genStep, hout]
  | succ i =>
    have hlow : (if genOut g then 1#15 else 0#15).getLsbD (i + 1) = false := by
      cases genOut g <;> simp
    rw [Nat.testBit_bit_succ, genStep, BitVec.getLsbD_or, hlow, Bool.or_false, BitVec.getLsbD_shiftLeft]
    simp [hi, BitVec.getLsbD]

theorem lfsrAfter_succ (n : Nat) (g : BitVec 15) : lfsrAfter (n + 1) g = lfsrAfter n (lfsrNext g) := by
  induction n with
  | zero => rfl
  | succ n ih => exact congrArg lfsrNext ih

theorem lfsrAfter_add (m n : Nat) (g : BitVec 15) : lfsrAfter m (lfsrAfter n g) = lfsrAfter (n + m) g := by
  induction m with
  | zero => rfl
  | succ m ih => exact congrArg lfsrNext ih

theorem genSteps_eq (n : Nat) (g : BitVec 15) : genSteps n g = lfsrAfter n g := by
  induction n generalizing g with
  | zero => rfl
  | succ n ih => rw [genSteps, genStep_eq, ih, lfsrAfter_succ]

/-- The outputs as a number, the first the most significant. -/
theorem genNat_eq (n : Nat) (g : BitVec 15) (acc : Nat) :
    genNat n g acc =
      acc * 2 ^ n + ((List.range n).map fun k => lfsrOut (lfsrAfter k g) * 2 ^ (n - 1 - k)).sum := by
  induction n generalizing g acc with
  | zero => simp [genNat]
  | succ n ih =>
    have hshift : (List.range n).map (fun k => lfsrOut (lfsrAfter k (lfsrNext g)) * 2 ^ (n - 1 - k)) =
        (List.range n).map ((fun k => lfsrOut (lfsrAfter k g) * 2 ^ (n + 1 - 1 - k)) ∘ Nat.succ) := by
      refine List.map_congr_left fun k hk => ?_
      simp only [Function.comp_apply, Nat.succ_eq_add_one, lfsrAfter_succ]
      congr 2
      omega
    have hfirst : lfsrOut (lfsrAfter 0 g) = lfsrOut g := rfl
    rw [genNat, genStep_eq, genOut_eq, ih, hshift, List.range_succ_eq_map, List.map_cons, List.map_map, List.sum_cons,
      hfirst, Nat.add_sub_cancel, Nat.sub_zero]
    ring

theorem lfsrByte_eq (g : BitVec 15) : u8 (genNat 8 g 0) = lfsrByte g := by
  rw [genNat_eq, Nat.zero_mul, Nat.zero_add]
  rfl

theorem genBytes_eq (n : Nat) (g : BitVec 15) :
    genBytes n g = (List.range n).map fun k => lfsrByte (lfsrAfter (8 * k) g) := by
  induction n generalizing g with
  | zero => rfl
  | succ n ih =>
    have hshift : ∀ k, lfsrAfter (8 * k) (lfsrAfter 8 g) = lfsrAfter (8 * (k + 1)) g := fun k => by
      rw [lfsrAfter_add]
      congr 1
      omega
    rw [genBytes, lfsrByte_eq, genSteps_eq, ih, List.range_succ_eq_map, List.map_cons, List.map_map]
    simp only [hshift, Function.comp_def, Nat.succ_eq_add_one]
    rfl

theorem echoBytes_eq (number : Nat) (g : BitVec 15) : echoBytes number g = echoRequest number g := by
  rw [echoBytes, genBytes_eq]
  rfl

/-! ### The samples of a synthesized burst -/

theorem synth_length (s : State) (code : Nat) (level noise : Int) (i n : Nat) (g : BitVec 15) :
    (s.synth code level noise i n g).length = n := by
  induction n generalizing i g with
  | zero => rfl
  | succ n ih => rw [State.synth, List.length_cons, ih]

theorem synth_getElem? (s : State) (code : Nat) (level noise : Int) (i n : Nat) (g : BitVec 15) {k : Nat}
    (hk : k < n) :
    (s.synth code level noise i n g)[k]? = some
      (max (-2048) (min (level * s.chip code (i + k) +
        (if lfsrOut (lfsrAfter k g) = 1 then noise else -noise)) 2047)) := by
  induction n generalizing i g k with
  | zero => exact absurd hk (Nat.not_lt_zero k)
  | succ n ih =>
    have hout : ∀ g', (genOut g' = true) = (lfsrOut g' = 1) := fun g' => by
      rw [← genOut_eq]
      cases genOut g' <;> simp
    cases k with
    | zero =>
      simp only [State.synth, List.getElem?_cons_zero, hout, Nat.add_zero]
      rfl
    | succ k =>
      rw [State.synth, List.getElem?_cons_succ, ih (i + 1) (genStep g) (by omega), genStep_eq, ← lfsrAfter_succ,
        Nat.add_assoc, Nat.add_comm 1 k]

/-! ### An update during a freeze -/

section
variable {s : State} {pub : Published}

/-- During a freeze an update reaches the mirror alone (R42). -/
theorem zoneUpdate_of_frozen (hfrozen : s.zcu.frozen = true) (pub : Published) :
    zoneUpdate pub s =
      if slots.any (s.slotNamed pub) then onZcu (fun z => { z with mirror := s.mirrored pub }) s else s := by
  unfold zoneUpdate
  simp only [hfrozen, if_true]

theorem zoneUpdate_frozen_frame (hfrozen : s.zcu.frozen = true) (pub : Published) :
    zoneUpdate pub s =
      { s with zcu := { s.zcu with mirror := (zoneUpdate pub s).zcu.mirror } } := by
  rw [zoneUpdate_of_frozen hfrozen]
  split <;> rfl

/-- After an update during a freeze the mirror holds the class of every lane of an enabled slot (R19). -/
theorem mirror_cls_of_frozen (hfrozen : s.zcu.frozen = true) (pub : Published) {i : Slot}
    (henabled : s.enabled i = true) (c : Coil) :
    (((zoneUpdate pub s).zcu.mirror.get i).get c).cls = s.laneClass i c := by
  have hquiet : ∀ b : Bool, s.laneNamed pub i c = b → b = false →
      s.laneClass i c = ((s.zcu.mirror.get i).get c).cls := by
    rintro b hb rfl
    by_contra hne
    exact Bool.false_ne_true (hb.symm.trans ((laneNamed_iff s pub i c).mpr ⟨henabled, .inl hne⟩))
  rw [zoneUpdate_of_frozen hfrozen]
  split
  · show (((s.mirrored pub).get i).get c).cls = _
    rw [mirrored_get, mirrorLane_eq]
    split
    · rfl
    · next h => exact (hquiet _ rfl (by simpa using h)).symm
  · next h =>
    refine (hquiet _ rfl ?_).symm
    by_contra hnamed
    exact h ((any_slotNamed_iff s pub).mpr ⟨i, c, by simpa using hnamed⟩)

end

/-! ### The correlator beside a coil whose bursts carry no gap -/

/-- The correlator changes the Wire Decoder alone. -/
theorem correlatorTake_eq (s : State) : ∃ w, correlatorTake s = { s with wdc := w } := by
  unfold correlatorTake
  split
  · exact ⟨_, rfl⟩
  · split
    · split
      · exact ⟨_, rfl⟩
      · dsimp only
        split <;> exact ⟨_, rfl⟩
    · exact ⟨_, rfl⟩

/-- During a freeze what the correlator takes reaches the Wire Decoder and the mirror alone. -/
theorem zoneUpdate_correlatorTake_frozen {s : State} (hfrozen : s.zcu.frozen = true) (pub : Published) :
    let v := zoneUpdate pub (correlatorTake s)
    v = { s with wdc := v.wdc, zcu := { s.zcu with mirror := v.zcu.mirror } } := by
  obtain ⟨w, hw⟩ := correlatorTake_eq s
  rw [hw]
  intro v
  have hv : v = { s with wdc := w, zcu := { s.zcu with mirror := v.zcu.mirror } } :=
    zoneUpdate_frozen_frame (s := { s with wdc := w }) hfrozen pub
  clear_value v
  generalize v.zcu.mirror = m at hv ⊢
  rw [hv]

section
variable {s : State} {c : Coil}

/-- A change of a coil's lanes, lane by lane. -/
theorem mapLanes_get (d : Coil) (f : Lane → Lane) (s : State) (j : Slot) (c : Coil) :
    ((mapLanes d f s).wdc.lanes.get j).get c =
      if c = d then f ((s.wdc.lanes.get j).get c) else (s.wdc.lanes.get j).get c := by
  have hslot : (mapLanes d f s).wdc.lanes.get j = (s.wdc.lanes.get j).set d (f ((s.wdc.lanes.get j).get d)) :=
    PerSlot.get_map _ _ j
  rw [hslot, PerCoil.get_set_ite]
  split
  · next h => rw [h]
  · rfl

/-- The abort of another coil's windows reaches no record of a coil. -/
theorem abortWindows_other {d : Coil} (hd : c ≠ d) (s : State) :
    (∀ j, ((abortWindows d s).wdc.lanes.get j).get c = (s.wdc.lanes.get j).get c) ∧
      (abortWindows d s).wdc.coils.get c = s.wdc.coils.get c := by
  constructor
  · intro j
    exact (mapLanes_get d (fun l => { l with window := none }) s j c).trans (if_neg hd)
  · exact PerCoil.get_set_ne _ _ hd

/-- The correlator leaves the lanes and the record of a coil none of whose bursts is gap-marked, and what it takes
comes from the ring (R7, R15). -/
theorem correlatorTake_coil (hgap : ∀ e ∈ s.wdc.ring, e.coil = c → e.gap = none) :
    (∀ j, ((correlatorTake s).wdc.lanes.get j).get c = (s.wdc.lanes.get j).get c) ∧
      (correlatorTake s).wdc.coils.get c = s.wdc.coils.get c ∧
      ∀ e, (correlatorTake s).wdc.inCorr = some e → s.wdc.inCorr = some e ∨ e ∈ s.wdc.ring := by
  unfold correlatorTake
  split
  · exact ⟨fun _ => rfl, rfl, fun e he => .inl he⟩
  · next hidle =>
    split
    · split
      · exact ⟨fun _ => rfl, rfl, fun e he => .inl he⟩
      · next e rest hring =>
        extract_lets t
        have htaken : ∀ e', some e = some e' → s.wdc.inCorr = some e' ∨ e' ∈ e :: rest := by
          rintro e' ⟨⟩
          exact .inr List.mem_cons_self
        split
        · next hmarked =>
          have hother : c ≠ e.coil := by
            rintro rfl
            rw [hgap e (hring ▸ List.mem_cons_self) rfl] at hmarked
            cases hmarked
          obtain ⟨hlanes, hcoil⟩ := abortWindows_other hother t
          exact ⟨hlanes, hcoil, fun e' he' => hring ▸ htaken e' he'⟩
        · exact ⟨fun _ => rfl, rfl, fun e' he' => hring ▸ htaken e' he'⟩
    · exact ⟨fun _ => rfl, rfl, fun e he => .inl he⟩

end

end Sys2Proof.Machine
end

section
/-! START_TEST, and how a wire pattern test takes its coil (R26, R42, R168, R171). -/

namespace Sys2Proof.Machine

/-! ### The parameters of START_TEST -/

section
variable {p : List Byte}

theorem nodeOfNat?_eq_none {n : Nat} (h : n = 0 ∨ 6 < n) : nodeOfNat? n = none :=
  dif_neg (by omega)

theorem parseTest_of_no_kind (h : byteAt p 0 = 0 ∨ 3 < byteAt p 0) : parseTest p = none := by
  unfold parseTest
  split
  · next hk => omega
  · next hk => omega
  · next hk => omega
  · rfl

theorem parseTest_of_nLink (hkind : byteAt p 0 = 1) :
    parseTest p =
      if 2 ≤ p.length ∧ 1 ≤ byteAt p 1 ∧ byteAt p 1 ≤ 60 then some (.nLinkEcho (byteAt p 1)) else none := by
  simp only [parseTest, hkind]

theorem parseTest_of_dLink {n : Node} (hkind : byteAt p 0 = 2) (hnode : nodeOfNat? (byteAt p 1) = some n) :
    parseTest p = if 3 ≤ p.length ∧ 1 ≤ byteAt p 2 then some (.dLinkEcho n (byteAt p 2)) else none := by
  simp only [parseTest, hkind, hnode]

theorem parseTest_of_dLink_bad (hkind : byteAt p 0 = 2)
    (h : p.length < 3 ∨ byteAt p 1 = 0 ∨ 6 < byteAt p 1 ∨ byteAt p 2 = 0) : parseTest p = none := by
  cases hnode : nodeOfNat? (byteAt p 1) with
  | none => simp only [parseTest, hkind, hnode]
  | some n =>
    rw [parseTest_of_dLink hkind hnode]
    refine if_neg fun ⟨hlen, hframes⟩ => ?_
    rcases h with h | h | h | h
    · omega
    · rw [nodeOfNat?_eq_none (.inl h)] at hnode
      cases hnode
    · rw [nodeOfNat?_eq_none (.inr h)] at hnode
      cases hnode
    · omega

theorem parseTest_of_pattern {i : Slot} {c : Coil} (hkind : byteAt p 0 = 3)
    (hslot : slotOfNat? (byteAt p 1) = some i) (hcoil : Coil.ofNat? (byteAt p 2) = some c) :
    parseTest p =
      if 9 ≤ p.length ∧ (byteAt p 3 = 1 ∨ byteAt p 3 = 255) ∧ wordAt p 4 ≤ 2047 ∧ wordAt p 6 ≤ 1023 ∧
          1 ≤ byteAt p 8 then
        some (.wirePattern i c (byteAt p 3 == 255) (wordAt p 4) (wordAt p 6) (byteAt p 8))
      else none := by
  simp only [parseTest, hkind, hslot, hcoil]

theorem parseTest_of_pattern_bad (hkind : byteAt p 0 = 3)
    (h : p.length < 9 ∨ 3 < byteAt p 1 ∨ 1 < byteAt p 2 ∨ (byteAt p 3 ≠ 1 ∧ byteAt p 3 ≠ 255) ∨
      2047 < wordAt p 4 ∨ 1023 < wordAt p 6 ∨ byteAt p 8 = 0) : parseTest p = none := by
  cases hslot : slotOfNat? (byteAt p 1) with
  | none => simp only [parseTest, hkind, hslot]
  | some i =>
    cases hcoil : Coil.ofNat? (byteAt p 2) with
    | none => simp only [parseTest, hkind, hslot, hcoil]
    | some c =>
      rw [parseTest_of_pattern hkind hslot hcoil]
      refine if_neg fun ⟨hlen, hpol, hamp, hnoise, hbursts⟩ => ?_
      rcases h with h | h | h | h | h | h | h
      · omega
      · rw [slotOfNat?_eq_none h] at hslot
        cases hslot
      · rw [coilOfNat?_eq_none h] at hcoil
        cases hcoil
      · exact hpol.elim h.1 h.2
      · omega
      · omega
      · omega

end

/-! ### The judgement of START_TEST -/

section
variable {u : State} {p : List Byte} {t : TestParams}

theorem testState_iff (u : State) :
    u.testState = true ↔
      (∀ n, (u.nodeKind n).isWheel = true ∨ u.nodeKind n = .blade → u.mgt.posted.get n = 0) ∧
        (u.rse.ctx1 = none ∧ u.rse.ctx2 = none ∧ u.rse.ctx3 = none) ∧
        (u.dkc.dock = .undocked ∨ u.dkc.dock = .docked) := by
  have hposted := postedZero_iff_stillAt u
  simp only [stillAt_isSome, Bool.or_eq_true, beq_iff_eq] at hposted
  have hdock : u.dkc.dock.testable = true ↔ u.dkc.dock = .undocked ∨ u.dkc.dock = .docked := by
    cases u.dkc.dock <;> simp [DockState.testable]
  rw [State.testState, Bool.and_eq_true, Bool.and_eq_true, Bool.not_eq_true', hposted, ctxHeld_eq_false_iff, hdock,
    and_assoc]

theorem requestTest_of_running (h : u.testRunning = true) : requestTest p u = answer .busy [] u :=
  if_pos h

theorem requestTest_of_bad (hidle : u.testRunning = false) (hparse : parseTest p = none) :
    requestTest p u = answer .badParam [] u := by
  simp [requestTest, hidle, hparse]

theorem requestTest_of_refused (hidle : u.testRunning = false) (hparse : parseTest p = some t) {code : RespCode}
    (hjudge : u.judgeTest t = code) (hcode : code ≠ .ok) : requestTest p u = answer code [] u := by
  simp [requestTest, hidle, hparse, hjudge, hcode]

theorem requestTest_of_accepted (hidle : u.testRunning = false) (hparse : parseTest p = some t)
    (hjudge : u.judgeTest t = .ok) : requestTest p u = answerThen t.after .ok [] (startTest t u) := by
  simp [requestTest, hidle, hparse, hjudge]

/-- With a fitted node and an enabled slot, a state that is not the one START_TEST asks for refuses. -/
theorem judgeTest_of_not_ready (hslot : u.testSlotDisabled t = false) (hnode : u.testNodeAbsent t = false)
    (hstate : ¬ u.testState = true) : u.judgeTest t = .refusedState := by
  simp [State.judgeTest, hslot, hnode, hstate]

theorem judgeTest_of_ready (hslot : u.testSlotDisabled t = false) (hnode : u.testNodeAbsent t = false)
    (hstate : u.testState = true) : u.judgeTest t = if u.testQueueBusy t then .retry else .ok := by
  simp [State.judgeTest, hslot, hnode, hstate]

theorem testNodeAbsent_dLink {n : Node} {frames : Nat} (h : u.nodeKind n ≠ .noNode) :
    u.testNodeAbsent (.dLinkEcho n frames) = false := by
  simp [State.testNodeAbsent, h]

end

/-! ### A coil under test -/

section
variable {s : State} {c : Coil}

theorem tableByte_of_bank {t : State} (h : t.bankView = s.bankView) : t.tableByte = s.tableByte := by
  simp only [State.bankView, Prod.mk.injEq] at h
  funext b tab off
  simp only [State.tableByte, State.tableAddr, State.bankBase, h.1, h.2]

theorem bank_zone_figures {t : State} (h : t.bankView = s.bankView) :
    t.enabled = s.enabled ∧ t.lossLimit = s.lossLimit ∧ t.codeLength = s.codeLength := by
  have hbyte := tableByte_of_bank h
  refine ⟨funext fun i => ?_, funext fun i => ?_, ?_⟩
  · rw [State.enabled, State.enabled, slotKind_of_bank h]
  · simp only [State.lossLimit, State.zone8, hbyte]
  · simp only [State.codeLength, State.gen8, hbyte]

/-- The part with a coil taken into test, before the correlator goes on. -/
def State.takenIntoTest (c : Coil) (test : Lbu) (u : State) : State :=
  let k := u.wdc.coils.get c
  { u with
    lbu := test
    rse := { u.rse with stopTest := true }
    zcu := { u.zcu with
      frozen := true
      outTimer :=
        if u.zcu.outTimer.st = .running then { u.zcu.outTimer with st := .paused } else u.zcu.outTimer }
    wdc := { u.wdc with
      coils := u.wdc.coils.set c { k with silent := false, timer := { k.timer with st := .stopped } }
      lanes := u.wdc.lanes.map fun l => l.set c ⟨none, none, 0, false, false⟩
      ring := u.wdc.ring.filter fun e => e.coil != c
      inCorr := u.wdc.inCorr.filter fun e => e.coil != c } }

/-- The part with a coil in test: the correlator has gone on, and the frozen zone context has the update. -/
def State.inTest (c : Coil) (test : Lbu) (u : State) : State :=
  zoneUpdate Published.none (correlatorTake (u.takenIntoTest c test))

theorem startTest_pattern (i : Slot) (c : Coil) (neg : Bool) (amplitude noise bursts : Nat) (u : State) :
    let p : TestParams := .wirePattern i c neg amplitude noise bursts
    startTest p u =
      if (u.inTest c p.started).placeDue then placeBurst (u.inTest c p.started) else u.inTest c p.started :=
  rfl

/-- What has become of the coil in test, and what the rest of the part has kept. -/
theorem inTest_frame (c : Coil) (test : Lbu) (u : State) :
    let w := u.inTest c test
    w = { u with
      lbu := test
      rse := { u.rse with stopTest := true }
      zcu := { (u.takenIntoTest c test).zcu with mirror := w.zcu.mirror }
      wdc := w.wdc } := by
  exact zoneUpdate_correlatorTake_frozen (s := u.takenIntoTest c test) rfl Published.none

/-- The records of the coil in test: no burst of it waits or is worked through, its lanes are fresh, its timer
stands (R26). -/
theorem inTest_wire (c : Coil) (test : Lbu) (u : State) :
    let w := u.inTest c test
    let k := u.wdc.coils.get c
    (∀ e ∈ w.wdc.ring, e.coil ≠ c) ∧ (∀ e, w.wdc.inCorr = some e → e.coil ≠ c) ∧
      (∀ j, (w.wdc.lanes.get j).get c = Lane.fresh) ∧
      w.wdc.coils.get c = { k with silent := false, timer := { k.timer with st := .stopped } } := by
  intro w k
  have hring : ∀ e ∈ (u.takenIntoTest c test).wdc.ring, e.coil ≠ c := fun e he => by
    simpa using (List.mem_filter.mp he).2
  have hcorr : ∀ e, (u.takenIntoTest c test).wdc.inCorr = some e → e.coil ≠ c := fun e he => by
    simpa using (Option.mem_filter_iff.mp he).2
  obtain ⟨hlanes, hcoil, htaken⟩ :=
    correlatorTake_coil (s := u.takenIntoTest c test) (c := c) fun e he hc => absurd hc (hring e he)
  have hwdc : w.wdc = (correlatorTake (u.takenIntoTest c test)).wdc := by simp [w, State.inTest]
  rw [hwdc]
  refine ⟨fun e he => hring e ((correlatorTake_ring _).subset he), fun e he => ?_, fun j => ?_, ?_⟩
  · exact (htaken e he).elim (hcorr e) (hring e)
  · have hlane : (u.takenIntoTest c test).wdc.lanes.get j =
        (u.wdc.lanes.get j).set c Lane.fresh := PerSlot.get_map _ _ j
    rw [hlanes, hlane, PerCoil.get_set]
  · exact hcoil.trans (PerCoil.get_set _ c _)

theorem inTest_bank (c : Coil) (test : Lbu) (u : State) : (u.inTest c test).bankView = u.bankView := by
  simp [State.bankView, State.inTest, State.takenIntoTest]

/-- The mirror has the lanes in test as PENDING (R17, R26, R42). -/
theorem inTest_mirror (c : Coil) (test : Lbu) (u : State) {j : Slot} (henabled : u.enabled j = true)
    (hlimit : 0 < u.lossLimit j) : (((u.inTest c test).zcu.mirror.get j).get c).cls = .pending := by
  have hfrozen : (correlatorTake (u.takenIntoTest c test)).zcu.frozen = true := by
    simp [State.takenIntoTest]
  have hbank : (correlatorTake (u.takenIntoTest c test)).bankView = u.bankView := by
    simp [State.bankView, State.takenIntoTest]
  obtain ⟨hen, hloss, -⟩ := bank_zone_figures hbank
  obtain ⟨-, -, hlanes, hcoil⟩ := inTest_wire c test u
  have hwdc : (u.inTest c test).wdc = (correlatorTake (u.takenIntoTest c test)).wdc := by simp [State.inTest]
  rw [hwdc] at hlanes hcoil
  rw [State.inTest, mirror_cls_of_frozen hfrozen Published.none (hen ▸ henabled), State.laneClass, hlanes, hcoil,
    hloss]
  simp [Lane.cls, Lane.fresh, hlimit]

end

/-! ### A synthesized burst -/

section
variable {s : State} {i : Slot} {c : Coil} {neg : Bool} {amplitude noise bursts : Nat}

/-- The samples of the next synthesized burst (R171). -/
def State.burstSamples (s : State) (i : Slot) (neg : Bool) (amplitude noise : Nat) : List Int :=
  s.synth (s.slotCode i) (if neg then -(amplitude : Int) else amplitude) noise 0 s.codeLength s.lbu.gen

/-- The part with the next synthesized burst in the ring, before the correlator goes on (R171). -/
def State.burstPlaced (s : State) (i : Slot) (c : Coil) (neg : Bool) (amplitude noise : Nat) : State :=
  joinRing ⟨c, s.lbu.record.placed % 256, s.burstSamples i neg amplitude noise, none⟩
    (ageLanes c { s with
      lbu := { s.lbu with
        left := s.lbu.left - 1
        gen := lfsrAfter s.codeLength s.lbu.gen
        record := { s.lbu.record with placed := bump s.lbu.record.placed } } })

theorem burstPlaced_lbu (s : State) (i : Slot) (c : Coil) (neg : Bool) (amplitude noise : Nat) :
    (s.burstPlaced i c neg amplitude noise).lbu = { s.lbu with
      left := s.lbu.left - 1
      gen := lfsrAfter s.codeLength s.lbu.gen
      record := { s.lbu.record with placed := bump s.lbu.record.placed } } :=
  rfl

theorem placeBurst_eq (h : s.lbu.params = .wirePattern i c neg amplitude noise bursts) :
    placeBurst s =
      zoneUpdate Published.none (correlatorTake (s.burstPlaced i c neg amplitude noise)) := by
  unfold placeBurst
  rw [h]
  dsimp only
  simp only [genSteps_eq]
  rfl

/-- A burst placed during a freeze reaches the Wire Decoder, the test and the mirror alone. -/
theorem placeBurst_frozen (h : s.lbu.params = .wirePattern i c neg amplitude noise bursts)
    (hfrozen : s.zcu.frozen = true) :
    let v := placeBurst s
    v = { s with
      wdc := v.wdc
      lbu := (s.burstPlaced i c neg amplitude noise).lbu
      zcu := { s.zcu with mirror := v.zcu.mirror } } := by
  rw [placeBurst_eq h]
  have hstill : (s.burstPlaced i c neg amplitude noise).zcu.frozen = true := hfrozen
  exact zoneUpdate_correlatorTake_frozen hstill Published.none

/-- The record of the coil whose synthesized burst is placed, where none of its bursts waits. -/
theorem placeBurst_coil (h : s.lbu.params = .wirePattern i c neg amplitude noise bursts)
    (hring : ∀ e ∈ s.wdc.ring, e.coil ≠ c) :
    (placeBurst s).wdc.coils.get c = s.wdc.coils.get c := by
  have hgap : ∀ e ∈ (s.burstPlaced i c neg amplitude noise).wdc.ring, e.coil = c → e.gap = none := by
    intro e he hc
    rcases List.mem_append.mp he with he | he
    · exact absurd hc (hring e he)
    · rw [List.mem_singleton.mp he]
  obtain ⟨-, hcoil, -⟩ := correlatorTake_coil hgap
  have hwdc : (placeBurst s).wdc = (correlatorTake (s.burstPlaced i c neg amplitude noise)).wdc := by
    rw [placeBurst_eq h]
    simp
  rw [hwdc, hcoil]
  rfl

/-- The next synthesized burst may be placed where bursts are left, none of the coil waits, and the ring has
room (R171). -/
theorem placeDue_iff (hrun : s.lbu.status = .running)
    (h : s.lbu.params = .wirePattern i c neg amplitude noise bursts) :
    s.placeDue = true ↔ 0 < s.lbu.left ∧ (∀ e ∈ s.wdc.ring, e.coil ≠ c) ∧ s.wdc.ring.length < 4 := by
  have hwire : s.wireTest = some (i, c) := by simp [State.wireTest, State.testRunning, hrun, h]
  simp only [State.placeDue, hwire, State.synthWaiting]
  simp [and_assoc]

end

end Sys2Proof.Machine
end

section
/-! The start of each kind of test (R42, R122, R168, R171). -/

namespace Sys2Proof.Machine

section
variable {u : State} {p : List Byte}

/-- A test that names neither slot nor node is refused for the state alone. -/
theorem judgeTest_nLink (u : State) (sec : Nat) :
    u.judgeTest (.nLinkEcho sec) = if u.testState then .ok else .refusedState := by
  cases h : u.testState <;> simp [State.judgeTest, State.testSlotDisabled, State.testNodeAbsent, State.testQueueBusy, h]

theorem judgeTest_dLink {n : Node} {frames : Nat} (hnode : u.nodeKind n ≠ .noNode) (hstate : u.testState = true) :
    u.judgeTest (.dLinkEcho n frames) = if u.dlc.queue = [] then .ok else .retry := by
  rw [judgeTest_of_ready rfl (testNodeAbsent_dLink hnode) hstate]
  by_cases hqueue : u.dlc.queue = [] <;> simp [State.testQueueBusy, hqueue]

theorem judgeTest_pattern {i : Slot} {c : Coil} {neg : Bool} {amplitude noise bursts : Nat}
    (henabled : u.enabled i = true) (hstate : u.testState = true) :
    u.judgeTest (.wirePattern i c neg amplitude noise bursts) = .ok := by
  rw [judgeTest_of_ready (by simp [State.testSlotDisabled, henabled]) rfl hstate]
  rfl

/-- What an accepted wire pattern test has made of the part, whether its first burst is placed or not. -/
def State.PatternStarted (u v : State) (c : Coil) : Prop :=
  v.lbu.status = .running ∧ v.lbu.kind = .wirePattern ∧ v.rse.stopTest = true ∧ v.zcu.frozen = true ∧
    v.zcu.loops = u.zcu.loops ∧ v.zcu.active = u.zcu.active ∧ (v.wdc.coils.get c).timer.st = .stopped ∧
    (v.wdc.coils.get c).silent = false ∧ v.mem = u.mem ∧ v.mgt = u.mgt ∧ v.dlc = u.dlc ∧ v.dkc = u.dkc

section
variable {i : Slot} {c : Coil} {neg : Bool} {amplitude noise bursts : Nat}

/-- The test a wire pattern START_TEST starts. -/
def patternTest (i : Slot) (c : Coil) (neg : Bool) (amplitude noise bursts : Nat) : Lbu :=
  (TestParams.wirePattern i c neg amplitude noise bursts).started

theorem inTest_lbu (c : Coil) (test : Lbu) (u : State) : (u.inTest c test).lbu = test := by
  rw [inTest_frame]

theorem inTest_zcu (c : Coil) (test : Lbu) (u : State) :
    (u.inTest c test).zcu =
      { (u.takenIntoTest c test).zcu with mirror := (u.inTest c test).zcu.mirror } :=
  congrArg State.zcu (inTest_frame c test u)

theorem inTest_placeDue_iff (hbursts : 1 ≤ bursts) :
    (u.inTest c (patternTest i c neg amplitude noise bursts)).placeDue = true ↔
      (u.inTest c (patternTest i c neg amplitude noise bursts)).wdc.ring.length < 4 := by
  have hlbu := inTest_lbu c (patternTest i c neg amplitude noise bursts) u
  obtain ⟨hring, -, -, -⟩ := inTest_wire c (patternTest i c neg amplitude noise bursts) u
  rw [placeDue_iff (congrArg Lbu.status hlbu) (congrArg Lbu.params hlbu), hlbu]
  exact ⟨fun h => h.2.2, fun h => ⟨hbursts, hring, h⟩⟩

theorem patternStarted_inTest :
    u.PatternStarted (u.inTest c (patternTest i c neg amplitude noise bursts)) c := by
  obtain ⟨-, -, -, hcoil⟩ := inTest_wire c (patternTest i c neg amplitude noise bursts) u
  have hframe := inTest_frame c (patternTest i c neg amplitude noise bursts) u
  dsimp only at hframe hcoil
  have hkept {α : Type} (f : State → α) := congrArg f hframe
  exact ⟨hkept (·.lbu.status), hkept (·.lbu.kind), hkept (·.rse.stopTest), hkept (·.zcu.frozen), hkept (·.zcu.loops),
    hkept (·.zcu.active), congrArg (·.timer.st) hcoil, congrArg CoilUnit.silent hcoil, hkept State.mem,
    hkept State.mgt, hkept State.dlc, hkept State.dkc⟩

/-- The first burst of a test changes none of it. -/
theorem patternStarted_placeBurst {w : State} (hparams : w.lbu.params = .wirePattern i c neg amplitude noise bursts)
    (hring : ∀ e ∈ w.wdc.ring, e.coil ≠ c) (h : u.PatternStarted w c) : u.PatternStarted (placeBurst w) c := by
  obtain ⟨hstatus, hkind, hstop, hfrozen, hloops, hactive, htimer, hsilent, hmem, hmgt, hdlc, hdkc⟩ := h
  have hframe := placeBurst_frozen hparams hfrozen
  have hcoil := placeBurst_coil hparams hring
  dsimp only at hframe
  have hkept {α : Type} (f : State → α) := congrArg f hframe
  exact ⟨(hkept (·.lbu.status)).trans hstatus, (hkept (·.lbu.kind)).trans hkind,
    (hkept (·.rse.stopTest)).trans hstop, (hkept (·.zcu.frozen)).trans hfrozen, (hkept (·.zcu.loops)).trans hloops,
    (hkept (·.zcu.active)).trans hactive, (congrArg (·.timer.st) hcoil).trans htimer,
    (congrArg CoilUnit.silent hcoil).trans hsilent, (hkept State.mem).trans hmem, (hkept State.mgt).trans hmgt,
    (hkept State.dlc).trans hdlc, (hkept State.dkc).trans hdkc⟩

/-- The test after its first burst (R171). -/
theorem placeBurst_inTest_lbu :
    (placeBurst (u.inTest c (patternTest i c neg amplitude noise bursts))).lbu =
      { patternTest i c neg amplitude noise bursts with
        left := bursts - 1
        gen := lfsrAfter u.codeLength (BitVec.allOnes 15)
        record := { TestRecord.zero with placed := 1 } } := by
  have hlbu := inTest_lbu c (patternTest i c neg amplitude noise bursts) u
  have hlength := (bank_zone_figures (inTest_bank c (patternTest i c neg amplitude noise bursts) u)).2.2
  have hfrozen : (u.inTest c (patternTest i c neg amplitude noise bursts)).zcu.frozen = true := by
    rw [inTest_zcu]
    rfl
  have hframe := congrArg State.lbu (placeBurst_frozen (congrArg Lbu.params hlbu) hfrozen)
  refine (hframe.trans (burstPlaced_lbu _ i c neg amplitude noise)).trans ?_
  rw [hlbu, hlength]
  rfl

end

theorem exec_startTest {dt : Nat} {s : State} (held : s.resetHeld = false) (hhead : headIs 14 (arrive dt s) = true) :
    exec (.startTest dt) s = .next (requestTest (arrive dt s).headParams (arrive dt s)) :=
  exec_request (f := requestTest) (by unfold eventOf; rfl) held hhead

/-- Settles O50: the checks in their order, and the part as each kind of test starts it. -/
theorem testIsStarted : Obligations.TestIsStarted := by
  intro dt s held u p ready started code hhead
  have hexec : exec (.startTest dt) s = .next (requestTest p u) := exec_startTest held hhead
  have hready : u.testState = true ↔ ready := testState_iff u
  have hbad (hidle : u.testRunning = false) (hparse : parseTest p = none) : code .badParam :=
    hexec.trans (congrArg Host.Outcome.next (requestTest_of_bad hidle hparse))
  have hrefused {t : TestParams} {c : RespCode} (hidle : u.testRunning = false) (hparse : parseTest p = some t)
      (hjudge : u.judgeTest t = c) (hc : c ≠ .ok) : code c :=
    hexec.trans (congrArg Host.Outcome.next (requestTest_of_refused hidle hparse hjudge hc))
  have haccepted {t : TestParams} (hidle : u.testRunning = false) (hparse : parseTest p = some t)
      (hjudge : u.judgeTest t = .ok) : exec (.startTest dt) s = .next (answerThen t.after .ok [] (startTest t u)) :=
    hexec.trans (congrArg Host.Outcome.next (requestTest_of_accepted hidle hparse hjudge))
  refine ⟨fun hrun => hexec.trans (congrArg Host.Outcome.next (requestTest_of_running hrun)),
    fun hidle hkind => hbad hidle (parseTest_of_no_kind hkind), fun hidle hkind => ?nLink,
    fun hidle hkind h => hbad hidle (parseTest_of_dLink_bad hkind h),
    fun n hidle hkind hlen hframes hnode => ?dLink,
    fun hidle hkind h => hbad hidle (parseTest_of_pattern_bad hkind h), ?pattern⟩
  case nLink =>
    have hparse := parseTest_of_nLink hkind
    refine ⟨fun h => hbad hidle (hparse.trans (if_neg (by omega))), fun hlen hlow hhigh => ?_⟩
    rw [if_pos ⟨hlen, hlow, hhigh⟩] at hparse
    refine ⟨fun h => hrefused hidle hparse ?_ (by decide), fun h => haccepted hidle hparse ?_⟩
    · rw [judgeTest_nLink, if_neg (mt hready.mp h)]
    · rw [judgeTest_nLink, if_pos (hready.mpr h)]
  case dLink =>
    have hparse := (parseTest_of_dLink hkind hnode).trans (if_pos ⟨hlen, hframes⟩)
    refine ⟨fun h => hrefused hidle hparse ?_ (by decide), fun hfit h => hrefused hidle hparse ?_ (by decide),
      fun hfit h hqueue => hrefused hidle hparse ?_ (by decide), fun hfit h hqueue => haccepted hidle hparse ?_⟩
    · simp [State.judgeTest, State.testSlotDisabled, State.testNodeAbsent, h]
    · exact judgeTest_of_not_ready rfl (testNodeAbsent_dLink hfit) (mt hready.mp h)
    · rw [judgeTest_dLink hfit (hready.mpr h), if_neg hqueue]
    · rw [judgeTest_dLink hfit (hready.mpr h), if_pos hqueue]
  case pattern =>
    intro i c hidle hkind hlen hslot hcoil hpol hamp hnoise hbursts negative first frozen k w
    have hparse := (parseTest_of_pattern hkind (slotOfNat?_of_eq hslot) (coilOfNat?_of_eq hcoil)).trans
      (if_pos ⟨hlen, hpol, hamp, hnoise, hbursts⟩)
    refine ⟨fun h => hrefused hidle hparse ?_ (by decide), fun henabled h => hrefused hidle hparse ?_ (by decide),
      fun henabled h => ?_⟩
    · simp [State.judgeTest, State.testSlotDisabled, h]
    · exact judgeTest_of_not_ready (by simp [State.testSlotDisabled, henabled]) rfl (mt hready.mp h)
    have hstart := haccepted hidle hparse (judgeTest_pattern henabled (hready.mpr h))
    rw [startTest_pattern] at hstart
    have hw : u.inTest c (patternTest i c negative (wordAt p 4) (wordAt p 6) (byteAt p 8)) = w := rfl
    have hdue := inTest_placeDue_iff (u := u) (i := i) (c := c) (neg := negative) (amplitude := wordAt p 4)
      (noise := wordAt p 6) hbursts
    have hlbu := inTest_lbu c (patternTest i c negative (wordAt p 4) (wordAt p 6) (byteAt p 8)) u
    have hzcu := inTest_zcu c (patternTest i c negative (wordAt p 4) (wordAt p 6) (byteAt p 8)) u
    obtain ⟨hring, hcorr, hlanes, hunit⟩ :=
      inTest_wire c (patternTest i c negative (wordAt p 4) (wordAt p 6) (byteAt p 8)) u
    have hstarted : u.PatternStarted w c :=
      patternStarted_inTest (i := i) (neg := negative) (amplitude := wordAt p 4) (noise := wordAt p 6)
    have hfull (hroom : 4 ≤ w.wdc.ring.length) : exec (.startTest dt) s = .next (answer .ok [] w) :=
      hstart.trans (congrArg (fun x => Host.Outcome.next (answerThen .nothing .ok [] x))
        (if_neg fun hplace => absurd (hdue.mp hplace) (Nat.not_lt.mpr hroom)))
    have hplaced (hroom : w.wdc.ring.length < 4) : exec (.startTest dt) s = .next (answer .ok [] (placeBurst w)) :=
      hstart.trans (congrArg (fun x => Host.Outcome.next (answerThen .nothing .ok [] x)) (if_pos (hdue.mpr hroom)))
    refine ⟨hlbu, hzcu, hring, hcorr, fun j => ⟨hlanes j, inTest_mirror c _ u⟩, hunit, hfull,
      fun hroom => ⟨hplaced hroom, placeBurst_inTest_lbu⟩, ?_⟩
    rcases Nat.lt_or_ge w.wdc.ring.length 4 with hroom | hroom
    · exact ⟨placeBurst w, hplaced hroom, patternStarted_placeBurst (congrArg Lbu.params hlbu) hring hstarted⟩
    · exact ⟨w, hfull hroom, hstarted⟩

end

end Sys2Proof.Machine
end

section
/-! What the hand-offs of the zone context leave, the recomputation that ends a freeze, and the end of a wire pattern
test (R26, R30, R42, R172). -/

namespace Sys2Proof.Machine

/-! ### The zone context's triggers and hand-offs -/

namespace KeptOnLink

variable {P : State → Prop} {s : State}

theorem tiltTest (h : KeptOnLink P) (hs : P s) : P (tiltTest s) := by
  unfold Machine.tiltTest
  split
  · split
    · exact hs
    · exact hs
    · split
      · exact h.raiseFixed _ _ (h.same hs)
      · exact h.same hs
  · split
    · exact h.same hs
    · exact h.same hs
    · exact hs

theorem raiseAll (h : KeptOnLink P) (trigs : List (Trig × Option Nat)) (hs : P s) : P (raiseAll trigs s) := by
  unfold Machine.raiseAll
  induction trigs generalizing s with
  | nil => exact hs
  | cons e rest ih => exact ih (h.raise e.1 e.2 hs)

theorem zoneToGate (h : KeptOnLink P) (before : State) (hs : P s) : P (zoneToGate before s) := by
  have htold : P (if s.zcu.active = before.zcu.active then s else Machine.tiltTest (gateTakesZone s)) := by
    split
    · exact hs
    · exact h.tiltTest (h.evaluate (h.same hs))
  have hstrength {t : State} (ht : P t) : P (gateTakesStrength t) := by
    have htaken : P (onMgt (fun m => { m with prox := t.zcu.prox }) t) := h.same ht
    unfold gateTakesStrength
    extract_lets
    split
    · exact htaken
    · exact h.evaluate htaken
  exact hstrength htold

theorem takeGuide (h : KeptOnLink P) (g : GuideSeen) (hs : P s) : P (takeGuide g s) := by
  have hseen : P { s with dkc := { s.dkc with guide := g } } := h.same hs
  rw [takeGuide_eq]
  unfold guideSeen
  split
  · split
    · exact h.stationTest (h.formSteering (h.same hseen))
    · exact hseen
  · split
    · exact h.formSteering hseen
    · exact hseen

theorem zoneToDock (h : KeptOnLink P) (guide station : Bool) (hs : P s) : P (zoneToDock guide station s) := by
  unfold Machine.zoneToDock
  extract_lets told
  have htold : P told := by
    simp only [told]
    split
    · exact h.dkcEvent (h.takeGuide _ hs)
    · exact hs
  split
  · exact h.dkcEvent (h.stationTest (h.onDkc _ htold))
  · exact htold

/-- The stages of an update that forms a zone context keep what holds with it. -/
theorem zoneCarried (h : KeptOnLink P) (trigs : List (Trig × Option Nat)) (z : Zcu) (guide station : Bool)
    (hz : P { s with zcu := { z with outTimer := z.outTimer.stop } }) : P (zoneCarried trigs z guide station s) :=
  h.outsideTest (h.zoneToDock _ _ (h.zoneToGate _ (h.same (h.raiseAll trigs hz))))

end KeptOnLink

/-- No post and no trigger changes the mirror, the loops, the freeze or the active zone. -/
theorem keptOnLink_zone (v : PerSlot (PerCoil MirrorLane) × PerSlot LoopState × Bool × Option Slot) :
    KeptOnLink fun s => s.zoneAside = v where
  still _ haside hs := (congrArg Prod.fst haside).trans hs
  posts _ _ hs := hs
  arbitrate {s} hs := by
    have hzcu : (arbitrate s).zcu = s.zcu := by simp
    rw [State.zoneAside, hzcu]
    exact hs

/-- No post and no trigger sets the flag of a test or of a swap. -/
theorem keptOnLink_endFlags (v : Nat × Option (List Byte) × Option (List Byte)) :
    KeptOnLink fun s => s.endFlags = v where
  still _ haside hs := (congrArg Prod.snd haside).trans hs
  posts _ _ hs := hs
  arbitrate {s} hs := (endFlags_of_flags (by simp)).trans hs

theorem zoneUpdate_endFlags (pub : Published) (s : State) : (zoneUpdate pub s).endFlags = s.endFlags := by
  unfold zoneUpdate
  split
  · extract_lets m
    split
    · rfl
    · exact (keptOnLink_endFlags s.endFlags).zoneCarried _ _ _ _ rfl
  · rfl

/-! ### The recomputation -/

/-- The loop states that the mirror gives. -/
def State.loopsOfMirror (s : State) : PerSlot LoopState := PerSlot.of (s.loopFrom s.zcu.mirror)

theorem loopsOfMirror_get (s : State) (i : Slot) :
    s.loopsOfMirror.get i =
      if s.enabled i = true then loopOf (s.zcu.mirror.get i).left.cls (s.zcu.mirror.get i).right.cls
      else .disabled :=
  PerSlot.get_of _ i

theorem zoneIsRecomputed : ZoneIsRecomputed := by
  intro s f
  refine ⟨s.loopsOfMirror, loopsOfMirror_get s, ?_⟩
  intro z timer r
  obtain ⟨-, -, hraise, hquiet⟩ := heldTimerRaises r
  have hrecompute : zoneRecompute s = outsideTest r := rfl
  exact ⟨zoneIsSettled f s.zcu.mirror s.loopsOfMirror, fun h => hrecompute.trans (hquiet h),
    fun i h => hrecompute.trans (hraise i h)⟩

/-- After the recomputation the context is no longer frozen, and the loop states are those of the mirror. -/
theorem zoneRecompute_zone (s : State) :
    (zoneRecompute s).zcu.mirror = s.zcu.mirror ∧ (zoneRecompute s).zcu.loops = s.loopsOfMirror ∧
      (zoneRecompute s).zcu.frozen = false := by
  have hzone : ∃ active, (zoneRecompute s).zoneAside = (s.zcu.mirror, s.loopsOfMirror, false, active) :=
    ⟨_, (keptOnLink_zone (s.zcu.mirror, s.loopsOfMirror, false, _)).zoneCarried _ _ _ _ rfl⟩
  obtain ⟨active, hzone⟩ := hzone
  simp only [State.zoneAside, Prod.mk.injEq] at hzone
  obtain ⟨hmirror, hloops, hfrozen, -⟩ := hzone
  exact ⟨hmirror, hloops, hfrozen⟩

theorem zoneRecompute_endFlags (s : State) : (zoneRecompute s).endFlags = s.endFlags := by
  unfold zoneRecompute
  exact (keptOnLink_endFlags s.endFlags).zoneCarried _ _ _ _ rfl

/-! ### The end of a test -/

theorem testOver_eq (status : TestStatus) (s : State) :
    testOver status s = testEnded (u8 s.lbu.kind.num) (u8 status.num) status s :=
  rfl

/-- A test that ends sets its flag where it was not set. -/
theorem testEnded_flag {kind status : Byte} {st : TestStatus} {s : State} (hlength : s.nli.flags.length = 19)
    (hflag : s.flag .testDone = none) : (testEnded kind status st s).flag .testDone = some [kind, status] := by
  have hset : (testEnded kind status st s).nli.flags = s.nli.flags.set EventFlag.testDone.num (some [kind, status]) :=
    setFlag_flags hflag
  rw [State.flag, hset, List.getD_eq_getElem?_getD, List.getElem?_set_self (by rw [hlength]; decide)]
  rfl

/-- The part with a coil out of test: its synthesized bursts are gone and it has restarted (R23, R26). -/
def State.takenOutOfTest (c : Coil) (s : State) : State := restartCoil c (dropBursts c s)

theorem patternDone_eq (c : Coil) (s : State) :
    patternDone c s =
      testEnded (u8 s.lbu.kind.num) 2#8 .completed (zoneRecompute (zoneUpdate Published.none (s.takenOutOfTest c))) := by
  have hlbu : (zoneRecompute (zoneUpdate Published.none (s.takenOutOfTest c))).lbu = s.lbu := by
    simp [State.takenOutOfTest]
  show testOver .completed (zoneRecompute (zoneUpdate Published.none (s.takenOutOfTest c))) = _
  rw [testOver_eq, hlbu]
  rfl

theorem takenOutOfTest_bank (c : Coil) (s : State) :
    (zoneUpdate Published.none (s.takenOutOfTest c)).bankView = s.bankView := by
  simp [State.bankView, State.takenOutOfTest]

theorem patternIsDone : PatternIsDone := by
  intro c s x restarted v
  have hrestarted : s.takenOutOfTest c = restarted := rfl
  have hv : v = _ := patternDone_eq c s
  rw [hrestarted] at hv
  obtain ⟨hmirror, hloops, hfrozen⟩ := zoneRecompute_zone (zoneUpdate Published.none restarted)
  have hzcu : v.zcu = (zoneRecompute (zoneUpdate Published.none restarted)).zcu := by rw [hv]; simp [testEnded]
  have hlbu : v.lbu = { s.lbu with status := .completed, begun := false, beginDue := false } := by
    rw [hv]
    simp [testEnded, restarted]
  refine ⟨hv, ?_, congrArg Lbu.status hlbu, (congrArg Lbu.record hlbu :), ?_, by rw [hzcu, hfrozen], fun hlength hflag => ?_,
    fun i => ?_⟩
  · rw [hv]
    simp [testEnded]
  · rw [hv]
    simp [testEnded]
  · have hflags := (zoneRecompute_endFlags _).trans (zoneUpdate_endFlags Published.none restarted)
    simp only [State.endFlags, Prod.mk.injEq] at hflags
    obtain ⟨hlength', hflag', -⟩ := hflags
    rw [hv]
    exact testEnded_flag (hlength'.trans hlength) (hflag'.trans hflag)
  · have hbank : (zoneUpdate Published.none restarted).bankView = s.bankView := takenOutOfTest_bank c s
    rw [hzcu, hloops, hmirror, loopsOfMirror_get, (bank_zone_figures hbank).1]

end Sys2Proof.Machine
end

section
/-! The commands inside a running test (R26, R42, R169 to R172). -/

namespace Sys2Proof.Machine

/-! ### The D-link echo -/

theorem echoSend_eq {s : State} {n : Node} {frames : Nat} (h : s.lbu.params = .dLinkEcho n frames) :
    let l := s.lbu
    let bytes := echoRequest (frames + 1 - l.left) l.gen
    echoSend s = { s with
      dlc := { s.dlc with
        tx := some ⟨n, s.nodeKind n, .echo bytes, requestFrame n (.echo bytes), false, 0, s.responseTimeout, false⟩
        cnt := { s.dlc.cnt with framesSent := bump s.dlc.cnt.framesSent } }
      lbu := { l with
        left := l.left - 1
        gen := lfsrAfter 56 l.gen
        record := { l.record with sent := bump l.record.sent } } } := by
  intro l bytes
  unfold echoSend
  split
  · next n' frames' h' =>
    obtain ⟨rfl, rfl⟩ := TestParams.dLinkEcho.inj (h.symm.trans h')
    simp only [genSteps_eq, echoBytes_eq]
    rfl
  · next hother => exact absurd h (hother n frames)

theorem dLinkEchoGoesOn : DLinkEchoGoesOn := by
  intro s n frames hparams l
  refine ⟨fun hleft => ?_, fun hleft => ?_⟩
  · intro bytes
    exact (if_pos hleft).trans (echoSend_eq hparams)
  · exact if_neg (Nat.not_lt.mpr (Nat.le_of_eq hleft))

/-! ### The end of a correlation during a wire pattern test -/

section
variable {u : State} {i : Slot} {c : Coil} {e : RingEntry}

/-- The record of a test after a verdict, each kind counted (R171). -/
theorem take_eq (w : Verdict) (r : TestRecord) :
    let one (kind : VerdictKind) (n : Nat) : Nat := if w.kind = kind then bump n else n
    r.take w = { r with
      last := some w
      lockedIn := one .lockedIn r.lockedIn
      lockedOut := one .lockedOut r.lockedOut
      weakIn := one .weakIn r.weakIn
      weakOut := one .weakOut r.weakOut
      absent := one .absent r.absent } := by
  intro one
  unfold TestRecord.take
  simp only [one]
  cases w.kind <;> rfl

/-- The tested lane's verdict with a burst of its coil. -/
theorem testedVerdict_eq (hwire : u.wireTest = some (i, c)) :
    u.testedVerdict e =
      if e.coil = c ∧ u.enabled i = true then (u.stepLane i e ((u.wdc.lanes.get i).get c)).2 else none := by
  simp only [State.testedVerdict, hwire, State.laneStep]
  by_cases hcoil : e.coil = c
  · subst hcoil
    cases henabled : u.enabled i <;> simp
  · rw [if_neg (fun h => hcoil h.symm), if_neg (fun h => hcoil h.1)]

/-- The part with the lanes stepped and the tested lane's verdict recorded. -/
def State.recorded (u : State) (e : RingEntry) : State := recordVerdict (u.testedVerdict e) (stepLanes e u)

theorem recorded_eq (u : State) (e : RingEntry) :
    u.recorded e = { u with
      wdc := (stepLanes e u).wdc
      lbu := { u.lbu with
        record := match u.testedVerdict e with
          | some v => u.lbu.record.take v
          | none => u.lbu.record } } := by
  unfold State.recorded recordVerdict
  cases u.testedVerdict e <;> rfl

theorem wireTest_congr {s t : State} (hstatus : t.lbu.status = s.lbu.status) (hparams : t.lbu.params = s.lbu.params) :
    t.wireTest = s.wireTest := by
  unfold State.wireTest State.testRunning
  rw [hstatus, hparams]

/-- The test is over at the end of the correlation of its last synthesized burst (R172). -/
theorem patternOver_iff {t : State} (hwire : t.wireTest = some (i, c)) :
    t.patternOver e = true ↔ e.coil = c ∧ t.lbu.left = 0 ∧ ∀ x ∈ t.wdc.ring, x.coil ≠ c := by
  simp only [State.patternOver, hwire, State.synthWaiting, Bool.and_eq_true, Bool.not_eq_true', beq_iff_eq, and_assoc,
    List.any_eq_false]
  exact and_congr_left' eq_comm

/-- The burst in correlation is worked through during a wire pattern test. -/
theorem correlationOver_of_test (hburst : u.wdc.inCorr = some e) (hwire : u.wireTest = some (i, c)) :
    let last := e.coil = c ∧ u.lbu.left = 0 ∧ ∀ x ∈ u.wdc.ring, x.coil ≠ c
    let t := zoneUpdate (u.publishedBy e) (u.recorded e)
    (last → correlationOver u = correlatorTake (patternDone c t)) ∧
      (¬ last → correlationOver u = correlatorTake t) := by
  intro last t
  have hover : correlationOver u = correlatorTake (if t.patternOver e then patternDone e.coil t else t) := by
    rw [correlationOver, hburst]
    rfl
  have hlbu : t.lbu = (u.recorded e).lbu := by simp [t]
  have hring : t.wdc.ring = u.wdc.ring := by
    have hwdc : t.wdc = (u.recorded e).wdc := by simp [t]
    rw [hwdc, recorded_eq]
    rfl
  rw [recorded_eq] at hlbu
  dsimp only at hlbu
  have htest : t.wireTest = some (i, c) :=
    (wireTest_congr (congrArg Lbu.status hlbu :) (congrArg Lbu.params hlbu :)).trans hwire
  have hlast : t.patternOver e = true ↔ last := by
    rw [patternOver_iff htest, hring, show t.lbu.left = u.lbu.left from (congrArg Lbu.left hlbu :)]
  rw [hover]
  refine ⟨fun h => ?_, fun h => ?_⟩
  · rw [if_pos (hlast.mpr h), h.1]
  · rw [if_neg (mt hlast.mp h)]

end

/-- Settles O51: each command inside a test by its condition, and what it leaves. -/
theorem testsRun : Obligations.TestsRun := by
  refine ⟨dLinkEchoGoesOn, lanesAreClassed, zoneIsRecomputed, patternIsDone, ?_⟩
  intro dt s held u l hrun
  have htest : u.testRunning = true := by simp [State.testRunning, show u.lbu.status = .running from hrun]
  refine ⟨fun hkind hdue => ?begin, fun sec hkind hbegun hparams htime => ?finish,
    fun n frames hkind hbegun hparams hfree => ?link, fun i c neg amplitude noise bursts hparams => ⟨?place, ?correlate⟩⟩
  case begin =>
    have hready : u.echoBeginDue = true := by
      simp [State.echoBeginDue, htest, show u.lbu.kind = .nLinkEcho from hkind, show u.lbu.beginDue = true from hdue]
    rw [exec_of_running _ held]
    exact congrArg Host.Outcome.next (whenDue_of_due (f := nEchoBegin) hready)
  case finish =>
    have hready : u.echoEndDue = true := by
      simp [State.echoEndDue, State.nEchoing, htest, show u.lbu.kind = .nLinkEcho from hkind,
        show u.lbu.begun = true from hbegun, show u.lbu.params = .nLinkEcho sec from hparams,
        show ms (1000 * sec) ≤ u.lbu.echoTime from htime]
    have hnumber : u8 u.lbu.kind.num = 1#8 := by rw [show u.lbu.kind = .nLinkEcho from hkind]; rfl
    have hover : testOver .completed u = testEnded 1#8 2#8 .completed u := by
      rw [testOver_eq, hnumber]
      rfl
    rw [exec_of_running _ held]
    exact congrArg Host.Outcome.next ((whenDue_of_due (f := testOver .completed) hready).trans hover)
  case link =>
    intro bytes
    have hready : u.takeLinkDue = true := by
      simp [State.takeLinkDue, State.dEchoRunning, htest, show u.lbu.kind = .dLinkEcho from hkind,
        show u.lbu.begun = false from hbegun, hfree]
    rw [exec_of_running _ held]
    exact congrArg Host.Outcome.next ((whenDue_of_due (f := takeLink) hready).trans
      (echoSend_eq (s := onLbu (fun l => { l with begun := true }) u) hparams))
  case place =>
    intro hleft hnone hroom
    have hready : u.placeDue = true := (placeDue_iff hrun hparams).mpr ⟨hleft, hnone, hroom⟩
    refine ⟨u.burstPlaced i c neg amplitude noise, u.burstSamples i neg amplitude noise, ?_, rfl, rfl, rfl, rfl,
      fun j k => mapLanes_get c (fun l => { l with burstsSince := min (l.burstsSince + 1) 255 }) u j k, rfl, synth_length .., fun k hk => ?_⟩
    · rw [exec_of_running _ held]
      exact congrArg Host.Outcome.next ((whenDue_of_due (f := placeBurst) hready).trans (placeBurst_eq hparams))
    · intro level n
      refine (synth_getElem? u _ _ _ 0 u.codeLength u.lbu.gen hk).trans ?_
      rw [Nat.zero_add]
  case correlate =>
    intro e hburst lane found last
    have hwire : u.wireTest = some (i, c) := by
      simp [State.wireTest, htest, show u.lbu.params = .wirePattern i c neg amplitude noise bursts from hparams]
    have hfound : u.testedVerdict e = found := testedVerdict_eq hwire
    obtain ⟨hlast, hmore⟩ := correlationOver_of_test hburst hwire
    have hrecorded := recorded_eq u e
    rw [hfound] at hrecorded
    refine ⟨u.recorded e, (u.recorded e).lbu.record, ?_, ?_, fun hnone => ?_, fun w hw => ?_, fun h => ?_, fun h => ?_⟩
    · rw [hrecorded]
      rfl
    · intro j k
      have hlanes : (u.recorded e).wdc.lanes = (stepLanes e u).wdc.lanes := by rw [hrecorded]
      rw [hlanes]
      exact stepLanes_lane e u j k
    · rw [hrecorded, hnone]
    · rw [hrecorded, hw]
      exact take_eq w u.lbu.record
    · rw [exec_of_running _ held]
      exact congrArg Host.Outcome.next (hlast h)
    · rw [exec_of_running _ held]
      exact congrArg Host.Outcome.next (hmore h)

end Sys2Proof.Machine
end

section
/-! The drive link and the gate take a new bank (R65, R82, R103, R127). -/

namespace Sys2Proof.Machine

/-! ### The drive link -/

section
variable {s : State} {before : PerSix NodeKind}

/-- Where the held relay command goes with its node, or stays. -/
def State.relayAfterSwap (s : State) (before : PerSix NodeKind) : Option (Node × Bool) :=
  if s.relayGoes before then none else s.dlc.relayHeld

theorem kindKept_iff (n : Node) : s.kindKept before n = true ↔ before.get n = s.nodeKind n := beq_iff_eq

theorem relayGoes_of_held {n : Node} {c : Bool} (h : s.dlc.relayHeld = some (n, c)) :
    s.relayGoes before = !s.kindKept before n := by
  simp only [State.relayGoes, h]

theorem relayGoes_of_none (h : s.dlc.relayHeld = none) : s.relayGoes before = false := by
  simp only [State.relayGoes, h]

/-- The drive link before what stands behind the zeros and the held relay command join its queue. -/
def State.swapKept (s : State) (before : PerSix NodeKind) : Dlc :=
  let stays (e : QEntry) : Bool := before.get e.node == s.nodeKind e.node
  let gone := if s.relayGoes before then 1 else 0
  { s.dlc with
    recs := PerSix.of (s.swapRec before)
    behind := s.dlc.behind.filter stays
    relayHeld := s.relayAfterSwap before
    tx := s.dlc.tx.map fun t => { t with renewed := t.renewed || !s.kindKept before t.node }
    cnt := { s.dlc.cnt with
      discards := bumpBy
        (s.dlc.queue.length - (s.dlc.queue.filter stays).length +
          (s.dlc.behind.length - (s.dlc.behind.filter stays).length) + gone)
        s.dlc.cnt.discards } }

theorem swapDlc_eq (s : State) (before : PerSix NodeKind) :
    s.swapDlc before = afterLeaving { s.swapKept before with
      queue := s.dlc.queue.filter fun e => before.get e.node == s.nodeKind e.node } := by
  have hleave : ((s.dlc.queue ++ s.dlc.behind).filter fun e => !s.kindKept before e.node).length =
      s.dlc.queue.length - (s.dlc.queue.filter fun e => s.kindKept before e.node).length +
        (s.dlc.behind.length - (s.dlc.behind.filter fun e => s.kindKept before e.node).length) := by
    rw [List.filter_append, List.length_append, length_filter_not, length_filter_not]
  unfold State.swapDlc
  dsimp only
  rw [hleave]
  rfl

theorem swapDlc_unposted (s : State) (before : PerSix NodeKind) :
    (s.swapDlc before).recs = PerSix.of (s.swapRec before) ∧
      (s.swapDlc before).tx =
        s.dlc.tx.map (fun t => { t with renewed := t.renewed || !s.kindKept before t.node }) ∧
      (s.swapDlc before).read = s.dlc.read := by
  have h := afterLeaving_unposted { s.swapKept before with
    queue := s.dlc.queue.filter fun e => before.get e.node == s.nodeKind e.node }
  rw [← swapDlc_eq] at h
  simp only [Dlc.unposted, Prod.mk.injEq] at h
  obtain ⟨hrecs, htx, hread, -, -⟩ := h
  exact ⟨hrecs, htx, hread⟩

theorem powerNode_of_bank {t : State} (h : t.bankView = s.bankView) : t.powerNode = s.powerNode := by
  simp only [State.powerNode, nodeKind_of_bank h]

theorem swapRead_of_kept {t : State} (h : t.dlc.read = none ∨ ∃ r, t.dlc.read = some r ∧ t.nodeKind r.node ≠ .noNode) :
    swapRead t = t := by
  rcases h with h | ⟨r, hr, hkind⟩
  · simp only [swapRead, h]
  · simp only [swapRead, hr, if_pos hkind]

theorem swapRead_of_flying {t : State} {r : PassReadReq} (hr : t.dlc.read = some r) (hkind : t.nodeKind r.node = .noNode)
    (hflying : r.inFlight = true) :
    swapRead t = { t with dlc := { t.dlc with read := some { r with gone := true } } } := by
  simp only [swapRead, hr, hkind, hflying, ne_eq, not_true_eq_false, if_false, if_true]
  rfl

theorem swapRead_of_waiting {t : State} {r : PassReadReq} (hr : t.dlc.read = some r)
    (hkind : t.nodeKind r.node = .noNode) (hwaiting : r.inFlight = false) : swapRead t = refuseRead t := by
  simp only [swapRead, hr, hkind, hwaiting, ne_eq, not_true_eq_false, if_false, Bool.false_eq_true]

theorem swapRead_bank (t : State) : (swapRead t).bankView = t.bankView := by
  unfold swapRead
  (repeat' split) <;> simp [State.bankView, refuseRead]

end

theorem dlcTakesTheBank : DlcTakesTheBank := by
  intro before powerBefore s d stays kept keptBehind
  obtain ⟨hrecs, htx, hread⟩ := swapDlc_unposted s before
  have hrec : ∀ n, (s.swapDlc before).recs.get n = s.swapRec before n := fun n => by rw [hrecs, PerSix.get_of]
  have hself : { s.swapDlc before with read := d.read } = s.swapDlc before := by
    rw [show d.read = (s.swapDlc before).read from hread.symm]
  refine ⟨s.swapDlc before, s.relayAfterSwap before, if s.relayGoes before then 1 else 0,
    swapRead { s with dlc := s.swapDlc before }, fun n c hheld => ?_, fun hheld => ?_, fun n => ⟨fun h => ?_, fun h hnone => ?_,
    fun h hfit => ?_⟩, ?_, fun hnone => ?_, fun t ht => ⟨fun h => ?_, fun h => ?_⟩, fun r hr hkind =>
    ⟨fun hflying => ?_, fun hwaiting => ?_⟩, fun hkept => ?_, fun hpower => ?_, fun hpower => ?_⟩
  · rw [State.relayAfterSwap, relayGoes_of_held hheld]
    refine ⟨fun h => ?_, fun h => ?_⟩
    · simp [(kindKept_iff n).mpr h, d]
    · simp [Bool.eq_false_iff.mpr (mt (kindKept_iff n).mp h)]
  · rw [State.relayAfterSwap, relayGoes_of_none hheld]
    exact ⟨hheld, rfl⟩
  · rw [hrec, State.swapRec, if_pos ((kindKept_iff n).mpr h)]
  · rw [hrec, State.swapRec, if_neg (mt (kindKept_iff n).mp h), if_pos hnone]
  · rw [hrec, State.swapRec, if_neg (mt (kindKept_iff n).mp h), if_neg hfit]
    rfl
  · rw [hrecs, htx]
    have hleaves := leavesQueue_afterLeaving (s.swapKept before) kept
    rw [← swapDlc_eq] at hleaves
    exact hleaves
  · rw [htx, show s.dlc.tx = none from hnone]
    rfl
  · rw [htx, show s.dlc.tx = some t from ht, Option.map_some, (kindKept_iff t.node).mpr h]
    simp
  · rw [htx, show s.dlc.tx = some t from ht, Option.map_some, Bool.eq_false_iff.mpr (mt (kindKept_iff t.node).mp h)]
    simp
  · exact swapRead_of_flying (hread.trans hr) hkind hflying
  · exact swapRead_of_waiting (hread.trans hr) hkind hwaiting
  · rw [hself]
    refine swapRead_of_kept (hkept.imp (fun h => hread.trans h) ?_)
    rintro ⟨r, hr, hkind⟩
    exact ⟨r, hread.trans hr, hkind⟩
  all_goals
    have hnode : (swapRead { s with dlc := s.swapDlc before }).powerNode = s.powerNode :=
      powerNode_of_bank (swapRead_bank _)
  · exact if_pos (hnode.trans hpower)
  · exact if_neg (hnode ▸ hpower)

/-! ### The gate -/

/-- Two folds over the nodes agree where their steps do under the same tables. -/
theorem foldl_eq_of_bank {s : State} {f g : State → Node → State}
    (hstep : ∀ x n, x.bankView = s.bankView → f x n = g x n)
    (hbank : ∀ x n, x.bankView = s.bankView → (g x n).bankView = s.bankView) (l : List Node) {x : State}
    (hx : x.bankView = s.bankView) : l.foldl f x = l.foldl g x := by
  induction l generalizing x with
  | nil => rfl
  | cons n rest ih =>
    rw [List.foldl_cons, List.foldl_cons, hstep x n hx]
    exact ih (hbank x n hx)

/-- A post of a zero is recorded as 0 and counted. -/
theorem gatePost_zero {s : State} {n : Node} {zero : PostValue} (h : s.stillAt n = some zero) (o : Origin) (x : State) :
    gatePost n zero o x =
      let y := postSet n zero o x
      { y with
        mgt := { y.mgt with
          posted := y.mgt.posted.set n 0
          cnt := { y.mgt.cnt with posts := bump y.mgt.cnt.posts } } } := by
  have hspeed : zero.speed = 0 := zeroAt_speed (s := s) (n := n) h
  rw [gatePost, recordPost, hspeed]
  rfl

theorem swapStale_of_due {s : State} {c : NavCmd} (hc : s.mgt.cmd = some c) (hrun : s.mgt.age.st = .running)
    (hdue : s.ageLimit ≤ s.mgt.age.elapsed) :
    swapStale s = setFlag .cmdStale [u8 c.seq] { s with
      mgt := { s.mgt with
        cmd := some { c with mode := .stop }
        age := { s.mgt.age with st := .expired }
        cnt := { s.mgt.cnt with stale := bump s.mgt.cnt.stale } } } := by
  have hage : s.ageDue = true := by simp [State.ageDue, Timer.due, hrun, hdue]
  simp only [swapStale, hage, if_true, goStale, hc]
  rfl

theorem swapStale_of_quiet {s : State}
    (h : s.mgt.cmd = none ∨ s.mgt.age.st ≠ .running ∨ s.mgt.age.elapsed < s.ageLimit) : swapStale s = s := by
  rcases h with hnone | hquiet
  · simp only [swapStale, goStale, hnone, ite_self]
  · have hage : ¬ s.ageDue = true := by
      simp only [State.ageDue, Timer.due, Bool.and_eq_true, beq_iff_eq, decide_eq_true_eq]
      exact fun ⟨hrun, hdue⟩ => hquiet.elim (fun h => h hrun) (fun h => absurd hdue (Nat.not_le.mpr h))
    exact if_neg hage

theorem swapStale_bank (s : State) : (swapStale s).bankView = s.bankView := by
  unfold swapStale goStale
  (repeat' split) <;> simp [State.bankView]

theorem gateSwap_plain (before : PerSix NodeKind) (s : State) :
    gateSwap false before s = evaluate (swapZeroPosts before (swapStale s)) := by
  rw [gateSwap, evaluateAs, if_neg (by decide)]

theorem gateSwap_behind (before : PerSix NodeKind) (s : State) :
    gateSwap true before s = evaluateBehind (swapZeroPosts before (swapStale s)) := by
  rw [gateSwap, evaluateAs, if_pos rfl]

theorem gateTakesTheBank : GateTakesTheBank := by
  intro before s m origin posted fitted
  have hstep : ∀ x n, x.bankView = s.bankView →
      (if x.nodeKind n = before.get n then x
        else match x.zeroAt n with
          | some v => gatePost n v x.mgt.source.origin x
          | none => onMgt (fun m => { m with posted := m.posted.set n 0 }) x) = fitted x n := by
    intro x n hx
    rw [nodeKind_of_bank hx, zeroAt_eq_stillAt, stillAt_congr hx]
    refine if_congr Iff.rfl rfl ?_
    cases hzero : s.stillAt n with
    | none => rfl
    | some zero => exact gatePost_zero hzero _ x
  have hbank : ∀ x n, x.bankView = s.bankView → (fitted x n).bankView = s.bankView := by
    intro x n hx
    rw [← hstep x n hx, ← hx]
    split
    · rfl
    · split
      · simp [State.bankView]
      · rfl
  have hposts : swapZeroPosts before (swapStale s) = [0, 1, 2, 3, 4, 5].foldl fitted (swapStale s) :=
    foldl_eq_of_bank hstep hbank nodes (swapStale_bank s)
  refine ⟨swapStale s, fun c => swapStale_of_due, swapStale_of_quiet, ?_, ?_⟩
  · exact (gateSwap_plain before s).trans (congrArg evaluate hposts)
  · exact (gateSwap_behind before s).trans (congrArg evaluateBehind hposts)

end Sys2Proof.Machine
end

section
/-! The wire, the zone context, the pins and the Dock Controller take a new bank (R25, R43, R46, R54, R58, R163). -/

namespace Sys2Proof.Machine

/-! ### The axes after a swap -/

/-- The first pin that passes a test is the lowest-numbered one. -/
theorem pins_find_of_first {f : Pin → Bool} {p : Pin} (hp : f p = true) (hlow : ∀ q, q < p → f q = false) :
    pins.find? f = some p := by
  have hsorted : pins = List.finRange 8 := by decide
  rw [hsorted, List.find?_eq_some_iff_getElem]
  refine ⟨hp, p.val, by simp, by simp, fun j hj => ?_⟩
  have hfalse := hlow ⟨j, Nat.lt_trans hj p.isLt⟩ hj
  simpa using hfalse

section
variable {x : Spu} {restarted : Pin → Bool} {r : PinRole} {old : Axis} {p : Pin}

theorem axisAfter_of_first (hp : (x.units.get p).tilts r = true)
    (hlow : ∀ q, q < p → (x.units.get q).tilts r = false) :
    x.axisAfter restarted r old = if restarted p then ⟨.pending, 0⟩ else old := by
  have hpin : x.tiltPin r = some p := pins_find_of_first (f := fun p => (x.units.get p).tilts r) hp hlow
  simp only [Spu.axisAfter, hpin]

theorem axisAfter_of_none (h : ∀ p, (x.units.get p).tilts r = false) : x.axisAfter restarted r old = ⟨.absent, 0⟩ := by
  have hpin : x.tiltPin r = none := List.find?_eq_none.mpr fun p _ => by simp [h p]
  simp only [Spu.axisAfter, hpin]

end

/-! ### The part with the bank at the wire, the zone context and the pins -/

section
variable {s : State}

theorem wdcSwap_lane (s : State) (i : Slot) (c : Coil) :
    ((wdcSwap s).wdc.lanes.get i).get c = ⟨none, none, 0, false, false⟩ := by
  have hleft := mapLanes_get .left (fun _ => Lane.fresh) (restartCoil .right s) i c
  have hright := mapLanes_get .right (fun _ => Lane.fresh) s i c
  have htaken : ((wdcSwap s).wdc.lanes.get i).get c =
      if c = .left then Lane.fresh else if c = .right then Lane.fresh else (s.wdc.lanes.get i).get c := by
    rw [← hright]
    exact hleft
  rw [htaken]
  cases c <;> rfl

theorem wdcSwap_coil (s : State) (c : Coil) :
    (wdcSwap s).wdc.coils.get c = { s.wdc.coils.get c with
      expect := none, silent := false, timer := ⟨.running, 0⟩ } := by
  cases c <;> rfl

/-- A unit whose configuration the bank changes begins again, and any other stays (R46). -/
theorem swapUnit_eq (s : State) (p : Pin) :
    s.swapUnit p =
      if (s.spu.units.get p).cfg ≠ s.pinCfg p then
        PinUnit.begin (s.pinCfg p) (s.spu.levels.get p) (s.spu.units.get p).results (s.spu.units.get p).overruns
          (s.spu.units.get p).faults
      else s.spu.units.get p := by
  simp [State.swapUnit, State.unitChanged]

/-- The Sense Pin Unit with the bank taken, out of the settle. -/
def State.swappedSpu (s : State) : Spu :=
  ({ s.spu with units := PerPin.of s.swapUnit } : Spu).reformAxes s.unitChanged

theorem swappedSpu_unit (s : State) (p : Pin) : s.swappedSpu.units.get p = s.swapUnit p := PerPin.get_of _ p

theorem unitChanged_iff (s : State) (p : Pin) : s.unitChanged p = true ↔ (s.spu.units.get p).cfg ≠ s.pinCfg p :=
  bne_iff_ne

/-- The part with the bank at the wire, the zone context and the pins (R25, R43, R46). -/
def State.banked (s : State) : State := spuSwapUnits (zoneSwap (wdcSwap s))

theorem banked_of_settling (h : s.spu.settle ≠ none) : s.banked = zoneSwap (wdcSwap s) :=
  if_pos (Option.isSome_iff_ne_none.mpr h)

theorem pinCfg_of_bank {t : State} (h : t.bankView = s.bankView) : t.pinCfg = s.pinCfg := by
  funext p
  unfold State.pinCfg State.gen8 State.gen16 State.tableWord
  rw [tableByte_of_bank h]

theorem swapUnits_congr {t : State} (hspu : t.spu = s.spu) (hbank : t.bankView = s.bankView) :
    t.swapUnit = s.swapUnit ∧ t.unitChanged = s.unitChanged := by
  have hchanged : t.unitChanged = s.unitChanged := by
    funext p
    rw [State.unitChanged, State.unitChanged, hspu, pinCfg_of_bank hbank]
  refine ⟨?_, hchanged⟩
  funext p
  rw [State.swapUnit, State.swapUnit, hchanged, hspu, pinCfg_of_bank hbank]

theorem zoneFresh_of_bank {t : State} (h : t.bankView = s.bankView) (cnt : ZcuCounters) :
    t.zoneFresh cnt = s.zoneFresh cnt := by
  simp only [State.zoneFresh, (bank_zone_figures h).1, slotKind_of_bank h]

theorem wdcSwap_bank (s : State) : (wdcSwap s).bankView = s.bankView := by
  simp [State.bankView]

theorem restartCoil_eq (c : Coil) (s : State) : ∃ w, restartCoil c s = { s with wdc := w } := ⟨_, rfl⟩

theorem wdcSwap_eq (s : State) : ∃ w, wdcSwap s = { s with wdc := w } := by
  obtain ⟨right, hright⟩ := restartCoil_eq .right s
  obtain ⟨left, hleft⟩ := restartCoil_eq .left { s with wdc := right }
  rw [wdcSwap, hright, hleft]
  exact ⟨_, rfl⟩

/-- What the wire and the zone context make of a swap. -/
theorem zoneSwap_wdcSwap_eq (s : State) :
    zoneSwap (wdcSwap s) = { s with
      wdc := (wdcSwap s).wdc
      zcu := s.zoneFresh s.zcu.cnt
      mgt := { s.mgt with zone := none, prox := 0 } } := by
  rw [zoneSwap, zoneFresh_of_bank (wdcSwap_bank s)]
  obtain ⟨w, hw⟩ := wdcSwap_eq s
  rw [hw]

theorem banked_of_settled (h : s.spu.settle = none) :
    s.banked = { zoneSwap (wdcSwap s) with spu := s.swappedSpu } := by
  obtain ⟨hunits, hchanged⟩ := swapUnits_congr (s := s) (t := zoneSwap (wdcSwap s))
    (by simp [zoneSwap]) (by simp [zoneSwap, State.bankView])
  have hsettle : ¬ (zoneSwap (wdcSwap s)).spu.settle.isSome = true := by
    simp [zoneSwap, h]
  unfold State.banked spuSwapUnits
  rw [if_neg hsettle, hunits, hchanged]
  rfl

theorem banked_frame (s : State) :
    s.banked = { s with
      wdc := (wdcSwap s).wdc
      zcu := s.zoneFresh s.zcu.cnt
      mgt := { s.mgt with zone := none, prox := 0 }
      spu := s.banked.spu } := by
  cases h : s.spu.settle with
  | none => rw [banked_of_settled h, zoneSwap_wdcSwap_eq]
  | some t => rw [banked_of_settling (by simp [h]), zoneSwap_wdcSwap_eq]

theorem banked_wdc (s : State) : s.banked.wdc = (wdcSwap s).wdc := by rw [banked_frame]

theorem banked_zcu (s : State) : s.banked.zcu = s.zoneFresh s.zcu.cnt := by rw [banked_frame]

end

/-! ### The hand-offs of the Sense Pin Unit at a swap -/

theorem spuSwapHandOff_eq (z : State) :
    let g := if z.rainCond = z.dkc.rain then z else dockHandOn z (takeRain z.rainCond z)
    let r := tiltTest g
    spuSwapHandOff z =
      if r.spu.tilt.st = .running ∧ r.tiltPersistence ≤ r.spu.tilt.elapsed then
        raiseFixed .tiltOver none { r with spu := { r.spu with tilt := { r.spu.tilt with st := .spent } } }
      else r := by
  intro g r
  have hrain : (if z.rainCond != z.dkc.rain then dkcEvent (takeRain z.rainCond) z else z) = g := by
    rw [dkcEvent_eq_dockHandOn]
    by_cases h : z.rainCond = z.dkc.rain <;> simp [g, h]
  have hdue : r.spu.tilt.due r.tiltPersistence = true ↔
      r.spu.tilt.st = .running ∧ r.tiltPersistence ≤ r.spu.tilt.elapsed := by
    simp [Timer.due]
  unfold spuSwapHandOff
  rw [hrain]
  exact if_congr hdue rfl rfl

theorem telemetryRestart_eq (s : State) :
    telemetryRestart s = { s with
      nli := { s.nli with
        telemT := if s.telemetryInterval = 0 then ⟨.stopped, 0, 0⟩ else ⟨.running, 0, s.telemetryInterval⟩ } } :=
  rfl

theorem handBank_eq (behind : Bool) (before : PerSix NodeKind) (power : Option Node) (s : State) :
    handBank behind before power s =
      telemetryRestart (spuSwapHandOff
        (zoneToDock true true (gateSwap behind before (dlcSwap before power s.banked)))) :=
  rfl

theorem bankIsHandedOn : BankIsHandedOn := by
  intro behind before powerBefore s changed
  have hzcu := banked_zcu s
  have hwdc := banked_wdc s
  refine ⟨s.banked, _, _, _, ?frame, fun i c => ?lane, fun c => ?coil, ?ring, ?corr, ?malformed,
    fun i => ⟨?loops, fun c => ?mirror, ?arm⟩, ?active, ?exitArm, ?lostArm, ?timer, ?prox, ?station, ?frozen, ?cnt,
    fun hsettle => ?settling, fun hsettle => ?settled, rfl, rfl, rfl, ?hand⟩
  case frame =>
    rw [hwdc, hzcu]
    exact banked_frame s
  case lane => rw [hwdc, wdcSwap_lane]
  case coil => rw [hwdc, wdcSwap_coil]
  case ring | corr | malformed => all_goals rw [hwdc]; rfl
  case loops => rw [hzcu]; exact PerSlot.get_of _ i
  case mirror =>
    rw [hzcu]
    show ((PerSlot.all (PerCoil.all (⟨.pending, 0⟩ : MirrorLane))).get i).get c = _
    rw [PerSlot.get_all, PerCoil.get_all]
  case arm => rw [hzcu]; exact PerSlot.get_of _ i
  case active | exitArm | lostArm | timer | prox | station | frozen | cnt => all_goals rw [hzcu]; rfl
  case settling => simp [banked_of_settling hsettle, zoneSwap]
  case settled =>
    have hspu : s.banked.spu = s.swappedSpu := by rw [banked_of_settled hsettle]
    rw [hspu]
    refine ⟨rfl, fun p hsame => ?_, fun p hchanged => ?_, fun p hp hchanged hlow => ?_, fun p hp hchanged hlow => ?_,
      fun p hp hsame hlow => ?_, fun p hp hsame hlow => ?_, fun hnone => ?_, fun hnone => ?_⟩
    · rw [swappedSpu_unit, swapUnit_eq, if_neg hsame]
    · rw [swappedSpu_unit, swapUnit_eq, if_pos hchanged]
      exact ⟨rfl, rfl, rfl, rfl, rfl, rfl, rfl, rfl, rfl, rfl, rfl, rfl, rfl, rfl, rfl, rfl, rfl, rfl⟩
    · exact (axisAfter_of_first hp hlow).trans (if_pos ((unitChanged_iff s p).mpr hchanged))
    · exact (axisAfter_of_first hp hlow).trans (if_pos ((unitChanged_iff s p).mpr hchanged))
    · exact (axisAfter_of_first hp hlow).trans (if_neg (mt (unitChanged_iff s p).mp hsame))
    · exact (axisAfter_of_first hp hlow).trans (if_neg (mt (unitChanged_iff s p).mp hsame))
    · exact axisAfter_of_none hnone
    · exact axisAfter_of_none hnone
  case hand =>
    rw [handBank_eq, telemetryRestart_eq, spuSwapHandOff_eq]

end Sys2Proof.Machine
end

section
/-! The slots of the ZONES table, one after another: the cross-table validation (R29, R175). -/

namespace Sys2Proof.Machine

/-! ### A step for each slot -/

/-- A step for a slot that writes only bytes of that slot, at the given offsets. -/
def SlotStep (at_ : Nat → Prop) (f : State → Slot → State) : Prop :=
  ∀ x i, (f x i).tbs = x.tbs ∧
    ∀ a, (∀ o, at_ o → a ≠ x.slotAddr i o) → Memory.read (f x i).mem a = Memory.read x.mem a

/-- The steps of the first slots. -/
def slotFold (f : State → Slot → State) (s : State) (k : Nat) : State := (slots.take k).foldl f s

theorem slotAddr_congr {s t : State} (h : t.tbs = s.tbs) : t.slotAddr = s.slotAddr := by
  funext i o
  simp only [State.slotAddr, State.tableAddr, State.bankBase, h]

theorem slotAddr_inj {s : State} {i j : Slot} {o p : Nat} (ho : o < 32) (hp : p < 32)
    (h : s.slotAddr i o = s.slotAddr j p) : i = j ∧ o = p := by
  simp only [State.slotAddr, State.tableAddr] at h
  exact ⟨Fin.ext (by omega), by omega⟩

section
variable {f : State → Slot → State} {s : State} {k : Nat}

theorem slotFold_succ (f : State → Slot → State) (s : State) (i : Slot) :
    slotFold f s (i.val + 1) = f (slotFold f s i.val) i := by
  have htake : slots.take (i.val + 1) = slots.take i.val ++ [i] := by
    revert i
    decide
  rw [slotFold, htake, List.foldl_append]
  rfl

theorem slotFold_all (f : State → Slot → State) (s : State) : slotFold f s 4 = slots.foldl f s := rfl

variable {at_ : Nat → Prop} (hf : SlotStep at_ f)
include hf

theorem slotFold_tbs (s : State) (k : Nat) : (slotFold f s k).tbs = s.tbs :=
  foldl_keeps f State.tbs (fun x i => (hf x i).1) _ s

theorem slotFold_slotAddr (s : State) (k : Nat) : (slotFold f s k).slotAddr = s.slotAddr :=
  slotAddr_congr (slotFold_tbs hf s k)

/-- A byte of no slot stepped so far is as it was. -/
theorem slotFold_read_other (hk : k ≤ 4) {a : Nat} (h : ∀ i : Slot, i.val < k → ∀ o, at_ o → a ≠ s.slotAddr i o) :
    Memory.read (slotFold f s k).mem a = Memory.read s.mem a := by
  induction k with
  | zero => rfl
  | succ k ih =>
    have hlt : k < 4 := hk
    rw [slotFold_succ f s ⟨k, hlt⟩, (hf _ _).2 a]
    · exact ih (by omega) fun i hi => h i (by omega)
    · rw [slotFold_slotAddr hf]
      exact h ⟨k, hlt⟩ (Nat.lt_succ_self k)

/-- A byte of a slot is as the step of that slot leaves it. -/
theorem slotFold_read_slot (hat : ∀ o, at_ o → o < 32) (hk : k ≤ 4) {i : Slot} (hi : i.val < k) {o : Nat}
    (ho : o < 32) :
    Memory.read (slotFold f s k).mem (s.slotAddr i o) =
      Memory.read (f (slotFold f s i.val) i).mem (s.slotAddr i o) := by
  induction k with
  | zero => exact absurd hi (Nat.not_lt_zero _)
  | succ k ih =>
    have hlt : k < 4 := hk
    rcases Nat.lt_or_eq_of_le (Nat.le_of_lt_succ hi) with hbefore | hlast
    · rw [slotFold_succ f s ⟨k, hlt⟩, (hf _ _).2 _, ih (by omega) hbefore]
      rw [slotFold_slotAddr hf]
      rintro p hp heq
      obtain ⟨rfl, -⟩ := slotAddr_inj ho (hat p hp) heq
      exact absurd hbefore (Nat.lt_irrefl _)
    · subst hlast
      rw [slotFold_succ f s i]

/-- A byte of a slot is unchanged where the step of that slot has not come, or does not write it. -/
theorem slotFold_read_before (hat : ∀ o, at_ o → o < 32) (hk : k ≤ 4) {i : Slot} {o : Nat} (ho : o < 32)
    (h : k ≤ i.val ∨ ¬ at_ o) :
    Memory.read (slotFold f s k).mem (s.slotAddr i o) = Memory.read s.mem (s.slotAddr i o) := by
  refine slotFold_read_other hf hk fun j hj p hp heq => ?_
  obtain ⟨rfl, rfl⟩ := slotAddr_inj ho (hat p hp) heq
  rcases h with h | h
  · exact absurd hj (Nat.not_lt.mpr h)
  · exact h hp

end

/-! ### What a slot's bytes say -/

section
variable {s t : State}

theorem read_writeSlot (i : Slot) (o : Nat) (v : Byte) (s : State) (a : Nat) :
    Memory.read (writeSlot i o v s).mem a = if a = s.slotAddr i o then v else Memory.read s.mem a :=
  Memory.read_write _ _ _ _

theorem zone8_eq (s : State) (i : Slot) (o : Nat) : s.zone8 i o = (Memory.read s.mem (s.slotAddr i o)).toNat := rfl

/-- Slots with the same bytes say the same. -/
theorem zone8_congr {i : Slot} {o : Nat} (htbs : t.tbs = s.tbs)
    (h : Memory.read t.mem (s.slotAddr i o) = Memory.read s.mem (s.slotAddr i o)) : t.zone8 i o = s.zone8 i o := by
  rw [zone8_eq, zone8_eq, slotAddr_congr htbs, h]

theorem enabled_iff (s : State) (i : Slot) : s.enabled i = true ↔ s.slotKind i ≠ .disabled := bne_iff_ne

/-- The codes' words lie at no address at which a step of a slot writes. -/
theorem codeEnabled_congr (htbs : t.tbs = s.tbs)
    (h : ∀ a, (∀ (i : Slot) o, o = 0 ∨ o = 17 → a ≠ s.slotAddr i o) → Memory.read t.mem a = Memory.read s.mem a) :
    t.codeEnabled = s.codeEnabled := by
  funext code
  have haddr : ∀ off, t.tableAddr .active .codes off = s.tableAddr .active .codes off := fun off => by
    simp only [State.tableAddr, State.bankBase, htbs]
  have hread : ∀ off, off = 16 * code + 8 ∨ off = 16 * code + 8 + 1 →
      t.tableByte .active .codes off = s.tableByte .active .codes off := fun off hoff => by
    rw [State.tableByte, State.tableByte, haddr]
    refine h _ fun i o ho heq => ?_
    simp only [State.slotAddr, State.tableAddr, Table.base] at heq
    omega
  simp only [State.codeEnabled, State.codeWord, State.tableWord, hread _ (.inl rfl), hread _ (.inr rfl)]

end

/-! ### The validation of the slots -/

/-- The offset of a slot's kind. -/
def AtKind (o : Nat) : Prop := o = 0

/-- The offset of a slot's passage mask. -/
def AtMask (o : Nat) : Prop := o = 17

section
variable {s : State} {i : Slot}

theorem read_validateSlot (s : State) (i : Slot) (a : Nat) :
    Memory.read (validateSlot s i).mem a =
      if s.slotRefused i = true ∧ a = s.slotAddr i 0 then 0#8 else Memory.read s.mem a := by
  unfold validateSlot
  by_cases h : s.slotRefused i = true
  · rw [if_pos h, read_writeSlot]
    simp [h]
  · rw [if_neg h]
    simp [h]

theorem validateSlot_slotStep : SlotStep AtKind validateSlot := by
  refine fun x i => ⟨by simp, fun a ha => ?_⟩
  rw [read_validateSlot, if_neg fun h => ha 0 rfl h.2]

/-- The slots validated up to a number (R29). -/
def State.validatedTo (s : State) (k : Nat) : State := slotFold validateSlot s k

theorem validatedTo_tbs (s : State) (k : Nat) : (s.validatedTo k).tbs = s.tbs :=
  slotFold_tbs validateSlot_slotStep s k

theorem atKind_lt : ∀ o, AtKind o → o < 32 := by
  rintro o rfl
  decide

theorem validatedTo_zone8 {k : Nat} (hk : k ≤ 4) {o : Nat} (ho : o < 32) (h : k ≤ i.val ∨ o ≠ 0) :
    (s.validatedTo k).zone8 i o = s.zone8 i o :=
  zone8_congr (validatedTo_tbs s k) (slotFold_read_before validateSlot_slotStep atKind_lt hk ho h)

theorem validatedTo_codeEnabled {k : Nat} (hk : k ≤ 4) : (s.validatedTo k).codeEnabled = s.codeEnabled :=
  codeEnabled_congr (validatedTo_tbs s k) fun _ ha =>
    slotFold_read_other validateSlot_slotStep hk fun i _ o ho => ha i o (.inl ho)

/-- A slot's kind after the validation of it: DISABLED where it is refused (R29). -/
theorem validatedTo_kindByte {k : Nat} (hk : k ≤ 4) (hi : i.val < k) :
    Memory.read (s.validatedTo k).mem (s.slotAddr i 0) =
      if (s.validatedTo i.val).slotRefused i = true then 0#8 else Memory.read s.mem (s.slotAddr i 0) := by
  have hstep : Memory.read (s.validatedTo k).mem (s.slotAddr i 0) =
      Memory.read (validateSlot (s.validatedTo i.val) i).mem (s.slotAddr i 0) :=
    slotFold_read_slot validateSlot_slotStep atKind_lt hk hi (by decide)
  have haddr : (s.validatedTo i.val).slotAddr = s.slotAddr := slotAddr_congr (validatedTo_tbs s _)
  have hbefore : Memory.read (s.validatedTo i.val).mem (s.slotAddr i 0) = Memory.read s.mem (s.slotAddr i 0) :=
    slotFold_read_before validateSlot_slotStep atKind_lt (by omega) (by decide) (.inl le_rfl)
  rw [hstep, read_validateSlot, haddr, hbefore]
  simp

theorem validatedTo_slotKind {k : Nat} (hk : k ≤ 4) (hi : i.val < k) :
    (s.validatedTo k).slotKind i =
      if (s.validatedTo i.val).slotRefused i = true then .disabled else s.slotKind i := by
  rw [State.slotKind, zone8_eq, slotAddr_congr (validatedTo_tbs s k), validatedTo_kindByte hk hi]
  split
  · rfl
  · rfl

/-- A slot that stays enabled keeps its kind. -/
theorem validatedTo_kind_of_enabled {k : Nat} (hk : k ≤ 4) (hi : i.val < k)
    (h : (s.validatedTo k).enabled i = true) : (s.validatedTo k).slotKind i = s.slotKind i := by
  rw [enabled_iff] at h
  rw [validatedTo_slotKind hk hi] at h ⊢
  split at h
  · exact absurd rfl h
  · next hkept => rw [if_neg hkept]

/-- The kinds of the slots below do not change any more. -/
theorem validatedTo_slotKind_below {k : Nat} (hk : k ≤ 4) {j : Slot} (hj : j.val < k) :
    (s.validatedTo k).slotKind j = (s.validatedTo 4).slotKind j := by
  rw [validatedTo_slotKind hk hj, validatedTo_slotKind le_rfl j.isLt]

theorem lowerEnabled_iff (x : State) (i : Slot) (ok : Slot → Bool) :
    x.lowerEnabled i ok = true ↔ ∃ j, j < i ∧ x.enabled j = true ∧ ok j = true := by
  simp only [State.lowerEnabled, List.any_eq_true, mem_slots, true_and, Bool.and_eq_true, decide_eq_true_eq, and_assoc]
  rfl

/-- The validation disables a slot by its own bytes and by the slots below that stay enabled (R29). -/
theorem refused_iff (s : State) (i : Slot) :
    (s.validatedTo i.val).slotRefused i = true ↔ s.enabled i = true ∧ (s.codeEnabled (s.slotCode i) = false ∨
      ∃ j, j < i ∧ (s.validatedTo 4).enabled j = true ∧ (s.slotCode j = s.slotCode i ∨
        ((s.slotKind i = .guide ∨ s.slotKind i = .station) ∧ s.slotKind j = s.slotKind i))) := by
  have hlt : i.val ≤ 4 := Nat.le_of_lt i.isLt
  have hkind : (s.validatedTo i.val).slotKind i = s.slotKind i := by
    rw [State.slotKind, validatedTo_zone8 hlt (by decide) (.inl le_rfl)]
    rfl
  have henabled : (s.validatedTo i.val).enabled i = s.enabled i := by rw [State.enabled, hkind]; rfl
  have hcode : ∀ j, (s.validatedTo i.val).slotCode j = s.slotCode j := fun j =>
    validatedTo_zone8 hlt (by decide) (.inr (by decide))
  have hbelow : ∀ j, j < i → (s.validatedTo i.val).slotKind j = (s.validatedTo 4).slotKind j := fun j hj =>
    validatedTo_slotKind_below hlt hj
  have hstays : ∀ j, j < i → ((s.validatedTo i.val).enabled j = true ↔ (s.validatedTo 4).enabled j = true) :=
    fun j hj => by rw [enabled_iff, enabled_iff, hbelow j hj]
  have hsame : ∀ j, j < i → (s.validatedTo 4).enabled j = true → (s.validatedTo i.val).slotKind j = s.slotKind j :=
    fun j hj hen => by rw [hbelow j hj, validatedTo_kind_of_enabled le_rfl j.isLt hen]
  simp only [State.slotRefused, Bool.and_eq_true, Bool.or_eq_true, Bool.not_eq_true', lowerEnabled_iff, beq_iff_eq,
    henabled, hkind, hcode, validatedTo_codeEnabled hlt]
  refine and_congr_right' ?_
  constructor
  · rintro ((hoff | ⟨j, hj, hen, hjcode⟩) | ⟨hrole, j, hj, hen, hjkind⟩)
    · exact .inl hoff
    · exact .inr ⟨j, hj, (hstays j hj).mp hen, .inl hjcode⟩
    · have hen4 := (hstays j hj).mp hen
      exact .inr ⟨j, hj, hen4, .inr ⟨hrole, (hsame j hj hen4).symm.trans hjkind⟩⟩
  · rintro (hoff | ⟨j, hj, hen, hjcode | ⟨hrole, hjkind⟩⟩)
    · exact .inl (.inl hoff)
    · exact .inl (.inr ⟨j, hj, (hstays j hj).mpr hen, hjcode⟩)
    · exact .inr ⟨hrole, j, hj, (hstays j hj).mpr hen, (hsame j hj hen).trans hjkind⟩

end

/-! ### The pruning of the masks -/

section
variable {s : State} {i : Slot}

theorem read_pruneSlot (s : State) (i : Slot) (a : Nat) :
    Memory.read (pruneSlot s i).mem a =
      if s.slotKind i = .perimeter ∧ a = s.slotAddr i 17 then u8 (s.prunedMask (s.zone8 i 17))
      else Memory.read s.mem a := by
  unfold pruneSlot
  by_cases h : s.slotKind i = .perimeter
  · rw [if_pos h, read_writeSlot]
    simp [h]
  · rw [if_neg h]
    simp [h]

theorem pruneSlot_slotStep : SlotStep AtMask pruneSlot := by
  refine fun x i => ⟨by simp, fun a ha => ?_⟩
  rw [read_pruneSlot, if_neg fun h => ha 17 rfl h.2]

theorem atMask_lt : ∀ o, AtMask o → o < 32 := by
  rintro o rfl
  decide

/-- The masks pruned up to a number (R29). -/
def State.prunedTo (s : State) (k : Nat) : State := slotFold pruneSlot s k

theorem prunedTo_tbs (s : State) (k : Nat) : (s.prunedTo k).tbs = s.tbs := slotFold_tbs pruneSlot_slotStep s k

theorem prunedTo_zone8 {k : Nat} (hk : k ≤ 4) {o : Nat} (ho : o < 32) (h : k ≤ i.val ∨ o ≠ 17) :
    (s.prunedTo k).zone8 i o = s.zone8 i o :=
  zone8_congr (prunedTo_tbs s k) (slotFold_read_before pruneSlot_slotStep atMask_lt hk ho h)

theorem prunedTo_slotKind {k : Nat} (hk : k ≤ 4) : (s.prunedTo k).slotKind = s.slotKind := by
  funext i
  rw [State.slotKind, prunedTo_zone8 hk (by decide) (.inr (by decide))]
  rfl

/-- A slot's passage mask after the pruning of it. -/
theorem prunedTo_maskByte (s : State) (i : Slot) :
    Memory.read (s.prunedTo 4).mem (s.slotAddr i 17) =
      if s.slotKind i = .perimeter then u8 (s.prunedMask (s.zone8 i 17))
      else Memory.read s.mem (s.slotAddr i 17) := by
  have hlt : i.val ≤ 4 := Nat.le_of_lt i.isLt
  have hstep : Memory.read (s.prunedTo 4).mem (s.slotAddr i 17) =
      Memory.read (pruneSlot (s.prunedTo i.val) i).mem (s.slotAddr i 17) :=
    slotFold_read_slot pruneSlot_slotStep atMask_lt le_rfl i.isLt (by decide)
  have haddr : (s.prunedTo i.val).slotAddr = s.slotAddr := slotAddr_congr (prunedTo_tbs s _)
  have hbefore : Memory.read (s.prunedTo i.val).mem (s.slotAddr i 17) = Memory.read s.mem (s.slotAddr i 17) :=
    slotFold_read_before pruneSlot_slotStep atMask_lt hlt (by decide) (.inl le_rfl)
  have hmask : (s.prunedTo i.val).prunedMask = s.prunedMask := by
    funext m
    simp only [State.prunedMask, prunedTo_slotKind hlt]
  rw [hstep, read_pruneSlot, haddr, hbefore, prunedTo_slotKind hlt, hmask,
    prunedTo_zone8 hlt (by decide) (.inl le_rfl)]
  simp

/-- The bit of a passage mask that the pruning leaves for a slot. -/
def State.keptBit (s : State) (m : Nat) (j : Slot) : Nat := if s.slotKind j = .perimeter then bitsAt j.val 1 m else 0

theorem keptBit_lt (s : State) (m : Nat) (j : Slot) : s.keptBit m j < 2 := by
  unfold State.keptBit
  split
  · exact Nat.mod_lt _ (by decide)
  · decide

theorem prunedMask_eq (s : State) (m : Nat) :
    s.prunedMask m =
      bitsAt 4 4 m * 16 + s.keptBit m 0 + s.keptBit m 1 * 2 + s.keptBit m 2 * 4 + s.keptBit m 3 * 8 := by
  have hkeep : ∀ j : Slot, (if s.slotKind j = .perimeter then bitsAt j.val 1 m * 2 ^ j.val else 0) =
      s.keptBit m j * 2 ^ j.val := fun j => by
    unfold State.keptBit
    split
    · rfl
    · rw [Nat.zero_mul]
  have h0 : s.keptBit m 0 * 2 ^ (0 : Slot).val = s.keptBit m 0 := Nat.mul_one _
  simp only [State.prunedMask, hkeep, h0]
  rfl

/-- The bits of a pruned mask: those of enabled PERIMETER slots stay, and the four above them. -/
theorem prunedMask_bits (s : State) (m : Nat) :
    s.prunedMask m < 256 ∧ bitsAt 4 4 (s.prunedMask m) = bitsAt 4 4 m ∧
      ∀ j : Slot, bitsAt j.val 1 (s.prunedMask m) = s.keptBit m j := by
  have hhigh : bitsAt 4 4 m < 16 := Nat.mod_lt _ (by decide)
  have hbit := keptBit_lt s m
  have h0 := hbit 0
  have h1 := hbit 1
  have h2 := hbit 2
  have h3 := hbit 3
  rw [prunedMask_eq]
  generalize bitsAt 4 4 m = high at hhigh ⊢
  refine ⟨by omega, by unfold bitsAt; omega, fun j => ?_⟩
  fin_cases j
  · show bitsAt 0 1 _ = s.keptBit m 0
    unfold bitsAt
    omega
  · show bitsAt 1 1 _ = s.keptBit m 1
    unfold bitsAt
    omega
  · show bitsAt 2 1 _ = s.keptBit m 2
    unfold bitsAt
    omega
  · show bitsAt 3 1 _ = s.keptBit m 3
    unfold bitsAt
    omega

end

/-! ### The cross-table validation -/

section
variable {s : State} {i : Slot}

theorem crossValidate_eq (s : State) : crossValidate s = (s.validatedTo 4).prunedTo 4 := rfl

theorem crossValidate_slotKind (s : State) : (crossValidate s).slotKind = (s.validatedTo 4).slotKind := by
  rw [crossValidate_eq, prunedTo_slotKind le_rfl]

theorem crossValidate_enabled (s : State) (i : Slot) :
    (crossValidate s).enabled i = true ↔ s.enabled i = true ∧ ¬ (s.validatedTo i.val).slotRefused i = true := by
  rw [enabled_iff, crossValidate_slotKind, validatedTo_slotKind le_rfl i.isLt, enabled_iff]
  split
  · next h => simp [h]
  · next h => simp [h]

theorem crossValidate_keeps (s : State) : crossValidate s = { s with mem := (crossValidate s).mem } := by
  obtain ⟨hpending, hfree, hheld, hn, hd, hwdc, hzcu, hspu, hmgt, hdlc, hrse, hdkc, htbs, hnli, hmrh, hlbu⟩ :=
    crossValidate_frame s
  revert hpending hfree hheld hn hd hwdc hzcu hspu hmgt hdlc hrse hdkc htbs hnli hmrh hlbu
  rcases crossValidate s
  rintro rfl rfl rfl rfl rfl rfl rfl rfl rfl rfl rfl rfl rfl rfl rfl rfl
  rfl

/-- A byte at no slot's kind and at no slot's mask is unchanged. -/
theorem crossValidate_read_other {a : Nat} (h : ∀ (i : Slot) o, o = 0 ∨ o = 17 → a ≠ s.slotAddr i o) :
    Memory.read (crossValidate s).mem a = Memory.read s.mem a := by
  have haddr : (s.validatedTo 4).slotAddr = s.slotAddr := slotAddr_congr (validatedTo_tbs s 4)
  rw [crossValidate_eq]
  refine (slotFold_read_other pruneSlot_slotStep le_rfl fun i _ o ho => ?_).trans
    (slotFold_read_other validateSlot_slotStep le_rfl fun i _ o ho => h i o (.inl ho))
  rw [haddr]
  exact h i o (.inr ho)

theorem crossValidate_kindByte (s : State) (i : Slot) :
    Memory.read (crossValidate s).mem (s.slotAddr i 0) =
      if (s.validatedTo i.val).slotRefused i = true then 0#8 else Memory.read s.mem (s.slotAddr i 0) := by
  have haddr : (s.validatedTo 4).slotAddr = s.slotAddr := slotAddr_congr (validatedTo_tbs s 4)
  have hkept := slotFold_read_before (s := s.validatedTo 4) (i := i) pruneSlot_slotStep atMask_lt le_rfl (o := 0)
    (by decide) (.inr (show (0 : Nat) ≠ 17 by decide))
  rw [haddr] at hkept
  exact hkept.trans (validatedTo_kindByte le_rfl i.isLt)

theorem crossValidate_maskByte (s : State) (i : Slot) :
    Memory.read (crossValidate s).mem (s.slotAddr i 17) =
      if (crossValidate s).slotKind i = .perimeter then u8 ((crossValidate s).prunedMask (s.zone8 i 17))
      else Memory.read s.mem (s.slotAddr i 17) := by
  have haddr : (s.validatedTo 4).slotAddr = s.slotAddr := slotAddr_congr (validatedTo_tbs s 4)
  have hmask : (s.validatedTo 4).prunedMask = (crossValidate s).prunedMask := by
    funext m
    simp only [State.prunedMask, crossValidate_slotKind]
  have hbefore : Memory.read (s.validatedTo 4).mem (s.slotAddr i 17) = Memory.read s.mem (s.slotAddr i 17) :=
    slotFold_read_before validateSlot_slotStep atKind_lt le_rfl (by decide) (.inr (show (17 : Nat) ≠ 0 by decide))
  have hbyte := prunedTo_maskByte (s.validatedTo 4) i
  rw [haddr, hmask, hbefore, ← crossValidate_slotKind,
    validatedTo_zone8 le_rfl (by decide) (.inr (by decide))] at hbyte
  exact hbyte

theorem passage_iff (s : State) (i j : Slot) : s.passage i j = true ↔ bitsAt j.val 1 (s.zone8 i 17) = 1 := beq_iff_eq

theorem slotsAreValidated : SlotsAreValidated := by
  intro s v byte
  have htbs : v.tbs = s.tbs := by simp [v]
  have haddr : v.slotAddr = s.slotAddr := slotAddr_congr htbs
  have hbyte : ∀ i o, byte v i o = Memory.read v.mem (s.slotAddr i o) := fun i o => by
    rw [← haddr]
    rfl
  have hmaskRead : ∀ i, v.slotKind i = .perimeter → byte v i 17 = u8 (v.prunedMask (s.zone8 i 17)) := fun i h => by
    rw [hbyte, crossValidate_maskByte, if_pos h]
  have hmaskNat : ∀ i, v.slotKind i = .perimeter → (byte v i 17).toNat = v.prunedMask (s.zone8 i 17) := fun i h => by
    rw [hmaskRead i h, u8_toNat (prunedMask_bits v _).1]
  refine ⟨crossValidate_keeps s, fun b tab off hoff hplace => ?other, fun i => ?enabled, fun i => ?kind, fun i h => ?mask,
    fun i h => ⟨fun j => ?passage, ?high⟩⟩
  case other =>
    have htable : v.tableAddr b tab off = s.tableAddr b tab off := by
      simp only [State.tableAddr, State.bankBase, htbs]
    rw [State.tableByte, State.tableByte, htable]
    refine crossValidate_read_other fun i o ho heq => ?_
    have hi := i.isLt
    obtain ⟨hb, ht, hsame⟩ := State.tableAddr_inj s hoff (u := .zones) (j := 32 * i.val + o)
      (show 32 * i.val + o < 128 by omega) heq
    obtain ⟨hnotKind, hnotMask⟩ := hplace hb ht
    omega
  case enabled =>
    rw [crossValidate_enabled, refused_iff]
    have hstays : ∀ j, v.enabled j = true ↔ (s.validatedTo 4).enabled j = true := fun j => by
      rw [enabled_iff, enabled_iff, crossValidate_slotKind]
    simp only [hstays]
    constructor
    · rintro ⟨hen, hkept⟩
      refine ⟨hen, by_contra fun hoff => hkept ⟨hen, .inl (by simpa using hoff)⟩, fun j hj hjen =>
        ⟨fun hcode => hkept ⟨hen, .inr ⟨j, hj, hjen, .inl hcode⟩⟩,
          fun hrole hkind => hkept ⟨hen, .inr ⟨j, hj, hjen, .inr ⟨hrole, hkind⟩⟩⟩⟩⟩
    · rintro ⟨hen, hcode, hbelow⟩
      refine ⟨hen, ?_⟩
      rintro ⟨-, hoff | ⟨j, hj, hjen, hsame | ⟨hrole, hkind⟩⟩⟩
      · exact Bool.false_ne_true (hoff.symm.trans hcode)
      · exact (hbelow j hj hjen).1 hsame
      · exact (hbelow j hj hjen).2 hrole hkind
  case kind =>
    have hrefused : (s.enabled i = true ∧ v.enabled i = false) ↔ (s.validatedTo i.val).slotRefused i = true := by
      rw [← Bool.not_eq_true, crossValidate_enabled]
      constructor
      · rintro ⟨hen, hnot⟩
        exact by_contra fun hkept => hnot ⟨hen, hkept⟩
      · exact fun h => ⟨((refused_iff s i).mp h).1, fun hkept => hkept.2 h⟩
    rw [hbyte, crossValidate_kindByte]
    exact if_congr hrefused.symm rfl rfl
  case mask => rw [hbyte, crossValidate_maskByte, if_neg h]; rfl
  case passage =>
    have hpassage : v.passage i j = true ↔ v.keptBit (s.zone8 i 17) j = 1 := by
      rw [passage_iff, ← (prunedMask_bits v _).2.2 j, ← hmaskNat i h]
      rfl
    rw [hpassage, passage_iff, State.keptBit]
    split
    · next hkind => simp [hkind]
    · next hkind => simp [hkind]
  case high => rw [hmaskNat i h, (prunedMask_bits v _).2.1]; rfl

end

end Sys2Proof.Machine
end

section
/-! The banks are exchanged and the part takes the new one (R29, R151). -/

namespace Sys2Proof.Machine

/-! ### The exchange of the banks -/

/-- The offsets of a slot's kind and of its passage mask. -/
def AtSlot (o : Nat) : Prop := o = 0 ∨ o = 17

theorem atSlot_lt : ∀ o, AtSlot o → o < 32 := by
  rintro o (rfl | rfl) <;> decide

section
variable {s : State}

/-- A slot's byte in its slot copy. -/
def State.copied (s : State) (i : Slot) (o : Nat) : Byte :=
  if o = 17 then (s.tbs.slotCopy.get i).2 else (s.tbs.slotCopy.get i).1

theorem read_restoreSlot (s : State) (i : Slot) (a : Nat) :
    Memory.read (restoreSlot s i).mem a =
      if a = s.slotAddr i 17 then (s.tbs.slotCopy.get i).2
      else if a = s.slotAddr i 0 then (s.tbs.slotCopy.get i).1 else Memory.read s.mem a := by
  unfold restoreSlot
  rw [read_writeSlot, read_writeSlot]
  rfl

theorem restoreSlot_slotStep : SlotStep AtSlot restoreSlot := by
  refine fun x i => ⟨by simp, fun a ha => ?_⟩
  rw [read_restoreSlot, if_neg (ha 17 (.inr rfl)), if_neg (ha 0 (.inl rfl))]

/-- The slots of the outgoing table put back from the slot copy (R151). -/
def State.restored (s : State) : State := slots.foldl restoreSlot s

theorem restored_tbs (s : State) : s.restored.tbs = s.tbs := slotFold_tbs restoreSlot_slotStep s 4

theorem restored_read_slot (s : State) (i : Slot) {o : Nat} (ho : AtSlot o) :
    Memory.read s.restored.mem (s.slotAddr i o) = s.copied i o := by
  have hstep : Memory.read s.restored.mem (s.slotAddr i o) =
      Memory.read (restoreSlot (slotFold restoreSlot s i.val) i).mem (s.slotAddr i o) :=
    slotFold_read_slot restoreSlot_slotStep atSlot_lt le_rfl i.isLt (atSlot_lt o ho)
  rw [hstep, read_restoreSlot, slotFold_slotAddr restoreSlot_slotStep, slotFold_tbs restoreSlot_slotStep]
  rcases ho with rfl | rfl
  · have hne : s.slotAddr i 0 ≠ s.slotAddr i 17 := fun h => absurd (slotAddr_inj (by decide) (by decide) h).2 (by decide)
    rw [if_neg hne, if_pos rfl]
    rfl
  · rw [if_pos rfl]
    rfl

theorem restored_read_other {a : Nat} (h : ∀ (i : Slot) o, AtSlot o → a ≠ s.slotAddr i o) :
    Memory.read s.restored.mem a = Memory.read s.mem a :=
  slotFold_read_other restoreSlot_slotStep le_rfl fun i _ o ho => h i o ho

theorem exchange_mem (s : State) : (exchange s).mem = s.restored.mem := by simp [exchange, State.restored]

theorem exchange_tbs (s : State) :
    (exchange s).tbs = { s.tbs with
      activeHigh := !s.tbs.activeHigh
      staged := PerSix.all ⟨true, none, 0⟩
      slotCopy := PerSlot.of (exchange s).slotBytes
      swapPending := false
      swapT := { s.tbs.swapT with st := .stopped }
      cnt := { s.tbs.cnt with swapsTaken := bump s.tbs.cnt.swapsTaken } } := by
  have hrestored : (slots.foldl restoreSlot s).tbs = s.tbs := restored_tbs s
  unfold exchange
  generalize slots.foldl restoreSlot s = r at hrestored ⊢
  rw [← hrestored]
  rfl

theorem exchange_eq (s : State) : exchange s = { s with mem := (exchange s).mem, tbs := (exchange s).tbs } := by
  obtain ⟨hpending, hfree, hheld, hn, hd, hwdc, hzcu, hspu, hmgt, hdlc, hrse, hdkc, hnli, hmrh, hlbu⟩ :=
    exchange_frame s
  revert hpending hfree hheld hn hd hwdc hzcu hspu hmgt hdlc hrse hdkc hnli hmrh hlbu
  rcases exchange s
  rintro rfl rfl rfl rfl rfl rfl rfl rfl rfl rfl rfl rfl rfl rfl rfl
  rfl

/-- The bank that the other one was. -/
def Bank.other : Bank → Bank
  | .active => .staged
  | .staged => .active

theorem exchange_tableAddr (s : State) (b : Bank) (t : Table) (off : Nat) :
    (exchange s).tableAddr b t off = s.tableAddr b.other t off := by
  have hhigh : (exchange s).tbs.activeHigh = !s.tbs.activeHigh := by rw [exchange_tbs]
  simp only [State.tableAddr, State.bankBase, hhigh]
  cases b <;> cases s.tbs.activeHigh <;> rfl

theorem exchange_tableByte (s : State) (b : Bank) (t : Table) (off : Nat) :
    (exchange s).tableByte b t off = Memory.read s.restored.mem (s.tableAddr b.other t off) := by
  rw [State.tableByte, exchange_mem, exchange_tableAddr]

theorem slotAddr_eq (s : State) (i : Slot) (o : Nat) : s.slotAddr i o = s.tableAddr .active .zones (32 * i.val + o) := rfl

/-- A byte at no slot's kind and at no slot's mask of the outgoing table goes with its bank. -/
theorem restored_table_other {b : Bank} {t : Table} {off : Nat} (hoff : off < t.size)
    (h : b = .active → t = .zones → off % 32 ≠ 0 ∧ off % 32 ≠ 17) :
    Memory.read s.restored.mem (s.tableAddr b t off) = s.tableByte b t off := by
  refine restored_read_other fun i o ho heq => ?_
  have hi := i.isLt
  have hlt := atSlot_lt o ho
  obtain ⟨hb, ht, hsame⟩ := State.tableAddr_inj s hoff (u := .zones) (j := 32 * i.val + o)
    (show 32 * i.val + o < 128 by omega) heq
  obtain ⟨hnotKind, hnotMask⟩ := h hb ht
  rcases ho with rfl | rfl <;> omega

/-- A slot's kind or mask of the outgoing table is the one of the slot copy. -/
theorem restored_table_slot {off : Nat} (hoff : off < Table.zones.size) (ho : AtSlot (off % 32)) :
    Memory.read s.restored.mem (s.tableAddr .active .zones off) = s.copied ⟨off / 32 % 4, by omega⟩ (off % 32) := by
  have hsize : off < 128 := hoff
  have hplace : 32 * (off / 32 % 4) + off % 32 = off := by omega
  have haddr : s.tableAddr .active .zones off = s.slotAddr ⟨off / 32 % 4, by omega⟩ (off % 32) := by
    rw [slotAddr_eq, hplace]
  rw [haddr, restored_read_slot s _ ho]

/-- Where the bytes of the banks are after the exchange (R151). -/
theorem exchange_bytes (s : State) {tab : Table} {off : Nat} (hoff : off < tab.size) :
    let copy : Byte × Byte := s.tbs.slotCopy.get ⟨off / 32 % 4, by omega⟩
    (exchange s).tableByte .active tab off = s.tableByte .staged tab off ∧
      (exchange s).tableByte .staged tab off =
        if tab = .zones ∧ off % 32 = 0 then copy.1
        else if tab = .zones ∧ off % 32 = 17 then copy.2
        else s.tableByte .active tab off := by
  intro copy
  rw [exchange_tableByte, exchange_tableByte]
  refine ⟨restored_table_other hoff nofun, ?_⟩
  show Memory.read s.restored.mem (s.tableAddr .active tab off) = _
  by_cases hkind : tab = .zones ∧ off % 32 = 0
  · obtain ⟨rfl, hzero⟩ := hkind
    rw [if_pos ⟨rfl, hzero⟩, restored_table_slot hoff (.inl hzero), State.copied, if_neg (by omega)]
  · rw [if_neg hkind]
    by_cases hmask : tab = .zones ∧ off % 32 = 17
    · obtain ⟨rfl, hmask⟩ := hmask
      rw [if_pos ⟨rfl, hmask⟩, restored_table_slot hoff (.inr hmask), State.copied, if_pos hmask]
    · rw [if_neg hmask]
      exact restored_table_other hoff fun _ ht => ⟨fun h => hkind ⟨ht, h⟩, fun h => hmask ⟨ht, h⟩⟩

end

end Sys2Proof.Machine
end

section
/-! A swap, its request, its moment and its timeout (R25, R29, R43, R46, R82, R103, R149 to R152, R163). -/

namespace Sys2Proof.Machine

/-! ### What the part leaves of the old bank -/

namespace KeptOnLink

variable {P : State → Prop} {s : State}

theorem postBehind (h : KeptOnLink P) (n : Node) (v : PostValue) (o : Origin) (hs : P s) : P (postBehind n v o s) := by
  unfold Machine.postBehind
  split
  · exact h.posts _ rfl hs
  · exact h.postSet _ _ _ hs

theorem postBehindIfDue (h : KeptOnLink P) (n : Node) (hs : P s) : P (postBehindIfDue s n) := by
  unfold Machine.postBehindIfDue
  split
  · split
    · exact hs
    · exact h.same (h.postBehind _ _ _ hs)
  · exact hs

theorem evaluateBehind (h : KeptOnLink P) (hs : P s) : P (evaluateBehind s) :=
  foldl nodes (fun n => h.postBehindIfDue n) (h.same hs)

theorem swapStale (h : KeptOnLink P) (hs : P s) : P (swapStale s) := by
  unfold Machine.swapStale goStale
  split
  · split
    · exact hs
    · exact h.flag _ _ (h.same hs)
  · exact hs

theorem swapZeroPosts (h : KeptOnLink P) (before : PerSix NodeKind) (hs : P s) : P (swapZeroPosts before s) := by
  refine foldl nodes (fun n hn => ?_) hs
  split
  · exact hn
  · split
    · exact h.gatePost _ _ _ hn
    · exact h.same hn

theorem gateSwap (h : KeptOnLink P) (behind : Bool) (before : PerSix NodeKind) (hs : P s) :
    P (gateSwap behind before s) := by
  have hposts := h.swapZeroPosts before (h.swapStale hs)
  unfold Machine.gateSwap evaluateAs
  split
  · exact h.evaluateBehind hposts
  · exact h.evaluate hposts

theorem takeRain (h : KeptOnLink P) (rain : Bool) (hs : P s) : P (takeRain rain s) := by
  have htold := h.onDkc (fun k => { k with rain := rain }) hs
  unfold Machine.takeRain rainJudge
  extract_lets
  split
  · split
    · exact h.tryReturn _ (h.onDkc _ htold)
    · exact h.onDkc _ htold
  · exact htold

theorem spuSwapHandOff (h : KeptOnLink P) (hs : P s) : P (spuSwapHandOff s) := by
  have htilt {t : State} (ht : P t) : P (tiltSwapTest t) := by
    have htested := h.tiltTest ht
    unfold tiltSwapTest
    extract_lets
    split
    · exact h.raiseFixed _ _ (h.same htested)
    · exact htested
  unfold Machine.spuSwapHandOff
  split
  · exact htilt (h.dkcEvent (h.takeRain _ hs))
  · exact htilt hs

theorem telemetryRestart (h : KeptOnLink P) (hs : P s) : P (telemetryRestart s) := h.same hs

/-- The hand-over of a bank keeps what holds once the drive link has taken it. -/
theorem handBank (h : KeptOnLink P) (behind : Bool) (before : PerSix NodeKind) (power : Option Node)
    (hs : P (dlcSwap before power s.banked)) : P (handBank behind before power s) := by
  rw [handBank_eq]
  exact h.telemetryRestart (h.spuSwapHandOff (h.zoneToDock _ _ (h.gateSwap _ _ hs)))

end KeptOnLink

section
variable {s : State}

theorem swapRead_flags (s : State) : (swapRead s).nli.flags = s.nli.flags := by
  unfold swapRead
  split
  · rfl
  · split_ifs
    · rfl
    · rfl
    · exact answerRead_flags _ _ _

theorem dlcSwap_aside (before : PerSix NodeKind) (power : Option Node) (s : State) :
    (dlcSwap before power s).aside = s.aside := by
  have hread : (swapRead { s with dlc := s.swapDlc before }).nli.flags = s.nli.flags := swapRead_flags _
  refine aside_of_same (by simp) ?_
  unfold dlcSwap
  extract_lets t
  split
  · exact hread
  · exact hread

/-- The hand-over of a bank sets neither the flag of a test nor that of a swap. -/
theorem handBank_endFlags (behind : Bool) (before : PerSix NodeKind) (power : Option Node) (s : State) :
    (handBank behind before power s).endFlags = s.endFlags := by
  have hbanked : s.banked.endFlags = s.endFlags := by
    rw [banked_frame]
    rfl
  exact (keptOnLink_endFlags s.endFlags).handBank _ _ _ ((congrArg Prod.snd (dlcSwap_aside _ _ _)).trans hbanked)

/-- After the hand-over of a bank no zone is active (R43). -/
theorem handBank_active (behind : Bool) (before : PerSix NodeKind) (power : Option Node) (s : State) :
    (handBank behind before power s).zcu.active = none := by
  have hzone : (handBank behind before power s).zoneAside = s.banked.zoneAside :=
    (keptOnLink_zone s.banked.zoneAside).handBank _ _ _ (congrArg Prod.fst (dlcSwap_aside _ _ _))
  simp only [State.zoneAside, Prod.mk.injEq] at hzone
  obtain ⟨-, -, -, hactive⟩ := hzone
  rw [hactive, banked_zcu]
  rfl

theorem handBank_wdc (behind : Bool) (before : PerSix NodeKind) (power : Option Node) (s : State) :
    (handBank behind before power s).wdc = (wdcSwap s).wdc := by
  simp [handBank_eq, banked_wdc]

/-! ### The swap -/

/-- The slots that the validation disables are those it counts (R29). -/
theorem enabledCount_crossValidate (x : State) :
    x.enabledCount - (crossValidate x).enabledCount =
      (slots.filter fun i => x.enabled i && !(crossValidate x).enabled i).length := by
  have hinside : slots.filter (crossValidate x).enabled =
      (slots.filter x.enabled).filter (crossValidate x).enabled := by
    rw [List.filter_filter]
    refine List.filter_congr fun i _ => ?_
    rw [Bool.eq_iff_iff, Bool.and_eq_true]
    exact ⟨fun h => ⟨h, ((crossValidate_enabled x i).mp h).1⟩, fun h => h.1⟩
  rw [State.enabledCount, State.enabledCount, hinside, ← length_filter_not, List.filter_filter]
  refine congrArg List.length (List.filter_congr fun i _ => ?_)
  rw [Bool.and_comm]

/-- A swap runs through its stages (R151). -/
theorem swapRuns_takeSwap (behind : Bool) (s : State) : SwapRuns behind s (exchange s) (takeSwap behind s) := by
  unfold SwapRuns
  extract_lets b copy disabled
  have hv : takeSwap behind s = arbitrate (setFlag .swapDone [u8 disabled]
      (handBank behind (PerSix.of s.nodeKind) s.powerNode (crossValidate (exchange s)))) := by
    unfold takeSwap
    extract_lets t u gone
    rw [show gone = disabled from enabledCount_crossValidate (exchange s)]
    rfl
  obtain ⟨w, handed⟩ : ∃ w, handBank behind (PerSix.of s.nodeKind) s.powerNode (crossValidate (exchange s)) = w := ⟨_, rfl⟩
  rw [handed] at hv
  have hwdc : w.wdc = (wdcSwap (crossValidate (exchange s))).wdc := by rw [← handed, handBank_wdc]
  have hactive : w.zcu.active = none := by rw [← handed, handBank_active]
  have hmem : w.mem = (crossValidate (exchange s)).mem := by simp [← handed]
  have htbs : w.tbs = (exchange s).tbs := by simp [← handed]
  have hflags : w.endFlags = s.endFlags := by
    rw [← handed, handBank_endFlags]
    exact endFlags_of_flags (by simp)
  simp only [State.endFlags, Prod.mk.injEq] at hflags
  obtain ⟨hlength, -, hswap⟩ := hflags
  refine ⟨fun tab off hoff => exchange_bytes s hoff, exchange_tbs s, exchange_eq s, by rw [handed, hv], ?_, ?_,
    fun hsize => ?_, ?_, ?_, ?_⟩
  · simp [hv, hmem]
  · simp [hv, htbs]
  · have hset : (takeSwap behind s).flag .swapDone = (setFlag .swapDone [u8 disabled] w).flag .swapDone := by
      simp [hv, State.flag]
    have hnew : s.flag .swapDone = none → (setFlag .swapDone [u8 disabled] w).flag .swapDone = some [u8 disabled] := by
      intro hnone
      rw [State.flag, setFlag_flags (hswap.trans hnone), List.getD_eq_getElem?_getD,
        List.getElem?_set_self (by rw [hlength, hsize]; decide)]
      rfl
    rw [hset]
    refine ⟨?_, hnew⟩
    by_cases hnone : s.flag .swapDone = none
    · rw [hnew hnone]
      exact nofun
    · rw [setFlag_of_set (by rwa [hswap]), hswap]
      exact hnone
  · simp [hv, hactive]
  all_goals
    simp only [hv, arbitrate_frame, setFlag_frame, hwdc]
    rfl

/-! ### When a swap is taken -/

theorem dockSafe_iff (d : DockState) : d.safe = true ↔ d = .undocked ∨ d = .docked ∨ d = .dockFault := by
  cases d <;> simp [DockState.safe]

theorem postedZero_iff (s : State) :
    s.postedZero = true ↔ ∀ n, (s.nodeKind n).isWheel = true ∨ s.nodeKind n = .blade → s.mgt.posted.get n = 0 := by
  simp only [State.postedZero, List.all_eq_true, mem_nodes, true_implies, Bool.or_eq_true, Bool.not_eq_true',
    Bool.or_eq_false_iff, beq_iff_eq, beq_eq_false_iff_ne]
  refine forall_congr' fun n => ?_
  rw [← Bool.not_eq_true, ← not_or, ← imp_iff_not_or]

theorem swapMayGo_iff (s : State) : s.swapMayGo ↔ s.safePoint = true ∧ s.testRunning = false := by
  rw [State.swapMayGo, State.safePoint, Bool.and_eq_true, Bool.and_eq_true, postedZero_iff, Bool.not_eq_true',
    ctxHeld_eq_false_iff, dockSafe_iff]
  simp only [and_assoc]

theorem swapDue_iff (s : State) : s.swapDue = true ↔ s.tbs.swapPending = true ∧ s.swapMayGo := by
  rw [swapMayGo_iff, State.swapDue, Bool.and_eq_true, Bool.and_eq_true, Bool.not_eq_true', and_assoc]

end

section
variable {s : State} (held : s.resetHeld = false)
include held

theorem exec_swapTake (dt : Nat) : exec (.swapTake dt) s = .next (arrive dt s) := exec_of_running _ held

/-- No command sees whether a swap that is due has been taken before it. -/
theorem exec_takeDueSwap (c : Instr) : exec c s = exec c (takeDueSwap false s) := by
  rw [exec_of_running c held, exec_of_running c (by simpa using held), arrive_takeDueSwap]

end

/-- Settles O48: the parts that take the bank are lemmas of their own, and a swap that is due comes before whatever
command is next. -/
theorem banksAreSwapped : Obligations.BanksAreSwapped := by
  refine ⟨slotsAreValidated, dlcTakesTheBank, gateTakesTheBank, bankIsHandedOn, ?_⟩
  intro dt s held u b tables
  refine ⟨fun hhead => ?_, fun hpending hmay => ?_, fun hnot => ?_, ?_, fun hpending hrun hlimit => ?_⟩
  · have hexec : exec (.swapTables dt) s = .next (swapTables u) :=
      exec_request (c := .swapTables dt) (f := fun _ => swapTables) rfl held hhead
    have hmarks : u.marksClear = tables.map fun t => !(u.staged t).mark := rfl
    have hsome : (u.marksClear.any id = true) ↔ ∃ t, (u.staged t).mark = false := by
      rw [hmarks]
      simp only [tables, List.any_map, List.any_eq_true, Function.comp, id, Bool.not_eq_true']
      exact ⟨fun ⟨t, _, h⟩ => ⟨t, h⟩, fun ⟨t, h⟩ => ⟨t, by cases t <;> decide, h⟩⟩
    rw [hexec]
    refine ⟨fun hp => ?_, fun hp hclear => ?_, fun hp hset => ?_⟩
    · rw [swapTables, if_pos hp]
    · rw [swapTables, if_neg (Bool.eq_false_iff.mp hp), if_pos (hsome.mpr hclear)]
      rfl
    · have hnone : ¬ u.marksClear.any id = true := fun h => by
        obtain ⟨t, ht⟩ := hsome.mp h
        exact Bool.false_ne_true (ht.symm.trans (hset t))
      rw [swapTables, if_neg (Bool.eq_false_iff.mp hp), if_neg hnone]
      rfl
  · have hdue : s.swapDue = true := (swapDue_iff s).mpr ⟨hpending, hmay⟩
    have htaken : takeDueSwap false s = takeSwap false s := takeDueSwap_of_due hdue
    have hu : u = advance dt (takeSwap false s) := congrArg (advance dt) htaken
    exact ⟨exchange s, takeSwap false s, swapRuns_takeSwap false s, hu, (exec_swapTake held dt).trans (congrArg _ hu),
      fun c => htaken ▸ exec_takeDueSwap held c⟩
  · have hquiet : s.swapDue = false := Bool.eq_false_iff.mpr (mt (swapDue_iff s).mp hnot)
    exact ⟨arrive_of_not_due hquiet, exec_swapTake held dt⟩
  · rw [← swapDue_iff]
    simp [u]
  · have hdue : u.swapTimeoutDue = true := by
      simp only [State.swapTimeoutDue, LimitTimer.due, Bool.and_eq_true, beq_iff_eq, decide_eq_true_eq]
      exact ⟨hpending, hrun, hlimit⟩
    rw [exec_of_running _ held]
    exact congrArg Host.Outcome.next (whenDue_of_due (due := State.swapTimeoutDue) (f := dropSwap) hdue)

end Sys2Proof.Machine
end

section
/-! The SENSE channel reset (R60), and what no evaluation, post or trigger changes of the NAV command. -/

namespace Sys2Proof.Machine

/-! ### The NAV command and its age -/

/-- The NAV command and its age. -/
def State.navView (s : State) : Option NavCmd × Timer := (s.mgt.cmd, s.mgt.age)

section
variable {s : State}

theorem evaluate_navView (s : State) : (evaluate s).navView = s.navView := by
  rw [State.navView, evaluate_mgt]
  rfl

theorem gatePost_navView (n : Node) (v : PostValue) (o : Origin) (s : State) :
    (gatePost n v o s).navView = s.navView := by
  have hmgt : (postSet n v o s).mgt = s.mgt := by simp
  show ((postSet n v o s).mgt.cmd, (postSet n v o s).mgt.age) = _
  rw [hmgt]
  rfl

theorem hazardZeroPosts_navView (s : State) : (hazardZeroPosts s).navView = s.navView := by
  refine foldl_keeps _ State.navView (fun x n => ?_) nodes s
  split
  · exact gatePost_navView _ _ _ _
  · rfl

theorem dkcHold_navView (s : State) : (dkcHold s).navView = s.navView := rfl

theorem raiseFixed_navView (t : Trig) (d : Option Nat) (s : State) : (raiseFixed t d s).navView = s.navView := by
  unfold raiseFixed
  split
  · rfl
  · have hbegun : (hazardDiscard (setFlag .hazard (trigDetail t d) (hazardCreate t d (arrived t s)))).navView = s.navView := by
      simp [State.navView, hazardCreate, arrived, onRse, countRse]
    rw [hazardEntry, dkcHold_navView, gateHazard, evaluate_navView, hazardZeroPosts_navView, hbegun]

theorem tiltTest_navView (s : State) : (tiltTest s).navView = s.navView := by
  unfold tiltTest
  split
  · split
    · rfl
    · rfl
    · split
      · exact raiseFixed_navView _ _ _
      · rfl
  · split <;> rfl

theorem wireLostTest_navView (s : State) : (wireLostTest s).navView = s.navView := by
  unfold wireLostTest
  split
  · rfl
  · exact raiseFixed_navView _ _ _

theorem dkcEvent_navView {f : State → State} (hf : ∀ x, (f x).mgt = x.mgt) (s : State) :
    (dkcEvent f s).navView = s.navView := by
  have htold : (f s).navView = s.navView := by rw [State.navView, hf]; rfl
  unfold dkcEvent
  extract_lets t u
  have hgate : u.navView = s.navView := by
    simp only [u]
    split
    · exact (evaluate_navView _).trans htold
    · exact htold
  split
  · exact hgate
  · exact (wireLostTest_navView _).trans hgate

/-! ### The reset of the pins -/

/-- The part with every unit and axis begun afresh, before the hand-offs (R60). -/
def State.sensed (s : State) : State :=
  { s with
    spu := ({ s.spu with units := PerPin.of s.resetUnit, tilt := ⟨.stopped, 0⟩, bumpsSuppressed := 0 } : Spu).reformAxes
      fun _ => true }

theorem senseReset_eq (s : State) : senseReset s = spuHandOff s s.sensed := rfl

theorem sensed_unit (s : State) (p : Pin) : s.sensed.spu.units.get p = s.resetUnit p := PerPin.get_of _ p

theorem axisAfter_all_angle (x : Spu) (r : PinRole) (old : Axis) : (x.axisAfter (fun _ => true) r old).angle = 0 := by
  unfold Spu.axisAfter
  split <;> rfl

/-- With every axis begun afresh the slope is 0. -/
theorem sensed_slope (s : State) : s.sensed.slope = 0 := by
  have hpitch : s.sensed.spu.pitch.angle = 0 := axisAfter_all_angle _ _ _
  have hroll : s.sensed.spu.roll.angle = 0 := axisAfter_all_angle _ _ _
  rw [State.slope, hpitch, hroll]
  rfl

/-- A pin that has only begun is no rain (R55). -/
theorem resetUnit_dry (s : State) (p : Pin) : (s.resetUnit p).activeAs .rain = false := by
  unfold State.resetUnit
  split
  · exact Bool.and_false _
  · exact Bool.and_false _

theorem sensed_rainCond (s : State) : s.sensed.rainCond = false := by
  have hunits : s.sensed.spu.units = PerPin.of s.resetUnit := rfl
  simp only [State.rainCond, hunits, PerPin.of, PerPin.toList, List.any_cons, List.any_nil, resetUnit_dry, Bool.or_false]

/-- The end of the rain stops its timer and calls nothing home (R129). -/
theorem takeRain_false (s : State) :
    ∃ t, takeRain false s = { s with dkc := { s.dkc with rain := false, rainT := t } } := by
  have hquiet (l : Nat) (t : LimitTimer) : (t.judge false l).2 = false := by
    unfold LimitTimer.judge
    rw [if_neg Bool.false_ne_true]
    split <;> rfl
  unfold takeRain rainJudge
  extract_lets told j judged
  have hj : j.2 = false := by
    simp only [j, told, onDkc, Bool.and_false]
    exact hquiet _ _
  split
  · rw [if_neg (by rw [hj]; exact Bool.false_ne_true)]
    exact ⟨_, rfl⟩
  · exact ⟨s.dkc.rainT, rfl⟩

theorem rainHandOn_dry (h : s.rainCond = false) :
    ∃ t, rainHandOn s = { s with dkc := { s.dkc with rain := false, rainT := t } } := by
  unfold rainHandOn
  split
  · next hsame =>
    refine ⟨s.dkc.rainT, ?_⟩
    rw [← h, hsame]
  · obtain ⟨t, ht⟩ := takeRain_false s
    rw [h, ht]
    exact ⟨t, dockHandOn_still rfl rfl rfl⟩

/-- The hand-offs of the reset: an evaluation of the gate at most, and the end of the rain. -/
theorem senseReset_handed (s : State) :
    ∃ x t, (x = s.sensed ∨ x = evaluate s.sensed) ∧
      senseReset s = { x with dkc := { x.dkc with rain := false, rainT := t } } := by
  have hgate : gateHandOn s s.sensed = s.sensed ∨ gateHandOn s s.sensed = evaluate s.sensed := by
    unfold gateHandOn
    split
    · exact .inr rfl
    · exact .inl rfl
  obtain ⟨x, hx⟩ : ∃ x, gateHandOn s s.sensed = x := ⟨_, rfl⟩
  have hspu : x.spu = s.sensed.spu := by rw [← hx, gateHandOn_spu]
  obtain ⟨t, ht⟩ := rainHandOn_dry (s := x) ((rainCond_congr hspu).trans (sensed_rainCond s))
  refine ⟨x, t, by rwa [hx] at hgate, ?_⟩
  have hlevel : ¬ (rainHandOn x).overSlope = true := by
    have hslope : (rainHandOn x).slope = 0 := by
      rw [← sensed_slope s, State.slope, rainHandOn_spu, hspu]
      rfl
    rw [State.overSlope, hslope]
    simp
  have hstopped : (rainHandOn x).spu.tilt.st = .stopped := by
    rw [rainHandOn_spu, hspu]
    rfl
  rw [senseReset_eq, spuHandOff_eq, hx, tiltTest_of_level_stopped hlevel hstopped, ite_self, ht]

end

end Sys2Proof.Machine
end

section
/-! The SENSE and the WIRE channel resets, field by field (R24, R43, R60, R125, R172). -/

namespace Sys2Proof.Machine

/-- What a channel reset that brings no swap keeps: the tables, the NAV command with its age, and the queue. -/
def State.SafeKept (u v : State) : Prop :=
  v.mem = u.mem ∧ v.tbs = u.tbs ∧ v.mgt.cmd = u.mgt.cmd ∧ v.mgt.age = u.mgt.age ∧ v.mrh.queue = u.mrh.queue

theorem safeKept_of {u v : State} (hmem : v.mem = u.mem) (htbs : v.tbs = u.tbs) (hnav : v.navView = u.navView)
    (hmrh : v.mrh = u.mrh) : u.SafeKept v := by
  obtain ⟨hcmd, hage⟩ := Prod.ext_iff.mp hnav
  exact ⟨hmem, htbs, hcmd, hage, congrArg Mrh.queue hmrh⟩

/-- The contexts, their counters and the stop reasons but for the tests' are kept. -/
def State.ContextsKept (u v : State) : Prop :=
  v.rse.ctx1 = u.rse.ctx1 ∧ v.rse.ctx2 = u.rse.ctx2 ∧ v.rse.ctx3 = u.rse.ctx3 ∧ v.rse.cnt = u.rse.cnt ∧
    v.rse.stopHazard = u.rse.stopHazard ∧ v.rse.stopSettle = u.rse.stopSettle

theorem contextsKept_of {u v : State} (h : ∃ b, v.rse = { u.rse with stopTest := b }) : u.ContextsKept v := by
  obtain ⟨b, h⟩ := h
  rw [State.ContextsKept, h]
  exact ⟨rfl, rfl, rfl, rfl, rfl, rfl⟩

/-! ### The SENSE channel reset -/

section
variable (u : State)

theorem senseReset_spu : (senseReset u).spu = u.sensed.spu := by
  obtain ⟨x, t, hx, hv⟩ := senseReset_handed u
  rw [hv]
  rcases hx with rfl | rfl <;> simp

theorem senseReset_aside :
    (senseReset u).rse = u.rse ∧ (senseReset u).zcu = u.zcu ∧ (senseReset u).dkc.dock = u.dkc.dock ∧
      (senseReset u).navView = u.navView := by
  have hsensed : u.sensed.rse = u.rse ∧ u.sensed.zcu = u.zcu ∧ u.sensed.dkc.dock = u.dkc.dock ∧
      u.sensed.navView = u.navView := ⟨rfl, rfl, rfl, rfl⟩
  obtain ⟨x, t, hx, hv⟩ := senseReset_handed u
  have hkept : x.rse = u.rse ∧ x.zcu = u.zcu ∧ x.dkc.dock = u.dkc.dock ∧ x.navView = u.navView := by
    rcases hx with rfl | rfl
    · exact hsensed
    · simpa [evaluate_navView] using hsensed
  rw [hv]
  exact hkept

theorem senseReset_safeKept : u.SafeKept (senseReset u) := by
  obtain ⟨-, -, -, hnav⟩ := senseReset_aside u
  exact safeKept_of (by simp) (by simp) hnav (by simp)

theorem resetUnit_fresh (p : Pin) :
    let y := u.resetUnit p
    y.result = none ∧ y.ready = false ∧ y.fault = false ∧ y.results = 0 ∧ y.overruns = 0 ∧ y.faults = 0 ∧
      (u.spu.settle = none → y.cfg = u.pinCfg p ∧ y.measuring = true) ∧
      (u.spu.settle ≠ none → y.cfg = (u.spu.units.get p).cfg ∧ y.measuring = false) := by
  unfold State.resetUnit
  cases u.spu.settle with
  | none => exact ⟨rfl, rfl, rfl, rfl, rfl, rfl, fun _ => ⟨rfl, rfl⟩, fun h => absurd rfl h⟩
  | some t => exact ⟨rfl, rfl, rfl, rfl, rfl, rfl, nofun, fun _ => ⟨rfl, rfl⟩⟩

end

/-! ### A hand-off with no loop lost -/

section
variable {s : State}

theorem dkcEvent_rse {f : State → State} (hzcu : ∀ x, (f x).zcu = x.zcu) (hrse : ∀ x, (f x).rse = x.rse)
    (h : ∀ i, s.zcu.loops.get i ≠ .lost) : (dkcEvent f s).rse = s.rse := by
  have hquiet : ∀ x : State, x.zcu = s.zcu → wireLostTest x = x := fun x hx => by
    have hcond : x.wireLostCond = false := wireLostCond_of_noneLost x (by rwa [hx])
    simp [wireLostTest, hcond]
  unfold dkcEvent
  extract_lets t u
  have hu : u.zcu = s.zcu ∧ u.rse = s.rse := by
    simp only [u]
    split
    · simp [t, hzcu, hrse]
    · simp [t, hzcu, hrse]
  split
  · exact hu.2
  · rw [hquiet u hu.1]
    exact hu.2

theorem stationNow_congr {t : State} (hbank : t.bankView = s.bankView) (hzcu : t.zcu = s.zcu) :
    t.stationNow = s.stationNow := by
  have hkind : t.slotKind = s.slotKind := slotKind_of_bank hbank
  simp only [State.stationNow, State.stationSlot, hkind, hzcu]

theorem zoneToDock_eq (s : State) :
    zoneToDock true true s =
      dkcEvent (takeStation (dkcEvent (takeGuide s.guideNow) s).stationNow) (dkcEvent (takeGuide s.guideNow) s) := by
  simp only [zoneToDock, if_true]

/-- The hand-offs to the Dock Controller with no loop lost raise nothing. -/
theorem zoneToDock_noneLost (h : ∀ i, s.zcu.loops.get i ≠ .lost) :
    let w := zoneToDock true true s
    w.zcu = s.zcu ∧ w.rse = s.rse ∧ w.navView = s.navView ∧ w.mgt.zone = s.mgt.zone ∧ w.mgt.prox = s.mgt.prox ∧
      w.dkc.guide = s.guideNow ∧ w.dkc.station = s.stationNow := by
  intro w
  have hw : w = _ := zoneToDock_eq s
  obtain ⟨g, hg⟩ : ∃ g, dkcEvent (takeGuide s.guideNow) s = g := ⟨_, rfl⟩
  have hzcu : g.zcu = s.zcu := by rw [← hg, dkcEvent_zcu _ _ (fun x => by simp) h]
  have hrse : g.rse = s.rse := by rw [← hg, dkcEvent_rse (fun x => by simp) (fun x => by simp) h]
  have hnav : g.navView = s.navView := by rw [← hg, dkcEvent_navView fun x => by simp]
  have hbank : g.bankView = s.bankView := by simp [← hg, State.bankView]
  have hnone : ∀ i, g.zcu.loops.get i ≠ .lost := by rwa [hzcu]
  have hguide : g.dkc.guide = s.guideNow := by simp [← hg]
  have hseen : g.mgt.zone = s.mgt.zone ∧ g.mgt.prox = s.mgt.prox := by simp [← hg]
  rw [hg] at hw
  rw [hw, dkcEvent_zcu _ _ (fun x => by simp) hnone, dkcEvent_rse (fun x => by simp) (fun x => by simp) hnone,
    dkcEvent_navView fun x => by simp]
  refine ⟨hzcu, hrse, hnav, ?_, ?_, ?_, ?_⟩
  · simp [hseen]
  · simp [hseen]
  · simp [hguide]
  · simp [stationNow_congr hbank hzcu]

end

/-! ### The WIRE channel reset -/

/-- The part with its wire and its zone context begun afresh, before the hand-offs (R24, R43). -/
def State.rewired (u : State) : State := { u with wdc := Wdc.reset, zcu := u.zoneFresh ZcuCounters.zero }

/-- The part after the hand-offs of a WIRE channel reset. -/
def State.rewiredTold (u : State) : State := zoneToDock true true (zoneToGate u u.rewired)

section
variable (u : State)

theorem wireReset_eq :
    wireReset u = if u.wireTest.isSome = true then testOver .aborted u.rewiredTold else u.rewiredTold := by
  have hzone : zoneReset (wdcReset u) = u.rewiredTold := by
    unfold zoneReset
    rw [zoneFresh_of_bank (s := u) (t := wdcReset u) rfl]
    rfl
  unfold wireReset
  extract_lets t
  rw [show t = u.rewiredTold from hzone]

theorem rewired_noneLost (i : Slot) : u.rewired.zcu.loops.get i ≠ .lost := by
  have hloop : u.rewired.zcu.loops.get i = if u.enabled i = true then .pending else .disabled := PerSlot.get_of _ i
  rw [hloop]
  split <;> exact nofun

/-- Whether the loss of the active zone makes the default slope max raise TILT_OVER at once (log entry 71). -/
def State.tiltsAtReset : Prop :=
  u.zcu.active ≠ none ∧ u.defaultSlopeMax < max u.spu.pitch.angle.natAbs u.spu.roll.angle.natAbs ∧
    u.tiltPersistence = 0 ∧ u.spu.tilt.st ≠ .running ∧ u.spu.tilt.st ≠ .spent

/-- The test of the slope raises TILT_OVER at once, or leaves the contexts. -/
theorem tiltTest_rse (s : State) :
    ((s.overSlope = true ∧ s.tiltPersistence = 0 ∧ s.spu.tilt.st ≠ .running ∧ s.spu.tilt.st ≠ .spent) →
      (tiltTest s).rse.ctx3.isSome = true) ∧
    (¬ (s.overSlope = true ∧ s.tiltPersistence = 0 ∧ s.spu.tilt.st ≠ .running ∧ s.spu.tilt.st ≠ .spent) →
      (tiltTest s).rse = s.rse) := by
  unfold tiltTest
  split
  · next hsteep =>
    split
    · next hst => exact ⟨fun h => absurd hst h.2.2.1, fun _ => rfl⟩
    · next hst => exact ⟨fun h => absurd hst h.2.2.2, fun _ => rfl⟩
    · next hrun hspent =>
      split
      · next hnone => exact ⟨fun _ => raiseFixed_ctx3 _ _ _, fun h => absurd ⟨hsteep, hnone, hrun, hspent⟩ h⟩
      · next hlong => exact ⟨fun h => absurd h.2.1 hlong, fun _ => rfl⟩
  · next hlevel =>
    refine ⟨fun h => absurd h.1 hlevel, fun _ => ?_⟩
    split <;> rfl

theorem gateTakesStrength_navView (s : State) : (gateTakesStrength s).navView = s.navView := by
  unfold gateTakesStrength
  extract_lets t
  split
  · rfl
  · exact evaluate_navView t

/-- The gate and the slope test once no zone is active (R40, R58). -/
theorem zoneToGate_rewired :
    let y := zoneToGate u u.rewired
    y.zcu = u.rewired.zcu ∧ y.spu.units = u.spu.units ∧ y.navView = u.navView ∧ y.mgt.prox = 0 ∧
      (u.mgt.zone = u.zcu.active → y.mgt.zone = none) ∧ (u.tiltsAtReset → y.rse.ctx3.isSome = true) ∧
      (¬ u.tiltsAtReset → y.rse = u.rse) ∧ y.stopView = u.stopView := by
  intro y
  have hnone : u.rewired.zcu.active = none := rfl
  have hprox : u.rewired.zcu.prox = 0 := rfl
  have hzcu : y.zcu = u.rewired.zcu := by simp [y]
  refine ⟨hzcu, ?_⟩
  by_cases hactive : u.zcu.active = none
  · have hy : y = gateTakesStrength u.rewired := by
      simp only [y, zoneToGate, hnone, hactive, if_true]
    obtain ⟨hzone, hstrength⟩ := gateTakesStrength_seen u.rewired
    have hnav := gateTakesStrength_navView u.rewired
    have hrse : y.rse = u.rse := by simp [hy, State.rewired]
    refine ⟨by simp [hy, State.rewired], by rw [hy, hnav]; rfl, by rw [hy, hstrength, hprox], fun hseen => ?_,
      fun h => absurd hactive h.1, fun _ => hrse, by rw [State.stopView, hrse]; rfl⟩
    rw [hy, hzone, ← hactive, ← hseen]
    rfl
  · have hne : ¬ u.rewired.zcu.active = u.zcu.active := fun h => hactive (h.symm.trans hnone)
    obtain ⟨z, hz⟩ : ∃ z, gateTakesZone u.rewired = z := ⟨_, rfl⟩
    have hy : y = gateTakesStrength (tiltTest z) := by
      simp only [y, zoneToGate, hne, if_false, hz]
    have hzzcu : z.zcu = u.rewired.zcu := by simp [← hz]
    have hzspu : z.spu = u.spu := by
      simp [← hz, State.rewired]
    have hzrse : z.rse = u.rse := by
      simp [← hz, State.rewired]
    have hznav : z.navView = u.navView := by
      rw [← hz, gateTakesZone, evaluate_navView]
      rfl
    have hzbank : z.bankView = u.bankView := by simp [← hz, State.bankView, State.rewired]
    have hzzone : z.mgt.zone = none := by
      simp [← hz, gateTakesZone, onMgt, hnone]
    have hfigures : z.defaultSlopeMax = u.defaultSlopeMax ∧ z.tiltPersistence = u.tiltPersistence := by
      obtain ⟨hmem, hhigh⟩ := Prod.ext_iff.mp hzbank
      simp only [State.bankView] at hmem hhigh
      simp only [State.defaultSlopeMax, State.tiltPersistence, State.gen16, State.tableWord, State.tableByte,
        State.tableAddr, State.bankBase, hmem, hhigh, and_self]
    have hsteep : z.overSlope = true ↔
        u.defaultSlopeMax < max u.spu.pitch.angle.natAbs u.spu.roll.angle.natAbs := by
      simp only [State.overSlope, State.slopeMax, State.slope, hzzcu, hnone, hzspu, hfigures, decide_eq_true_eq]
    have htilts : u.tiltsAtReset ↔ z.overSlope = true ∧ z.tiltPersistence = 0 ∧ z.spu.tilt.st ≠ .running ∧
        z.spu.tilt.st ≠ .spent := by
      rw [State.tiltsAtReset, hsteep, hzspu, hfigures.2]
      exact ⟨fun h => h.2, fun h => ⟨hactive, h⟩⟩
    obtain ⟨hraises, hquiet⟩ := tiltTest_rse z
    obtain ⟨hzone, hstrength⟩ := gateTakesStrength_seen (tiltTest z)
    have hnav := gateTakesStrength_navView (tiltTest z)
    have hrse : y.rse = (tiltTest z).rse := by simp [hy]
    refine ⟨?_, ?_, ?_, fun _ => ?_, fun h => ?_, fun h => ?_, ?_⟩
    · have hspu : y.spu = (tiltTest z).spu := by simp [hy]
      rw [hspu, tiltTest_spu, hzspu]
    · rw [hy, hnav, tiltTest_navView, hznav]
    · rw [hy, hstrength]
      simp [hzzcu, hprox]
    · rw [hy, hzone]
      simp [hzzone]
    · rw [hrse]
      exact hraises (htilts.mp h)
    · rw [hrse, hquiet (mt htilts.mpr h), hzrse]
    · rw [State.stopView, hrse]
      exact (tiltTest_stopView z).trans (by rw [State.stopView, hzrse]; rfl)

end

end Sys2Proof.Machine
end

section
/-! The WIRE channel reset as the host sees it (R23, R24, R39 to R43, R172). -/

namespace Sys2Proof.Machine

section
variable (u : State)

/-! ### The loops as they now stand -/

theorem rewired_lanes (i : Slot) (c : Coil) : (u.rewired.zcu.mirror.get i).get c = ⟨.pending, 0⟩ := by
  show ((PerSlot.all (PerCoil.all (⟨.pending, 0⟩ : MirrorLane))).get i).get c = _
  rw [PerSlot.get_all, PerCoil.get_all]

theorem rewired_loop (i : Slot) : u.rewired.zcu.loops.get i = if u.enabled i = true then .pending else .disabled :=
  PerSlot.get_of _ i

/-- A slot found by its kind is enabled, so that its loop is PENDING. -/
theorem rewired_loop_of_found {k : SlotKind} (hk : k ≠ .disabled) {i : Slot}
    (h : (slots.find? fun i => u.slotKind i == k) = some i) : u.rewired.zcu.loops.get i = .pending := by
  have hkind : u.slotKind i = k := eq_of_beq (List.find?_some (p := fun i => u.slotKind i == k) h)
  rw [rewired_loop, if_pos]
  rw [enabled_iff, hkind]
  exact hk

section
variable {u} {y : State} (hbank : y.bankView = u.bankView) (hzcu : y.zcu = u.rewired.zcu)
include hbank hzcu

theorem guideNow_rewired :
    (u.guideSlot ≠ none → y.guideNow = ⟨.pending, .pending, .pending⟩) ∧
      (u.guideSlot = none → y.guideNow = ⟨.disabled, .pending, .pending⟩) := by
  have hslot : y.guideSlot = u.guideSlot := by
    simp only [State.guideSlot, slotKind_of_bank hbank]
  unfold State.guideNow
  rw [hslot, hzcu]
  cases h : u.guideSlot with
  | none => exact ⟨fun hne => absurd rfl hne, fun _ => rfl⟩
  | some i =>
    have hloop := rewired_loop_of_found u (k := .guide) (by decide) h
    have hleft : (u.rewired.zcu.mirror.get i).left = ⟨.pending, 0⟩ := rewired_lanes u i .left
    have hright : (u.rewired.zcu.mirror.get i).right = ⟨.pending, 0⟩ := rewired_lanes u i .right
    refine ⟨fun _ => ?_, nofun⟩
    simp only [hloop, hleft, hright]

theorem stationNow_rewired :
    (u.stationSlot ≠ none → y.stationNow = ⟨.pending, 0⟩) ∧ (u.stationSlot = none → y.stationNow = ⟨.disabled, 0⟩) := by
  have hslot : y.stationSlot = u.stationSlot := by
    simp only [State.stationSlot, slotKind_of_bank hbank]
  have hstation : u.rewired.zcu.station = 0 := rfl
  unfold State.stationNow
  rw [hslot, hzcu]
  cases h : u.stationSlot with
  | none => exact ⟨fun hne => absurd rfl hne, fun _ => rfl⟩
  | some i =>
    have hloop := rewired_loop_of_found u (k := .station) (by decide) h
    refine ⟨fun _ => ?_, nofun⟩
    simp only [hloop, hstation]

end

/-! ### The part after the hand-offs -/

theorem rewiredTold_frame :
    u.rewiredTold.mem = u.mem ∧ u.rewiredTold.tbs = u.tbs ∧ u.rewiredTold.mrh = u.mrh ∧ u.rewiredTold.lbu = u.lbu ∧
      u.rewiredTold.wdc = Wdc.reset := by
  simp [State.rewiredTold, State.rewired]

theorem rewiredTold_seen :
    let w := u.rewiredTold
    let y := zoneToGate u u.rewired
    w.zcu = u.rewired.zcu ∧ w.rse = y.rse ∧ w.navView = u.navView ∧ w.spu.units = u.spu.units ∧ w.mgt.prox = 0 ∧
      (u.mgt.zone = u.zcu.active → w.mgt.zone = none) ∧ w.dkc.guide = y.guideNow ∧ w.dkc.station = y.stationNow := by
  obtain ⟨hzcu, hunits, hnav, hprox, hzone, -, -, -⟩ := zoneToGate_rewired u
  have hnone : ∀ i, u.rewired.zcu.loops.get i ≠ .lost := rewired_noneLost u
  unfold State.rewiredTold
  generalize zoneToGate u u.rewired = y at hzcu hunits hnav hprox hzone ⊢
  rw [← hzcu] at hnone ⊢
  obtain ⟨hwzcu, hwrse, hwnav, hwzone, hwprox, hguide, hstation⟩ := zoneToDock_noneLost hnone
  have hspu : (zoneToDock true true y).spu = y.spu := by simp
  refine ⟨hwzcu, hwrse, hwnav.trans hnav, hspu ▸ hunits, hwprox.trans hprox, fun h => hwzone.trans (hzone h), hguide,
    hstation⟩

theorem wireReset_of_noTest (h : u.wireTest = none) : wireReset u = u.rewiredTold := by
  rw [wireReset_eq, h]
  exact if_neg Bool.false_ne_true

theorem wireReset_of_test (h : u.wireTest ≠ none) :
    wireReset u = testEnded (u8 u.rewiredTold.lbu.kind.num) 3#8 .aborted u.rewiredTold := by
  rw [wireReset_eq, if_pos (Option.isSome_iff_ne_none.mpr h)]
  exact testOver_eq .aborted _

/-- The end of a test stands aside from the rest of a WIRE channel reset. -/
theorem wireReset_told :
    let w := u.rewiredTold
    (wireReset u).wdc = w.wdc ∧ (wireReset u).zcu = w.zcu ∧ (wireReset u).spu = w.spu ∧ (wireReset u).mgt = w.mgt ∧
      (wireReset u).dkc = w.dkc ∧ (wireReset u).mrh = w.mrh ∧ (wireReset u).mem = w.mem ∧ (wireReset u).tbs = w.tbs ∧
      (wireReset u).rse = { w.rse with stopTest := if u.wireTest = none then w.rse.stopTest else false } := by
  by_cases h : u.wireTest = none
  · rw [wireReset_of_noTest u h]
    generalize u.rewiredTold = w
    dsimp only
    rw [if_pos h]
    exact ⟨rfl, rfl, rfl, rfl, rfl, rfl, rfl, rfl, rfl⟩
  · rw [wireReset_of_test u h]
    generalize u.rewiredTold = w
    simp [testEnded, h]

/-! ### The clauses of the statement -/

theorem wireIsReset : WireIsReset u (wireReset u) := by
  obtain ⟨hwdc, hzcu, -, hmgt, hdkc, -⟩ := wireReset_told u
  obtain ⟨hwzcu, -, -, -, hprox, hzone, hguide, hstation⟩ := rewiredTold_seen u
  obtain ⟨-, -, -, -, hwwdc⟩ := rewiredTold_frame u
  obtain ⟨hyzcu, -⟩ := zoneToGate_rewired u
  have hbank : (zoneToGate u u.rewired).bankView = u.bankView := by simp [State.bankView, State.rewired]
  have hlanes : ∀ i c, ((Wdc.reset).lanes.get i).get c = ⟨none, none, 0, false, false⟩ := fun i c => by
    show ((PerSlot.all (PerCoil.all Lane.fresh)).get i).get c = _
    rw [PerSlot.get_all, PerCoil.get_all]
    rfl
  have hcoils : ∀ c, (Wdc.reset).coils.get c = ⟨none, false, ⟨.running, 0⟩, 0, 0, 0, 0, 0, 0, 0⟩ := fun c =>
    PerCoil.get_all _ c
  refine ⟨u.rewired, u.rewiredTold, rfl, hlanes, hcoils, rfl, rfl, rfl,
    fun i => ⟨rewired_loop u i, rewired_lanes u i, PerSlot.get_of _ i⟩, rfl, rfl, rfl, rfl, rfl, rfl, rfl, rfl, rfl,
    wireReset_of_noTest u, wireReset_of_test u, hwdc.trans hwwdc, hzcu.trans hwzcu, fun h => ?_, ?_, ?_⟩
  · rw [hmgt]
    exact hzone h
  · rw [hmgt, hprox]
  · rw [hdkc, hguide, hstation]
    obtain ⟨hsome, hnone⟩ := guideNow_rewired hbank hyzcu
    exact ⟨hsome, hnone, stationNow_rewired hbank hyzcu⟩

theorem wireReset_safeKept : u.SafeKept (wireReset u) := by
  obtain ⟨-, -, -, hmgt, -, hmrh, hmem, htbs, -⟩ := wireReset_told u
  obtain ⟨hwmem, hwtbs, hwmrh, -⟩ := rewiredTold_frame u
  obtain ⟨-, -, hnav, -⟩ := rewiredTold_seen u
  refine safeKept_of (hmem.trans hwmem) (htbs.trans hwtbs) ?_ (hmrh.trans hwmrh)
  rw [← hnav, State.navView, hmgt]
  rfl

/-- What a WIRE channel reset leaves of the contexts, of the pins and of the test. -/
theorem wireReset_aside :
    (¬ u.tiltsAtReset → u.ContextsKept (wireReset u)) ∧
      (u.tiltsAtReset → (wireReset u).rse.ctx3.isSome = true) ∧
      (wireReset u).rse.stopTest = (if u.wireTest = none then u.rse.stopTest else false) ∧
      (wireReset u).spu.units = u.spu.units ∧
      (u.wireTest ≠ none → (wireReset u).lbu.status = .aborted) ∧ (u.wireTest = none → (wireReset u).lbu = u.lbu) := by
  obtain ⟨-, -, hspu, -, -, -, -, -, hrse⟩ := wireReset_told u
  obtain ⟨-, hwrse, -, hunits, -⟩ := rewiredTold_seen u
  obtain ⟨-, -, -, -, -, hraises, hquiet, hstop⟩ := zoneToGate_rewired u
  obtain ⟨-, htest⟩ := Prod.ext_iff.mp hstop
  obtain ⟨-, -, -, hlbu, -⟩ := rewiredTold_frame u
  refine ⟨fun h => contextsKept_of ⟨if u.wireTest = none then u.rse.stopTest else false, ?_⟩,
    fun h => ?_, ?_, by rw [hspu, hunits], fun h => ?_, fun h => ?_⟩
  · rw [hrse, hwrse, hquiet h]
  · rw [hrse, hwrse]
    exact hraises h
  · rw [hrse, hwrse]
    split
    · exact htest
    · rfl
  · rw [wireReset_of_test u h]
    simp [testEnded]
  · rw [wireReset_of_noTest u h, hlbu]

end

end Sys2Proof.Machine
end

section
/-! The zeros of a DRIVE channel reset, and the evaluation whose posts follow them (R77, R104; log entry 45). -/

namespace Sys2Proof.Machine

/-! ### The zeros -/

/-- Two folds agree where their steps do under a property that the steps of one keep. -/
theorem foldl_eq_of_kept {I : State → Prop} {f g : State → Node → State} (hstep : ∀ x n, I x → f x n = g x n)
    (hkeep : ∀ x n, I x → I (g x n)) (l : List Node) {x : State} (hx : I x) : l.foldl f x = l.foldl g x := by
  induction l generalizing x with
  | nil => rfl
  | cons n rest ih =>
    rw [List.foldl_cons, List.foldl_cons, hstep x n hx]
    exact ih (hkeep x n hx)

section
variable {u : State}

theorem stilled_of_some {x : State} {n : Node} {v : PostValue} (h : u.stillAt n = some v) :
    stilled u x n = postKept n v u.mgt.source.origin x := by
  rw [stilled, h]

theorem stilled_of_none {x : State} {n : Node} (h : u.stillAt n = none) : stilled u x n = x := by
  rw [stilled, h]

/-- A property that each zero keeps is kept by all of them. -/
theorem foldl_stilled {P : State → Prop} (l : List Node)
    (hP : ∀ x n v, u.stillAt n = some v → P x → P (postKept n v u.mgt.source.origin x)) {x : State} (hx : P x) :
    P (l.foldl (stilled u) x) := by
  refine List.foldlRecOn l (stilled u) hx fun x hx n _ => ?_
  cases h : u.stillAt n with
  | none => rwa [stilled_of_none h]
  | some v =>
    rw [stilled_of_some h]
    exact hP x n v h hx

theorem postKept_dlc (n : Node) (v : PostValue) (o : Origin) (x : State) :
    (postKept n v o x).dlc = (postSet n v o x).dlc :=
  rfl

/-- The zeros change the drive link and the last posted values alone. -/
theorem foldl_stilled_eq (l : List Node) (x : State) :
    l.foldl (stilled u) x = { x with
      dlc := (l.foldl (stilled u) x).dlc
      mgt := { x.mgt with posted := (l.foldl (stilled u) x).mgt.posted } } := by
  refine foldl_stilled (P := fun y => y = { x with
      dlc := y.dlc
      mgt := { x.mgt with posted := y.mgt.posted } }) l (fun y n v _ hy => ?_) rfl
  rw [hy, postKept, postSet_eq]
  rfl

theorem foldl_stilled_link {P : State → Prop} (h : KeptOnLink P) (l : List Node) {x : State} (hx : P x) :
    P (l.foldl (stilled u) x) :=
  foldl_stilled l (fun _ n v _ hy => h.same (h.postSet n v _ hy)) hx

theorem foldl_stilled_relayHeld (l : List Node) (x : State) :
    (l.foldl (stilled u) x).dlc.relayHeld = x.dlc.relayHeld :=
  foldl_stilled (P := fun y => y.dlc.relayHeld = x.dlc.relayHeld) l
    (fun _ _ _ _ hy => (postSet_relayHeld _ _ _ _).trans hy) rfl

theorem foldl_stilled_behind (l : List Node) {x : State} (h : x.dlc.behind = []) :
    (l.foldl (stilled u) x).dlc.behind = [] :=
  foldl_stilled (P := fun y => y.dlc.behind = []) l (fun _ _ _ _ hy => postSet_behind_of_nil hy) h

/-- After the zeros every zero waits. -/
theorem foldl_stilled_waitsKey {l : List Node} {x : State} {n : Node} {v : PostValue} (hn : n ∈ l)
    (h : u.stillAt n = some v) : (l.foldl (stilled u) x).dlc.waitsKey (n, v, u.mgt.source.origin) := by
  induction l generalizing x with
  | nil => cases hn
  | cons m rest ih =>
    rcases List.mem_cons.mp hn with rfl | hrest
    · have hnew : (stilled u x n).dlc.waitsKey (n, v, u.mgt.source.origin) := by
        rw [stilled_of_some h, postKept_dlc]
        exact postSet_waitsKey_new
      refine foldl_stilled (P := fun y => y.dlc.waitsKey (n, v, u.mgt.source.origin)) rest (fun y m w hw hy => ?_) hnew
      rw [postKept_dlc]
      refine postSet_waitsKey_of_waitsKey hy fun hm => ?_
      have hmn : n = m := hm
      subst hmn
      rw [Option.some.inj (h.symm.trans hw)]
    · exact ih hrest

/-- With nothing behind the zeros, every zero is in the queue. -/
theorem foldl_stilled_queued {l : List Node} {x : State} (hbehind : x.dlc.behind = []) {n : Node} {v : PostValue}
    (hn : n ∈ l) (h : u.stillAt n = some v) :
    (n, v, u.mgt.source.origin) ∈ (l.foldl (stilled u) x).dlc.keys.1 := by
  have hnil : (l.foldl (stilled u) x).dlc.keys.2 = [] := by
    simp only [Dlc.keys, foldl_stilled_behind l hbehind, List.map_nil]
  rcases foldl_stilled_waitsKey (x := x) hn h with hq | hb
  · exact hq
  · rw [hnil] at hb
    cases hb

theorem mem_keys_iff {d : Dlc} {n : Node} {v : PostValue} {o : Origin} :
    (n, v, o) ∈ d.keys.1 ↔ ∃ e ∈ d.queue, e.node = n ∧ e.val = v ∧ e.origin = o := by
  simp only [Dlc.keys, List.mem_map, QEntry.key, Prod.mk.injEq]

/-- The model's zero posts are those of the statement, in a part with the tables and the source of `u`. -/
theorem resetZeroPosts_eq_foldl {x : State} (hbank : x.bankView = u.bankView) (hsource : x.mgt.source = u.mgt.source) :
    resetZeroPosts x = [0, 1, 2, 3, 4, 5].foldl (stilled u) x := by
  refine foldl_eq_of_kept (I := fun y => y.bankView = u.bankView ∧ y.mgt.source = u.mgt.source)
    (fun y n hy => ?_) (fun y n hy => ?_) nodes ⟨hbank, hsource⟩
  · obtain ⟨hybank, hysource⟩ := hy
    rw [zeroAt_eq_stillAt, stillAt_congr hybank, hysource]
    cases h : u.stillAt n with
    | none => rw [stilled_of_none h]
    | some v =>
      rw [stilled_of_some h, postKept, stillAt_speed h]
  · cases h : u.stillAt n with
    | none => rwa [stilled_of_none h]
    | some v =>
      rw [stilled_of_some h, postKept, postSet_eq]
      exact hy

end

/-- With no read pending none begins. -/
theorem keptOnLink_noRead : KeptOnLink fun s => s.dlc.read = none where
  still hdlc _ hs := by rwa [hdlc]
  posts d hd hs := by
    simp only [Dlc.unposted, Prod.mk.injEq] at hd
    obtain ⟨-, -, hread, -⟩ := hd
    exact hread.trans hs
  arbitrate {s} hs := by
    have hread : (arbitrate s).dlc.read = s.dlc.read := by
      have hhead : (sendHead s).dlc.read = s.dlc.read := by
        unfold sendHead
        split <;> rfl
      have hnone : sendRead s = s := by rw [sendRead, hs]
      unfold arbitrate
      (repeat' split)
      · rfl
      · exact hhead
      · rfl
      · rw [hnone]
      · exact hhead
    exact hread.trans hs

/-! ### The evaluation behind the zeros -/

section
variable {z : State}

/-- The posts that the figures of an evaluation ask for, by their addresses. -/
def State.dueOf (z : State) (l : List Node) : List (Node × PostValue) :=
  l.filterMap fun n => (z.duePost z.figures n).map fun p => (n, p)

theorem dueOf_cons_of_none {n : Node} {l : List Node} (h : z.duePost z.figures n = none) :
    z.dueOf (n :: l) = z.dueOf l := by
  rw [State.dueOf, List.filterMap_cons_none (by rw [h]; rfl)]
  rfl

theorem dueOf_cons_of_some {n : Node} {l : List Node} {v : PostValue} (h : z.duePost z.figures n = some v) :
    z.dueOf (n :: l) = (n, v) :: z.dueOf l := by
  rw [State.dueOf, List.filterMap_cons_some (by rw [h]; rfl)]
  rfl

/-- A part with posts put behind the zeros, kept as the last posted values and counted. -/
def State.withBehind (x : State) (o : Origin) (due : List (Node × PostValue)) : State :=
  { x with
    dlc := { x.dlc with behind := x.dlc.behind ++ due.map fun e => ⟨e.1, e.2, o, false, false⟩ }
    mgt := { x.mgt with
      posted := due.foldl (fun l e => l.set e.1 e.2.speed) x.mgt.posted
      cnt := { x.mgt.cnt with posts := due.foldl (fun k _ => bump k) x.mgt.cnt.posts } } }

theorem withBehind_nil (x : State) (o : Origin) : x.withBehind o [] = x := by
  rw [State.withBehind, List.map_nil, List.append_nil]
  rfl

theorem withBehind_cons (x : State) (o : Origin) (e : Node × PostValue) (rest : List (Node × PostValue)) :
    x.withBehind o (e :: rest) = (x.withBehind o [e]).withBehind o rest := by
  have happend : x.dlc.behind ++ (e :: rest).map (fun e => (⟨e.1, e.2, o, false, false⟩ : QEntry)) =
      (x.dlc.behind ++ [e].map (fun e => (⟨e.1, e.2, o, false, false⟩ : QEntry))) ++
        rest.map (fun e => (⟨e.1, e.2, o, false, false⟩ : QEntry)) := by
    rw [List.append_assoc]
    rfl
  rw [State.withBehind, happend]
  rfl

/-- A post that is due coalesces with the zero of its address. -/
theorem duePost_coalesces {n : Node} {v : PostValue} (h : z.duePost z.figures n = some v) :
    ∃ zero, z.stillAt n = some zero ∧ zero.coalesces v = true ∧ v.coalesces v = true := by
  unfold State.duePost at h
  dsimp only at h
  obtain ⟨hdue, -⟩ := Option.filter_eq_some_iff.mp h
  unfold State.stillAt
  cases hk : z.nodeKind n <;> rw [hk] at hdue <;> cases hdue <;> exact ⟨_, rfl, rfl, rfl⟩

/-- With a zero in the queue for every address whose post is due, the posts stand behind the zeros in turn. -/
theorem foldl_postedBy (l : List Node) (hnodup : l.Nodup) {x : State}
    (hqueue : ∀ n zero, z.stillAt n = some zero → ∃ e ∈ x.dlc.queue, e.node = n ∧ e.val = zero)
    (hbehind : ∀ e ∈ x.dlc.behind, e.node ∉ l) :
    l.foldl (z.postedBy postBehindCounted) x = x.withBehind (originOf z.figures.source) (z.dueOf l) := by
  induction l generalizing x with
  | nil => exact (withBehind_nil x _).symm
  | cons n rest ih =>
    obtain ⟨hn, hrest⟩ := List.nodup_cons.mp hnodup
    rw [List.foldl_cons]
    cases hdue : z.duePost z.figures n with
    | none =>
      rw [State.postedBy, hdue, dueOf_cons_of_none hdue]
      exact ih hrest hqueue fun e he => fun hmem => hbehind e he (List.mem_cons_of_mem n hmem)
    | some v =>
      obtain ⟨zero, hzero, hcoalesces, hself⟩ := duePost_coalesces hdue
      obtain ⟨e, he, hnode, hval⟩ := hqueue n zero hzero
      have hposted : postBehindCounted n v (originOf z.figures.source) x =
          x.withBehind (originOf z.figures.source) [(n, v)] := by
        obtain ⟨hput, -⟩ := evaluationFollowsTheZeros.2 n v (originOf z.figures.source) x hself
        have hfree : ∀ e ∈ x.dlc.behind, ¬ (e.node = n ∧ e.val.coalesces v = true) := fun e he hsame =>
          hbehind e he (hsame.1 ▸ List.mem_cons_self ..)
        rw [postBehindCounted, hput ⟨e, he, hnode, by rw [hval, hcoalesces]⟩ hfree]
        rfl
      have hstep : z.postedBy postBehindCounted x n = x.withBehind (originOf z.figures.source) [(n, v)] := by
        rw [State.postedBy, hdue]
        exact hposted
      rw [dueOf_cons_of_some hdue, withBehind_cons, hstep]
      refine ih hrest hqueue fun e he => ?_
      rcases List.mem_append.mp he with hold | hnew
      · exact fun hmem => hbehind e hold (List.mem_cons_of_mem n hmem)
      · rw [List.mem_singleton.mp hnew]
        exact hn

/-- The evaluation after the zeros, with nothing behind them before. -/
theorem evaluateBehind_of_zeros (hqueue : ∀ n zero, z.stillAt n = some zero → ∃ e ∈ z.dlc.queue, e.node = n ∧ e.val = zero)
    (hbehind : z.dlc.behind = []) :
    evaluateBehind z = { z with
      dlc := { z.dlc with
        behind := (z.dueOf nodes).map fun e => ⟨e.1, e.2, originOf z.figures.source, false, false⟩ }
      mgt := { z.figures with
        posted := (z.dueOf nodes).foldl (fun l e => l.set e.1 e.2.speed) z.figures.posted
        cnt := { z.figures.cnt with
          posts := (z.dueOf nodes).foldl (fun k _ => bump k) z.figures.cnt.posts } } } := by
  have hposts : evaluateBehind z = nodes.foldl (z.postedBy postBehindCounted) z.formed :=
    evaluationFollowsTheZeros.1 z
  have hnone : ∀ e ∈ z.formed.dlc.behind, e.node ∉ nodes := fun e he => by
    rw [show z.formed.dlc.behind = [] from hbehind] at he
    cases he
  rw [hposts, foldl_postedBy nodes (by decide) (x := z.formed) hqueue hnone, State.withBehind,
    show z.formed.dlc.behind = [] from hbehind, List.nil_append]
  rfl

end

end Sys2Proof.Machine
end

section
/-! The DRIVE channel reset, and every channel reset as the host sees it (R77, R104, R150, R154, R165, R170). -/

namespace Sys2Proof.Machine

section
variable (u : State)

/-! ### The link begins afresh -/

/-- The part once a D-link echo has ended and a pending read has been answered. -/
def State.readEnded : State := if u.dlc.read = none then abortDEcho u else answerRead .nodeTimeout [] (abortDEcho u)

/-- The part with the drive link and the contact begun afresh, before the zeros (R104, R127). -/
def State.driveCleared : State :=
  { u.readEnded with
    dlc := u.readEnded.freshDlc
    dkc := { u.readEnded.dkc with
      present := 0
      absent := 0
      established := false
      batteryT := { u.readEnded.dkc.batteryT with st := .stopped } } }

theorem abortDEcho_of_echo (h : u.dEchoRunning = true) : abortDEcho u = testEnded 2#8 3#8 .aborted u := by
  have hkind : u.lbu.kind = .dLinkEcho := eq_of_beq (Bool.and_eq_true_iff.mp h).2
  rw [abortDEcho, if_pos h, testOver_eq, hkind]
  rfl

theorem abortDEcho_of_quiet (h : u.dEchoRunning = false) : abortDEcho u = u := if_neg (Bool.eq_false_iff.mp h)

theorem readEnded_frame :
    u.readEnded.mem = u.mem ∧ u.readEnded.tbs = u.tbs ∧ u.readEnded.wdc = u.wdc ∧ u.readEnded.spu = u.spu ∧
      u.readEnded.zcu = u.zcu ∧ u.readEnded.mgt = u.mgt ∧ u.readEnded.rse = (abortDEcho u).rse ∧
      u.readEnded.lbu = (abortDEcho u).lbu := by
  unfold State.readEnded
  split
  · simp
  · simp

theorem readEnded_bank : u.readEnded.bankView = u.bankView := by
  obtain ⟨hmem, htbs, -⟩ := readEnded_frame u
  rw [State.bankView, hmem, htbs]
  rfl

theorem answerRead_queue (code : RespCode) (data : List Byte) (s : State) :
    (answerRead code data s).mrh.queue = s.mrh.queue := by
  unfold answerRead
  split
  · rfl
  · simp

theorem readEnded_queue : u.readEnded.mrh.queue = u.mrh.queue := by
  have haborted : (abortDEcho u).mrh = u.mrh := by simp
  unfold State.readEnded
  split
  · rw [haborted]
  · rw [answerRead_queue, haborted]

theorem driveIsCleared : u.DriveIsCleared u.readEnded.freshDlc := by
  have hkind := nodeKind_of_bank (readEnded_bank u)
  have hpoll : u.readEnded.pollInterval = u.pollInterval := by
    obtain ⟨hmem, htbs, -⟩ := readEnded_frame u
    simp only [State.pollInterval, State.gen8, State.tableByte, State.tableAddr, State.bankBase, hmem, htbs]
  have hrec : ∀ n, u.readEnded.freshDlc.recs.get n =
      if u.nodeKind n = .noNode then none else some (NodeRec.fresh u.pollInterval) := fun n => by
    rw [← hkind, ← hpoll]
    exact PerSix.get_of _ n
  refine ⟨rfl, rfl, rfl, rfl, rfl, rfl, rfl, fun n h => ?_, fun n h => ?_⟩
  · rw [hrec, if_pos h]
  · rw [hrec, if_neg h]
    rfl

/-! ### The zeros of the reset -/

theorem driveStilled_eq : driveStilled u = [0, 1, 2, 3, 4, 5].foldl (stilled u) u.driveCleared := by
  have hread : (if (abortDEcho u).dlc.read.isSome then answerRead .nodeTimeout [] (abortDEcho u) else abortDEcho u) =
      u.readEnded := by
    have hdlc : (abortDEcho u).dlc = u.dlc := by simp
    rw [hdlc, State.readEnded]
    cases u.dlc.read <;> rfl
  obtain ⟨-, -, -, -, -, hmgt, -⟩ := readEnded_frame u
  have hbank : u.driveCleared.bankView = u.bankView := readEnded_bank u
  have hsource : u.driveCleared.mgt.source = u.mgt.source := by
    rw [show u.driveCleared.mgt = u.readEnded.mgt from rfl, hmgt]
  rw [← resetZeroPosts_eq_foldl hbank hsource]
  unfold driveStilled
  extract_lets t t'
  rw [show t' = u.readEnded from hread]
  rfl

/-- What stands aside from the zeros of the reset. -/
theorem driveStilled_aside :
    let z := driveStilled u
    z.rse = (abortDEcho u).rse ∧ z.lbu = (abortDEcho u).lbu ∧ z.mrh.queue = u.mrh.queue ∧ z.navView = u.navView := by
  obtain ⟨-, -, -, -, -, hmgt, hrse, hlbu⟩ := readEnded_frame u
  have hnav : u.readEnded.navView = u.navView := by rw [State.navView, hmgt]; rfl
  obtain ⟨d, p, hz⟩ : ∃ d p, driveStilled u = { u.driveCleared with
      dlc := d, mgt := { u.driveCleared.mgt with posted := p } } := by
    rw [driveStilled_eq, foldl_stilled_eq]
    exact ⟨_, _, rfl⟩
  rw [hz]
  exact ⟨hrse, hlbu, readEnded_queue u, hnav⟩

theorem driveStilled_bank : (driveStilled u).bankView = u.bankView := by simp [State.bankView]

/-- After the reset's zeros the link has nothing but them: none is left out, and nothing else waits. -/
theorem driveStilled_link :
    let z := driveStilled u
    z.dlc.behind = [] ∧ z.dlc.relayHeld = none ∧ z.dlc.read = none ∧ z.dlc.recs = u.readEnded.freshDlc.recs ∧
      ∀ n zero, u.stillAt n = some zero → (n, zero, u.mgt.source.origin) ∈ z.dlc.keys.1 := by
  have hview : (driveStilled u).dlc.nodeView = u.driveCleared.dlc.nodeView := by
    rw [driveStilled_eq]
    exact foldl_stilled_link (keptOnLink_nodeView _) _ rfl
  have hnone : (driveStilled u).dlc.read = none := by
    rw [driveStilled_eq]
    exact foldl_stilled_link keptOnLink_noRead _ rfl
  rw [Dlc.nodeView, Dlc.nodeView, Prod.mk.injEq] at hview
  obtain ⟨hrecs, -⟩ := hview
  refine ⟨?_, ?_, hnone, hrecs, fun n zero h => ?_⟩
  · rw [driveStilled_eq]
    exact foldl_stilled_behind _ rfl
  · rw [driveStilled_eq, foldl_stilled_relayHeld]
    rfl
  · rw [driveStilled_eq]
    exact foldl_stilled_queued rfl (mem_nodes n) h

theorem driveStilled_queued {n : Node} {zero : PostValue} (h : u.stillAt n = some zero) :
    ∃ e ∈ (driveStilled u).dlc.queue, e.node = n ∧ e.val = zero ∧ e.origin = u.mgt.source.origin := by
  obtain ⟨-, -, -, -, hzeros⟩ := driveStilled_link u
  exact mem_keys_iff.mp (hzeros n zero h)

/-- The evaluation of a reset that brings no swap. -/
theorem evaluateBehind_driveStilled :
    let z := driveStilled u
    evaluateBehind z = { z with
      dlc := { z.dlc with
        behind := (z.dueOf nodes).map fun e => ⟨e.1, e.2, originOf z.figures.source, false, false⟩ }
      mgt := { z.figures with
        posted := (z.dueOf nodes).foldl (fun l e => l.set e.1 e.2.speed) z.figures.posted
        cnt := { z.figures.cnt with
          posts := (z.dueOf nodes).foldl (fun k _ => bump k) z.figures.cnt.posts } } } := by
  obtain ⟨hbehind, -⟩ := driveStilled_link u
  refine evaluateBehind_of_zeros (fun n zero h => ?_) hbehind
  rw [stillAt_congr (driveStilled_bank u)] at h
  obtain ⟨e, he, hnode, hval, -⟩ := driveStilled_queued u h
  exact ⟨e, he, hnode, hval⟩

end

end Sys2Proof.Machine
end

section
/-! Every channel reset as the host sees it (R24, R43, R46, R60, R77, R104, R125, R144, R150, R154, R165, R170, R172). -/

namespace Sys2Proof.Machine

/-! ### A swap keeps the queue of requests and the stop reasons -/

section
variable {s : State}

theorem dkcEvent_stopView {f : State → State} (hf : ∀ x, (f x).rse = x.rse) (s : State) :
    (dkcEvent f s).stopView = s.stopView := by
  have htold : (f s).stopView = s.stopView := by rw [State.stopView, hf]; rfl
  unfold dkcEvent
  extract_lets t u
  have hgate : u.stopView = s.stopView := by
    simp only [u]
    split
    · exact (evaluate_stopView _).trans htold
    · exact htold
  split
  · exact hgate
  · exact (wireLostTest_stopView _).trans hgate

theorem zoneToDock_stopView (s : State) : (zoneToDock true true s).stopView = s.stopView := by
  rw [zoneToDock_eq, dkcEvent_stopView fun x => by simp, dkcEvent_stopView fun x => by simp]

theorem spuSwapHandOff_stopView (s : State) : (spuSwapHandOff s).stopView = s.stopView := by
  have htilt (t : State) : (tiltSwapTest t).stopView = t.stopView := by
    unfold tiltSwapTest
    extract_lets x
    split
    · exact (raiseFixed_stopView _ _ _).trans (tiltTest_stopView t)
    · exact tiltTest_stopView t
  unfold spuSwapHandOff
  rw [htilt]
  split
  · exact dkcEvent_stopView (fun x => by simp) s
  · rfl

theorem stopView_of_rse {t : State} (h : t.rse = s.rse) : t.stopView = s.stopView := by rw [State.stopView, h]; rfl

theorem stopTest_of_stopView {t : State} (h : t.stopView = s.stopView) : t.rse.stopTest = s.rse.stopTest :=
  congrArg Prod.snd h

theorem handBank_stopView (behind : Bool) (before : PerSix NodeKind) (power : Option Node) (s : State) :
    (handBank behind before power s).stopView = s.stopView := by
  have hbanked : s.banked.rse = s.rse := by rw [banked_frame]
  have hrestart (t : State) : (telemetryRestart t).stopView = t.stopView := rfl
  rw [handBank_eq, hrestart, spuSwapHandOff_stopView, zoneToDock_stopView]
  exact stopView_of_rse (by simp [hbanked])

theorem swapRead_queue (s : State) : (swapRead s).mrh.queue = s.mrh.queue := by
  unfold swapRead
  split
  · rfl
  · split_ifs
    · rfl
    · rfl
    · exact answerRead_queue _ _ _

theorem dlcSwap_queue (before : PerSix NodeKind) (power : Option Node) (s : State) :
    (dlcSwap before power s).mrh.queue = s.mrh.queue := by
  have hread : (swapRead { s with dlc := s.swapDlc before }).mrh.queue = s.mrh.queue := swapRead_queue _
  unfold dlcSwap
  extract_lets t
  split
  · exact hread
  · exact hread

theorem handBank_queue (behind : Bool) (before : PerSix NodeKind) (power : Option Node) (s : State) :
    (handBank behind before power s).mrh.queue = s.mrh.queue := by
  have hbanked : s.banked.mrh = s.mrh := by rw [banked_frame]
  simp [handBank_eq, dlcSwap_queue, hbanked]

theorem takeSwap_kept (behind : Bool) (s : State) :
    (takeSwap behind s).mrh.queue = s.mrh.queue ∧ (takeSwap behind s).stopView = s.stopView := by
  unfold takeSwap
  extract_lets t u gone
  refine ⟨?_, ?_⟩
  · simp [handBank_queue, u, t]
  · have hset (x : State) : (arbitrate (setFlag .swapDone [u8 gone] x)).stopView = x.stopView :=
      stopView_of_rse (by simp)
    rw [hset, handBank_stopView]
    exact stopView_of_rse (by simp [u, t])

end

/-! ### The DRIVE channel reset -/

section
variable (u : State)

theorem resetSwaps_iff : u.resetSwaps ↔ (driveStilled u).swapDue = true := by
  rw [swapDue_driveStilled, State.resetSwaps, ← ctxHeld_eq_false_iff, ← dockSafe_iff]
  simp only [Bool.and_eq_true, Bool.or_eq_true, Bool.not_eq_true', and_assoc]

theorem driveReset_of_swap (h : u.resetSwaps) :
    driveReset u = arbitrate (evaluateBehind (takeSwap true (driveStilled u))) :=
  driveReset_of_due ((resetSwaps_iff u).mp h)

theorem driveReset_of_noSwap (h : ¬ u.resetSwaps) : driveReset u = arbitrate (evaluateBehind (driveStilled u)) :=
  driveReset_of_not_due (Bool.eq_false_iff.mpr (mt (resetSwaps_iff u).mpr h))

/-- What the evaluation and the arbitration after it leave. -/
theorem arbitrate_evaluateBehind_kept (x : State) :
    let v := arbitrate (evaluateBehind x)
    v.mem = x.mem ∧ v.tbs = x.tbs ∧ v.mrh = x.mrh ∧ v.rse = x.rse ∧ v.lbu = x.lbu ∧ v.wdc = x.wdc ∧ v.spu = x.spu ∧
      v.zcu = x.zcu := by
  simp

/-- A property of the part that a swap and an evaluation keep is kept by the reset once the zeros are posted. -/
theorem driveReset_keeps {α : Type} {p : State → α}
    (hswap : p (takeSwap true (driveStilled u)) = p (driveStilled u))
    (hend : ∀ x, p (arbitrate (evaluateBehind x)) = p x) : p (driveReset u) = p (driveStilled u) := by
  by_cases h : u.resetSwaps
  · rw [driveReset_of_swap u h, hend, hswap]
  · rw [driveReset_of_noSwap u h, hend]

theorem driveReset_queue : (driveReset u).mrh.queue = u.mrh.queue := by
  obtain ⟨-, -, hqueue, -⟩ := driveStilled_aside u
  refine (driveReset_keeps u (p := fun x => x.mrh.queue) (takeSwap_kept true _).1 fun x => ?_).trans hqueue
  simp

theorem driveReset_stopTest : (driveReset u).rse.stopTest = (abortDEcho u).rse.stopTest := by
  obtain ⟨hrse, -⟩ := driveStilled_aside u
  have hview := driveReset_keeps u (p := State.stopView) (takeSwap_kept true _).2 fun x => stopView_of_rse (by simp)
  exact (stopTest_of_stopView hview).trans (congrArg Rse.stopTest hrse)

theorem driveReset_lbu : (driveReset u).lbu = (abortDEcho u).lbu := by
  obtain ⟨-, hlbu, -⟩ := driveStilled_aside u
  exact (driveReset_frame u).2.2.2.2.2.trans hlbu

theorem driveReset_test :
    (u.dEchoRunning = true → (driveReset u).lbu.status = .aborted ∧ (driveReset u).rse.stopTest = false) ∧
      (u.dEchoRunning = false → (driveReset u).lbu = u.lbu ∧ (driveReset u).rse.stopTest = u.rse.stopTest) := by
  rw [driveReset_lbu, driveReset_stopTest]
  refine ⟨fun h => ?_, fun h => ?_⟩
  · rw [abortDEcho_of_echo u h]
    simp [testEnded]
  · rw [abortDEcho_of_quiet u h]
    exact ⟨rfl, rfl⟩

theorem driveReset_tables (h : u.resetSwaps) :
    (driveReset u).tbs.swapPending = false ∧
      (driveReset u).tbs.cnt.swapsTaken = bump u.tbs.cnt.swapsTaken ∧
      (driveReset u).tbs.activeHigh = !u.tbs.activeHigh := by
  have hz : (driveStilled u).tbs = u.tbs := by simp
  have hswapped : (takeSwap true (driveStilled u)).tbs = (exchange (driveStilled u)).tbs := by
    obtain ⟨-, -, -, -, -, htbs, -⟩ := swapRuns_takeSwap true (driveStilled u)
    exact htbs
  have htbs : (driveReset u).tbs = (exchange (driveStilled u)).tbs := by
    rw [driveReset_of_swap u h, ← hswapped]
    simp
  rw [htbs, exchange_tbs, hz]
  exact ⟨rfl, rfl, rfl⟩

theorem nav_of_navView {s t : State} (h : t.navView = s.navView) : t.mgt.cmd = s.mgt.cmd ∧ t.mgt.age = s.mgt.age :=
  Prod.ext_iff.mp h

theorem arbitrate_navView (x : State) : (arbitrate x).navView = x.navView := by
  rw [arbitrate_eq]
  rfl

theorem evaluateBehind_navView (x : State) : (evaluateBehind x).navView = x.navView := by
  refine (foldl_keeps postBehindIfDue State.navView (fun y n => ?_) nodes _).trans rfl
  unfold postBehindIfDue
  split
  · next v _ =>
    have hmgt : (postBehind n v y.mgt.source.origin y).mgt = y.mgt := by simp
    split
    · rfl
    · show ((postBehind n v _ y).mgt.cmd, (postBehind n v _ y).mgt.age) = _
      rw [hmgt]
      rfl
  · rfl

theorem driveReset_safeKept (h : ¬ u.resetSwaps) : u.SafeKept (driveReset u) := by
  obtain ⟨-, -, hqueue, hnav⟩ := driveStilled_aside u
  have hend : (driveReset u).navView = (driveStilled u).navView := by
    rw [driveReset_of_noSwap u h, arbitrate_navView, evaluateBehind_navView]
  have hkept := driveReset_of_noSwap u h
  obtain ⟨hcmd, hage⟩ := nav_of_navView (hend.trans hnav)
  exact ⟨by simp [hkept], by simp [hkept], hcmd, hage, driveReset_queue u⟩

theorem driveReset_contextsKept (h : ¬ u.resetSwaps) : u.ContextsKept (driveReset u) := by
  obtain ⟨hrse, -⟩ := driveStilled_aside u
  have hend : (driveReset u).rse = (abortDEcho u).rse := by
    rw [driveReset_of_noSwap u h, ← hrse]
    simp
  rw [State.ContextsKept, hend]
  cases hecho : u.dEchoRunning with
  | false =>
    rw [abortDEcho_of_quiet u hecho]
    exact ⟨rfl, rfl, rfl, rfl, rfl, rfl⟩
  | true =>
    rw [abortDEcho_of_echo u hecho]
    simp [testEnded]

theorem evaluateBehind_driveStilled_dlc :
    ∃ l, (evaluateBehind (driveStilled u)).dlc = { (driveStilled u).dlc with behind := l } := by
  rw [evaluateBehind_driveStilled]
  exact ⟨_, rfl⟩

/-- The drive link after a reset that brings no swap. -/
theorem driveReset_link (h : ¬ u.resetSwaps) :
    let v := driveReset u
    v.dlc.relayHeld = none ∧ v.dlc.read = none ∧ v.dlc.recs = u.readEnded.freshDlc.recs ∧
      ∀ n zero, u.stillAt n = some zero →
        ∃ e ∈ v.dlc.queue, e.node = n ∧ e.val = zero ∧ e.origin = u.mgt.source.origin := by
  obtain ⟨-, hheld, hread, hrecs, hzeros⟩ := driveStilled_link u
  obtain ⟨behind, hdlc⟩ := evaluateBehind_driveStilled_dlc u
  rw [driveReset_of_noSwap u h]
  generalize driveStilled u = z at hheld hread hrecs hzeros hdlc ⊢
  generalize evaluateBehind z = y at hdlc ⊢
  have hview : (arbitrate y).dlc.nodeView = y.dlc.nodeView := arbitrate_nodeView y
  have hnodes : (arbitrate y).dlc.recs = y.dlc.recs := congrArg Prod.fst hview
  refine ⟨?_, ?_, ?_, fun n zero hn => ?_⟩
  · rw [arbitrate_relayHeld, hdlc]
    exact hheld
  · exact keptOnLink_noRead.arbitrate (by rw [hdlc]; exact hread)
  · rw [hnodes, hdlc]
    exact hrecs
  · rw [← mem_keys_iff, arbitrate_keys, hdlc]
    exact hzeros n zero hn

theorem driveIsStilled : DriveIsStilled u (driveReset u) := by
  have hbank := driveStilled_bank u
  refine ⟨abortDEcho u, u.readEnded, takeDueSwap true (driveStilled u), driveStilled u, u.readEnded.freshDlc,
    abortDEcho_of_echo u, abortDEcho_of_quiet u, rfl, driveIsCleared u, driveStilled_eq u,
    (postedZero_iff _).mp (postedZero_driveStilled u), fun n zero hn => driveStilled_queued u hn, fun h => ?_,
    fun h => ?_, rfl, fun h => ⟨?_, (driveReset_link u h).2.2.2⟩⟩
  · rw [takeDueSwap_of_due ((resetSwaps_iff u).mp h)]
    exact ⟨_, swapRuns_takeSwap true (driveStilled u)⟩
  · exact takeDueSwap_of_not_due (Bool.eq_false_iff.mpr (mt (resetSwaps_iff u).mpr h))
  · exact (driveReset_of_noSwap u h).trans (congrArg arbitrate (evaluateBehind_driveStilled u))

end

/-! ### The request -/

section
variable {dt : Nat} {s : State} (held : s.resetHeld = false) (hhead : headIs 16 (arrive dt s) = true)
include held hhead

theorem exec_channelReset :
    exec (.channelReset dt) s = .next (channelReset (arrive dt s).headParams (arrive dt s)) :=
  exec_request (c := .channelReset dt) (f := channelReset) rfl held hhead

end

theorem channelReset_of_bad {p : List Byte} (u : State) (h : p = [] ∨ 2 < byteAt p 0) :
    channelReset p u = answer .badParam [] u := by
  unfold channelReset
  by_cases hp : p.isEmpty = true
  · rw [if_pos hp]
  · rw [if_neg hp]
    have hbyte : 2 < byteAt p 0 := h.resolve_left fun hnil => hp (by rw [hnil]; rfl)
    split
    · omega
    · omega
    · omega
    · rfl

theorem channelReset_of_some {p : List Byte} (u : State) (hp : p ≠ []) :
    (byteAt p 0 = 0 → channelReset p u = answer .ok [] (wireReset u)) ∧
      (byteAt p 0 = 1 → channelReset p u = answer .ok [] (driveReset u)) ∧
      (byteAt p 0 = 2 → channelReset p u = answer .ok [] (senseReset u)) := by
  have hsome : ¬ p.isEmpty = true := by simpa using hp
  unfold channelReset
  rw [if_neg hsome]
  refine ⟨fun h => ?_, fun h => ?_, fun h => ?_⟩
  · rw [h] <;> rfl
  · rw [h] <;> rfl
  · rw [h] <;> rfl

/-- Settles O52: each channel's reset is described on its own, and the request chooses among them. -/
theorem channelIsReset : Obligations.ChannelIsReset := by
  refine ⟨evaluationFollowsTheZeros, ?_⟩
  intro dt s held u p kept contexts slope tilts hhead
  have hexec := exec_channelReset held hhead
  refine ⟨fun h => ?bad, fun hp h => ?wire, fun hp h => ?drive, fun hp h => ?sense⟩
  case bad => rw [hexec, channelReset_of_bad _ h]
  case wire =>
    obtain ⟨hcalm, htilts, htest, hunits, haborted, hlbu⟩ := wireReset_aside u
    refine ⟨wireReset u, ?_, wireReset_safeKept u, hcalm, htilts, htest, hunits, wireIsReset u, haborted, hlbu⟩
    rw [hexec, (channelReset_of_some _ hp).1 h]
  case drive =>
    obtain ⟨hecho, hquiet⟩ := driveReset_test u
    refine ⟨driveReset u, ?_, driveIsStilled u, driveReset_queue u, hecho, hquiet, driveReset_tables u, fun hno => ?_⟩
    · rw [hexec, (channelReset_of_some _ hp).2.1 h]
    · obtain ⟨-, -, -, -, -, -, -, hnone, hfresh⟩ := driveIsCleared u
      obtain ⟨hheld, hread, hrecs, -⟩ := driveReset_link u hno
      have hend := driveReset_of_noSwap u hno
      refine ⟨driveReset_safeKept u hno, driveReset_contextsKept u hno, by simp [hend], by simp [hend], by simp [hend],
        hheld, hread, fun n hn => ?_, fun n hn => ?_⟩
      · rw [hrecs]
        exact hnone n hn
      · rw [hrecs]
        exact ⟨_, hfresh n hn, rfl, rfl, rfl⟩
  case sense =>
    obtain ⟨hrse, hzcu, hdock, -⟩ := senseReset_aside u
    have hspu := senseReset_spu u
    have hunit : ∀ x, (senseReset u).spu.units.get x = u.resetUnit x := fun x => by rw [hspu, sensed_unit]
    refine ⟨senseReset u, ?_, senseReset_safeKept u, hrse, by simp, hzcu, by simp, hdock, by rw [hspu]; rfl,
      by rw [hspu]; rfl, by rw [hspu]; rfl, by rw [hspu]; rfl, ⟨u.sensed, senseReset_eq u, ?_, reformAxes_begin rfl⟩,
      fun x => ?_⟩
    · rw [hexec, (channelReset_of_some _ hp).2.2 h]
    · rw [hspu]
      rfl
    · rw [hunit]
      exact resetUnit_fresh u x

end Sys2Proof.Machine
end

section
/-! The validation of a table, field by field: what each change of a field does, and how such changes compose where
their fields lie apart (R145, R147). -/

namespace Sys2Proof.Machine

/-! ### Fields -/

/-- Whether a byte is one of a field's bytes. -/
def TableField.touches (f : TableField) (i : Nat) : Prop := f.off ≤ i ∧ i < f.off + f.bytes

/-- Whether a field lies in one byte or in two. -/
def TableField.sound (f : TableField) : Prop := f.bytes = 1 ∨ f.bytes = 2

theorem TableField.touches_of_covers {f : TableField} {i k : Nat} (h : f.covers i k) : f.touches i := by
  obtain ⟨p, hp, rfl, -⟩ := h
  exact ⟨Nat.le_add_right _ _, Nat.add_lt_add_left hp _⟩

/-- What a field holds depends on its bytes alone. -/
theorem TableField.inBytes_congr {f : TableField} (hf : f.sound) {b d : Nat → Nat}
    (h : ∀ i, f.touches i → b i = d i) : f.inBytes b = f.inBytes d := by
  have hfirst : b f.off = d f.off := h _ ⟨le_rfl, by rcases hf with hf | hf <;> omega⟩
  unfold TableField.inBytes
  split
  · next htwo => rw [hfirst, h (f.off + 1) ⟨by omega, by omega⟩]
  · rw [hfirst]

theorem Check.get8_lt (c : Check) (i : Nat) : c.get8 i < 256 := BitVec.isLt _

theorem Check.get16_eq (c : Check) (i : Nat) : c.get16 i = 256 * c.get8 i + c.get8 (i + 1) := by
  rw [Check.get16, rd16, Nat.mul_comm]
  rfl

theorem Check.get16_lt (c : Check) (i : Nat) : c.get16 i < 65536 := by
  have hhigh := c.get8_lt i
  have hlow := c.get8_lt (i + 1)
  rw [c.get16_eq]
  omega

/-! ### A validation of some fields -/

/-- From one check to another the given fields take their values, those that change are counted, and no other bit
changes. -/
structure Check.Validates (l : List TableField) (c d : Check) : Prop where
  sound : ∀ f ∈ l, f.sound
  base : d.base = c.base
  values : ∀ f ∈ l, f.inBytes d.get8 = f.value
  count : d.n = c.n + (l.filter fun f => f.inBytes c.get8 != f.value).length
  kept : ∀ i k, k < 8 → (∀ f ∈ l, ¬ f.covers i k) → (d.get8 i).testBit k = (c.get8 i).testBit k

namespace Check.Validates

variable {l m : List TableField} {c d e : Check}

theorem refl (c : Check) : Check.Validates [] c c where
  sound := nofun
  base := rfl
  values := nofun
  count := rfl
  kept _ _ _ _ := rfl

/-- A byte that no field touches is unchanged. -/
theorem get8_eq (h : Check.Validates l c d) {i : Nat} (hi : ∀ f ∈ l, ¬ f.touches i) : d.get8 i = c.get8 i := by
  refine Nat.eq_of_testBit_eq fun k => ?_
  by_cases hk : k < 8
  · exact h.kept i k hk fun f hf hcovers => hi f hf (TableField.touches_of_covers hcovers)
  · have hhigh : ∀ x < 256, x.testBit k = false := fun x hx =>
      Nat.testBit_lt_two_pow (hx.trans_le (Nat.pow_le_pow_right (n := 2) (by decide) (Nat.not_lt.mp hk)))
    rw [hhigh _ (d.get8_lt i), hhigh _ (c.get8_lt i)]

/-- Fields of two validations that lie apart. -/
def Apart (l m : List TableField) : Prop := ∀ f ∈ l, ∀ g ∈ m, ∀ i, f.touches i → ¬ g.touches i

theorem trans (h : Check.Validates l c d) (k : Check.Validates m d e) (hapart : Apart l m) :
    Check.Validates (l ++ m) c e where
  sound f hf := (List.mem_append.mp hf).elim (h.sound f) (k.sound f)
  base := k.base.trans h.base
  values f hf := by
    rcases List.mem_append.mp hf with hl | hm
    · rw [← h.values f hl]
      exact TableField.inBytes_congr (h.sound f hl) fun i hi => k.get8_eq fun g hg => hapart f hl g hg i hi
    · exact k.values f hm
  count := by
    have hsame : (m.filter fun f => f.inBytes d.get8 != f.value) = m.filter fun f => f.inBytes c.get8 != f.value := by
      refine List.filter_congr fun f hf => ?_
      rw [TableField.inBytes_congr (k.sound f hf) fun i hi => h.get8_eq fun g hg htouch => hapart g hg f hf i htouch hi]
    rw [k.count, h.count, hsame, List.filter_append, List.length_append, Nat.add_assoc]
  kept i b hb hfree := by
    rw [k.kept i b hb fun f hf => hfree f (List.mem_append_right l hf),
      h.kept i b hb fun f hf => hfree f (List.mem_append_left m hf)]

/-- The order of the fields does not matter. -/
theorem perm (h : Check.Validates l c d) (hperm : l.Perm m) : Check.Validates m c d where
  sound f hf := h.sound f (hperm.mem_iff.mpr hf)
  base := h.base
  values f hf := h.values f (hperm.mem_iff.mpr hf)
  count := by rw [h.count, (hperm.filter _).length_eq]
  kept i k hk hfree := h.kept i k hk fun f hf => hfree f (hperm.mem_iff.mp hf)

end Check.Validates

/-! ### Validations one after another -/

/-- The bytes from `lo` on and below `hi`. -/
def Among (lo hi i : Nat) : Prop := lo ≤ i ∧ i < hi

/-- The part `i` of a table of parts of `s` bytes from `t` on. -/
def PartOf (t s i j : Nat) : Prop := Among (t + s * i) (t + s * (i + 1)) j

/-- Parts validated one after another, where the fields of a part may depend on what its own bytes were, and on what
its own bytes and those of the parts before it become. -/
theorem Check.Validates.parts {t s n : Nat} {f : Check → Nat → Check}
    {F : Nat → (Nat → Nat) → (Nat → Nat) → List TableField}
    (hstep : ∀ i < n, ∀ c : Check, Check.Validates (F i c.get8 (f c i).get8) c (f c i))
    (hin : ∀ i b b', ∀ g ∈ F i b b', ∀ j, g.touches j → PartOf t s i j)
    (hcongr : ∀ i {b d b' d' : Nat → Nat}, (∀ j, PartOf t s i j → b j = d j) →
      (∀ j, Among t (t + s * (i + 1)) j → b' j = d' j) → F i b b' = F i d d')
    (c : Check) :
    let e := (List.range n).foldl f c
    Check.Validates ((List.range n).flatMap fun i => F i c.get8 e.get8) c e := by
  induction n with
  | zero => exact Check.Validates.refl c
  | succ n ih =>
    intro e
    have hbefore := ih fun i hi => hstep i (Nat.lt_succ_of_lt hi)
    generalize hd : (List.range n).foldl f c = d at hbefore
    have he : e = f d n := by
      simp only [e, List.range_succ, List.foldl_append, List.foldl_cons, List.foldl_nil, hd]
    have hlast : Check.Validates (F n d.get8 e.get8) d e := by
      rw [he]
      exact hstep n (Nat.lt_succ_self n) d
    have hmul : ∀ i < n, s * (i + 1) ≤ s * n := fun i hi => Nat.mul_le_mul_left s hi
    have hplace : ∀ g ∈ (List.range n).flatMap fun i => F i c.get8 d.get8, ∀ j, g.touches j → j < t + s * n := by
      intro g hg j hj
      obtain ⟨i, hi, hgi⟩ := List.mem_flatMap.mp hg
      obtain ⟨-, hlt⟩ := hin i _ _ g hgi j hj
      have hle := hmul i (List.mem_range.mp hi)
      omega
    have hlastIn : ∀ g ∈ F n d.get8 e.get8, ∀ j, g.touches j → t + s * n ≤ j := fun g hg j hj =>
      (hin n _ _ g hg j hj).1
    have hearlier : ∀ i < n, F i c.get8 e.get8 = F i c.get8 d.get8 := fun i hi =>
      hcongr i (fun _ _ => rfl) fun j hj => hlast.get8_eq fun g hg htouch => by
        have hge := hlastIn g hg j htouch
        have hle := hmul i hi
        have hlt := hj.2
        omega
    have hown : F n c.get8 e.get8 = F n d.get8 e.get8 :=
      hcongr n (fun j hj => (hbefore.get8_eq fun g hg htouch => by
        have hlt := hplace g hg j htouch
        have hge := hj.1
        omega).symm) fun _ _ => rfl
    have hfields : ((List.range (n + 1)).flatMap fun i => F i c.get8 e.get8) =
        ((List.range n).flatMap fun i => F i c.get8 d.get8) ++ F n d.get8 e.get8 := by
      rw [List.range_succ, List.flatMap_append, List.flatMap_cons, List.flatMap_nil, List.append_nil, hown]
      exact congrArg (· ++ _) (List.flatMap_congr fun i hi => hearlier i (List.mem_range.mp hi))
    rw [hfields]
    refine hbefore.trans hlast fun g hg g' hg' j hj hj' => ?_
    have hlt := hplace g hg j hj
    have hge := hlastIn g' hg' j hj'
    omega

end Sys2Proof.Machine
end

section
/-! The rules that a table's fields are validated by, each with the fields that it makes of the bytes (R9, R28, R45,
R67, R83, R106, R107, R145). -/

namespace Sys2Proof.Machine

/-! ### One byte or one word takes a value -/

section
variable {c : Check} {off v : Nat} {l : List TableField}

theorem Check.get8_fix8 (hv : v < 256) (i : Nat) :
    (c.fix8 off v).get8 i = if i = off then v else c.get8 i := by
  unfold Check.fix8
  split
  · next h =>
    split
    · next hi => rw [hi, h]
    · rfl
  · simp only [Check.get8, Memory.read_write]
    by_cases hi : i = off
    · rw [if_pos (by rw [hi]), if_pos hi, u8_toNat hv]
    · rw [if_neg (by omega), if_neg hi]

theorem Check.get8_fix16 (hv : v < 65536) (k i : Nat) :
    (c.fix16 off v k).get8 i = if i = off then v / 256 else if i = off + 1 then v % 256 else c.get8 i := by
  unfold Check.fix16
  split
  · next h =>
    rw [Check.get16_eq] at h
    have hlow := c.get8_lt (off + 1)
    split
    · next hi => subst hi; omega
    · split
      · next hi => subst hi; omega
      · rfl
  · have hlow : (u8 v).toNat = v % 256 := BitVec.toNat_ofNat v 8
    have hhigh : (u8 (v / 256)).toNat = v / 256 := u8_toNat (by omega)
    simp only [Check.get8, Memory.read_writeBytes, be16, List.length_cons, List.length_nil]
    by_cases hfirst : i = off
    · subst hfirst
      rw [if_pos (by omega), if_pos rfl, Nat.sub_self]
      exact hhigh
    · rw [if_neg hfirst]
      by_cases hsecond : i = off + 1
      · subst hsecond
        rw [if_pos (by omega), if_pos rfl, show c.base + (off + 1) - (c.base + off) = 1 by omega]
        exact hlow
      · rw [if_neg (by omega), if_neg hsecond]

/-- Fields of one byte, which takes a value. -/
theorem Check.Validates.fix8 (hv : v < 256) (hl : ∀ f ∈ l, f.off = off ∧ f.bytes = 1)
    (hvalue : ∀ f ∈ l, bitsAt f.low f.bits v = f.value)
    (hkept : ∀ k < 8, (∀ f ∈ l, ¬ (f.low ≤ k ∧ k < f.low + f.bits)) → v.testBit k = (c.get8 off).testBit k)
    (hcount : c.get8 off ≠ v → (l.filter fun f => bitsAt f.low f.bits (c.get8 off) != f.value).length = 1) :
    Check.Validates l c (c.fix8 off v) := by
  have hread : ∀ f ∈ l, ∀ b, f.inBytes b = bitsAt f.low f.bits (b off) := fun f hf b => by
    obtain ⟨hoff, hone⟩ := hl f hf
    rw [TableField.inBytes, if_neg (by omega), hoff]
  have hlocal : (l.filter fun f => f.inBytes c.get8 != f.value) =
      l.filter fun f => bitsAt f.low f.bits (c.get8 off) != f.value :=
    List.filter_congr fun f hf => by rw [hread f hf]
  refine ⟨fun f hf => .inl (hl f hf).2, ?_, fun f hf => ?_, ?_, fun i k hk hfree => ?_⟩
  · unfold Check.fix8
    split <;> rfl
  · rw [hread f hf, Check.get8_fix8 hv, if_pos rfl]
    exact hvalue f hf
  · rw [hlocal]
    by_cases hsame : c.get8 off = v
    · have hnone : (l.filter fun f => bitsAt f.low f.bits (c.get8 off) != f.value) = [] :=
        List.filter_eq_nil_iff.mpr fun f hf => by simp [hsame, hvalue f hf]
      rw [Check.fix8, if_pos hsame, hnone]
      rfl
    · rw [Check.fix8, if_neg hsame, hcount hsame]
  · rw [Check.get8_fix8 hv]
    split
    · next hi =>
      subst hi
      refine hkept k hk fun f hf hbits => hfree f hf ?_
      obtain ⟨hoff, hone⟩ := hl f hf
      exact ⟨0, by omega, by omega, by omega, by omega⟩
    · rfl

/-- Fields of one word, which takes a value. -/
theorem Check.Validates.fix16 {n : Nat} (hv : v < 65536) (hl : ∀ f ∈ l, f.off = off ∧ f.bytes = 2)
    (hvalue : ∀ f ∈ l, bitsAt f.low f.bits v = f.value)
    (hkept : ∀ k < 16, (∀ f ∈ l, ¬ (f.low ≤ k ∧ k < f.low + f.bits)) → v.testBit k = (c.get16 off).testBit k)
    (hcount : c.get16 off ≠ v → (l.filter fun f => bitsAt f.low f.bits (c.get16 off) != f.value).length = n) :
    Check.Validates l c (c.fix16 off v n) := by
  have hread : ∀ f ∈ l, ∀ b, f.inBytes b = bitsAt f.low f.bits (256 * b off + b (off + 1)) := fun f hf b => by
    obtain ⟨hoff, htwo⟩ := hl f hf
    rw [TableField.inBytes, if_pos htwo, hoff]
  have hlocal : (l.filter fun f => f.inBytes c.get8 != f.value) =
      l.filter fun f => bitsAt f.low f.bits (c.get16 off) != f.value :=
    List.filter_congr fun f hf => by rw [hread f hf, c.get16_eq]
  refine ⟨fun f hf => .inr (hl f hf).2, ?_, fun f hf => ?_, ?_, fun i k hk hfree => ?_⟩
  · unfold Check.fix16
    split <;> rfl
  · have hword : 256 * (c.fix16 off v n).get8 off + (c.fix16 off v n).get8 (off + 1) = v := by
      rw [Check.get8_fix16 hv, Check.get8_fix16 hv, if_pos rfl, if_neg (by omega), if_pos rfl]
      omega
    rw [hread f hf, hword]
    exact hvalue f hf
  · rw [hlocal]
    by_cases hsame : c.get16 off = v
    · have hnone : (l.filter fun f => bitsAt f.low f.bits (c.get16 off) != f.value) = [] :=
        List.filter_eq_nil_iff.mpr fun f hf => by simp [hsame, hvalue f hf]
      rw [Check.fix16, if_pos hsame, hnone]
      rfl
    · rw [Check.fix16, if_neg hsame, hcount hsame]
  · have hsmall := c.get8_lt (off + 1)
    rw [Check.get8_fix16 hv]
    split
    · next hi =>
      subst hi
      have hbits := hkept (8 + k) (by omega) fun f hf hb => by
        obtain ⟨hoff, htwo⟩ := hl f hf
        exact hfree f hf ⟨0, by omega, by omega, by omega, by omega⟩
      have hbyte : c.get16 i / 2 ^ 8 = c.get8 i := by rw [c.get16_eq]; omega
      rw [show v / 256 = v / 2 ^ 8 from rfl, ← hbyte, Nat.testBit_div_two_pow, Nat.testBit_div_two_pow]
      simpa [Nat.add_comm] using hbits
    · split
      · next hi =>
        subst hi
        have hbits := hkept k (by omega) fun f hf hb => by
          obtain ⟨hoff, htwo⟩ := hl f hf
          exact hfree f hf ⟨1, by omega, by omega, by omega, by omega⟩
        have hbyte : c.get16 off % 2 ^ 8 = c.get8 (off + 1) := by rw [c.get16_eq]; omega
        rw [show v % 256 = v % 2 ^ 8 from rfl, ← hbyte, Nat.testBit_mod_two_pow, Nat.testBit_mod_two_pow, hbits]
      · rfl

theorem bitsAt_zero_of_lt {width n : Nat} (h : n < 2 ^ width) : bitsAt 0 width n = n := by
  rw [bitsAt, Nat.pow_zero, Nat.div_one, Nat.mod_eq_of_lt h]

/-- A byte that takes a value. -/
theorem Check.Validates.byte (hv : v < 256) : Check.Validates [.byte off v] c (c.fix8 off v) := by
  refine Check.Validates.fix8 hv (by simp [TableField.byte]) ?_ (fun k hk hfree => ?_) fun hne => ?_
  · simpa [TableField.byte] using bitsAt_zero_of_lt (width := 8) hv
  · exact absurd (hfree _ (List.mem_singleton_self _)) (by simp [TableField.byte, hk])
  · have hold : bitsAt 0 8 (c.get8 off) = c.get8 off := bitsAt_zero_of_lt (c.get8_lt off)
    simp [TableField.byte, hold, hne]

/-- A word that takes a value. -/
theorem Check.Validates.word (hv : v < 65536) : Check.Validates [.word off v] c (c.fix16 off v 1) := by
  refine Check.Validates.fix16 hv (by simp [TableField.word]) ?_ (fun k hk hfree => ?_) fun hne => ?_
  · simpa [TableField.word] using bitsAt_zero_of_lt (width := 16) hv
  · exact absurd (hfree _ (List.mem_singleton_self _)) (by simp [TableField.word, hk])
  · have hold : bitsAt 0 16 (c.get16 off) = c.get16 off := bitsAt_zero_of_lt (c.get16_lt off)
    simp [TableField.word, hold, hne]

end

/-! ### Fields within a byte or a word -/

theorem putBits_eq (lo width v n : Nat) :
    putBits lo width v n = 2 ^ lo * (2 ^ width * (n / 2 ^ lo / 2 ^ width) + v % 2 ^ width) + n % 2 ^ lo := by
  have hsplit := Nat.div_add_mod n (2 ^ lo)
  have hparts := Nat.div_add_mod (n / 2 ^ lo) (2 ^ width)
  unfold putBits bitsAt
  generalize n / 2 ^ lo % 2 ^ width = old at hparts ⊢
  generalize v % 2 ^ width = new
  generalize n / 2 ^ lo / 2 ^ width = high at hparts ⊢
  generalize n % 2 ^ lo = low at hsplit ⊢
  have hn : n = 2 ^ lo * (2 ^ width * high) + 2 ^ lo * old + low := by
    rw [← Nat.mul_add, hparts, hsplit]
  rw [hn, Nat.mul_add, Nat.mul_comm old, Nat.mul_comm new]
  omega

theorem putBits_testBit (lo width v n k : Nat) :
    (putBits lo width v n).testBit k = if lo ≤ k ∧ k < lo + width then v.testBit (k - lo) else n.testBit k := by
  have hlow : n % 2 ^ lo < 2 ^ lo := Nat.mod_lt _ (Nat.two_pow_pos lo)
  have hmid : v % 2 ^ width < 2 ^ width := Nat.mod_lt _ (Nat.two_pow_pos width)
  rw [putBits_eq, Nat.testBit_two_pow_mul_add _ hlow]
  by_cases hk : k < lo
  · rw [if_pos hk, if_neg (by omega), Nat.testBit_mod_two_pow]
    simp [hk]
  · rw [if_neg hk, Nat.testBit_two_pow_mul_add _ hmid]
    by_cases hw : k - lo < width
    · rw [if_pos hw, if_pos (by omega), Nat.testBit_mod_two_pow]
      simp [hw]
    · rw [if_neg hw, if_neg (by omega), Nat.testBit_div_two_pow, Nat.testBit_div_two_pow]
      exact congrArg _ (by omega)

theorem bitsAt_testBit (lo width n k : Nat) :
    (bitsAt lo width n).testBit k = (decide (k < width) && n.testBit (lo + k)) := by
  rw [bitsAt, Nat.testBit_mod_two_pow, Nat.testBit_div_two_pow, Nat.add_comm]

/-- Bits that were put elsewhere leave a field, and those put in it are its value. -/
theorem bitsAt_putBits_of_apart {lo width lo' width' v n : Nat} (h : lo + width ≤ lo' ∨ lo' + width' ≤ lo) :
    bitsAt lo width (putBits lo' width' v n) = bitsAt lo width n := by
  refine Nat.eq_of_testBit_eq fun k => ?_
  rw [bitsAt_testBit, bitsAt_testBit, putBits_testBit]
  by_cases hk : k < width
  · rw [if_neg (by omega)]
  · simp [hk]

theorem bitsAt_putBits {lo width v n : Nat} (hv : v < 2 ^ width) : bitsAt lo width (putBits lo width v n) = v := by
  refine Nat.eq_of_testBit_eq fun k => ?_
  rw [bitsAt_testBit, putBits_testBit]
  by_cases hk : k < width
  · rw [if_pos (by omega)]
    simp [hk]
  · have hhigh : v.testBit k = false :=
      Nat.testBit_lt_two_pow (hv.trans_le (Nat.pow_le_pow_right (by decide) (Nat.not_lt.mp hk)))
    simp [hk, hhigh]

theorem putBits_lt {lo width v n size : Nat} (hn : n < 2 ^ size) (h : lo + width ≤ size) :
    putBits lo width v n < 2 ^ size := by
  refine Nat.lt_pow_two_of_testBit _ fun k hk => ?_
  rw [putBits_testBit, if_neg (by omega)]
  exact Nat.testBit_lt_two_pow (hn.trans_le (Nat.pow_le_pow_right (by decide) hk))

end Sys2Proof.Machine
end

section
/-! The rules of single fields, and the tables that are validated by such rules alone: PROFILES, DERATE and ZONES (R9,
R28, R67). -/

namespace Sys2Proof.Machine

/-! ### The rules -/

theorem nearest_lt {lo hi n size : Nat} (hlo : lo < size) (hhi : hi < size) : nearest lo hi n < size := by
  unfold nearest
  omega

/-- A rule by which a field is validated: the nearest number of a range, a named value, a code length, a telemetry
interval, a signed speed, or a bit that is cleared. -/
inductive FieldRule
  | nearByte (off lo hi : Nat)
  | nearWord (off lo hi : Nat)
  | named (off last : Nat)
  | length (off : Nat)
  | interval (off : Nat)
  | speed (off : Nat)
  | clearBit (off bit : Nat)

namespace FieldRule

/-- Where the field of a rule begins. -/
def off : FieldRule → Nat
  | nearByte off _ _ => off
  | nearWord off _ _ => off
  | named off _ => off
  | length off => off
  | interval off => off
  | speed off => off
  | clearBit off _ => off

/-- How many bytes the field of a rule lies in. -/
def width : FieldRule → Nat
  | nearByte .. => 1
  | nearWord .. => 2
  | named .. => 1
  | length _ => 1
  | interval _ => 2
  | speed _ => 2
  | clearBit .. => 1

/-- Whether the bounds of a rule fit its field. -/
def Fits : FieldRule → Prop
  | nearByte _ lo hi => lo < 256 ∧ hi < 256
  | nearWord _ lo hi => lo < 65536 ∧ hi < 65536
  | clearBit _ bit => bit < 8
  | _ => True

/-- What the model does by a rule. -/
def run : FieldRule → Check → Check
  | nearByte off lo hi, c => c.clamp8 off lo hi
  | nearWord off lo hi, c => c.clamp16 off lo hi
  | named off last, c => c.enum off last 0
  | length off, c => c.fix8 off (nearestLength (c.get8 off))
  | interval off, c => c.fix16 off (telemetryRange (c.get16 off)) 1
  | speed off, c => c.clampS16 off (-2000) 2000
  | clearBit off bit, c => c.fix8 off (putBits bit 1 0 (c.get8 off))

/-- The field of a rule, with the value that the rule gives it. -/
def field (b : Nat → Nat) : FieldRule → TableField
  | nearByte off lo hi => .byte off (nearest lo hi (b off))
  | nearWord off lo hi => .word off (nearest lo hi (256 * b off + b (off + 1)))
  | named off last => .byte off (orDefault last (b off))
  | length off => .byte off (if b off ≤ 23 then 16 else if b off ≤ 47 then 32 else 64)
  | interval off => .word off
      (if 256 * b off + b (off + 1) = 0 then 0 else nearest 10 10000 (256 * b off + b (off + 1)))
  | speed off => speedField (fun off => 256 * b off + b (off + 1)) off
  | clearBit off bit => ⟨off, 1, bit, 1, 0⟩

theorem field_place (r : FieldRule) (b : Nat → Nat) : (r.field b).off = r.off ∧ (r.field b).bytes = r.width := by
  cases r <;> exact ⟨rfl, rfl⟩

theorem touches_field (r : FieldRule) (b : Nat → Nat) (i : Nat) :
    (r.field b).touches i ↔ r.off ≤ i ∧ i < r.off + r.width := by
  obtain ⟨hoff, hbytes⟩ := r.field_place b
  rw [TableField.touches, hoff, hbytes]

/-- The field of a rule depends on its own bytes alone. -/
theorem field_congr (r : FieldRule) {b d : Nat → Nat} (h : ∀ i, r.off ≤ i → i < r.off + r.width → b i = d i) :
    r.field b = r.field d := by
  have hfirst : b r.off = d r.off := h _ le_rfl (by cases r <;> simp [width])
  have hsecond : r.width = 2 → b (r.off + 1) = d (r.off + 1) := fun htwo => h _ (by omega) (by omega)
  cases r
  case nearByte | named | length => all_goals simp only [off] at hfirst; simp only [field, hfirst]
  case nearWord | interval | speed =>
    all_goals
      simp only [off, width, forall_const] at hfirst hsecond
      simp only [field, speedField, hfirst, hsecond]
  case clearBit => rfl

/-- A rule validates its field. -/
theorem validates (r : FieldRule) (hr : r.Fits) (c : Check) : Check.Validates [r.field c.get8] c (r.run c) := by
  cases r
  case nearByte off lo hi => exact Check.Validates.byte (nearest_lt hr.1 hr.2)
  case nearWord off lo hi =>
    have hvalid := Check.Validates.word (c := c) (off := off) (nearest_lt (n := c.get16 off) hr.1 hr.2)
    rw [c.get16_eq] at hvalid
    rwa [field, run, Check.clamp16, show clampN = nearest from rfl, c.get16_eq]
  case named off last =>
    have hbyte := c.get8_lt off
    have hvalue : (if last < c.get8 off then 0 else c.get8 off) = orDefault last (c.get8 off) := by
      unfold orDefault
      split
      · rw [if_neg (by omega)]
      · rw [if_pos (by omega)]
    have hlt : orDefault last (c.get8 off) < 256 := by
      unfold orDefault
      split
      · exact hbyte
      · decide
    rw [run, Check.enum, hvalue]
    exact Check.Validates.byte hlt
  case length off =>
    have hvalue : nearestLength (c.get8 off) = if c.get8 off ≤ 23 then 16 else if c.get8 off ≤ 47 then 32 else 64 := by
      unfold nearestLength
      exact if_congr (by omega) rfl (if_congr (by omega) rfl rfl)
    have hlt : nearestLength (c.get8 off) < 256 := by
      unfold nearestLength
      split_ifs <;> decide
    rw [field, ← hvalue]
    exact Check.Validates.byte hlt
  case interval off =>
    have hlt : telemetryRange (c.get16 off) < 65536 := by
      unfold telemetryRange
      split
      · decide
      · exact nearest_lt (by decide) (by decide)
    have hvalid := Check.Validates.word (c := c) (off := off) hlt
    rw [telemetryRange, c.get16_eq, show clampN = nearest from rfl] at hvalid
    rwa [field, run, telemetryRange, c.get16_eq, show clampN = nearest from rfl]
  case speed off =>
    have hlt : (clampI (-2000) 2000 (sgn16 (c.get16 off)) % 65536).toNat < 65536 := by omega
    have hvalid := Check.Validates.word (c := c) (off := off) hlt
    rw [c.get16_eq] at hvalid
    rwa [field, speedField, run, Check.clampS16, c.get16_eq]
  case clearBit off bit =>
    have hbit : bit < 8 := hr
    have hbyte : c.get8 off < 2 ^ 8 := c.get8_lt off
    have hcleared : bitsAt bit 1 (putBits bit 1 0 (c.get8 off)) = 0 := bitsAt_putBits (by decide)
    rw [field, run]
    refine Check.Validates.fix8 (putBits_lt hbyte (by omega)) (by simp) (by simpa using hcleared) (fun k hk hfree => ?_)
      fun hne => ?_
    · have hout := hfree _ (List.mem_singleton_self _)
      rw [putBits_testBit, if_neg hout]
    · have hset : bitsAt bit 1 (c.get8 off) ≠ 0 := fun hzero => hne (by simp [putBits, hzero])
      simp [hset]

/-! ### Rules one after another -/

/-- Rules whose fields lie apart. -/
def Apart (r r' : FieldRule) : Prop := r.off + r.width ≤ r'.off ∨ r'.off + r'.width ≤ r.off

/-- Rules of which the first ends before the second begins. -/
def Before (r r' : FieldRule) : Prop := r.off + r.width ≤ r'.off

/-- Rules in the order of their fields lie apart. -/
theorem apart_of_inOrder {l : List FieldRule} (h : l.IsChain Before) : l.Pairwise Apart := by
  have htrans : ∀ {r r' r'' : FieldRule}, r.Before r' → r'.Before r'' → r.Before r'' := fun h h' =>
    Nat.le_trans h (Nat.le_trans (Nat.le_add_right _ _) h')
  have : IsTrans FieldRule Before := ⟨fun _ _ _ => htrans⟩
  exact (List.isChain_iff_pairwise.mp h).imp Or.inl

/-- What the model does by rules one after another. -/
def runAll (l : List FieldRule) (c : Check) : Check := l.foldl (fun c r => r.run c) c

theorem runAll_append (l m : List FieldRule) (c : Check) : runAll (l ++ m) c = runAll m (runAll l c) :=
  List.foldl_append

theorem validates_all {l : List FieldRule} (hfits : ∀ r ∈ l, r.Fits) (hapart : l.Pairwise Apart) (c : Check) :
    Check.Validates (l.map fun r => r.field c.get8) c (runAll l c) := by
  induction l generalizing c with
  | nil => exact Check.Validates.refl c
  | cons r rest ih =>
    obtain ⟨hr, hrest⟩ := List.pairwise_cons.mp hapart
    have hfirst := r.validates (hfits r (List.mem_cons_self ..)) c
    have hlater := ih (fun r' hr' => hfits r' (List.mem_cons_of_mem r hr')) hrest (r.run c)
    have hfar : ∀ r' ∈ rest, ∀ i, r'.off ≤ i → i < r'.off + r'.width → ¬ (r.off ≤ i ∧ i < r.off + r.width) :=
      fun r' hr' i hlo hhi htouch => by
        rcases hr r' hr' with h | h <;> omega
    have hsame : (rest.map fun r' => r'.field (r.run c).get8) = rest.map fun r' => r'.field c.get8 :=
      List.map_congr_left fun r' hr' => r'.field_congr fun i hlo hhi => hfirst.get8_eq fun f hf htouch => by
        rw [List.mem_singleton.mp hf, touches_field] at htouch
        exact hfar r' hr' i hlo hhi htouch
    rw [hsame] at hlater
    refine hfirst.trans hlater fun f hf g hg i hi => ?_
    obtain ⟨r', hr', rfl⟩ := List.mem_map.mp hg
    rw [List.mem_singleton.mp hf, touches_field] at hi
    rw [touches_field]
    exact fun htouch => hfar r' hr' i htouch.1 htouch.2 hi

end FieldRule

/-- Parts of a table each validated by rules that depend on the part's own bytes. -/
theorem Check.Validates.ruled {t s n : Nat} {f : Check → Nat → Check} {R : Nat → (Nat → Nat) → List FieldRule}
    (hrun : ∀ i < n, ∀ c : Check, f c i = FieldRule.runAll (R i c.get8) c)
    (hfits : ∀ i < n, ∀ b, ∀ r ∈ R i b, r.Fits) (hapart : ∀ i b, (R i b).Pairwise FieldRule.Apart)
    (hin : ∀ i b, ∀ r ∈ R i b, t + s * i ≤ r.off ∧ r.off + r.width ≤ t + s * (i + 1))
    (hcongr : ∀ i {b d : Nat → Nat}, (∀ j, PartOf t s i j → b j = d j) → R i b = R i d) (c : Check) :
    Check.Validates ((List.range n).flatMap fun i => (R i c.get8).map fun r => r.field c.get8) c
      ((List.range n).foldl f c) := by
  refine Check.Validates.parts (F := fun i b _ => (R i b).map fun r => r.field b) (t := t) (s := s) (fun i hi c => ?_)
    (fun i b b' g hg j hj => ?_) (fun i b d b' d' hb hb' => ?_) c
  · rw [hrun i hi]
    exact FieldRule.validates_all (hfits i hi _) (hapart i _) c
  · obtain ⟨r, hr, rfl⟩ := List.mem_map.mp hg
    rw [FieldRule.touches_field] at hj
    have hplace := hin i b r hr
    exact ⟨by omega, by omega⟩
  · rw [hcongr i hb]
    refine List.map_congr_left fun r hr => r.field_congr fun j hlo hhi => hb j ?_
    have hplace := hin i d r hr
    exact ⟨by omega, by omega⟩

/-! ### PROFILES and DERATE -/

theorem checkProfiles_validates (c : Check) :
    Check.Validates ((List.range 64).map fun i => .byte i (nearest 0 32 (c.get8 i))) c (checkProfiles c) := by
  have hvalid := Check.Validates.ruled (t := 0) (s := 1) (n := 64) (f := checkWeight)
    (R := fun i _ => [.nearByte i 0 32]) (fun _ _ _ => rfl) (by simp [FieldRule.Fits]) (by simp)
    (by simp [FieldRule.off, FieldRule.width]) (fun _ _ _ _ => rfl) c
  rwa [List.map_eq_flatMap]

/-- The rules of a band of DERATE. -/
def bandRules (i : Nat) : List FieldRule := [.nearByte (2 * i) 0 100, .named (2 * i + 1) 1]

theorem checkDerate_validates (c : Check) :
    Check.Validates ((List.range 8).flatMap fun i =>
      [.byte (2 * i) (nearest 0 100 (c.get8 (2 * i))), .byte (2 * i + 1) (orDefault 1 (c.get8 (2 * i + 1)))]) c
      (checkDerate c) :=
  Check.Validates.ruled (t := 0) (s := 2) (n := 8) (f := checkBand) (R := fun i _ => bandRules i) (fun _ _ _ => rfl)
    (by simp [bandRules, FieldRule.Fits]) (by simp [bandRules, FieldRule.Apart, FieldRule.off, FieldRule.width])
    (by simp [bandRules, FieldRule.off, FieldRule.width]; omega) (fun _ _ _ _ => rfl) c

/-! ### ZONES -/

/-- The rules of every zone slot (R28). -/
def slotHead (i : Nat) : List FieldRule :=
  [.named (32 * i) 4, .nearByte (32 * i + 1) 0 7, .nearByte (32 * i + 2) 1 15, .nearByte (32 * i + 3) 1 255]

/-- The further rules of a zone slot by its kind (R28). -/
def slotTail (i kind : Nat) : List FieldRule :=
  let o := 32 * i
  match kind with
  | 1 => [.nearWord (o + 4) 0 2000, .nearWord (o + 6) 0 1000, .nearWord (o + 10) 0 5000, .nearWord (o + 12) 0 450,
    .nearWord (o + 14) 0 2047, .nearByte (o + 16) 0 100, .clearBit (o + 17) i]
  | 3 => [.nearWord (o + 4) 0 2000, .nearWord (o + 6) 0 1000, .named (o + 8) 1]
  | 4 => [.nearWord (o + 4) 0 2000, .nearWord (o + 6) 0 2047, .nearByte (o + 8) 1 120, .nearByte (o + 9) 0 3]
  | _ => []

/-- The rules of a zone slot of a kind. -/
def slotRules (i kind : Nat) : List FieldRule := slotHead i ++ slotTail i kind

theorem slotRules_apart (i kind : Nat) : (slotRules i kind).Pairwise FieldRule.Apart := by
  refine FieldRule.apart_of_inOrder ?_
  unfold slotRules slotHead slotTail
  split <;> simp [FieldRule.Before, FieldRule.off, FieldRule.width]

theorem slotRules_fits {i : Nat} (hi : i < 4) (kind : Nat) : ∀ r ∈ slotRules i kind, r.Fits := by
  have hbit : i < 8 := by omega
  unfold slotRules slotHead slotTail
  split <;> simp [FieldRule.Fits, hbit]

theorem slotRules_place (i kind : Nat) :
    ∀ r ∈ slotRules i kind, 0 + 32 * i ≤ r.off ∧ r.off + r.width ≤ 0 + 32 * (i + 1) := by
  unfold slotRules slotHead slotTail
  split <;> simp [FieldRule.off, FieldRule.width] <;> omega

theorem slotFields_eq (b : Nat → Nat) (i : Nat) :
    slotFields b (fun off => 256 * b off + b (off + 1)) i = (slotRules i (b (32 * i))).map fun r => r.field b := by
  have htail : ∀ kind, (slotTail i kind).map (fun r => r.field b) =
      match kind with
      | 1 => [.word (32 * i + 4) (nearest 0 2000 (256 * b (32 * i + 4) + b (32 * i + 4 + 1))),
        .word (32 * i + 6) (nearest 0 1000 (256 * b (32 * i + 6) + b (32 * i + 6 + 1))),
        .word (32 * i + 10) (nearest 0 5000 (256 * b (32 * i + 10) + b (32 * i + 10 + 1))),
        .word (32 * i + 12) (nearest 0 450 (256 * b (32 * i + 12) + b (32 * i + 12 + 1))),
        .word (32 * i + 14) (nearest 0 2047 (256 * b (32 * i + 14) + b (32 * i + 14 + 1))),
        .byte (32 * i + 16) (nearest 0 100 (b (32 * i + 16))), ⟨32 * i + 17, 1, i, 1, 0⟩]
      | 3 => [.word (32 * i + 4) (nearest 0 2000 (256 * b (32 * i + 4) + b (32 * i + 4 + 1))),
        .word (32 * i + 6) (nearest 0 1000 (256 * b (32 * i + 6) + b (32 * i + 6 + 1))),
        .byte (32 * i + 8) (orDefault 1 (b (32 * i + 8)))]
      | 4 => [.word (32 * i + 4) (nearest 0 2000 (256 * b (32 * i + 4) + b (32 * i + 4 + 1))),
        .word (32 * i + 6) (nearest 0 2047 (256 * b (32 * i + 6) + b (32 * i + 6 + 1))),
        .byte (32 * i + 8) (nearest 1 120 (b (32 * i + 8))), .byte (32 * i + 9) (nearest 0 3 (b (32 * i + 9)))]
      | _ => [] := fun kind => by
    unfold slotTail
    split <;> rfl
  rw [slotRules, List.map_append, htail]
  rfl

/-- A named value that a rule of some leaves. -/
theorem get8_runAll_named {l : List FieldRule} {off last : Nat} (hfits : ∀ r ∈ l, r.Fits)
    (hapart : l.Pairwise FieldRule.Apart) (h : .named off last ∈ l) (c : Check) :
    (FieldRule.runAll l c).get8 off = orDefault last (c.get8 off) := by
  have hfield := (FieldRule.validates_all hfits hapart c).values _ (List.mem_map_of_mem h)
  exact (bitsAt_zero_of_lt (width := 8) (Check.get8_lt _ off)).symm.trans hfield

theorem slotTail_of_other {i kind : Nat} (h1 : kind ≠ 1) (h3 : kind ≠ 3) (h4 : kind ≠ 4) : slotTail i kind = [] := by
  unfold slotTail
  split
  · exact absurd rfl h1
  · exact absurd rfl h3
  · exact absurd rfl h4
  · rfl

theorem runAll_slotHead (i : Nat) (c : Check) :
    FieldRule.runAll (slotHead i) c =
      (((c.enum (32 * i) 4 0).clamp8 (32 * i + 1) 0 7).clamp8 (32 * i + 2) 1 15).clamp8 (32 * i + 3) 1 255 := by
  simp only [slotHead, FieldRule.runAll, List.foldl_cons, List.foldl_nil, FieldRule.run]

theorem runAll_slotTail (i : Nat) (d : Check) :
    FieldRule.runAll (slotTail i 1) d = checkPerimeter i d ∧ FieldRule.runAll (slotTail i 3) d = checkGuide i d ∧
      FieldRule.runAll (slotTail i 4) d = checkStation i d := by
  simp only [slotTail, FieldRule.runAll, List.foldl_cons, List.foldl_nil, FieldRule.run, checkPerimeter, checkGuide,
    checkStation, and_self]

/-- The model takes a slot's kind once it is a named one, which is the kind that it was, or DISABLED. -/
theorem checkZone_eq (i : Nat) (c : Check) :
    checkZone c i = FieldRule.runAll (slotRules i (c.get8 (32 * i))) c := by
  obtain ⟨d, hd⟩ : ∃ d, FieldRule.runAll (slotHead i) c = d := ⟨_, rfl⟩
  have hkind : d.get8 (32 * i) = orDefault 4 (c.get8 (32 * i)) := by
    rw [← hd]
    exact get8_runAll_named (by simp [slotHead, FieldRule.Fits])
      (by simp [slotHead, FieldRule.Apart, FieldRule.off, FieldRule.width]) (by simp [slotHead]) c
  have hmodel : checkZone c i = match d.get8 (32 * i) with
      | 1 => checkPerimeter i d
      | 3 => checkGuide i d
      | 4 => checkStation i d
      | _ => d := by
    unfold checkZone
    dsimp only
    rw [← runAll_slotHead, hd] <;> rfl
  obtain ⟨hperimeter, hguide, hstation⟩ := runAll_slotTail i d
  rw [slotRules, FieldRule.runAll_append, hd, hmodel, hkind]
  generalize c.get8 (32 * i) = kind
  unfold orDefault
  by_cases hnamed : kind ≤ 4
  · rw [if_pos hnamed]
    split
    · exact hperimeter.symm
    · exact hguide.symm
    · exact hstation.symm
    · next h1 h3 h4 => rw [slotTail_of_other h1 h3 h4]; rfl
  · rw [if_neg hnamed, slotTail_of_other (by omega) (by omega) (by omega)]
    rfl

theorem checkZones_validates (c : Check) :
    Check.Validates ((List.range 4).flatMap (slotFields c.get8 fun off => 256 * c.get8 off + c.get8 (off + 1))) c
      (checkZones c) := by
  have hvalid := Check.Validates.ruled (t := 0) (s := 32) (n := 4) (f := checkZone)
    (R := fun i b => slotRules i (b (32 * i)))
    (fun i _ c => checkZone_eq i c) (fun i hi b => slotRules_fits hi _) (fun i b => slotRules_apart i _)
    (fun i b => slotRules_place i _) (fun i b d h => by rw [h (32 * i) ⟨by omega, by omega⟩]) c
  exact (funext (slotFields_eq c.get8) : slotFields c.get8 _ = _) ▸ hvalid

end Sys2Proof.Machine
end

section
/-! The validation of CODES, whose fields lie within words, and of the trigger map and the sequences of RESPONSES (R9,
R106, R107). -/

namespace Sys2Proof.Machine

/-! ### CODES -/

theorem bitsAt_lt (lo width n : Nat) : bitsAt lo width n < 2 ^ width := Nat.mod_lt _ (Nat.two_pow_pos width)

/-- Of two fields those that change are counted one by one. -/
theorem changed_pair (f g : TableField) (read : TableField → Nat) :
    (([f, g] : List TableField).filter fun f => read f != f.value).length =
      (if f.value = read f then 0 else 1) + (if g.value = read g then 0 else 1) := by
  have hone : ∀ f : TableField, (read f != f.value) = !decide (f.value = read f) := fun f => by
    simp [bne, beq_eq_decide, eq_comm]
  simp only [List.filter_cons, List.filter_nil, hone]
  by_cases hf : f.value = read f <;> by_cases hg : g.value = read g <;> simp [hf, hg]

/-- Two fields of a word that lie apart take their values, and those that change are counted. -/
theorem Check.Validates.twoFields {c : Check} {off lo width v lo' width' v' : Nat} (hv : v < 2 ^ width)
    (hv' : v' < 2 ^ width') (hapart : lo + width ≤ lo' ∨ lo' + width' ≤ lo) (hin : lo + width ≤ 16)
    (hin' : lo' + width' ≤ 16) :
    Check.Validates [⟨off, 2, lo, width, v⟩, ⟨off, 2, lo', width', v'⟩] c
      (c.fix16 off (putBits lo' width' v' (putBits lo width v (c.get16 off)))
        ((if v = bitsAt lo width (c.get16 off) then 0 else 1) +
          (if v' = bitsAt lo' width' (c.get16 off) then 0 else 1))) := by
  have hword : c.get16 off < 2 ^ 16 := c.get16_lt off
  have hfirst : bitsAt lo width (putBits lo' width' v' (putBits lo width v (c.get16 off))) = v := by
    rw [bitsAt_putBits_of_apart hapart, bitsAt_putBits hv]
  have hsecond : bitsAt lo' width' (putBits lo' width' v' (putBits lo width v (c.get16 off))) = v' := bitsAt_putBits hv'
  refine Check.Validates.fix16 (putBits_lt (putBits_lt hword hin) hin') (by simp) (by simp [hfirst, hsecond])
    (fun k hk hfree => ?_) fun _ => changed_pair _ _ fun f => bitsAt f.low f.bits (c.get16 off)
  rw [putBits_testBit, if_neg (hfree _ (List.mem_cons_of_mem _ (List.mem_singleton_self _))), putBits_testBit,
    if_neg (hfree _ List.mem_cons_self)]

/-- The bytes as two-byte numbers. -/
def wordIn (b : Nat → Nat) (off : Nat) : Nat := 256 * b off + b (off + 1)

theorem wordIn_get8 (c : Check) (off : Nat) : wordIn c.get8 off = c.get16 off := (c.get16_eq off).symm

theorem checkCode_validates (i : Nat) (c : Check) :
    Check.Validates (codeFields (wordIn c.get8) i) c (checkCode c i) := by
  have hmax : clampN 1 63 (bitsAt 8 6 (c.get16 (16 * i + 8))) < 2 ^ 6 := nearest_lt (by decide) (by decide)
  have hmin : clampN 1 (clampN 1 63 (bitsAt 8 6 (c.get16 (16 * i + 8)))) (bitsAt 0 6 (c.get16 (16 * i + 8))) < 2 ^ 6 :=
    nearest_lt (by decide) hmax
  have hneed : min (clampN 1 15 (bitsAt 12 4 (c.get16 (16 * i + 10))))
      (clampN 1 63 (bitsAt 8 6 (c.get16 (16 * i + 8)))) < 2 ^ 4 :=
    (Nat.min_le_left _ _).trans_lt (nearest_lt (by decide) (by decide))
  have hbits : bitsAt 0 11 (c.get16 (16 * i + 10)) < 2 ^ 11 := bitsAt_lt ..
  have hpass : max 1 (bitsAt 0 11 (c.get16 (16 * i + 10))) = nearest 1 2047 (bitsAt 0 11 (c.get16 (16 * i + 10))) := by
    unfold nearest
    omega
  have hfirst := Check.Validates.twoFields (c := c) (off := 16 * i + 8) (lo := 8) (lo' := 0) hmax hmin
    (.inr (by decide)) (by decide) (by decide)
  unfold checkCode codeFields
  dsimp only
  rw [hpass, wordIn_get8, wordIn_get8]
  generalize hd : c.fix16 (16 * i + 8) _ _ = d at hfirst ⊢
  have hsame : c.get16 (16 * i + 10) = d.get16 (16 * i + 10) := by
    have hfar : ∀ j, 16 * i + 10 ≤ j → d.get8 j = c.get8 j := fun j hj => hfirst.get8_eq fun f hf htouch => by
      simp only [List.mem_cons, List.not_mem_nil, or_false] at hf
      rcases hf with rfl | rfl <;> simp only [TableField.touches] at htouch <;> omega
    rw [c.get16_eq, d.get16_eq, hfar _ le_rfl, hfar _ (by omega)]
  have hsecond := Check.Validates.twoFields (c := d) (off := 16 * i + 10) (lo := 12) (lo' := 0) hneed
    (nearest_lt (lo := 1) (hi := 2047) (n := bitsAt 0 11 (c.get16 (16 * i + 10))) (size := 2 ^ 11) (by decide)
      (by decide))
    (.inr (by decide)) (by decide) (by decide)
  rw [← hsame] at hsecond
  refine hfirst.trans hsecond fun f hf g hg j hj hj' => ?_
  have hlow : j < 16 * i + 10 := by
    simp only [List.mem_cons, List.not_mem_nil, or_false] at hf
    rcases hf with rfl | rfl <;> exact hj.2
  have hhigh : 16 * i + 10 ≤ j := by
    simp only [List.mem_cons, List.not_mem_nil, or_false] at hg
    rcases hg with rfl | rfl <;> exact hj'.1
  omega

theorem codeFields_place {w : Nat → Nat} {i j : Nat} {f : TableField} (hf : f ∈ codeFields w i) (hj : f.touches j) :
    16 * i + 8 ≤ j ∧ j < 16 * i + 12 := by
  simp only [codeFields, List.mem_cons, List.not_mem_nil, or_false] at hf
  rcases hf with rfl | rfl | rfl | rfl <;> simp only [TableField.touches] at hj <;> omega

theorem checkCodes_validates (c : Check) :
    Check.Validates ((List.range 8).flatMap (codeFields (wordIn c.get8))) c (checkCodes c) :=
  Check.Validates.parts (t := 0) (s := 16) (n := 8) (f := checkCode) (F := fun i b _ => codeFields (wordIn b) i)
    (fun i _ c => checkCode_validates i c)
    (fun i b b' f hf j hj => by
      have hplace := codeFields_place hf hj
      exact ⟨by omega, by omega⟩)
    (fun i b d b' d' h _ => by
      have hin : ∀ j, 16 * i ≤ j → j < 16 * i + 16 → b j = d j := fun j hlo hhi => h j ⟨by omega, by omega⟩
      have hword : ∀ j, 16 * i ≤ j → j < 16 * i + 15 → wordIn b j = wordIn d j := fun j hlo hhi => by
        rw [wordIn, wordIn, hin j hlo (by omega), hin (j + 1) (by omega) (by omega)]
      rw [codeFields, codeFields, hword (16 * i + 8) (by omega) (by omega), hword (16 * i + 10) (by omega) (by omega)])
    c

end Sys2Proof.Machine
end

section
/-! The validation of RESPONSES: the trigger map, and the sequences with the steps that their counts take in (R106,
R107). -/

namespace Sys2Proof.Machine

/-! ### What a validated field holds -/

section
variable {l : List TableField} {c d : Check} {off v : Nat}

theorem Check.Validates.get8_of_byte (h : Check.Validates l c d) (hf : .byte off v ∈ l) : d.get8 off = v :=
  (bitsAt_zero_of_lt (width := 8) (d.get8_lt off)).symm.trans (h.values _ hf)

theorem Check.Validates.get16_of_word (h : Check.Validates l c d) (hf : .word off v ∈ l) : d.get16 off = v := by
  have hfield : bitsAt 0 16 (256 * d.get8 off + d.get8 (off + 1)) = v := h.values _ hf
  rw [← d.get16_eq] at hfield
  exact (bitsAt_zero_of_lt (width := 16) (d.get16_lt off)).symm.trans hfield

/-- A byte apart from the fields is unchanged. -/
theorem Check.Validates.get8_apart (h : Check.Validates l c d) {lo hi i : Nat}
    (hplace : ∀ f ∈ l, ∀ j, f.touches j → lo ≤ j ∧ j < hi) (hi : i < lo ∨ hi ≤ i) : d.get8 i = c.get8 i :=
  h.get8_eq fun f hf htouch => by
    have hin := hplace f hf i htouch
    omega

end

/-! ### The trigger map -/

theorem checkMaps_validates (c : Check) :
    Check.Validates ((List.range 7).flatMap fun i =>
      [.byte (2 * i) (nearest 0 2 (c.get8 (2 * i))), .byte (2 * i + 1) (nearest 0 15 (c.get8 (2 * i + 1)))]) c
      ((List.range 7).foldl checkMap c) :=
  Check.Validates.ruled (t := 0) (s := 2) (n := 7) (f := checkMap)
    (R := fun i _ => [.nearByte (2 * i) 0 2, .nearByte (2 * i + 1) 0 15]) (fun _ _ _ => rfl)
    (by simp [FieldRule.Fits]) (by simp [FieldRule.Apart, FieldRule.off, FieldRule.width])
    (by simp [FieldRule.off, FieldRule.width]; omega) (fun _ _ _ _ => rfl) c

/-! ### Steps -/

/-- The rules of a step at `a` by its kind, after that of the kind itself (R107, step 3). -/
def stepTail (a kind : Nat) : List FieldRule :=
  match kind with
  | 1 => [.speed (a + 2), .speed (a + 4), .nearWord (a + 6) 0 10000]
  | 2 => [.nearWord (a + 6) 0 10000]
  | _ => []

/-- The rules of a step of a kind. -/
def stepRules (a kind : Nat) : List FieldRule := .named a 4 :: stepTail a kind

theorem stepTail_of_other {a kind : Nat} (h1 : kind ≠ 1) (h2 : kind ≠ 2) : stepTail a kind = [] := by
  unfold stepTail
  split
  · exact absurd rfl h1
  · exact absurd rfl h2
  · rfl

theorem stepRules_apart (a kind : Nat) : (stepRules a kind).Pairwise FieldRule.Apart := by
  refine FieldRule.apart_of_inOrder ?_
  unfold stepRules stepTail
  split <;> simp [FieldRule.Before, FieldRule.off, FieldRule.width]

theorem stepRules_fits (a kind : Nat) : ∀ r ∈ stepRules a kind, r.Fits := by
  unfold stepRules stepTail
  split <;> simp [FieldRule.Fits]

theorem stepRules_place (a kind : Nat) : ∀ r ∈ stepRules a kind, a ≤ r.off ∧ r.off + r.width ≤ a + 8 := by
  unfold stepRules stepTail
  split <;> simp [FieldRule.off, FieldRule.width]

theorem runAll_stepTail (a : Nat) (d : Check) :
    FieldRule.runAll (stepTail a 1) d =
        ((d.clampS16 (a + 2) (-2000) 2000).clampS16 (a + 4) (-2000) 2000).clamp16 (a + 6) 0 10000 ∧
      FieldRule.runAll (stepTail a 2) d = d.clamp16 (a + 6) 0 10000 := by
  simp only [stepTail, FieldRule.runAll, List.foldl_cons, List.foldl_nil, FieldRule.run, and_self]

/-- The model takes a step's kind once it is a named one, which is the kind that it was, or the default. -/
theorem checkStep_eq (a : Nat) (c : Check) : checkStep a c = FieldRule.runAll (stepRules a (c.get8 a)) c := by
  obtain ⟨d, hd⟩ : ∃ d, c.enum a 4 0 = d := ⟨_, rfl⟩
  have hkind : d.get8 a = orDefault 4 (c.get8 a) := by
    rw [← hd]
    exact get8_runAll_named (l := [.named a 4]) (by simp [FieldRule.Fits]) (by simp) (by simp) c
  have hrules : FieldRule.runAll (stepRules a (c.get8 a)) c = FieldRule.runAll (stepTail a (c.get8 a)) d := by
    rw [← hd]
    rfl
  obtain ⟨hmove, hwait⟩ := runAll_stepTail a d
  rw [hrules, checkStep, hd, hkind]
  generalize c.get8 a = kind
  unfold orDefault
  by_cases hnamed : kind ≤ 4
  · rw [if_pos hnamed]
    split
    · exact hmove.symm
    · exact hwait.symm
    · next h1 h2 => rw [stepTail_of_other h1 h2]; rfl
  · rw [if_neg hnamed, stepTail_of_other (by omega) (by omega)]
    rfl

theorem checkSteps_eq (o n : Nat) (c : Check) :
    checkSteps o n c = (List.range n).foldl (fun c j => checkStep (o + 4 + 8 * j) c) c := by
  induction n with
  | zero => rfl
  | succ n ih => rw [checkSteps, ih, List.range_succ, List.foldl_append]; rfl

/-- The fields of the first `n` steps of the sequence at `o`. -/
def stepFields (o n : Nat) (b : Nat → Nat) : List TableField :=
  (List.range n).flatMap fun j => (stepRules (o + 4 + 8 * j) (b (o + 4 + 8 * j))).map fun r => r.field b

theorem checkSteps_validates (o n : Nat) (c : Check) :
    Check.Validates (stepFields o n c.get8) c (checkSteps o n c) := by
  rw [checkSteps_eq]
  exact Check.Validates.ruled (t := o + 4) (s := 8) (n := n) (f := fun c j => checkStep (o + 4 + 8 * j) c)
    (R := fun j b => stepRules (o + 4 + 8 * j) (b (o + 4 + 8 * j))) (fun j _ c => checkStep_eq _ c)
    (fun j _ b => stepRules_fits _ _) (fun j b => stepRules_apart _ _) (fun j b => stepRules_place _ _)
    (fun j b d h => by rw [h (o + 4 + 8 * j) ⟨by omega, by omega⟩]) c

theorem stepFields_place {o n : Nat} {b : Nat → Nat} :
    ∀ f ∈ stepFields o n b, ∀ i, f.touches i → o + 4 ≤ i ∧ i < o + 4 + 8 * n := by
  intro f hf i hi
  obtain ⟨j, hj, hf⟩ := List.mem_flatMap.mp hf
  obtain ⟨r, hr, rfl⟩ := List.mem_map.mp hf
  rw [FieldRule.touches_field] at hi
  have hplace := stepRules_place _ _ r hr
  have hlast := List.mem_range.mp hj
  omega

theorem stepFields_congr {o n : Nat} {b d : Nat → Nat} (h : ∀ i, o + 4 ≤ i → i < o + 4 + 8 * n → b i = d i) :
    stepFields o n b = stepFields o n d := by
  refine List.flatMap_congr fun j hj => ?_
  have hlast := List.mem_range.mp hj
  rw [h (o + 4 + 8 * j) (by omega) (by omega)]
  refine List.map_congr_left fun r hr => r.field_congr fun i hlo hhi => ?_
  have hplace := stepRules_place _ _ r hr
  exact h i (by omega) (by omega)

/-! ### Sequences -/

/-- The rules of a sequence's step count and of the ends of its repeat block (R107, step 1). -/
def seqHead (o : Nat) : List FieldRule := [.nearByte o 1 8, .nearByte (o + 1) 0 7, .nearByte (o + 2) 0 7]

/-- The fields of a sequence's head. -/
def seqHeadFields (o : Nat) (b : Nat → Nat) : List TableField :=
  [.byte o (nearest 1 8 (b o)), .byte (o + 1) (nearest 0 7 (b (o + 1))), .byte (o + 2) (nearest 0 7 (b (o + 2)))]

theorem runSeqHead_validates (o : Nat) (c : Check) :
    Check.Validates (seqHeadFields o c.get8) c (((c.clamp8 o 1 8).clamp8 (o + 1) 0 7).clamp8 (o + 2) 0 7) :=
  FieldRule.validates_all (l := seqHead o) (by simp [seqHead, FieldRule.Fits])
    (by simp [seqHead, FieldRule.Apart, FieldRule.off, FieldRule.width]) c

theorem seqHeadFields_place {o : Nat} {b : Nat → Nat} :
    ∀ f ∈ seqHeadFields o b, ∀ i, f.touches i → o ≤ i ∧ i < o + 3 := by
  intro f hf i hi
  simp only [seqHeadFields, List.mem_cons, List.not_mem_nil, or_false] at hf
  rcases hf with rfl | rfl | rfl <;> simp only [TableField.byte, TableField.touches] at hi <;> omega

/-- Whether the step at `a` rests, and so keeps a repeat block from taking no time (R107, step 4). -/
def RestsAt (b : Nat → Nat) (a : Nat) : Prop :=
  b a = 0 ∨ b a = 4 ∨ ((b a = 1 ∨ b a = 2) ∧ 0 < wordIn b (a + 6))

theorem stepHolds_iff (c : Check) (a : Nat) : c.stepHolds a = true ↔ RestsAt c.get8 a := by
  unfold Check.stepHolds RestsAt
  rw [wordIn_get8]
  generalize c.get8 a = kind
  split <;> simp_all

/-- Whether the repeat block of the sequence at `o` counts once: none is in effect, or it would repeat without end and
take no time (R107, steps 2 and 4). -/
def CountsOnce (b b' : Nat → Nat) (o : Nat) : Prop :=
  nearest 0 7 (b (o + 2)) < nearest 0 7 (b (o + 1)) ∨ nearest 1 8 (b o) ≤ nearest 0 7 (b (o + 2)) ∨
    (b (o + 3) = 0 ∧ ∀ j, j < 8 → nearest 0 7 (b (o + 1)) ≤ j → j ≤ nearest 0 7 (b (o + 2)) →
      ¬ RestsAt b' (o + 4 + 8 * j))

/-- The repeat count that validation gives the sequence at `o`. -/
def RepeatIs (b b' : Nat → Nat) (o times : Nat) : Prop :=
  (CountsOnce b b' o → times = 1) ∧ (¬ CountsOnce b b' o → times = b (o + 3))

theorem blockHolds_eq_false_iff (c : Check) (o first last : Nat) :
    c.blockHolds o first last = false ↔ ∀ j, j < 8 → first ≤ j → j ≤ last → ¬ RestsAt c.get8 (o + 4 + 8 * j) := by
  simp only [Check.blockHolds, List.any_eq_false, List.mem_range, Bool.and_eq_true, decide_eq_true_eq, stepHolds_iff,
    not_and, and_imp]

/-- The model takes the repeat count once the head and the steps are validated. -/
theorem repeatIs_repeatCount {b : Nat → Nat} {o : Nat} {d : Check} (hcount : d.get8 o = nearest 1 8 (b o))
    (hfirst : d.get8 (o + 1) = nearest 0 7 (b (o + 1))) (hlast : d.get8 (o + 2) = nearest 0 7 (b (o + 2)))
    (htimes : d.get8 (o + 3) = b (o + 3)) : RepeatIs b d.get8 o (d.repeatCount o) := by
  unfold RepeatIs CountsOnce Check.repeatCount
  dsimp only
  rw [hcount, hfirst, hlast, htimes, ← blockHolds_eq_false_iff]
  split_ifs <;> tauto

/-- A sequence's repeat count depends on what its head was and on what its steps become. -/
theorem RepeatIs.congr {b d b' d' : Nat → Nat} {o times : Nat} (h : ∀ i, o ≤ i → i < o + 4 → b i = d i)
    (h' : ∀ i, o + 4 ≤ i → i < o + 68 → b' i = d' i) (hb : RepeatIs b b' o times) : RepeatIs d d' o times := by
  have hrests : ∀ j < 8, RestsAt b' (o + 4 + 8 * j) ↔ RestsAt d' (o + 4 + 8 * j) := fun j hj => by
    rw [RestsAt, RestsAt, wordIn, wordIn, h' (o + 4 + 8 * j) (by omega) (by omega),
      h' (o + 4 + 8 * j + 6) (by omega) (by omega), h' (o + 4 + 8 * j + 6 + 1) (by omega) (by omega)]
  have honce : CountsOnce b b' o ↔ CountsOnce d d' o := by
    unfold CountsOnce
    rw [h o le_rfl (by omega), h (o + 1) (by omega) (by omega), h (o + 2) (by omega) (by omega),
      h (o + 3) (by omega) (by omega)]
    refine or_congr Iff.rfl (or_congr Iff.rfl (and_congr Iff.rfl (forall_congr' fun j => forall_congr' fun hj => ?_)))
    rw [hrests j hj]
  rw [RepeatIs, honce, h (o + 3) (by omega) (by omega)] at hb
  exact hb

theorem exists_repeatIs (b b' : Nat → Nat) (o : Nat) : ∃ times, RepeatIs b b' o times := by
  by_cases h : CountsOnce b b' o
  · exact ⟨1, fun _ => rfl, fun hmore => absurd h hmore⟩
  · exact ⟨b (o + 3), fun honce => absurd honce h, fun _ => rfl⟩

theorem sequenceFields_eq {b b' : Nat → Nat} {q times : Nat} (h : RepeatIs b b' (32 + 68 * q) times) :
    sequenceFields b (wordIn b) b' (wordIn b') q =
      seqHeadFields (32 + 68 * q) b ++ .byte (32 + 68 * q + 3) times ::
        stepFields (32 + 68 * q) (nearest 1 8 (b (32 + 68 * q))) b := by
  have hstep : ∀ j, ((.byte j (orDefault 4 (b j)) :: match b j with
      | 1 => [speedField (wordIn b) (j + 2), speedField (wordIn b) (j + 4),
        .word (j + 6) (nearest 0 10000 (wordIn b (j + 6)))]
      | 2 => [.word (j + 6) (nearest 0 10000 (wordIn b (j + 6)))]
      | _ => []) : List TableField) = (stepRules j (b j)).map fun r => r.field b := fun j => by
    unfold stepRules stepTail
    split <;> rfl
  unfold sequenceFields
  simp only [seqHeadFields, List.cons_append, List.nil_append, List.cons.injEq, true_and]
  refine ⟨congrArg _ ?_, List.flatMap_congr fun j _ => hstep _⟩
  split
  · next honce => exact (h.1 honce).symm
  · next hmore => exact (h.2 hmore).symm

theorem checkSequence_validates (q : Nat) (c : Check) :
    let e := checkSequence c q
    Check.Validates (sequenceFields c.get8 (wordIn c.get8) e.get8 (wordIn e.get8) q) c e := by
  intro e
  obtain ⟨o, ho⟩ : ∃ o, 32 + 68 * q = o := ⟨_, rfl⟩
  obtain ⟨n, hn⟩ : ∃ n, nearest 1 8 (c.get8 o) = n := ⟨_, rfl⟩
  have hsmall : n ≤ 8 := by rw [← hn]; unfold nearest; omega
  have hhead := runSeqHead_validates o c
  generalize hd : ((c.clamp8 o 1 8).clamp8 (o + 1) 0 7).clamp8 (o + 2) 0 7 = d at hhead
  have hcount : d.get8 o = n := by rw [← hn]; exact hhead.get8_of_byte (by simp [seqHeadFields])
  have hfirst : d.get8 (o + 1) = nearest 0 7 (c.get8 (o + 1)) := hhead.get8_of_byte (by simp [seqHeadFields])
  have hlast : d.get8 (o + 2) = nearest 0 7 (c.get8 (o + 2)) := hhead.get8_of_byte (by simp [seqHeadFields])
  have hafter : ∀ i, o + 3 ≤ i → d.get8 i = c.get8 i := fun i hi => hhead.get8_apart seqHeadFields_place (.inr hi)
  have hsteps := checkSteps_validates o n d
  rw [stepFields_congr fun i hi _ => hafter i (by omega)] at hsteps
  generalize hx : checkSteps o n d = x at hsteps
  have hkeep : ∀ i < o + 4, x.get8 i = d.get8 i := fun i hi => hsteps.get8_apart stepFields_place (.inl hi)
  have htimes : RepeatIs c.get8 x.get8 o (x.repeatCount o) :=
    repeatIs_repeatCount ((hkeep _ (by omega)).trans (hcount.trans hn.symm)) ((hkeep _ (by omega)).trans hfirst)
      ((hkeep _ (by omega)).trans hlast) ((hkeep _ (by omega)).trans (hafter _ le_rfl))
  have hlt : x.repeatCount o < 256 := by
    unfold Check.repeatCount
    dsimp only
    split_ifs
    · decide
    · decide
    · exact x.get8_lt _
  have he : e = x.fix8 (o + 3) (x.repeatCount o) := by
    simp only [e, checkSequence, ho, hd, hcount, hx]
  generalize x.repeatCount o = times at htimes hlt he
  have hfinal : Check.Validates [.byte (o + 3) times] x e := he ▸ Check.Validates.byte hlt
  have hfinalIs : RepeatIs c.get8 e.get8 o times := htimes.congr (fun _ _ _ => rfl) fun i hi _ =>
    (hfinal.get8_apart (lo := o + 3) (hi := o + 4) (by simp [TableField.byte, TableField.touches]; omega)
      (.inr hi)).symm
  subst ho
  rw [sequenceFields_eq hfinalIs, hn]
  have hall := (hhead.trans hsteps fun f hf g hg i hi hi' => by
    have hlo := seqHeadFields_place f hf i hi
    have hhi := stepFields_place g hg i hi'
    omega).trans hfinal fun f hf g hg i hi hi' => by
      obtain rfl := List.mem_singleton.mp hg
      have hat : 32 + 68 * q + 3 ≤ i ∧ i < 32 + 68 * q + 3 + 1 := hi'
      rcases List.mem_append.mp hf with hf | hf
      · have hlo := seqHeadFields_place f hf i hi
        omega
      · have hhi := stepFields_place f hf i hi
        omega
  refine hall.perm ?_
  rw [List.append_assoc]
  exact List.Perm.append_left _ (List.perm_append_singleton _ _)

theorem sequenceFields_place {b b' : Nat → Nat} {q : Nat} :
    ∀ f ∈ sequenceFields b (wordIn b) b' (wordIn b') q, ∀ i, f.touches i → PartOf 32 68 q i := by
  intro f hf i hi
  obtain ⟨times, htimes⟩ := exists_repeatIs b b' (32 + 68 * q)
  have hsmall : nearest 1 8 (b (32 + 68 * q)) ≤ 8 := by unfold nearest; omega
  rw [sequenceFields_eq htimes, List.mem_append, List.mem_cons] at hf
  suffices hplace : 32 + 68 * q ≤ i ∧ i < 32 + 68 * q + 68 from ⟨by omega, by omega⟩
  rcases hf with hf | rfl | hf
  · have hin := seqHeadFields_place f hf i hi
    omega
  · have hin : 32 + 68 * q + 3 ≤ i ∧ i < 32 + 68 * q + 3 + 1 := hi
    omega
  · have hin := stepFields_place f hf i hi
    omega

theorem sequenceFields_congr {b d b' d' : Nat → Nat} {q : Nat} (h : ∀ i, PartOf 32 68 q i → b i = d i)
    (h' : ∀ i, Among 32 (32 + 68 * (q + 1)) i → b' i = d' i) :
    sequenceFields b (wordIn b) b' (wordIn b') q = sequenceFields d (wordIn d) d' (wordIn d') q := by
  obtain ⟨times, htimes⟩ := exists_repeatIs b b' (32 + 68 * q)
  have hsmall : nearest 1 8 (d (32 + 68 * q)) ≤ 8 := by unfold nearest; omega
  have hown : ∀ i, 32 + 68 * q ≤ i → i < 32 + 68 * q + 68 → b i = d i := fun i hlo hhi => h i ⟨by omega, by omega⟩
  have htimes' : RepeatIs d d' (32 + 68 * q) times :=
    htimes.congr (fun i hlo hhi => hown i hlo (by omega)) fun i hlo hhi => h' i ⟨by omega, by omega⟩
  rw [sequenceFields_eq htimes, sequenceFields_eq htimes', seqHeadFields, seqHeadFields, hown _ le_rfl (by omega),
    hown (32 + 68 * q + 1) (by omega) (by omega), hown (32 + 68 * q + 2) (by omega) (by omega),
    stepFields_congr fun i hlo hhi => hown i (by omega) (by omega)]

theorem checkResponses_validates (c : Check) :
    let e := checkResponses c
    Check.Validates (((List.range 7).flatMap fun i =>
      [.byte (2 * i) (nearest 0 2 (c.get8 (2 * i))), .byte (2 * i + 1) (nearest 0 15 (c.get8 (2 * i + 1)))]) ++
      (List.range 16).flatMap (sequenceFields c.get8 (wordIn c.get8) e.get8 (wordIn e.get8))) c e := by
  intro e
  have hmaps := checkMaps_validates c
  have hmapsIn : ∀ f ∈ ((List.range 7).flatMap fun i =>
      [.byte (2 * i) (nearest 0 2 (c.get8 (2 * i))), .byte (2 * i + 1) (nearest 0 15 (c.get8 (2 * i + 1)))] :
        List TableField), ∀ i, f.touches i → 0 ≤ i ∧ i < 14 := by
    simp only [List.mem_flatMap, List.mem_range, List.mem_cons, List.not_mem_nil, or_false]
    rintro f ⟨k, hk, rfl | rfl⟩ i hi <;> simp only [TableField.byte, TableField.touches] at hi <;> omega
  have he : e = (List.range 16).foldl checkSequence ((List.range 7).foldl checkMap c) := rfl
  generalize (List.range 7).foldl checkMap c = d at hmaps he
  have hsame : ∀ i, 32 ≤ i → d.get8 i = c.get8 i := fun i hi => hmaps.get8_apart hmapsIn (.inr (by omega))
  have hseqs := Check.Validates.parts (t := 32) (s := 68) (n := 16) (f := checkSequence)
    (F := fun q b b' => sequenceFields b (wordIn b) b' (wordIn b') q) (fun q _ c => checkSequence_validates q c)
    (fun _ _ _ => sequenceFields_place) (fun _ _ _ _ _ => sequenceFields_congr) d
  have hsame' : (List.range 16).flatMap (sequenceFields c.get8 (wordIn c.get8) e.get8 (wordIn e.get8)) =
      (List.range 16).flatMap fun q => sequenceFields d.get8 (wordIn d.get8) e.get8 (wordIn e.get8) q :=
    List.flatMap_congr fun q _ => sequenceFields_congr (fun i hi => (hsame i (by have hlo := hi.1; omega)).symm)
      fun _ _ => rfl
  rw [hsame']
  dsimp only at hseqs
  rw [← he] at hseqs
  refine hmaps.trans hseqs fun f hf g hg i hi hi' => ?_
  have hlow := hmapsIn f hf i hi
  obtain ⟨q, -, hg⟩ := List.mem_flatMap.mp hg
  have hhigh := (sequenceFields_place g hg i hi').1
  omega

end Sys2Proof.Machine
end

section
/-! The validation of GENERAL: its scalar parameters, its sense pins and its node table (R45, R83, R145). -/

namespace Sys2Proof.Machine

theorem Check.Validates.apart_of_places {l m : List TableField} {lo hi lo' hi' : Nat}
    (hl : ∀ f ∈ l, ∀ i, f.touches i → lo ≤ i ∧ i < hi) (hm : ∀ f ∈ m, ∀ i, f.touches i → lo' ≤ i ∧ i < hi')
    (h : hi ≤ lo' ∨ hi' ≤ lo) : Check.Validates.Apart l m := fun f hf g hg i hi hi' => by
  have hfirst := hl f hf i hi
  have hsecond := hm g hg i hi'
  omega

/-! ### The scalar parameters -/

/-- The rules of the two-byte scalar parameters of GENERAL before offset 6 (R145). -/
def lowScalars : List FieldRule :=
  [.nearWord 2 5 1000, .nearWord 4 20 2000]

/-- The rules of those between offsets 8 and 36. -/
def midScalars : List FieldRule :=
  [.nearWord 8 0 2000, .nearWord 10 0 2000, .nearWord 12 0 5000, .nearWord 14 0 30000, .nearWord 16 0 30000,
    .nearWord 18 0 5000, .nearWord 20 0 5000, .nearWord 22 0 2000, .nearWord 24 0 1000, .nearWord 26 0 450,
    .nearWord 28 0 5000, .nearWord 30 0 10000, .nearWord 34 0 60000]

/-- The rules of those between offsets 38 and 46. -/
def highScalars : List FieldRule :=
  [.nearWord 38 0 60000, .nearWord 40 100 5000, .nearWord 42 0 1000, .nearWord 44 0 10000]

/-- The rules of the one-byte scalar parameters, which stand in three pairs. -/
def firstBytes : List FieldRule := [.length 0, .nearByte 1 0 15]

/-- The second pair. -/
def secondBytes : List FieldRule := [.nearByte 6 5 200, .nearByte 7 1 20]

/-- The third pair. -/
def thirdBytes : List FieldRule := [.named 36 1, .nearByte 37 1 15]

/-- The rules of the scalar parameters but the last two, in the model's order. -/
def mostScalars : List FieldRule :=
  firstBytes ++ lowScalars ++ secondBytes ++ midScalars ++ thirdBytes ++ highScalars

/-- The rules of the scalar parameters, in the model's order. -/
def scalarRules : List FieldRule := (mostScalars ++ [.nearWord 46 0 60000]) ++ [.interval 48]

theorem scalarRules_apart : scalarRules.Pairwise FieldRule.Apart := by
  refine FieldRule.apart_of_inOrder ?_
  simp [scalarRules, mostScalars, firstBytes, lowScalars, secondBytes, midScalars, thirdBytes, highScalars,
    FieldRule.Before, FieldRule.off, FieldRule.width]

theorem scalarRules_fits : ∀ r ∈ scalarRules, r.Fits := by
  simp [scalarRules, mostScalars, firstBytes, lowScalars, secondBytes, midScalars, thirdBytes, highScalars,
    FieldRule.Fits]

theorem scalarRules_place : ∀ r ∈ scalarRules, r.off + r.width ≤ 50 := by
  simp [scalarRules, mostScalars, firstBytes, lowScalars, secondBytes, midScalars, thirdBytes, highScalars,
    FieldRule.off, FieldRule.width]

theorem checkScalars_most (c : Check) :
    checkScalars c =
      ((FieldRule.runAll mostScalars c).clamp16 46 0 60000).fix16 48
        (telemetryRange ((FieldRule.runAll mostScalars c).get16 48)) 1 := by
  have hnil : ∀ d, FieldRule.runAll [] d = d := fun _ => rfl
  have hcons : ∀ r l d, FieldRule.runAll (r :: l) d = FieldRule.runAll l (r.run d) := fun _ _ _ => rfl
  simp only [checkScalars, mostScalars, firstBytes, lowScalars, secondBytes, midScalars, thirdBytes, highScalars,
    List.cons_append, List.nil_append, hcons, hnil, FieldRule.run]

theorem checkScalars_eq (c : Check) : checkScalars c = FieldRule.runAll scalarRules c := by
  rw [checkScalars_most, scalarRules, FieldRule.runAll_append, FieldRule.runAll_append]
  generalize FieldRule.runAll mostScalars c = d
  have hlast : Check.Validates _ d (d.clamp16 46 0 60000) :=
    (FieldRule.nearWord 46 0 60000).validates ⟨by decide, by decide⟩ d
  have hsame : ∀ i, 48 ≤ i → (d.clamp16 46 0 60000).get8 i = d.get8 i := fun i hi =>
    hlast.get8_eq fun f hf htouch => by
      rw [List.mem_singleton.mp hf, FieldRule.touches_field] at htouch
      have hend : i < 46 + 2 := htouch.2
      omega
  rw [d.get16_eq, ← hsame 48 le_rfl, ← hsame 49 (by decide), ← Check.get16_eq]
  rfl

/-- Blocks of rules with the blocks between them moved to the end. -/
theorem perm_blocks {α : Type} (a b c d x y z : List α) :
    (a ++ x ++ b ++ y ++ c ++ z ++ d).Perm (a ++ b ++ c ++ d ++ (x ++ y ++ z)) := by
  rw [← Multiset.coe_eq_coe]
  simp only [← Multiset.coe_add]
  abel

theorem scalarFields_perm (b : Nat → Nat) :
    (scalarRules.map fun r => r.field b).Perm (scalarFields b (wordIn b)) := by
  have hperm := perm_blocks firstBytes secondBytes thirdBytes [.interval 48] lowScalars midScalars
    (highScalars ++ [.nearWord 46 0 60000])
  rw [← List.append_assoc _ highScalars] at hperm
  exact hperm.map _

theorem checkScalars_validates (c : Check) :
    Check.Validates (scalarFields c.get8 (wordIn c.get8)) c (checkScalars c) := by
  rw [checkScalars_eq]
  exact (FieldRule.validates_all scalarRules_fits scalarRules_apart c).perm (scalarFields_perm _)

theorem scalarFields_place {b : Nat → Nat} :
    ∀ f ∈ scalarFields b (wordIn b), ∀ i, f.touches i → 0 ≤ i ∧ i < 50 := by
  intro f hf i hi
  obtain ⟨r, hr, rfl⟩ := List.mem_map.mp ((scalarFields_perm b).mem_iff.mpr hf)
  rw [FieldRule.touches_field] at hi
  have hplace := scalarRules_place r hr
  omega

/-! ### The node table -/

theorem kindsBelow_eq (c : Check) (kind n : Nat) :
    c.kindsBelow kind n = ((List.range n).filter fun m => c.get8 (50 + m) == kind).length := by
  induction n with
  | zero => rfl
  | succ n ih =>
    rw [Check.kindsBelow, ih, List.range_succ, List.filter_append, List.length_append, Nat.add_comm]
    by_cases h : c.get8 (50 + n) = kind <;> simp [h]

/-- When a node table has no room for one more node of a kind (R83). -/
theorem kindRoom_le_iff {kind k : Nat} (hk : k < 6) :
    (4 < kind ∨ kindRoom kind ≤ k) ↔ 4 < kind ∨ (1 ≤ kind ∧ kind ≤ 2 ∧ 2 ≤ k) ∨ (3 ≤ kind ∧ 1 ≤ k) := by
  rcases Nat.lt_or_ge 4 kind with h | h
  · exact ⟨fun _ => .inl h, fun _ => .inl h⟩
  · interval_cases kind <;> simp only [kindRoom] <;> omega

theorem checkNode_validates {a : Nat} (ha : a < 6) (c : Check) :
    Check.Validates [nodeField c.get8 (checkNode c a).get8 a] c (checkNode c a) := by
  have hfew : c.kindsBelow (c.get8 (50 + a)) a ≤ a := by
    rw [kindsBelow_eq]
    exact (List.length_filter_le _ _).trans (List.length_range ..).le
  have hlt := c.get8_lt (50 + a)
  have hbelow : ∀ m < a, (checkNode c a).get8 (50 + m) = c.get8 (50 + m) := fun m hm => by
    unfold checkNode
    rw [Check.get8_fix8 (by split_ifs <;> omega), if_neg (by omega)]
  have hfitted : ((List.range a).filter fun m => (checkNode c a).get8 (50 + m) == c.get8 (50 + a)).length =
      c.kindsBelow (c.get8 (50 + a)) a := by
    rw [kindsBelow_eq]
    exact congrArg _ (List.filter_congr fun m hm => by rw [hbelow m (List.mem_range.mp hm)])
  have hfield : nodeField c.get8 (checkNode c a).get8 a =
      .byte (50 + a) (if 4 < c.get8 (50 + a) ∨ kindRoom (c.get8 (50 + a)) ≤ c.kindsBelow (c.get8 (50 + a)) a then 0
        else c.get8 (50 + a)) := by
    unfold nodeField
    dsimp only
    rw [hfitted]
    exact congrArg _ (if_congr (kindRoom_le_iff (hfew.trans_lt ha)).symm rfl rfl)
  rw [hfield]
  exact Check.Validates.byte (by split_ifs <;> omega)

theorem nodeField_congr {b d b' d' : Nat → Nat} {a : Nat} (h : b (50 + a) = d (50 + a))
    (h' : ∀ m < a, b' (50 + m) = d' (50 + m)) : nodeField b b' a = nodeField d d' a := by
  have hfitted : ∀ k, ((List.range a).filter fun m => b' (50 + m) == k) =
      (List.range a).filter fun m => d' (50 + m) == k := fun k =>
    List.filter_congr fun m hm => by rw [h' m (List.mem_range.mp hm)]
  rw [nodeField, nodeField, h, hfitted]

theorem checkNodes_validates (c : Check) :
    let e := (List.range 6).foldl checkNode c
    Check.Validates ((List.range 6).map (nodeField c.get8 e.get8)) c e := by
  intro e
  rw [List.map_eq_flatMap]
  exact Check.Validates.parts (t := 50) (s := 1) (n := 6) (f := checkNode) (F := fun a b b' => [nodeField b b' a])
    (fun a ha c => checkNode_validates ha c)
    (fun a b b' f hf i hi => by
      obtain rfl := List.mem_singleton.mp hf
      have hat : 50 + a ≤ i ∧ i < 50 + a + 1 := hi
      exact ⟨by omega, by omega⟩)
    (fun a b d b' d' h h' => congrArg (fun f => [f]) <| nodeField_congr (h (50 + a) ⟨by omega, by omega⟩)
      fun m hm => h' (50 + m) ⟨by omega, by omega⟩)
    c

theorem nodeFields_place {b b' : Nat → Nat} :
    ∀ f ∈ (List.range 6).map (nodeField b b'), ∀ i, f.touches i → 50 ≤ i ∧ i < 56 := by
  intro f hf i hi
  obtain ⟨a, ha, rfl⟩ := List.mem_map.mp hf
  have hat : 50 + a ≤ i ∧ i < 50 + a + 1 := hi
  have hlast := List.mem_range.mp ha
  omega

end Sys2Proof.Machine
end

section
/-! The validation of the sense pins of GENERAL, and with it that of every table (R45). -/

namespace Sys2Proof.Machine

/-! ### The mode of a pin -/

/-- Whether a pin of a role keeps its mode, the lower-numbered pins validated in `b'` (R45, steps 1 to 3). -/
def ModeAllowed (b' : Nat → Nat) (p mode role : Nat) : Prop :=
  mode ≤ 4 ∧ (1 ≤ role → role ≤ 4 → mode ≤ 1) ∧ (5 ≤ role → mode = 0 ∨ mode = 4) ∧
    (5 ≤ role → ∀ q, q < p → ¬ (b' (64 + 6 * q) = 4 ∧ b' (65 + 6 * q) = role))

/-- The mode that validation gives a pin. -/
def ModeIs (b b' : Nat → Nat) (p v : Nat) : Prop :=
  (ModeAllowed b' p (b (64 + 6 * p)) (orDefault 6 (b (65 + 6 * p))) → v = b (64 + 6 * p)) ∧
    (¬ ModeAllowed b' p (b (64 + 6 * p)) (orDefault 6 (b (65 + 6 * p))) → v = 0)

theorem exists_modeIs (b b' : Nat → Nat) (p : Nat) : ∃ v, ModeIs b b' p v := by
  by_cases h : ModeAllowed b' p (b (64 + 6 * p)) (orDefault 6 (b (65 + 6 * p)))
  · exact ⟨_, fun _ => rfl, fun hoff => absurd h hoff⟩
  · exact ⟨0, fun hkept => absurd hkept h, fun _ => rfl⟩

theorem tiltTaken_iff (c : Check) (role p : Nat) :
    c.tiltTaken role p = true ↔ ∃ q, q < p ∧ c.get8 (64 + 6 * q) = 4 ∧ c.get8 (65 + 6 * q) = role := by
  induction p with
  | zero => simp [Check.tiltTaken]
  | succ p ih =>
    rw [Check.tiltTaken, Bool.or_eq_true, ih, Bool.and_eq_true, beq_iff_eq, beq_iff_eq, Nat.exists_lt_succ_right, or_comm]

/-- The model takes a pin's mode once its role is validated; a mode that OFF replaces was OFF already or is changed. -/
theorem pinMode_eq {c : Check} {p role : Nat} (hrole : c.get8 (65 + 6 * p) = role) (hnamed : role ≤ 6) :
    (ModeAllowed c.get8 p (c.get8 (64 + 6 * p)) role → c.pinMode p = c.get8 (64 + 6 * p)) ∧
      (¬ ModeAllowed c.get8 p (c.get8 (64 + 6 * p)) role → c.pinMode p = 0) := by
  have htilt : (∀ q, q < p → ¬ (c.get8 (64 + 6 * q) = 4 ∧ c.get8 (65 + 6 * q) = role)) ↔ ¬ c.tiltTaken role p = true := by
    rw [tiltTaken_iff]
    push Not
    rfl
  unfold ModeAllowed Check.pinMode
  rw [hrole, htilt]
  dsimp only
  generalize c.get8 (64 + 6 * p) = mode
  generalize c.tiltTaken role p = taken
  clear htilt hrole
  have hrequired : role = 0 ∧ requiredMode role = 0 ∨ (1 ≤ role ∧ role ≤ 4) ∧ requiredMode role = 1 ∨
      5 ≤ role ∧ requiredMode role = 4 := by
    interval_cases role <;> decide
  generalize requiredMode role = required at hrequired ⊢
  rcases hrequired with ⟨rfl, rfl⟩ | ⟨hlevel, rfl⟩ | ⟨htilt, rfl⟩
  · grind
  · grind
  · grind

/-! ### A pin -/

/-- The rule of a pin's parameter in a mode (R45, step 4). -/
def pinTail (p mode : Nat) : List FieldRule :=
  match mode with
  | 1 => [.nearWord (68 + 6 * p) 1 255]
  | 2 => [.nearWord (68 + 6 * p) 10 10000]
  | 4 => [.nearWord (68 + 6 * p) 10 1000]
  | _ => []

theorem pinTail_of_other {p mode : Nat} (h1 : mode ≠ 1) (h2 : mode ≠ 2) (h4 : mode ≠ 4) : pinTail p mode = [] := by
  unfold pinTail
  split
  · exact absurd rfl h1
  · exact absurd rfl h2
  · exact absurd rfl h4
  · rfl

theorem pinTail_fits (p mode : Nat) : ∀ r ∈ pinTail p mode, r.Fits := by
  unfold pinTail
  split <;> simp [FieldRule.Fits]

theorem pinTail_apart (p mode : Nat) : (pinTail p mode).Pairwise FieldRule.Apart := by
  unfold pinTail
  split <;> simp

theorem pinTail_place (p mode : Nat) : ∀ r ∈ pinTail p mode, r.off = 68 + 6 * p ∧ r.width = 2 := by
  unfold pinTail
  split <;> simp [FieldRule.off, FieldRule.width]

theorem pinParam_eq (p : Nat) (c : Check) : c.pinParam p = FieldRule.runAll (pinTail p (c.get8 (64 + 6 * p))) c := by
  unfold Check.pinParam
  split
  · next h => rw [h]; rfl
  · next h => rw [h]; rfl
  · next h => rw [h]; rfl
  · next h1 h2 h4 => rw [pinTail_of_other h1 h2 h4]; rfl

/-- The fields of a pin's role and active level. -/
def pinHeadFields (b : Nat → Nat) (p : Nat) : List TableField :=
  [.byte (65 + 6 * p) (orDefault 6 (b (65 + 6 * p))), .byte (66 + 6 * p) (orDefault 1 (b (66 + 6 * p)))]

/-- The field of a pin's parameter in a mode. -/
def pinTailFields (b : Nat → Nat) (p mode : Nat) : List TableField := (pinTail p mode).map fun r => r.field b

theorem pinHeadFields_place {b : Nat → Nat} {p : Nat} :
    ∀ f ∈ pinHeadFields b p, ∀ i, f.touches i → 65 + 6 * p ≤ i ∧ i < 67 + 6 * p := by
  intro f hf i hi
  simp only [pinHeadFields, List.mem_cons, List.not_mem_nil, or_false] at hf
  rcases hf with rfl | rfl <;> simp only [TableField.byte, TableField.touches] at hi <;> omega

theorem pinTailFields_place {b : Nat → Nat} {p mode : Nat} :
    ∀ f ∈ pinTailFields b p mode, ∀ i, f.touches i → 68 + 6 * p ≤ i ∧ i < 70 + 6 * p := by
  intro f hf i hi
  obtain ⟨r, hr, rfl⟩ := List.mem_map.mp hf
  rw [FieldRule.touches_field] at hi
  obtain ⟨hoff, hwidth⟩ := pinTail_place p mode r hr
  omega

theorem pinTailFields_congr {b d : Nat → Nat} {p mode : Nat} (h : ∀ i, 68 + 6 * p ≤ i → i < 70 + 6 * p → b i = d i) :
    pinTailFields b p mode = pinTailFields d p mode :=
  List.map_congr_left fun r hr => r.field_congr fun i hlo hhi => by
    obtain ⟨hoff, hwidth⟩ := pinTail_place p mode r hr
    exact h i (by omega) (by omega)

theorem pinFields_eq {b b' : Nat → Nat} {p v : Nat} (h : ModeIs b b' p v) :
    pinFields b (wordIn b) b' p =
      pinHeadFields b p ++ .byte (64 + 6 * p) v :: pinTailFields b p (b' (64 + 6 * p)) := by
  have htail : ∀ mode, ((if mode = 1 then [.word (68 + 6 * p) (nearest 1 255 (wordIn b (68 + 6 * p)))]
      else if mode = 2 then [.word (68 + 6 * p) (nearest 10 10000 (wordIn b (68 + 6 * p)))]
      else if mode = 4 then [.word (68 + 6 * p) (nearest 10 1000 (wordIn b (68 + 6 * p)))] else []) :
        List TableField) = pinTailFields b p mode := fun mode => by
    split_ifs with h1 h2 h4
    · subst h1; rfl
    · subst h2; rfl
    · subst h4; rfl
    · rw [pinTailFields, pinTail_of_other h1 h2 h4]; rfl
  unfold pinFields
  simp only [pinHeadFields, List.cons_append, List.nil_append, List.cons.injEq, true_and]
  refine ⟨congrArg _ ?_, htail _⟩
  split
  · next hkept => exact (h.1 hkept).symm
  · next hoff => exact (h.2 hoff).symm

/-- A pin's mode depends on its own mode and role and on what the lower-numbered pins become. -/
theorem ModeIs.congr {b d b' d' : Nat → Nat} {p v : Nat} (h : ∀ i, 64 + 6 * p ≤ i → i < 66 + 6 * p → b i = d i)
    (h' : ∀ i, 64 ≤ i → i < 64 + 6 * p → b' i = d' i) (hb : ModeIs b b' p v) : ModeIs d d' p v := by
  have hallowed : ∀ mode role, ModeAllowed b' p mode role ↔ ModeAllowed d' p mode role := fun mode role => by
    refine and_congr Iff.rfl (and_congr Iff.rfl (and_congr Iff.rfl (imp_congr Iff.rfl
      (forall_congr' fun q => forall_congr' fun hq => ?_))))
    rw [h' (64 + 6 * q) (by omega) (by omega), h' (65 + 6 * q) (by omega) (by omega)]
  rw [ModeIs, hallowed, h (64 + 6 * p) le_rfl (by omega), h (65 + 6 * p) (by omega) (by omega)] at hb
  exact hb

theorem orDefault_le (last n : Nat) : orDefault last n ≤ last := by
  unfold orDefault
  split <;> omega

theorem checkPin_validates (p : Nat) (c : Check) :
    let e := checkPin c p
    Check.Validates (pinFields c.get8 (wordIn c.get8) e.get8 p) c e := by
  intro e
  have hhead : Check.Validates (pinHeadFields c.get8 p) c ((c.enum (65 + 6 * p) 6 0).enum (66 + 6 * p) 1 0) :=
    FieldRule.validates_all (l := [.named (65 + 6 * p) 6, .named (66 + 6 * p) 1]) (by simp [FieldRule.Fits])
      (by simp [FieldRule.Apart, FieldRule.off, FieldRule.width]) c
  have he : e = Check.pinParam p ((fun d : Check => d.fix8 (64 + 6 * p) (d.pinMode p))
      ((c.enum (65 + 6 * p) 6 0).enum (66 + 6 * p) 1 0)) := rfl
  generalize (c.enum (65 + 6 * p) 6 0).enum (66 + 6 * p) 1 0 = d at hhead he
  have hrole : d.get8 (65 + 6 * p) = orDefault 6 (c.get8 (65 + 6 * p)) :=
    hhead.get8_of_byte (by simp [pinHeadFields])
  have hsame : ∀ i, i < 65 + 6 * p ∨ 67 + 6 * p ≤ i → d.get8 i = c.get8 i := fun i hi =>
    hhead.get8_apart pinHeadFields_place hi
  have hmode : ModeIs c.get8 d.get8 p (d.pinMode p) := by
    rw [ModeIs, ← hrole, ← hsame (64 + 6 * p) (.inl (by omega))]
    exact pinMode_eq rfl (hrole ▸ orDefault_le _ _)
  have hlt : d.pinMode p < 256 := by
    unfold Check.pinMode
    dsimp only
    split_ifs
    · decide
    · decide
    · decide
    · exact d.get8_lt _
  dsimp only at he
  generalize d.pinMode p = v at hmode hlt he
  have hset : Check.Validates [.byte (64 + 6 * p) v] d (d.fix8 (64 + 6 * p) v) := Check.Validates.byte hlt
  have hsetIn : ∀ f ∈ ([.byte (64 + 6 * p) v] : List TableField), ∀ i, f.touches i → 64 + 6 * p ≤ i ∧ i < 65 + 6 * p := by
    simp [TableField.byte, TableField.touches]
    omega
  generalize d.fix8 (64 + 6 * p) v = x at hset he
  have htail : Check.Validates (pinTailFields x.get8 p (x.get8 (64 + 6 * p))) x e := by
    rw [he, pinParam_eq]
    exact FieldRule.validates_all (pinTail_fits p _) (pinTail_apart p _) x
  have hlow : ∀ i < 68 + 6 * p, e.get8 i = x.get8 i := fun i hi => htail.get8_apart pinTailFields_place (.inl hi)
  have hbelow : ∀ i < 64 + 6 * p, e.get8 i = d.get8 i := fun i hi =>
    (hlow i (by omega)).trans (hset.get8_apart hsetIn (.inl hi))
  have hparam : ∀ i, 68 + 6 * p ≤ i → i < 70 + 6 * p → c.get8 i = x.get8 i := fun i hi _ =>
    ((hset.get8_apart hsetIn (.inr (by omega))).trans (hsame i (.inr (by omega)))).symm
  rw [pinFields_eq (hmode.congr (fun _ _ _ => rfl) fun i _ hi => (hbelow i hi).symm), hlow (64 + 6 * p) (by omega),
    pinTailFields_congr hparam]
  refine hhead.trans (hset.trans htail (Check.Validates.apart_of_places hsetIn pinTailFields_place (.inl (by omega)))) ?_
  intro f hf g hg i hi hi'
  have hfirst := pinHeadFields_place f hf i hi
  rcases List.mem_cons.mp hg with rfl | hg
  · have hsecond := hsetIn _ (List.mem_singleton_self _) i hi'
    omega
  · have hsecond := pinTailFields_place g hg i hi'
    omega

theorem pinFields_place {b b' : Nat → Nat} {p : Nat} :
    ∀ f ∈ pinFields b (wordIn b) b' p, ∀ i, f.touches i → PartOf 64 6 p i := by
  intro f hf i hi
  obtain ⟨v, hv⟩ := exists_modeIs b b' p
  rw [pinFields_eq hv, List.mem_append, List.mem_cons] at hf
  suffices hplace : 64 + 6 * p ≤ i ∧ i < 64 + 6 * p + 6 from ⟨by omega, by omega⟩
  rcases hf with hf | rfl | hf
  · have hin := pinHeadFields_place f hf i hi
    omega
  · have hin : 64 + 6 * p ≤ i ∧ i < 64 + 6 * p + 1 := hi
    omega
  · have hin := pinTailFields_place f hf i hi
    omega

theorem pinFields_congr {b d b' d' : Nat → Nat} {p : Nat} (h : ∀ i, PartOf 64 6 p i → b i = d i)
    (h' : ∀ i, Among 64 (64 + 6 * (p + 1)) i → b' i = d' i) :
    pinFields b (wordIn b) b' p = pinFields d (wordIn d) d' p := by
  obtain ⟨v, hv⟩ := exists_modeIs b b' p
  have hown : ∀ i, 64 + 6 * p ≤ i → i < 70 + 6 * p → b i = d i := fun i hlo hhi => h i ⟨by omega, by omega⟩
  have hv' : ModeIs d d' p v :=
    hv.congr (fun i hlo hhi => hown i hlo (by omega)) fun i hlo hhi => h' i ⟨by omega, by omega⟩
  rw [pinFields_eq hv, pinFields_eq hv', pinHeadFields, pinHeadFields, hown (65 + 6 * p) (by omega) (by omega),
    hown (66 + 6 * p) (by omega) (by omega), h' (64 + 6 * p) ⟨by omega, by omega⟩,
    pinTailFields_congr fun i hlo hhi => hown i (by omega) (by omega)]

theorem checkPins_validates (c : Check) :
    let e := (List.range 8).foldl checkPin c
    Check.Validates ((List.range 8).flatMap (pinFields c.get8 (wordIn c.get8) e.get8)) c e :=
  Check.Validates.parts (t := 64) (s := 6) (n := 8) (f := checkPin) (F := fun p b b' => pinFields b (wordIn b) b' p)
    (fun p _ c => checkPin_validates p c) (fun _ _ _ => pinFields_place) (fun _ _ _ _ _ => pinFields_congr) c

theorem pinFields_place_all {b b' : Nat → Nat} :
    ∀ f ∈ (List.range 8).flatMap (pinFields b (wordIn b) b'), ∀ i, f.touches i → 64 ≤ i ∧ i < 112 := by
  intro f hf i hi
  obtain ⟨p, hp, hf⟩ := List.mem_flatMap.mp hf
  obtain ⟨hlo, hhi⟩ := pinFields_place f hf i hi
  have hlast := List.mem_range.mp hp
  omega

/-! ### GENERAL -/

theorem checkGeneral_validates (c : Check) :
    let e := checkGeneral c
    Check.Validates (scalarFields c.get8 (wordIn c.get8) ++
      (List.range 8).flatMap (pinFields c.get8 (wordIn c.get8) e.get8) ++
      (List.range 6).map (nodeField c.get8 e.get8)) c e := by
  intro e
  have hscalars := checkScalars_validates c
  have he : e = (List.range 6).foldl checkNode ((List.range 8).foldl checkPin (checkScalars c)) := rfl
  generalize checkScalars c = d at hscalars he
  have hpins := checkPins_validates d
  dsimp only at hpins
  generalize (List.range 8).foldl checkPin d = x at hpins he
  have hnodes := checkNodes_validates x
  dsimp only at hnodes
  rw [← he] at hnodes
  have hscalar : ∀ i, 50 ≤ i → d.get8 i = c.get8 i := fun i hi => hscalars.get8_apart scalarFields_place (.inr hi)
  have hpin : ∀ i, i < 64 → x.get8 i = d.get8 i := fun i hi => hpins.get8_apart pinFields_place_all (.inl hi)
  have hnode : ∀ i, 56 ≤ i → e.get8 i = x.get8 i := fun i hi => hnodes.get8_apart nodeFields_place (.inr hi)
  have hpinFields : (List.range 8).flatMap (pinFields c.get8 (wordIn c.get8) e.get8) =
      (List.range 8).flatMap (pinFields d.get8 (wordIn d.get8) x.get8) :=
    List.flatMap_congr fun p _ => pinFields_congr
      (fun i hi => (hscalar i (by have hlo := hi.1; omega)).symm) fun i hi => hnode i (by have hlo := hi.1; omega)
  have hnodeFields : (List.range 6).map (nodeField c.get8 e.get8) = (List.range 6).map (nodeField x.get8 e.get8) :=
    List.map_congr_left fun a ha => nodeField_congr
      ((hpin (50 + a) (by have hlast := List.mem_range.mp ha; omega)).trans (hscalar (50 + a) (by omega))).symm
      fun _ _ => rfl
  rw [hpinFields, hnodeFields]
  refine (hscalars.trans hpins
    (Check.Validates.apart_of_places scalarFields_place pinFields_place_all (.inl (by decide)))).trans hnodes ?_
  intro f hf g hg i hi hi'
  have hlast := nodeFields_place g hg i hi'
  rcases List.mem_append.mp hf with hf | hf
  · have hfirst := scalarFields_place f hf i hi
    omega
  · have hfirst := pinFields_place_all f hf i hi
    omega

end Sys2Proof.Machine
end

section
/-! Every table is validated by its fields, and a validated table is in range (R9, R28, R45, R67, R83, R106, R107,
R145, R147). -/

namespace Sys2Proof.Machine

/-! ### Validated by its fields -/

theorem fieldsAreValidated_of_validates {l : List TableField} {c d : Check} (h : Check.Validates l c d) (hn : c.n = 0)
    (size : Nat) : FieldsAreValidated l size c.get8 d.get8 d.n := by
  refine ⟨h.values, ?_, fun i k _ hk hfree => h.kept i k hk hfree⟩
  rw [h.count, hn, Nat.zero_add]

theorem tableIsValidated_checkTable (t : Table) {c : Check} (hn : c.n = 0) :
    TableIsValidated t c.get8 (checkTable t c).get8 (checkTable t c).n := by
  cases t
  case general => exact fieldsAreValidated_of_validates (checkGeneral_validates c) hn _
  case codes => exact fieldsAreValidated_of_validates (checkCodes_validates c) hn _
  case profiles => exact fieldsAreValidated_of_validates (checkProfiles_validates c) hn _
  case zones => exact fieldsAreValidated_of_validates (checkZones_validates c) hn _
  case derate => exact fieldsAreValidated_of_validates (checkDerate_validates c) hn _
  case responses => exact fieldsAreValidated_of_validates (checkResponses_validates c) hn _

/-! ### In range -/

theorem le_nearest {lo hi n : Nat} : lo ≤ nearest lo hi n := Nat.le_max_left ..

theorem nearest_le {lo hi n : Nat} (h : lo ≤ hi) : nearest lo hi n ≤ hi := by
  unfold nearest
  omega

theorem orDefault_eq_iff {last k n : Nat} (hk : k ≠ 0) (hlast : k ≤ last) : orDefault last n = k ↔ n = k := by
  unfold orDefault
  split <;> omega

theorem sgn16_nearest (n : Int) :
    -2000 ≤ sgn16 (max (-2000) (min n 2000) % 65536).toNat ∧ sgn16 (max (-2000) (min n 2000) % 65536).toNat ≤ 2000 := by
  unfold sgn16
  split <;> omega

theorem mem_flatMap_range {n i : Nat} (hi : i < n) (F : Nat → List TableField) :
    ∀ f ∈ F i, f ∈ (List.range n).flatMap F :=
  fun _ hf => List.mem_flatMap.mpr ⟨i, List.mem_range.mpr hi, hf⟩

/-- What a rule brings its field to. -/
def FieldRule.InRange (e : Check) : FieldRule → Prop
  | .nearByte off lo hi => lo ≤ hi → lo ≤ e.get8 off ∧ e.get8 off ≤ hi
  | .nearWord off lo hi => lo ≤ hi → lo ≤ e.get16 off ∧ e.get16 off ≤ hi
  | .named off last => e.get8 off ≤ last
  | .length off => e.get8 off = 16 ∨ e.get8 off = 32 ∨ e.get8 off = 64
  | .interval off => e.get16 off = 0 ∨ 10 ≤ e.get16 off ∧ e.get16 off ≤ 10000
  | .speed off => -2000 ≤ sgn16 (e.get16 off) ∧ sgn16 (e.get16 off) ≤ 2000
  | .clearBit off bit => bitsAt bit 1 (e.get8 off) = 0

theorem FieldRule.inRange_of_mem {l : List TableField} {c e : Check} (h : Check.Validates l c e) {r : FieldRule}
    {b : Nat → Nat} (hr : r.field b ∈ l) : r.InRange e := by
  cases r
  case nearByte off lo hi => exact fun hle => h.get8_of_byte hr ▸ ⟨le_nearest, nearest_le hle⟩
  case nearWord off lo hi => exact fun hle => h.get16_of_word hr ▸ ⟨le_nearest, nearest_le hle⟩
  case named off last =>
    rw [InRange, h.get8_of_byte hr]
    exact orDefault_le ..
  case length off =>
    rw [InRange, h.get8_of_byte hr]
    split_ifs <;> decide
  case interval off =>
    rw [InRange, h.get16_of_word hr]
    split
    · exact .inl rfl
    · exact .inr ⟨le_nearest, nearest_le (by decide)⟩
  case speed off =>
    rw [InRange, h.get16_of_word hr]
    exact sgn16_nearest _
  case clearBit off bit => exact h.values _ hr

theorem checkProfiles_inRange (c : Check) : ∀ i, i < 64 → (checkProfiles c).get8 i ≤ 32 := fun i hi => by
  rw [(checkProfiles_validates c).get8_of_byte (List.mem_map_of_mem (List.mem_range.mpr hi))]
  exact nearest_le (by decide)

theorem checkDerate_inRange (c : Check) :
    ∀ i, i < 8 → (checkDerate c).get8 (2 * i) ≤ 100 ∧ (checkDerate c).get8 (2 * i + 1) ≤ 1 := fun i hi => by
  have hvalid := checkDerate_validates c
  rw [hvalid.get8_of_byte (List.mem_flatMap.mpr ⟨i, List.mem_range.mpr hi, List.mem_cons_self⟩),
    hvalid.get8_of_byte (List.mem_flatMap.mpr ⟨i, List.mem_range.mpr hi, List.mem_cons_of_mem _ List.mem_cons_self⟩)]
  exact ⟨nearest_le (by decide), orDefault_le ..⟩

/-- A field of a word as the word holds it. -/
theorem Check.Validates.bitsAt_of_mem {l : List TableField} {c d : Check} (h : Check.Validates l c d)
    {off low bits v : Nat} (hf : ⟨off, 2, low, bits, v⟩ ∈ l) : bitsAt low bits (d.get16 off) = v := by
  rw [d.get16_eq]
  exact h.values _ hf

theorem checkCodes_inRange (c : Check) : CodesInRange (checkCodes c).get16 := by
  intro i hi
  have hvalid := checkCodes_validates c
  have hin := mem_flatMap_range hi (codeFields (wordIn c.get8))
  simp only [codeFields, List.forall_mem_cons] at hin
  obtain ⟨hmax, hmin, hneed, hpass, -⟩ := hin
  dsimp only
  rw [hvalid.bitsAt_of_mem hmax, hvalid.bitsAt_of_mem hmin, hvalid.bitsAt_of_mem hneed, hvalid.bitsAt_of_mem hpass]
  generalize bitsAt 8 6 _ = kMax
  have hlow : 1 ≤ nearest 1 63 kMax := le_nearest
  exact ⟨le_nearest, nearest_le hlow, nearest_le (by decide), le_min le_nearest hlow, Nat.min_le_right _ _, le_nearest⟩

theorem checkZones_inRange (c : Check) : ZonesInRange (checkZones c).get8 (checkZones c).get16 := by
  intro i hi
  have hvalid := checkZones_validates c
  have hin := mem_flatMap_range hi (slotFields c.get8 (wordIn c.get8))
  generalize checkZones c = e at hvalid ⊢
  have hrules : ∀ r ∈ slotRules i (c.get8 (32 * i)), r.InRange e := fun r hr =>
    FieldRule.inRange_of_mem hvalid (hin _ (slotFields_eq c.get8 i ▸ List.mem_map_of_mem hr))
  have hkind : e.get8 (32 * i) = orDefault 4 (c.get8 (32 * i)) := hvalid.get8_of_byte (hin _ List.mem_cons_self)
  have hsame : ∀ k, k ≠ 0 → k ≤ 4 → e.get8 (32 * i) = k → c.get8 (32 * i) = k := fun k hk hlast h =>
    (orDefault_eq_iff hk hlast).mp (hkind.symm.trans h)
  rw [slotRules, List.forall_mem_append] at hrules
  obtain ⟨hhead, htail⟩ := hrules
  simp only [slotHead, List.forall_mem_cons, FieldRule.InRange] at hhead
  dsimp only
  refine ⟨by omega, by omega, by omega, by omega, by omega, fun h => ?_, fun h => ?_, fun h => ?_⟩
  · rw [hsame 1 (by decide) (by decide) h] at htail
    simp only [slotTail, List.forall_mem_cons, FieldRule.InRange] at htail
    omega
  · rw [hsame 3 (by decide) (by decide) h] at htail
    simp only [slotTail, List.forall_mem_cons, FieldRule.InRange] at htail
    omega
  · rw [hsame 4 (by decide) (by decide) h] at htail
    simp only [slotTail, List.forall_mem_cons, FieldRule.InRange] at htail
    omega

/-! ### RESPONSES in range -/

/-- The steps of a validated sequence that its count takes in. -/
theorem step_inRange {l : List TableField} {c e : Check} (h : Check.Validates l c e) {o n j : Nat} (hj : j < n)
    (hl : ∀ f ∈ stepFields o n c.get8, f ∈ l) :
    let a := o + 4 + 8 * j
    e.get8 a ≤ 4 ∧
      (e.get8 a = 1 → (-2000 ≤ sgn16 (e.get16 (a + 2)) ∧ sgn16 (e.get16 (a + 2)) ≤ 2000) ∧
        (-2000 ≤ sgn16 (e.get16 (a + 4)) ∧ sgn16 (e.get16 (a + 4)) ≤ 2000) ∧ e.get16 (a + 6) ≤ 10000) ∧
      (e.get8 a = 2 → e.get16 (a + 6) ≤ 10000) := by
  intro a
  have hrules : ∀ r ∈ stepRules a (c.get8 a), r.InRange e := fun r hr =>
    FieldRule.inRange_of_mem h (hl _ (mem_flatMap_range hj _ _ (List.mem_map_of_mem hr)))
  have hkind : e.get8 a = orDefault 4 (c.get8 a) :=
    h.get8_of_byte (hl _ (mem_flatMap_range hj _ _ (List.mem_map_of_mem (a := FieldRule.named a 4) List.mem_cons_self)))
  have hsame : ∀ k, k ≠ 0 → k ≤ 4 → e.get8 a = k → c.get8 a = k := fun k hk hlast h =>
    (orDefault_eq_iff hk hlast).mp (hkind.symm.trans h)
  obtain ⟨hnamed, htail⟩ := List.forall_mem_cons.mp hrules
  refine ⟨hnamed, fun h => ?_, fun h => ?_⟩
  · rw [hsame 1 (by decide) (by decide) h] at htail
    simp only [stepTail, List.forall_mem_cons, FieldRule.InRange] at htail
    omega
  · rw [hsame 2 (by decide) (by decide) h] at htail
    simp only [stepTail, List.forall_mem_cons, FieldRule.InRange] at htail
    omega

/-- The repeat count of a validated sequence, by the counts and the ends of the block that stand in it. -/
theorem repeat_inRange {b b' : Nat → Nat} {o times : Nat} (h : RepeatIs b b' o times) :
    (nearest 0 7 (b (o + 2)) < nearest 0 7 (b (o + 1)) ∨ nearest 1 8 (b o) ≤ nearest 0 7 (b (o + 2)) → times = 1) ∧
      (times = 0 → ∃ j, nearest 0 7 (b (o + 1)) ≤ j ∧ j ≤ nearest 0 7 (b (o + 2)) ∧ RestsAt b' (o + 4 + 8 * j)) := by
  obtain ⟨honce, hmore⟩ := h
  refine ⟨fun hnone => honce (by rcases hnone with h | h <;> simp [CountsOnce, h]), fun hzero => ?_⟩
  by_cases h : CountsOnce b b' o
  · have hone := honce h
    omega
  · have hsame := hmore h
    by_contra hnone
    exact h (.inr (.inr ⟨by omega, fun j _ hfirst hlast hrests => hnone ⟨j, hfirst, hlast, hrests⟩⟩))

/-- A validated sequence with the steps that its count takes in, `o` its offset. -/
theorem sequence_inRange {l : List TableField} {c e : Check} (h : Check.Validates l c e) {q o : Nat}
    (ho : 32 + 68 * q = o)
    (hl : ∀ f ∈ sequenceFields c.get8 (wordIn c.get8) e.get8 (wordIn e.get8) q, f ∈ l) :
    let step (j : Nat) : Nat := o + 4 + 8 * j
    let speed (off : Nat) : Prop := -2000 ≤ sgn16 (e.get16 off) ∧ sgn16 (e.get16 off) ≤ 2000
    1 ≤ e.get8 o ∧ e.get8 o ≤ 8 ∧ e.get8 (o + 1) ≤ 7 ∧ e.get8 (o + 2) ≤ 7 ∧
    (∀ j, j < e.get8 o → e.get8 (step j) ≤ 4 ∧
      (e.get8 (step j) = 1 → speed (step j + 2) ∧ speed (step j + 4) ∧ e.get16 (step j + 6) ≤ 10000) ∧
      (e.get8 (step j) = 2 → e.get16 (step j + 6) ≤ 10000)) ∧
    (e.get8 (o + 2) < e.get8 (o + 1) ∨ e.get8 o ≤ e.get8 (o + 2) → e.get8 (o + 3) = 1) ∧
    (e.get8 (o + 3) = 0 → ∃ j, e.get8 (o + 1) ≤ j ∧ j ≤ e.get8 (o + 2) ∧
      (e.get8 (step j) = 0 ∨ e.get8 (step j) = 4 ∨
        ((e.get8 (step j) = 1 ∨ e.get8 (step j) = 2) ∧ 0 < e.get16 (step j + 6)))) := by
  subst ho
  obtain ⟨times, htimes⟩ := exists_repeatIs c.get8 e.get8 (32 + 68 * q)
  rw [sequenceFields_eq htimes, List.forall_mem_append, List.forall_mem_cons] at hl
  obtain ⟨hhead, hrepeat, hsteps⟩ := hl
  simp only [seqHeadFields, List.forall_mem_cons] at hhead
  obtain ⟨hcountIn, hfirstIn, hlastIn, -⟩ := hhead
  have hcount := h.get8_of_byte hcountIn
  have hfirst := h.get8_of_byte hfirstIn
  have hlast := h.get8_of_byte hlastIn
  have htimesIs := h.get8_of_byte hrepeat
  obtain ⟨honce, hrests⟩ := repeat_inRange htimes
  rw [← hcount, ← hfirst, ← hlast, ← htimesIs] at honce
  rw [← hfirst, ← hlast, ← htimesIs] at hrests
  refine ⟨hcount ▸ le_nearest, hcount ▸ nearest_le (by decide), hfirst ▸ nearest_le (by decide),
    hlast ▸ nearest_le (by decide), fun j hj => step_inRange h (hcount ▸ hj) hsteps, honce, fun hzero => ?_⟩
  obtain ⟨j, hlo, hhi, hj⟩ := hrests hzero
  rw [RestsAt, wordIn_get8] at hj
  exact ⟨j, hlo, hhi, hj⟩

theorem checkResponses_inRange (c : Check) :
    ResponsesInRange (checkResponses c).get8 (checkResponses c).get16 := by
  have hvalid := checkResponses_validates c
  dsimp only at hvalid
  generalize checkResponses c = e at hvalid ⊢
  refine ⟨fun t ht => ?_, fun q hq => sequence_inRange hvalid rfl fun f hf =>
    List.mem_append_right _ (mem_flatMap_range hq _ f hf)⟩
  rw [hvalid.get8_of_byte (List.mem_append_left _ (mem_flatMap_range ht _ _ List.mem_cons_self)),
    hvalid.get8_of_byte
      (List.mem_append_left _ (mem_flatMap_range ht _ _ (List.mem_cons_of_mem _ List.mem_cons_self)))]
  exact ⟨nearest_le (by decide), nearest_le (by decide)⟩

/-! ### GENERAL in range -/

/-- How many of the first `n` addresses of a node table fit a kind. -/
def fittedBelow (b : Nat → Nat) (k n : Nat) : Nat := ((List.range n).filter fun a => b (50 + a) == k).length

theorem fittedBelow_succ (b : Nat → Nat) (k n : Nat) :
    fittedBelow b k (n + 1) = fittedBelow b k n + if b (50 + n) = k then 1 else 0 := by
  rw [fittedBelow, List.range_succ, List.filter_append, List.length_append]
  by_cases h : b (50 + n) = k <;> simp [fittedBelow, h]

theorem fittedBelow_le (b : Nat → Nat) (k n : Nat) : fittedBelow b k n ≤ n :=
  (List.length_filter_le _ _).trans (List.length_range ..).le

/-- A node that validation keeps has a named kind that there is room for (R83). -/
theorem room_of_nodeField {b b' : Nat → Nat} {a k : Nat} (ha : a < 6) (hk : k ≠ 0) (h : (nodeField b b' a).value = k) :
    k ≤ 4 ∧ fittedBelow b' k a < kindRoom k := by
  have hvalue : (nodeField b b' a).value = if 4 < b (50 + a) ∨
      (1 ≤ b (50 + a) ∧ b (50 + a) ≤ 2 ∧ 2 ≤ fittedBelow b' (b (50 + a)) a) ∨
      (3 ≤ b (50 + a) ∧ 1 ≤ fittedBelow b' (b (50 + a)) a) then 0 else b (50 + a) := rfl
  rw [hvalue] at h
  split at h
  · exact absurd h.symm hk
  · next hroom =>
    rw [← kindRoom_le_iff ((fittedBelow_le ..).trans_lt ha), h] at hroom
    omega

/-- A validated node table fits no kind too often (R83). -/
theorem fittedBelow_le_room {b b' : Nat → Nat} (h : ∀ a < 6, b' (50 + a) = (nodeField b b' a).value) {k n : Nat}
    (hk : k ≠ 0) (hn : n ≤ 6) : fittedBelow b' k n ≤ kindRoom k := by
  induction n with
  | zero => exact Nat.zero_le _
  | succ n ih =>
    have hbefore := ih (by omega)
    rw [fittedBelow_succ]
    split
    · next hfits => exact (room_of_nodeField (by omega) hk ((h n (by omega)).symm.trans hfits)).2
    · exact hbefore

theorem node_le {b b' : Nat → Nat} {a : Nat} (ha : a < 6) (h : b' (50 + a) = (nodeField b b' a).value) :
    b' (50 + a) ≤ 4 := by
  rcases Nat.eq_zero_or_pos (b' (50 + a)) with hzero | hpos
  · omega
  · exact (room_of_nodeField ha (Nat.ne_of_gt hpos) h.symm).1

/-- A validated sense pin (R45). -/
theorem pin_inRange {l : List TableField} {c e : Check} (h : Check.Validates l c e) {p : Nat}
    (hl : ∀ f ∈ pinFields c.get8 (wordIn c.get8) e.get8 p, f ∈ l) :
    let mode (q : Nat) : Nat := e.get8 (64 + 6 * q)
    let role (q : Nat) : Nat := e.get8 (65 + 6 * q)
    mode p ≤ 4 ∧ role p ≤ 6 ∧ e.get8 (66 + 6 * p) ≤ 1 ∧
    (1 ≤ role p → role p ≤ 4 → mode p = 0 ∨ mode p = 1) ∧
    (5 ≤ role p → (mode p = 0 ∨ mode p = 4) ∧
      ∀ q, q < p → mode p = 4 → role q = role p → mode q ≠ 4) ∧
    (mode p = 1 → 1 ≤ e.get16 (68 + 6 * p) ∧ e.get16 (68 + 6 * p) ≤ 255) ∧
    (mode p = 2 → 10 ≤ e.get16 (68 + 6 * p) ∧ e.get16 (68 + 6 * p) ≤ 10000) ∧
    (mode p = 4 → 10 ≤ e.get16 (68 + 6 * p) ∧ e.get16 (68 + 6 * p) ≤ 1000) := by
  obtain ⟨v, hv⟩ := exists_modeIs c.get8 e.get8 p
  rw [pinFields_eq hv, List.forall_mem_append, List.forall_mem_cons] at hl
  obtain ⟨hhead, hmodeIn, htail⟩ := hl
  simp only [pinHeadFields, List.forall_mem_cons] at hhead
  obtain ⟨hroleIn, hactiveIn, -⟩ := hhead
  have hmode := h.get8_of_byte hmodeIn
  have hrole := h.get8_of_byte hroleIn
  have hactive := h.get8_of_byte hactiveIn
  have hparam : ∀ r ∈ pinTail p (e.get8 (64 + 6 * p)), r.InRange e := fun r hr =>
    FieldRule.inRange_of_mem h (htail _ (List.mem_map_of_mem hr))
  have hkept : v = 0 ∨ ModeAllowed e.get8 p v (e.get8 (65 + 6 * p)) := by
    rw [ModeIs, ← hrole] at hv
    by_cases hallowed : ModeAllowed e.get8 p (c.get8 (64 + 6 * p)) (e.get8 (65 + 6 * p))
    · exact .inr ((hv.1 hallowed).symm ▸ hallowed)
    · exact .inl (hv.2 hallowed)
  have hroleLe : e.get8 (65 + 6 * p) ≤ 6 := hrole ▸ orDefault_le ..
  have hactiveLe : e.get8 (66 + 6 * p) ≤ 1 := hactive ▸ orDefault_le ..
  rw [← hmode] at hkept
  have hin : ∀ {lo hi : Nat}, lo ≤ hi → pinTail p (e.get8 (64 + 6 * p)) = [.nearWord (68 + 6 * p) lo hi] →
      lo ≤ e.get16 (68 + 6 * p) ∧ e.get16 (68 + 6 * p) ≤ hi := fun hle heq => by
    rw [heq] at hparam
    exact hparam _ (List.mem_singleton_self _) hle
  dsimp only
  refine ⟨?_, hroleLe, hactiveLe, fun hlo hhi => ?_, fun htilt => ⟨?_, fun q hq hfour hsame hother => ?_⟩,
    fun h => hin (by decide) (congrArg (pinTail p) h), fun h => hin (by decide) (congrArg (pinTail p) h),
    fun h => hin (by decide) (congrArg (pinTail p) h)⟩
  · rcases hkept with hoff | ⟨hlow, -⟩ <;> omega
  · rcases hkept with hoff | ⟨-, hlevel, -⟩
    · exact .inl hoff
    · have hle := hlevel hlo hhi
      omega
  · rcases hkept with hoff | ⟨-, -, hduty, -⟩
    · exact .inl hoff
    · exact hduty htilt
  · rcases hkept with hoff | ⟨-, -, -, hfree⟩
    · omega
    · exact hfree htilt q hq ⟨hother, hsame⟩

/-- The two-byte scalar parameters of GENERAL by offset with their ranges, but the telemetry interval (Table 8-2). -/
def scalarWords : List (Nat × Nat × Nat) :=
  [(2, 5, 1000), (4, 20, 2000), (8, 0, 2000), (10, 0, 2000), (12, 0, 5000), (14, 0, 30000),
    (16, 0, 30000), (18, 0, 5000), (20, 0, 5000), (22, 0, 2000), (24, 0, 1000), (26, 0, 450),
    (28, 0, 5000), (30, 0, 10000), (34, 0, 60000), (38, 0, 60000), (40, 100, 5000), (42, 0, 1000),
    (44, 0, 10000), (46, 0, 60000)]

/-- The validated scalar parameters (Table 8-2). -/
theorem scalars_inRange {l : List TableField} {c e : Check} (h : Check.Validates l c e)
    (hl : ∀ f ∈ scalarFields c.get8 (wordIn c.get8), f ∈ l) :
    (e.get8 0 = 16 ∨ e.get8 0 = 32 ∨ e.get8 0 = 64) ∧ e.get8 1 ≤ 15 ∧ (5 ≤ e.get8 6 ∧ e.get8 6 ≤ 200) ∧
      (1 ≤ e.get8 7 ∧ e.get8 7 ≤ 20) ∧ e.get8 36 ≤ 1 ∧ (1 ≤ e.get8 37 ∧ e.get8 37 ≤ 15) ∧
      (e.get16 48 = 0 ∨ 10 ≤ e.get16 48 ∧ e.get16 48 ≤ 10000) ∧
      ∀ f ∈ scalarWords, f.2.1 ≤ e.get16 f.1 ∧ e.get16 f.1 ≤ f.2.2 := by
  have hwords : ∀ f ∈ scalarWords, .word f.1 (nearest f.2.1 f.2.2 (wordIn c.get8 f.1)) ∈ l := fun f hf =>
    hl _ (List.mem_append_right _ (List.mem_map_of_mem (f := fun f : Nat × Nat × Nat =>
      TableField.word f.1 (nearest f.2.1 f.2.2 (wordIn c.get8 f.1))) hf))
  have hranges : ∀ f ∈ scalarWords, f.2.1 ≤ f.2.2 := by decide
  have hsingle := fun f hf => hl f (List.mem_append_left _ hf)
  simp only [List.forall_mem_cons] at hsingle
  obtain ⟨hlength, hone, hsix, hseven, hrain, hvolume, hinterval, -⟩ := hsingle
  rw [h.get8_of_byte hlength, h.get8_of_byte hone, h.get8_of_byte hsix, h.get8_of_byte hseven, h.get8_of_byte hrain,
    h.get8_of_byte hvolume, h.get16_of_word hinterval]
  refine ⟨?_, nearest_le (by decide), ⟨le_nearest, nearest_le (by decide)⟩, ⟨le_nearest, nearest_le (by decide)⟩,
    orDefault_le .., ⟨le_nearest, nearest_le (by decide)⟩, ?_, fun f hf => ?_⟩
  · split_ifs <;> decide
  · split
    · exact .inl rfl
    · exact .inr ⟨le_nearest, nearest_le (by decide)⟩
  · rw [h.get16_of_word (hwords f hf)]
    exact ⟨le_nearest, nearest_le (hranges f hf)⟩

theorem checkGeneral_inRange (c : Check) : GeneralInRange (checkGeneral c).get8 (checkGeneral c).get16 := by
  have hvalid := checkGeneral_validates c
  dsimp only at hvalid
  generalize checkGeneral c = e at hvalid ⊢
  obtain ⟨hlength, hone, ⟨hsix, hsix'⟩, ⟨hseven, hseven'⟩, hrain, ⟨hvolume, hvolume'⟩, hinterval, hwords⟩ :=
    scalars_inRange hvalid fun f hf => List.mem_append_left _ (List.mem_append_left _ hf)
  have hnodes : ∀ a < 6, e.get8 (50 + a) = (nodeField c.get8 e.get8 a).value := fun a ha =>
    hvalid.get8_of_byte (List.mem_append_right _ (List.mem_map_of_mem (List.mem_range.mpr ha)))
  have hroom : ∀ k ≠ 0, fittedBelow e.get8 k 6 ≤ kindRoom k := fun k hk => fittedBelow_le_room hnodes hk le_rfl
  exact ⟨hlength, hone, hsix, hsix', hseven, hseven', hrain, hvolume, hvolume', hinterval, hwords,
    fun a ha => node_le ha (hnodes a ha),
    ⟨hroom 1 (by decide), hroom 2 (by decide), hroom 3 (by decide), hroom 4 (by decide)⟩,
    fun p hp => pin_inRange hvalid fun f hf =>
      List.mem_append_left _ (List.mem_append_right _ (mem_flatMap_range hp _ f hf))⟩

end Sys2Proof.Machine
end

section
/-! WRITE_TABLE: the checks of a segment, the bytes that an accepted one writes, and the load that it continues or
ends (R144 to R147). -/

namespace Sys2Proof.Machine

/-! ### A validated table of the STAGED bank -/

/-- A check of a table at its place in the STAGED bank reads the table's bytes. -/
theorem get8_of_staged {s : State} {t : Table} {c : Check} (hmem : c.mem = s.mem)
    (hbase : c.base = s.tableAddr .staged t 0) (i : Nat) : c.get8 i = (s.tableByte .staged t i).toNat := by
  rw [Check.get8, hmem, hbase]
  rfl

theorem get16_of_staged {s : State} {t : Table} {c : Check} (hmem : c.mem = s.mem)
    (hbase : c.base = s.tableAddr .staged t 0) (i : Nat) : c.get16 i = s.tableWord .staged t i := by
  rw [Check.get16, hmem, hbase]
  rfl

/-- A table in range by its bytes and its two-byte fields (R9, R28, R45, R67, R83, R106, R107, R145). -/
def TableInRange (t : Table) (b w : Nat → Nat) : Prop :=
  match t with
  | .general => GeneralInRange b w
  | .codes => CodesInRange w
  | .profiles => ∀ i, i < 64 → b i ≤ 32
  | .zones => ZonesInRange b w
  | .derate => ∀ i, i < 8 → b (2 * i) ≤ 100 ∧ b (2 * i + 1) ≤ 1
  | .responses => ResponsesInRange b w

theorem stagedInRange_iff (s : State) (t : Table) :
    s.stagedInRange t ↔
      TableInRange t (fun i => (s.tableByte .staged t i).toNat) fun i => s.tableWord .staged t i := by
  cases t <;> exact Iff.rfl

theorem checkTable_inRange (t : Table) (c : Check) : TableInRange t (checkTable t c).get8 (checkTable t c).get16 := by
  cases t
  case general => exact checkGeneral_inRange c
  case codes => exact checkCodes_inRange c
  case profiles => exact checkProfiles_inRange c
  case zones => exact checkZones_inRange c
  case derate => exact checkDerate_inRange c
  case responses => exact checkResponses_inRange c

theorem stagedInRange_of_checked {s : State} {t : Table} {c : Check} (hmem : (checkTable t c).mem = s.mem)
    (hbase : c.base = s.tableAddr .staged t 0) : s.stagedInRange t := by
  have hplace : (checkTable t c).base = s.tableAddr .staged t 0 := (checkTable_within t c).1.trans hbase
  rw [stagedInRange_iff, ← funext (get8_of_staged hmem hplace), ← funext (get16_of_staged hmem hplace)]
  exact checkTable_inRange t c

/-! ### Addresses -/

/-- A byte of another table, or of the ACTIVE bank, lies outside a table of the STAGED bank. -/
theorem tableAddr_outside (s : State) {b : Bank} {t tab : Table} {i : Nat} (hi : i < tab.size)
    (h : b = .active ∨ tab ≠ t) :
    s.tableAddr b tab i < s.tableAddr .staged t 0 ∨ s.tableAddr .staged t 0 + t.size ≤ s.tableAddr b tab i := by
  by_contra hin
  have hplace : s.tableAddr b tab i = s.tableAddr .staged t (s.tableAddr b tab i - s.tableAddr .staged t 0) := by
    rw [← Nat.zero_add (_ - _), tableAddr_add]
    omega
  obtain ⟨hbank, htab, -⟩ := s.tableAddr_inj hi (by omega) hplace
  rcases h with rfl | hne
  · exact absurd hbank nofun
  · exact hne htab

theorem read_segment (s : State) (t : Table) (off : Nat) (data : List Byte) (i : Nat) :
    Memory.read (Memory.writeBytes s.mem (s.tableAddr .staged t off) data) (s.tableAddr .staged t i) =
      if off ≤ i ∧ i < off + data.length then data.getD (i - off) 0#8 else s.tableByte .staged t i := by
  rw [Memory.read_writeBytes]
  simp only [State.tableAddr, State.tableByte]
  rw [Nat.add_sub_add_left]
  exact if_congr (by omega) rfl rfl

/-- A segment that fits its table leaves every byte outside it. -/
theorem read_segment_outside {s : State} {t : Table} {off : Nat} {data : List Byte} (hfits : off + data.length ≤ t.size)
    {a : Nat} (ha : a < s.tableAddr .staged t 0 ∨ s.tableAddr .staged t 0 + t.size ≤ a) :
    Memory.read (Memory.writeBytes s.mem (s.tableAddr .staged t off) data) a = Memory.read s.mem a := by
  have hoff : s.tableAddr .staged t off = s.tableAddr .staged t 0 + off := by
    rw [← tableAddr_add, Nat.zero_add]
  rw [Memory.read_writeBytes, if_neg (by omega)]

/-! ### The positions of a segment -/

theorem segPos_of_le {n : Nat} (h : n ≤ 3) :
    ∃ pos, SegPos.ofNat? n = some pos ∧ (pos.begins = true ↔ n = 0 ∨ n = 3) ∧ (pos.ends = true ↔ n = 2 ∨ n = 3) := by
  interval_cases n
  · exact ⟨.first, rfl, by decide, by decide⟩
  · exact ⟨.middle, rfl, by decide, by decide⟩
  · exact ⟨.last, rfl, by decide, by decide⟩
  · exact ⟨.only, rfl, by decide, by decide⟩

theorem segPos_of_lt {n : Nat} (h : 3 < n) : SegPos.ofNat? n = none := by
  match n, h with
  | _ + 4, _ => rfl

/-! ### The checks of a segment -/

theorem writeTable_of_busy {p : List Byte} {s : State} (h : s.tbs.swapPending = true) :
    writeTable p s = answer .busy [] s := by
  rw [writeTable, if_pos h]

theorem writeTable_of_named {p : List Byte} {s : State} {t : Table} {pos : SegPos} (hidle : s.tbs.swapPending = false)
    (ht : Table.ofNat? (byteAt p 0) = some t) (hpos : SegPos.ofNat? (byteAt p 1) = some pos)
    (hlow : 1 ≤ (p.drop 4).length) (hhigh : (p.drop 4).length ≤ 64) :
    writeTable p s =
      if s.segmentFits t pos (wordAt p 2) (p.drop 4).length then takeSegment t pos (wordAt p 2) (p.drop 4) s
      else refuseSegment (abandonLoad t s) := by
  have hsome : ¬ ((p.drop 4).isEmpty = true ∨ 64 < (p.drop 4).length) := by
    rw [List.isEmpty_iff_length_eq_zero]
    omega
  rw [writeTable, if_neg (by simp [hidle]), ht, hpos]
  dsimp only
  rw [if_neg hsome]

theorem writeTable_of_unnamed {p : List Byte} {s : State} (hidle : s.tbs.swapPending = false)
    (h : ¬ (Table.ofNat? (byteAt p 0) ≠ none ∧ byteAt p 1 ≤ 3 ∧ 1 ≤ (p.drop 4).length ∧ (p.drop 4).length ≤ 64)) :
    writeTable p s = refuseSegment s := by
  rw [writeTable, if_neg (by simp [hidle])]
  split
  · next t pos ht hpos =>
    have hle : byteAt p 1 ≤ 3 := by
      by_contra hgt
      rw [segPos_of_lt (Nat.not_le.mp hgt)] at hpos
      exact absurd hpos nofun
    have hsize : (p.drop 4).isEmpty = true ∨ 64 < (p.drop 4).length := by
      rw [List.isEmpty_iff_length_eq_zero]
      by_contra hfits
      exact h ⟨by simp [ht], hle, by omega, by omega⟩
    exact if_pos hsize
  · rfl

/-! ### An accepted segment -/

/-- The load of a table with a segment's bytes received up to `got`. -/
def StagedTable.received (x : StagedTable) (begins : Bool) (got : Nat) : StagedTable :=
  { x with mark := if begins then false else x.mark, load := some got }

section
variable {t : Table} {pos : SegPos} {off : Nat} {data : List Byte} {s : State}

theorem takeSegment_of_open (h : pos.ends = false) :
    takeSegment t pos off data s = answer .ok (be16 (off + data.length)) { s with
      mem := Memory.writeBytes s.mem (s.tableAddr .staged t off) data
      tbs := { s.tbs with
        staged := s.tbs.staged.set t.ix ((s.staged t).received pos.begins (off + data.length)) } } := by
  rw [takeSegment, h]
  rfl

theorem takeSegment_of_incomplete (h : pos.ends = true) (hgot : off + data.length ≠ t.size) :
    takeSegment t pos off data s = answer .incomplete (be16 (off + data.length)) { s with
      mem := Memory.writeBytes s.mem (s.tableAddr .staged t off) data
      tbs := { s.tbs with
        staged := s.tbs.staged.set t.ix
          { (s.staged t).received pos.begins (off + data.length) with load := none }
        cnt := { s.tbs.cnt with loadsIncomplete := bump s.tbs.cnt.loadsIncomplete } } } := by
  rw [takeSegment, h]
  dsimp only
  rw [if_pos rfl, if_neg hgot]
  simp only [incompleteLoad, setStaged, countTbs, onTbs, State.staged, PerSix.get_set, PerSix.set_set]
  rfl

theorem takeSegment_of_complete (h : pos.ends = true) (hgot : off + data.length = t.size) :
    let checked := checkTable t
      ⟨Memory.writeBytes s.mem (s.tableAddr .staged t off) data, s.tableAddr .staged t 0, 0⟩
    takeSegment t pos off data s = answer .ok (be16 checked.n) { s with
      mem := checked.mem
      tbs := { s.tbs with
        staged := s.tbs.staged.set t.ix ⟨true, none, checked.n⟩
        cnt := { s.tbs.cnt with loadsCompleted := bump s.tbs.cnt.loadsCompleted } } } := by
  intro checked
  rw [takeSegment, h]
  dsimp only
  rw [if_pos rfl, if_pos hgot]
  simp only [completeLoad, setStaged, countTbs, onTbs, PerSix.set_set]
  rfl

end

end Sys2Proof.Machine
end

section
/-! The load of a table by its segments (R144 to R147). -/

namespace Sys2Proof.Machine

theorem segmentFits_iff (s : State) (t : Table) (pos : SegPos) (off len : Nat) :
    s.segmentFits t pos off len = true ↔
      (pos.begins = true → off = 0) ∧ (¬ pos.begins = true → (s.staged t).load = some off) ∧ off + len ≤ t.size ∧
        (pos.ends = true ∨ len % 16 = 0) := by
  unfold State.segmentFits
  cases pos.begins <;> simp [and_assoc]

theorem refuseSegment_abandonLoad (t : Table) (s : State) :
    refuseSegment (abandonLoad t s) = answer .badParam [] { s with
      tbs := { s.tbs with
        staged := s.tbs.staged.set t.ix { s.staged t with load := none }
        cnt := { s.tbs.cnt with segmentsRefused := bump s.tbs.cnt.segmentsRefused } } } := rfl

theorem refuseSegment_eq (s : State) :
    refuseSegment s = answer .badParam [] { s with
      tbs := { s.tbs with cnt := { s.tbs.cnt with segmentsRefused := bump s.tbs.cnt.segmentsRefused } } } := rfl

/-- A load that writes within its table leaves every byte of another table and of the ACTIVE bank. -/
theorem tableByte_of_load {u v : State} {t : Table}
    (hmem : ∀ a, a < u.tableAddr .staged t 0 ∨ u.tableAddr .staged t 0 + t.size ≤ a →
      Memory.read v.mem a = Memory.read u.mem a)
    (hbanks : v.tbs.activeHigh = u.tbs.activeHigh) :
    ∀ b (tab : Table) i, i < tab.size → b = .active ∨ tab ≠ t → v.tableByte b tab i = u.tableByte b tab i := by
  intro b tab i hi hother
  have haddr : v.tableAddr b tab i = u.tableAddr b tab i := by
    cases b <;> simp only [State.tableAddr, State.bankBase, hbanks]
  rw [State.tableByte, haddr]
  exact hmem _ (tableAddr_outside u hi hother)

theorem tableIsValidated_of_load {u v : State} {t : Table} {m : List Host.Cell}
    (hmem : v.mem = (checkTable t ⟨m, u.tableAddr .staged t 0, 0⟩).mem) (hbanks : v.tbs.activeHigh = u.tbs.activeHigh) :
    TableIsValidated t (fun i => (Memory.read m (u.tableAddr .staged t i)).toNat)
      (fun i => (v.tableByte .staged t i).toNat) (checkTable t ⟨m, u.tableAddr .staged t 0, 0⟩).n := by
  have hplace : v.tableAddr .staged t 0 = u.tableAddr .staged t 0 := by
    simp only [State.tableAddr, State.bankBase, hbanks]
  rw [← funext (get8_of_staged hmem.symm ((checkTable_within t _).1.trans hplace.symm))]
  exact tableIsValidated_checkTable t (c := ⟨m, u.tableAddr .staged t 0, 0⟩) rfl

/-- Settles O46: the checks of a segment stand in their order; an accepted one writes its bytes, and the validation of
a complete load is that of its table's fields. -/
theorem segmentIsLoaded : Obligations.SegmentIsLoaded := by
  intro dt s held u p data off got begins ends named refused hhead
  have hexec : exec (.writeTable dt) s = .next (writeTable p u) :=
    exec_request (c := .writeTable dt) (f := writeTable) rfl held hhead
  rw [hexec]
  refine ⟨fun hbusy => congrArg _ (writeTable_of_busy hbusy), fun hidle hunnamed =>
    congrArg _ ((writeTable_of_unnamed hidle hunnamed).trans (refuseSegment_eq u)), fun t hidle hnamed ht => ?_⟩
  obtain ⟨-, hle, hlow, hhigh⟩ := hnamed
  obtain ⟨pos, hpos, hbegins, hends⟩ := segPos_of_le hle
  have hwrite := writeTable_of_named hidle ht hpos hlow hhigh
  have hfitsIff := segmentFits_iff u t pos off data.length
  rw [hbegins, hends] at hfitsIff
  have hmark : ((if pos.begins = true then false else (u.staged t).mark) : Bool) =
      if begins then false else (u.staged t).mark := if_congr hbegins rfl rfl
  refine ⟨fun hunfit => ?_, fun hfits => ?_⟩
  · rw [hwrite, if_neg (hfitsIff.not.mpr hunfit)]
    rfl
  · rw [hwrite, if_pos (hfitsIff.mpr hfits)]
    obtain ⟨-, -, hgot, -⟩ := hfits
    intro written checked k staged
    have hbytes := read_segment u t off data
    have houtside : ∀ a, a < u.tableAddr .staged t 0 ∨ u.tableAddr .staged t 0 + t.size ≤ a →
        Memory.read written a = Memory.read u.mem a := fun a ha => read_segment_outside hgot ha
    by_cases hend : ends
    · have hlast : pos.ends = true := hends.mpr hend
      by_cases hall : got = t.size
      · rw [takeSegment_of_complete hlast hall]
        obtain ⟨-, hwithin, -⟩ := checkTable_within t ⟨written, u.tableAddr .staged t 0, 0⟩
        refine ⟨_, _, _, rfl, rfl, hbytes, ?_, fun hnot => absurd ⟨hend, hall⟩ hnot,
          fun hopen => absurd hend hopen, fun _ hshort => absurd hall hshort, fun _ _ =>
            ⟨rfl, rfl, rfl, rfl, ?_, ?_⟩⟩
        · exact tableByte_of_load (fun a ha => (hwithin a ha).trans (houtside a ha)) rfl
        · exact stagedInRange_of_checked (c := ⟨written, u.tableAddr .staged t 0, 0⟩) rfl rfl
        · exact tableIsValidated_of_load rfl rfl
      · rw [takeSegment_of_incomplete hlast hall, StagedTable.received, hmark]
        exact ⟨_, _, _, rfl, rfl, hbytes, tableByte_of_load houtside rfl,
          fun _ => rfl, fun hopen => absurd hend hopen, fun _ _ => ⟨rfl, rfl, rfl⟩, fun _ hfull => absurd hfull hall⟩
    · have hopen : pos.ends = false := Bool.eq_false_iff.mpr (hends.not.mpr hend)
      rw [takeSegment_of_open hopen, StagedTable.received, hmark]
      exact ⟨_, _, _, rfl, rfl, hbytes, tableByte_of_load houtside rfl,
        fun _ => rfl, fun _ => ⟨rfl, rfl, rfl⟩, fun h => absurd h hend, fun h => absurd h hend⟩

end Sys2Proof.Machine
end
